-- ==== Sys2Proof/Word.lean ====
section
/-!
DEFINITION. The plain words of the VD8C model: bytes on the ports, step, monitor and phase names.
Quantities the manual treats as integers (voltages, counts, times) are `Nat` or `Int`; bit vectors
stand only for bytes and fields on the ports and for 12-bit sample codes.
-/
namespace Sys2Proof

/-- One byte clocked on a port (9.9). -/
abbrev Byte := BitVec 8

/-- A step: `k` stands for S(k+1), so the eight values are S1 to S8 (R1). -/
abbrev StepId := Fin 8

/-- A harmonic monitor: `m` stands for M(m+1) (R120). -/
abbrev MonitorId := Fin 8

/-- S1 to S8 in step-number order (R1, R59). -/
def allSteps : List StepId := [0, 1, 2, 3, 4, 5, 6, 7]

/-- M1 to M8 in monitor-number order (R131). -/
def allMonitors : List MonitorId := [0, 1, 2, 3, 4, 5, 6, 7]

/-- The two serial ports: Port A is wired to the station processor, Port B to the dispatch
processor (00_scope). -/
inductive Port where
  | a
  | b
deriving DecidableEq, Repr

/-- The three bus voltage phases (R24). -/
inductive Phase where
  | a
  | b
  | c
deriving DecidableEq, Repr

/-- VA, VB, VC in the order R27 takes them. -/
def allPhases : List Phase := [.a, .b, .c]

/-- The 32 samples of one channel in one frame, each a signed 12-bit code (R24, R33). -/
abbrev Channel := Vector (BitVec 12) 32

end Sys2Proof
end

