-- ==== Sys2Proof/Machine/Catalogue.lean ====
section
/-!
DEFINITION. The settings catalogue of R194 with its ranges and defaults, the settings in force as
plain data, and the image of the nonvolatile store (R198).
-/
namespace Sys2Proof

/-- The yard settings of R194, in the order of its table. -/
inductive YardSetting where
  | vnom | vspread | debounce
  | vset | bw | hys | tclose | topen | pm | vov | nov | oven | vdead | ndead | nops | whours
  | tpulse | top | nretry | tsettle | tstale | tdis | thhold | tsel | tsup
  | tripblock | autostart
deriving DecidableEq, Repr

/-- The per-step settings of R194, in the order of its table. -/
inductive StepSetting where
  | inService | rinit | irated | ualm | utrip | talm | ttrip
deriving DecidableEq, Repr

/-- The monitor settings of R194, in the order of its table. -/
inductive MonitorSetting where
  | enable | source | phase | threshold | pickup | action
deriving DecidableEq, Repr

/-- A setting named by its number and index (R194): a yard setting, a setting of one step, or a
setting of one monitor. -/
inductive SettingId where
  | yard (y : YardSetting)
  | step (s : StepSetting) (k : StepId)
  | monitor (f : MonitorSetting) (m : MonitorId)
deriving DecidableEq, Repr

/-- Place of a yard setting in the table of R194. -/
def YardSetting.idx : YardSetting → Fin 27
  | .vnom => 0 | .vspread => 1 | .debounce => 2
  | .vset => 3 | .bw => 4 | .hys => 5 | .tclose => 6 | .topen => 7 | .pm => 8 | .vov => 9
  | .nov => 10 | .oven => 11 | .vdead => 12 | .ndead => 13 | .nops => 14 | .whours => 15
  | .tpulse => 16 | .top => 17 | .nretry => 18 | .tsettle => 19 | .tstale => 20 | .tdis => 21
  | .thhold => 22 | .tsel => 23 | .tsup => 24 | .tripblock => 25 | .autostart => 26

/-- Place of a per-step setting in the table of R194. -/
def StepSetting.idx : StepSetting → Fin 7
  | .inService => 0 | .rinit => 1 | .irated => 2 | .ualm => 3 | .utrip => 4 | .talm => 5
  | .ttrip => 6

/-- Place of a monitor setting in the table of R194. -/
def MonitorSetting.idx : MonitorSetting → Fin 6
  | .enable => 0 | .source => 1 | .phase => 2 | .threshold => 3 | .pickup => 4 | .action => 5

/-- Every yard setting, in the order of R194's table. -/
def allYardSettings : List YardSetting :=
  [.vnom, .vspread, .debounce, .vset, .bw, .hys, .tclose, .topen, .pm, .vov, .nov, .oven, .vdead,
   .ndead, .nops, .whours, .tpulse, .top, .nretry, .tsettle, .tstale, .tdis, .thhold, .tsel, .tsup,
   .tripblock, .autostart]

/-- Every per-step setting, in the order of R194's table. -/
def allStepSettings : List StepSetting :=
  [.inService, .rinit, .irated, .ualm, .utrip, .talm, .ttrip]

/-- Every monitor setting, in the order of R194's table. -/
def allMonitorSettings : List MonitorSetting :=
  [.enable, .source, .phase, .threshold, .pickup, .action]

/-- Every setting id of the catalogue (R194): yard settings, then step by step, then monitor by
monitor. -/
def allSettingIds : List SettingId :=
  allYardSettings.map SettingId.yard
    ++ allSteps.flatMap (fun k => allStepSettings.map (SettingId.step · k))
    ++ allMonitors.flatMap (fun m => allMonitorSettings.map (SettingId.monitor · m))

/-- The setting number, byte 0 of the setting id (R194). -/
def YardSetting.number : YardSetting → Nat
  | .vnom => 0x01 | .vspread => 0x02 | .debounce => 0x03
  | .vset => 0x10 | .bw => 0x11 | .hys => 0x12 | .tclose => 0x13 | .topen => 0x14 | .pm => 0x15
  | .vov => 0x16 | .nov => 0x17 | .oven => 0x18 | .vdead => 0x19 | .ndead => 0x1A
  | .nops => 0x1B | .whours => 0x1C
  | .tpulse => 0x20 | .top => 0x21 | .nretry => 0x22 | .tsettle => 0x23 | .tstale => 0x24
  | .tdis => 0x25 | .thhold => 0x26 | .tsel => 0x27 | .tsup => 0x28
  | .tripblock => 0x30 | .autostart => 0x31

/-- The setting number of a per-step setting (R194). -/
def StepSetting.number : StepSetting → Nat
  | .inService => 0x40 | .rinit => 0x41 | .irated => 0x42 | .ualm => 0x43 | .utrip => 0x44
  | .talm => 0x45 | .ttrip => 0x46

/-- The setting number of a monitor setting (R194). -/
def MonitorSetting.number : MonitorSetting → Nat
  | .enable => 0x50 | .source => 0x51 | .phase => 0x52 | .threshold => 0x53 | .pickup => 0x54
  | .action => 0x55

/-- Byte 0 of a setting id (R194). -/
def SettingId.number : SettingId → Nat
  | .yard y => y.number
  | .step f _ => f.number
  | .monitor f _ => f.number

/-- Byte 1 of a setting id (R194): 0 for a yard setting, else the step or the monitor. -/
def SettingId.index : SettingId → Nat
  | .yard _ => 0
  | .step _ k => k.val + 1
  | .monitor _ m => m.val + 1

/-- The setting a two-byte id names (R194, R182); none when the id is out of range. -/
def SettingId.ofBytes (number index : Nat) : Option SettingId :=
  allSettingIds.find? (fun i => i.number = number ∧ i.index = index)

/-- Lowest value of a yard setting (R194). -/
def YardSetting.low : YardSetting → Nat
  | .vnom => 800 | .vspread => 100 | .debounce => 4
  | .vset => 950 | .bw => 5 | .hys => 1 | .tclose => 100 | .topen => 100 | .pm => 0 | .vov => 1050
  | .nov => 1 | .oven => 0 | .vdead => 100 | .ndead => 1 | .nops => 1 | .whours => 1
  | .tpulse => 50 | .top => 100 | .nretry => 0 | .tsettle => 30 | .tstale => 5 | .tdis => 60
  | .thhold => 60 | .tsel => 2 | .tsup => 10 | .tripblock => 0 | .autostart => 0

/-- Highest value of a yard setting (R194). -/
def YardSetting.high : YardSetting → Nat
  | .vnom => 1800 | .vspread => 600 | .debounce => 20
  | .vset => 1080 | .bw => 60 | .hys => 20 | .tclose => 60000 | .topen => 60000 | .pm => 30
  | .vov => 1200 | .nov => 120 | .oven => 1 | .vdead => 500 | .ndead => 600 | .nops => 8
  | .whours => 24
  | .tpulse => 500 | .top => 2000 | .nretry => 3 | .tsettle => 3600 | .tstale => 120 | .tdis => 900
  | .thhold => 7200 | .tsel => 60 | .tsup => 600 | .tripblock => 1 | .autostart => 1

/-- Default of a yard setting (R194). -/
def YardSetting.dflt : YardSetting → Nat
  | .vnom => 1150 | .vspread => 300 | .debounce => 20
  | .vset => 1000 | .bw => 20 | .hys => 5 | .tclose => 6000 | .topen => 6000 | .pm => 5
  | .vov => 1100 | .nov => 30 | .oven => 1 | .vdead => 300 | .ndead => 60 | .nops => 4
  | .whours => 24
  | .tpulse => 150 | .top => 500 | .nretry => 1 | .tsettle => 300 | .tstale => 30 | .tdis => 300
  | .thhold => 1800 | .tsel => 10 | .tsup => 60 | .tripblock => 1 | .autostart => 0

/-- Lowest value of a per-step setting (R194). -/
def StepSetting.low : StepSetting → Nat
  | .inService => 0 | .rinit => 0 | .irated => 100 | .ualm => 10 | .utrip => 20 | .talm => 1
  | .ttrip => 1

/-- Highest value of a per-step setting (R194). -/
def StepSetting.high : StepSetting → Nat
  | .inService => 1 | .rinit => 200 | .irated => 2000 | .ualm => 5000 | .utrip => 9999
  | .talm => 600 | .ttrip => 600

/-- Default of a per-step setting (R194). -/
def StepSetting.dflt : StepSetting → Nat
  | .inService => 1 | .rinit => 15 | .irated => 800 | .ualm => 50 | .utrip => 150 | .talm => 300
  | .ttrip => 30

/-- Lowest value of a monitor setting (R194). -/
def MonitorSetting.low : MonitorSetting → Nat
  | .enable => 0 | .source => 1 | .phase => 1 | .threshold => 0 | .pickup => 1 | .action => 1

/-- Highest value of a monitor setting (R194). -/
def MonitorSetting.high : MonitorSetting → Nat
  | .enable => 1 | .source => 6 | .phase => 4 | .threshold => 9999 | .pickup => 3600 | .action => 3

/-- Default of a monitor setting, by monitor (the second table of R120). -/
def MonitorSetting.dflt (f : MonitorSetting) (m : MonitorId) : Nat :=
  match f with
  | .enable => if m = 0 ∨ m = 1 then 1 else 0
  | .source => if m = 0 then 6 else 2
  | .phase => 4
  | .threshold => if m = 0 then 800 else 500
  | .pickup => if m = 0 then 150 else 300
  | .action => if m = 1 then 3 else 1

/-- Lowest value of any setting (R194). -/
def SettingId.low : SettingId → Nat
  | .yard y => y.low
  | .step f _ => f.low
  | .monitor f _ => f.low

/-- Highest value of any setting (R194). -/
def SettingId.high : SettingId → Nat
  | .yard y => y.high
  | .step f _ => f.high
  | .monitor f _ => f.high

/-- Default of any setting (R194, R120). -/
def SettingId.dflt : SettingId → Nat
  | .yard y => y.dflt
  | .step f _ => f.dflt
  | .monitor f m => f.dflt m

/-- Whether a value lies in the range of R194; DEBOUNCE takes 4 or 20 only. -/
def SettingId.inRange (i : SettingId) (v : Nat) : Bool :=
  if i = .yard .debounce then decide (v = 4 ∨ v = 20)
  else decide (i.low ≤ v ∧ v ≤ i.high)

/-- The range clamp of R195. -/
def SettingId.rangeClamp (i : SettingId) (v : Nat) : Nat :=
  if i = .yard .debounce then (if v ≤ 11 then 4 else 20)
  else max i.low (min i.high v)

/-- The value of every setting (R194), held as the 16-bit unsigned number R184 carries. -/
structure Settings where
  /-- yard settings, in table order -/
  yard : Vector Nat 27
  /-- per-step settings, step by step, each in table order -/
  step : Vector (Vector Nat 7) 8
  /-- monitor settings, monitor by monitor, each in table order -/
  monitor : Vector (Vector Nat 6) 8
deriving DecidableEq, Repr

/-- The value of one setting. -/
def Settings.get (c : Settings) : SettingId → Nat
  | .yard y => c.yard[y.idx]
  | .step f k => c.step[k][f.idx]
  | .monitor f m => c.monitor[m][f.idx]

/-- The settings with one value replaced. -/
def Settings.put (c : Settings) (i : SettingId) (v : Nat) : Settings :=
  match i with
  | .yard y => { c with yard := c.yard.set y.idx v }
  | .step f k => { c with step := c.step.set k (c.step[k].set f.idx v) }
  | .monitor f m => { c with monitor := c.monitor.set m (c.monitor[m].set f.idx v) }

/-- A table whose rows are filled from a list of settings; rows past the list stay 0. -/
def Settings.fill (f : SettingId → Nat) : Settings :=
  allSettingIds.foldl (fun c i => c.put i (f i))
    { yard := Vector.replicate 27 0
      step := Vector.replicate 8 (Vector.replicate 7 0)
      monitor := Vector.replicate 8 (Vector.replicate 6 0) }

/-- Every setting at its default (R194), written out from the table. -/
def Settings.default : Settings where
  yard := #v[1150, 300, 20, 1000, 20, 5, 6000, 6000, 5, 1100, 30, 1, 300, 60, 4, 24,
             150, 500, 1, 300, 30, 300, 1800, 10, 60, 1, 0]
  step := Vector.replicate 8 #v[1, 15, 800, 50, 150, 300, 30]
  monitor := #v[#v[1, 6, 4, 800, 150, 1], #v[1, 2, 4, 500, 300, 3],
                #v[0, 2, 4, 500, 300, 1], #v[0, 2, 4, 500, 300, 1], #v[0, 2, 4, 500, 300, 1],
                #v[0, 2, 4, 500, 300, 1], #v[0, 2, 4, 500, 300, 1], #v[0, 2, 4, 500, 300, 1]]

/-- Every setting lies in its range (the second half of R198's validity test). -/
def Settings.inRange (c : Settings) : Bool := allSettingIds.all (fun i => i.inRange (c.get i))

/-- The value of a yard setting. -/
def Settings.y (c : Settings) (y : YardSetting) : Nat := c.get (.yard y)

/-- The value of a per-step setting. -/
def Settings.s (c : Settings) (f : StepSetting) (k : StepId) : Nat := c.get (.step f k)

/-- The value of a monitor setting. -/
def Settings.m (c : Settings) (f : MonitorSetting) (m : MonitorId) : Nat := c.get (.monitor f m)

/-- The quantity a monitor compares (R120). -/
inductive MonitorSource where
  | h3 | h5 | h7 | h11 | h13 | di
deriving DecidableEq, Repr

/-- What a monitor does (R120). -/
inductive MonitorAction where
  | alarm | blockClose | detune
deriving DecidableEq, Repr

/-- The source a monitor's setting names, as its position in R120's list (R184). -/
def Settings.source (c : Settings) (m : MonitorId) : MonitorSource :=
  match c.m .source m with
  | 0 | 1 => .h3
  | 2 => .h5
  | 3 => .h7
  | 4 => .h11
  | 5 => .h13
  | _ => .di

/-- The phase a monitor's setting names, none for ANY (R120). -/
def Settings.phase (c : Settings) (m : MonitorId) : Option Phase :=
  match c.m .phase m with
  | 0 | 1 => some .a
  | 2 => some .b
  | 3 => some .c
  | _ => none

/-- The action a monitor's setting names (R120). -/
def Settings.action (c : Settings) (m : MonitorId) : MonitorAction :=
  match c.m .action m with
  | 0 | 1 => .alarm
  | 2 => .blockClose
  | _ => .detune

/-- Whether a monitor is enabled (R120). -/
def Settings.enabled (c : Settings) (m : MonitorId) : Bool := decide (c.m .enable m ≠ 0)

/-- Whether a step is in service (R1, R194). -/
def Settings.inService (c : Settings) (k : StepId) : Bool := decide (c.s .inService k ≠ 0)

/-- A step's stored inherent unbalance (R137). -/
structure Compensation where
  /-- real part of the inherent neutral phasor -/
  cre : Int
  /-- imaginary part of the inherent neutral phasor -/
  cim : Int
  /-- average bus voltage at which it was measured, mpu -/
  vcap : Nat
deriving DecidableEq, Repr

/-- What one copy of the nonvolatile image holds for a step (R198). -/
structure StoredStep where
  /-- the step's compensation, absent when none was captured -/
  compensation : Option Compensation
  /-- the step's learned rise, mpu -/
  learnedRise : Nat
  /-- closes completed over the step's stored life -/
  closeCount : Nat
deriving DecidableEq, Repr

/-- One copy of the nonvolatile image (R198). -/
structure Image where
  /-- 16-bit sequence number -/
  seq : Nat
  /-- every setting of R194 -/
  settings : Settings
  /-- stored data of S1 to S8 -/
  steps : Vector StoredStep 8
  /-- the check word -/
  check : BitVec 16
deriving DecidableEq, Repr

end Sys2Proof
end

