-- ==== Sys2Proof/Syntax.lean ====
section
/-!
DEFINITION. The commands of the VD8C: one constructor for each row of spec/opcode_table.json, with
the operands the row's rule gives it. A port request carries the bytes its frame carries; an event
carries what the outside world brings with it (samples, levels, the passing of microseconds, what
the nonvolatile store read back) and, where the manual leaves the order of several blocks open, the
order in which they are taken.
-/
namespace Sys2Proof

/-- What every request frame brings beside its payload: its port, its tag, and the length of the
chip-select window in whole bytes (R176, R177). -/
structure Header where
  /-- the port the frame arrived on -/
  port : Port
  /-- byte 2 of the frame, echoed in the response -/
  tag : Byte
  /-- number of whole bytes clocked in the window -/
  window : Nat
deriving DecidableEq, Repr

/-- The two auxiliary contacts of a step's switch (1.3). -/
inductive Contact where
  | closedContact
  | openContact
deriving DecidableEq, Repr

/-- The eighteen debounced discrete inputs (R4, R6). -/
inductive DiscreteInput where
  | contact (k : StepId) (c : Contact)
  | key
  | externalTrip
deriving DecidableEq, Repr

/-- The parts of a frame arrival whose order the manual leaves open: each block takes the frame at
its own arrival of it (R44, R131), the Switching Executor examines dispatch (R60), and the step
derivation may fall between them (R203). -/
inductive FramePart where
  | avc
  | hmu
  | upu
  | cu
  | sx
  | derive (openAllFirst : Bool)
deriving DecidableEq, Repr

/-- What a frame arrival brings: the 32 sample sets of the eleven channels (R24, R33), and the order
in which the frame is taken (log entry 3). -/
structure FrameInput where
  /-- the samples of VA -/
  va : Channel
  /-- the samples of VB -/
  vb : Channel
  /-- the samples of VC -/
  vc : Channel
  /-- the samples of N1 to N8 -/
  neutrals : Vector Channel 8
  /-- the order in which the parts of the arrival are taken; the four blocks it leaves out follow in
  the order AVC, HMU, UPU, CU -/
  parts : List FramePart
  /-- whether the Cooldown Unit's update of R90 is taken before an applied RINIT (R113) -/
  riseFirst : Bool
deriving DecidableEq, Repr

/-- The parts of an elapsed second whose order the manual leaves open (log entry 4): the countdowns
of the Cooldown Unit, the stale removal, the expiry of selections, and the supervision timer. -/
inductive SecondPart where
  | cooldown
  | stale
  | selections
  | supervision
deriving DecidableEq, Repr

/-- The level of the FSEL strap (R30, 10.7). -/
inductive Fsel where
  | hz50
  | hz60
deriving DecidableEq, Repr

/-- The commands, one constructor for each row of spec/opcode_table.json in the table's order. -/
inductive Instr where
  /-- STATUS (R183) -/
  | status (h : Header)
  /-- STEP_QUERY (R1) -/
  | stepQuery (h : Header) (step : Byte)
  /-- FRAME_QUERY (R44) -/
  | frameQuery (h : Header)
  /-- MONITOR_QUERY (R135) -/
  | monitorQuery (h : Header) (monitor : Byte)
  /-- TRIP_RECORD_QUERY (R147) -/
  | tripRecordQuery (h : Header)
  /-- OUTCOME_READ (R187) -/
  | outcomeRead (h : Header)
  /-- GET (R184) -/
  | getSetting (h : Header) (number index : Byte)
  /-- KEEPALIVE (R181) -/
  | keepalive (h : Header)
  /-- OPEN (R52, R59) -/
  | openStep (h : Header) (step : Byte)
  /-- SELECT (R170) -/
  | select (h : Header) (step : Byte)
  /-- OPERATE (R171) -/
  | operate (h : Header) (step : Byte)
  /-- CANCEL (R172) -/
  | cancel (h : Header) (step : Byte)
  /-- AUTO (R162) -/
  | auto (h : Header) (value : Byte)
  /-- RELEASE_HOLD (R169) -/
  | releaseHold (h : Header) (step : Byte)
  /-- SET (R184, R195) -/
  | setSetting (h : Header) (number index : Byte) (value : BitVec 16)
  /-- SAVE (R199) -/
  | save (h : Header)
  /-- CAPTURE_INHERENT (R154) -/
  | captureInherent (h : Header) (step : Byte)
  /-- RESET_LOCKOUT (R18) -/
  | resetLockout (h : Header) (step : Byte)
  /-- RESET_STEP (R17) -/
  | resetStep (h : Header) (step : Byte)
  /-- TAKE_OUT (R15) -/
  | takeOut (h : Header) (step : Byte)
  /-- RETURN (R16) -/
  | returnStep (h : Header) (step : Byte)
  /-- CLEAR_TRIP_RECORD (R147) -/
  | clearTripRecord (h : Header)
  /-- RESET_BACKUP (R153) -/
  | resetBackup (h : Header)
  /-- CLEAR_COUNTERS (R134) -/
  | clearCounters (h : Header)
  /-- BAD_FRAME (R177): the bytes of a window that fails a framing check -/
  | badFrame (port : Port) (window : List Byte)
  /-- UNKNOWN_REQUEST (R179): a good frame whose code is not in the catalogue -/
  | unknownRequest (h : Header) (code : Byte) (payload : List Byte)
  /-- RAW_INPUT_CHANGE (R4): an input's raw level `elapsed` microseconds after the last command -/
  | rawInputChange (input : DiscreteInput) (level : Bool) (elapsed : Nat)
  /-- CONTACT_DEBOUNCE_ACCEPT (R4) -/
  | contactDebounceAccept (k : StepId) (c : Contact)
  /-- KEY_ACCEPT (R160) -/
  | keyAccept
  /-- EXTERNAL_TRIP_ASSERTION (R149) -/
  | externalTripAssertion
  /-- EXTERNAL_TRIP_DEASSERTION (R150) -/
  | externalTripDeassertion
  /-- CONTACT_FAULT_EXPIRY (R13) -/
  | contactFaultExpiry (k : StepId)
  /-- COIL_PULSE_END (R22) -/
  | coilPulseEnd
  /-- CLOSE_OPERATE_TIMEOUT (R69) -/
  | closeOperateTimeout
  /-- OPEN_OPERATE_TIMER_EXPIRY (R64, R70) -/
  | openOperateTimerExpiry
  /-- DISPATCH (R60 to R62) -/
  | dispatch
  /-- CROSSING (R26): a crossing of a phase `elapsed` microseconds after the last command -/
  | crossing (phase : Phase) (elapsed : Nat)
  /-- FRAME_START (R28) -/
  | frameStart
  /-- FRAME_ARRIVAL (R44) -/
  | frameArrival (f : FrameInput)
  /-- SETTLE_END (R81) -/
  | settleEnd
  /-- DEAD_LINE_ENTRY (R97) -/
  | deadLineEntry
  /-- LINE_LIVE_RETURN (R98) -/
  | lineLiveReturn
  /-- FAST_OPEN (R112) -/
  | fastOpen
  /-- MONITOR_ACTIVATION (R124) -/
  | monitorActivation (m : MonitorId)
  /-- MONITOR_CLEARING (R125) -/
  | monitorClearing (m : MonitorId)
  /-- UNBALANCE_ALARM (R141) -/
  | unbalanceAlarm (k : StepId)
  /-- UNBALANCE_TRIP_DECISION (R142) -/
  | unbalanceTripDecision (k : StepId)
  /-- CAPTURE_COMPLETE (R155) -/
  | captureComplete
  /-- ELAPSED_SECOND (R78) -/
  | elapsedSecond (parts : List SecondPart)
  /-- DISCHARGE_END (R14) -/
  | dischargeEnd (k : StepId)
  /-- HARMONIC_HOLD_END (R86) -/
  | harmonicHoldEnd (k : StepId)
  /-- STALE (R71) -/
  | stale
  /-- SELECT_EXPIRED (R173) -/
  | selectExpired (p : Port)
  /-- SUPERVISION_TIMER_EXPIRY (R165, R166) -/
  | supervisionTimerExpiry
  /-- SAVE_COMPLETE (R200): what the target copy reads back as -/
  | saveComplete (readback : Image)
  /-- POWER_ON_RESET (R201) -/
  | powerOnReset
  /-- PIN_RESET (R201) -/
  | pinReset
  /-- RELEASE_OF_RESET (R201): the FSEL level read at the release -/
  | releaseOfReset (fsel : Fsel)
  /-- LOADING_END (R202) -/
  | loadingEnd
  /-- STEP_DERIVATION (R204): which of the dead-line OPEN ALL and the external trip is taken first -/
  | stepDerivation (openAllFirst : Bool)
  /-- ZERO_CROSSING_DETECTOR_ARMING (R26) -/
  | zeroCrossingDetectorArming (phase : Phase)
deriving DecidableEq, Repr

end Sys2Proof
end

