-- ==== Sys2Proof/Machine/Arith.lean ====
section
/-!
DEFINITION. The integer arithmetic the manual gives exactly (00_scope, Arithmetic), the byte order of
the ports (9.9), the two check words (R177, R198), and the nominal periods (R30).
-/
namespace Sys2Proof.Machine

/-- Integer square root over `fuel` pairs of bits, from the high end. -/
def isqrtAux : Nat → Nat → Nat
  | 0, _ => 0
  | fuel + 1, x =>
    let r := 2 * isqrtAux fuel (x / 4)
    if (r + 1) * (r + 1) ≤ x then r + 1 else r

/-- isqrt(x): the largest integer whose square does not exceed x (00_scope). -/
def isqrt (x : Nat) : Nat := isqrtAux (x.log2 / 2 + 1) x

/-- Largest value of a 32-bit counter plus one (00_scope). -/
def wrap32 : Nat := 4294967296

/-- Seconds from `t` to `now` on the 32-bit uptime counter (log entry 11). -/
def age (now t : Nat) : Nat := (now + wrap32 - t) % wrap32

/-- The nominal period in microseconds (R30). -/
def nominalPeriod : Fsel → Nat
  | .hz50 => 20000
  | .hz60 => 16667

/-- The lower limit of the tracked period (R30). -/
def periodLow (f : Fsel) : Nat := nominalPeriod f - nominalPeriod f / 20

/-- The upper limit of the tracked period (R30). -/
def periodHigh (f : Fsel) : Nat := nominalPeriod f + nominalPeriod f / 20

/-- The longest interval that is not stale (R29): twice the nominal period. -/
def staleInterval (f : Fsel) : Nat := 2 * nominalPeriod f

/-- Frequency in centihertz of a period (R32). -/
def centihertz (p : Nat) : Nat := (200000000 + p) / (2 * p)

/-! ## Bytes -/

/-- A number as `w` bytes, most significant byte first (9.9). -/
def be : Nat → Nat → List Byte
  | 0, _ => []
  | w + 1, n => BitVec.ofNat 8 (n / 256 ^ w) :: be w n

/-- A signed number as `w` bytes, two's complement (9.9). -/
def beSigned (w : Nat) (i : Int) : List Byte := be w (i % (256 ^ w : Nat)).toNat

/-- One byte (9.9). -/
def byte (n : Nat) : Byte := BitVec.ofNat 8 n

/-- A flag in one byte, 1 when set and 0 when clear. R184 states it for the on/off settings. For the other flags
9.9 gives no number: DESIGN CHOICE (log entry 37). -/
def flagByte (b : Bool) : Byte := if b then 1 else 0

/-- A 16-bit field, FFFF hex when absent (9.9). -/
def be16Opt (o : Option Nat) : List Byte := be 2 (o.getD 0xFFFF)

/-- A list cut or filled with zero bytes to exactly `n` bytes (9.9: zero beyond the length). -/
def exactly (n : Nat) (l : List Byte) : List Byte := (l ++ List.replicate n 0).take n

/-! ## Check words -/

/-- `k` shifts of the CRC-8 register with generator 07 hex (R177). -/
def crc8Shift : Nat → BitVec 8 → BitVec 8
  | 0, r => r
  | k + 1, r => crc8Shift k (if r.msb then (r <<< 1) ^^^ 0x07#8 else r <<< 1)

/-- CRC-8 of R177: register starting at 0, bytes most significant bit first, no reflection, no final
inversion. -/
def crc8 (l : List Byte) : Byte := l.foldl (fun r b => crc8Shift 8 (r ^^^ b)) 0

/-- `k` shifts of the CRC-16 register with generator 1021 hex (R198). -/
def crc16Shift : Nat → BitVec 16 → BitVec 16
  | 0, r => r
  | k + 1, r => crc16Shift k (if r.msb then (r <<< 1) ^^^ 0x1021#16 else r <<< 1)

/-- CRC-16 of R198: register starting at FFFF hex, bytes most significant bit first, no reflection,
no final inversion. -/
def crc16 (l : List Byte) : BitVec 16 :=
  l.foldl (fun r b => crc16Shift 8 (r ^^^ BitVec.ofNat 16 (b.toNat * 256))) 0xFFFF

/-! ## The nonvolatile image -/

/-- The bytes of a copy other than its check word. DESIGN CHOICE (log entry 7): the manual says what
a copy holds and not in which order; the model takes the order of R198's list, two bytes for the
sequence number and each setting. -/
def imageBytes (seq : Nat) (c : Settings) (steps : Vector StoredStep 8) : List Byte :=
  be 2 seq ++ allSettingIds.flatMap (fun i => be 2 (c.get i))
    ++ allSteps.flatMap (fun k =>
      let d := steps[k]
      (match d.compensation with
       | none => byte 0 :: (beSigned 4 0 ++ beSigned 4 0 ++ be 2 0)
       | some p => byte 1 :: (beSigned 4 p.cre ++ beSigned 4 p.cim ++ be 2 p.vcap))
        ++ be 2 d.learnedRise ++ be 4 d.closeCount)

/-- A copy with its check word (R198, R199). -/
def imageBuild (seq : Nat) (c : Settings) (steps : Vector StoredStep 8) : Image :=
  { seq := seq, settings := c, steps := steps, check := crc16 (imageBytes seq c steps) }

/-- A copy is valid when its check word matches and every setting in it lies within its range
(R198). -/
def imageValid (i : Image) : Bool :=
  i.settings.inRange && decide (i.check = crc16 (imageBytes i.seq i.settings i.steps))

/-- What the target copy holds when a reset abandons a SAVE: its check word fails (R200). Nothing
else of it is ever read (log entry 8). -/
def imageTorn (i : Image) : Image :=
  { i with check := ~~~ (crc16 (imageBytes i.seq i.settings i.steps)) }

/-- A copy of a nonvolatile store that was never written: every word zero, so that no setting lies
in its range and the copy is not valid (log entry 6). -/
def imageBlank : Image where
  seq := 0
  settings :=
    { yard := Vector.replicate 27 0
      step := Vector.replicate 8 (Vector.replicate 7 0)
      monitor := Vector.replicate 8 (Vector.replicate 6 0) }
  steps := Vector.replicate 8 { compensation := none, learnedRise := 0, closeCount := 0 }
  check := 0

end Sys2Proof.Machine
end

