-- ==== Sys2Proof/Machine/State.lean ====
section
/-!
DEFINITION. The state of the VD8C as plain data, grouped by the block that owns it (00_scope), the
reasons a step can stop, and the state right after reset.
-/
namespace Sys2Proof.Machine

/-! ## Reasons to stop -/

/-- Faults. The manual describes no event that stops the controller, so there is none: no command
ever answers a fault. -/
inductive Fault where
deriving DecidableEq, Repr

/-- Refusals. -/
inductive Refusal where
  /-- Raised by `exec` for a row that has no meaning yet (safe: the model stops). Every row has its
  meaning, so no arm raises it. -/
  | notModelled (mnemonic : String)
deriving DecidableEq, Repr

/-! ## Names -/

/-- The states of a step (R2). -/
inductive StepState where
  | out | discharging | ready | closing | closed | opening | lockout | failed
deriving DecidableEq, Repr

/-- The debounced contact pair of a step (R5). -/
inductive Position where
  | atClosed | atOpen | travel | invalid
deriving DecidableEq, Repr

/-- Why a step is locked out (R1). -/
inductive LockoutCause where
  | unbalance | external
deriving DecidableEq, Repr

/-- Why a step has failed (R1). -/
inductive FailureCause where
  | closeTimeout | openTimeout | contactInvalid
deriving DecidableEq, Repr

/-- The kinds of operation (R48). -/
inductive OpKind where
  | closeOp | openOp | tripOp
deriving DecidableEq, Repr

/-- Who posts operations (R48). -/
inductive Originator where
  | portA | portB | avc | harmonic | unbalance | external
deriving DecidableEq, Repr

/-- The status of an entry (R48). -/
inductive EntryStatus where
  | waiting | inFlight
deriving DecidableEq, Repr

/-- The cause a BLOCKED answer carries (R61, R181). -/
inductive BlockCause where
  | harmonic | overvoltage | backupTrip | tripRecord
deriving DecidableEq, Repr

/-- The answer to a posting (R50 to R58). -/
inductive PostAnswer where
  | accepted
  | done
  | wrongState
  | cooling (seconds : Nat)
  | deadLine
  | blocked (cause : BlockCause)
  | pending
  | conflict
deriving DecidableEq, Repr

/-- The cause of a CANCELLED outcome (R185). -/
inductive CancelCause where
  | openedByRequest | stepChanged | authorityLost | lockout
deriving DecidableEq, Repr

/-- What an Outcome Record is about (R185). -/
inductive OutcomeWhat where
  | closeOp | openOp | tripOp | select | save | capture
deriving DecidableEq, Repr

/-- The result in an Outcome Record (R185). -/
inductive OutcomeResult where
  | done | switchFailed | stale
  | cancelled (cause : CancelCause)
  | superseded | selectExpired | saved | saveFailed | captured | captureAborted
deriving DecidableEq, Repr

/-! ## Time and reset -/

/-- A running timer: the instant it started, in microseconds, and its length in milliseconds. -/
structure Timer where
  /-- start instant on the microsecond count -/
  since : Nat
  /-- length in milliseconds -/
  length : Nat
deriving DecidableEq, Repr

/-- Which of the two reset kinds are being held (R201). -/
structure ResetHold where
  /-- the supply has fallen below its threshold since the previous release -/
  power : Bool
  /-- the reset pin is asserted -/
  pin : Bool
deriving DecidableEq, Repr

/-- The reset cause (R201). -/
inductive ResetCause where
  | powerOn | pin
deriving DecidableEq, Repr

/-- The timebase and the reset record. -/
structure Clock where
  /-- the microsecond count since the release of reset (R26) -/
  now : Nat
  /-- the instant of the next elapsed second -/
  nextSecond : Nat
  /-- the 32-bit seconds counter (00_scope) -/
  uptime : Nat
  /-- the reset being held, none while the controller runs (R201) -/
  held : Option ResetHold
  /-- the reset cause (R201) -/
  cause : ResetCause
deriving DecidableEq, Repr

/-! ## Measurement Engine -/

/-- The zero-crossing detector of one voltage channel (R26). -/
structure Detector where
  /-- armed since the signal was last at or below −32 codes -/
  armed : Bool
  /-- the latest stamp, microseconds -/
  stamp : Option Nat
  /-- the stamps whose start points may still lie ahead (R28) -/
  recent : List Nat
deriving DecidableEq, Repr

/-- The frame being sampled (R28, R33). -/
structure Sampling where
  /-- the instant of set 0 -/
  start : Nat
  /-- the period in force when the frame started -/
  period : Nat
  /-- free-started after a missed crossing (R28) -/
  freeStarted : Bool
deriving DecidableEq, Repr

/-- The per-phase fields of a Measurement Frame (R44). -/
structure PhaseFrame where
  /-- phase voltage, mpu (R37) -/
  v : Nat
  /-- third harmonic ratio (R38) -/
  h3 : Nat
  /-- fifth harmonic ratio -/
  h5 : Nat
  /-- seventh harmonic ratio -/
  h7 : Nat
  /-- eleventh harmonic ratio -/
  h11 : Nat
  /-- thirteenth harmonic ratio -/
  h13 : Nat
  /-- distortion index (R39) -/
  di : Nat
  /-- fundamental below 0.1 pu (R38) -/
  lowSignal : Bool
  /-- a sample at the converter's limit (R25) -/
  clip : Bool
deriving DecidableEq, Repr

/-- The per-step fields of a Measurement Frame (R44). -/
structure NeutralFrame where
  /-- real part of the neutral phasor (R40) -/
  pre : Int
  /-- imaginary part of the neutral phasor -/
  pim : Int
  /-- compensated unbalance (R138, R139) -/
  u : Nat
  /-- a sample at the converter's limit (R25) -/
  clip : Bool
deriving DecidableEq, Repr

/-- The Measurement Frame (R44). -/
structure Frame where
  /-- 32-bit frame number -/
  number : Nat
  /-- the reference phase, absent for none (R27) -/
  reference : Option Phase
  /-- centihertz (R32) -/
  frequency : Nat
  /-- phase A -/
  a : PhaseFrame
  /-- phase B -/
  b : PhaseFrame
  /-- phase C -/
  c : PhaseFrame
  /-- average voltage (R41) -/
  vAvg : Nat
  /-- largest phase voltage -/
  vMax : Nat
  /-- smallest phase voltage -/
  vMin : Nat
  /-- S1 to S8 -/
  neutrals : Vector NeutralFrame 8
  /-- phasors not tied to a crossing (R31) -/
  noRef : Bool
  /-- period clamped (R30) -/
  offFreq : Bool
  /-- phase voltages disagree (R42) -/
  vtLoss : Bool
  /-- within a settle period (R45) -/
  settling : Bool
deriving DecidableEq, Repr

/-- The Measurement Engine (R24 to R47). -/
structure MeState where
  /-- FSEL as read at the release of reset (R46) -/
  fsel : Fsel
  /-- the period in force, microseconds (R30) -/
  period : Nat
  /-- the reference phase of the frame whose window is running (R27) -/
  reference : Option Phase
  /-- the detector of VA -/
  detA : Detector
  /-- the detector of VB -/
  detB : Detector
  /-- the detector of VC -/
  detC : Detector
  /-- the instant of the previous frame arrival (R28) -/
  lastArrival : Nat
  /-- the frame being sampled; none between an arrival and the next start -/
  sampling : Option Sampling
  /-- the last period measurement of the running window (R29) -/
  measurement : Option Nat
  /-- the frame counter (R44) -/
  counter : Nat
  /-- the latest Measurement Frame (R44) -/
  frame : Frame
  /-- the last valid average record (R43) -/
  lastValidAvg : Option Nat
deriving DecidableEq, Repr

/-! ## Step Supervisor -/

/-- A debouncer (R4): the raw level and since when, and the accepted value. For a contact the level
true is "made", for the key REMOTE, for the external trip asserted. -/
structure Debouncer where
  /-- the raw level -/
  raw : Bool
  /-- the instant the raw level last changed, microseconds -/
  since : Nat
  /-- the accepted value, absent until first set -/
  accepted : Option Bool
deriving DecidableEq, Repr

/-- One Step Record (R1), with the step's debouncers, its contact-fault timer and the difference
phasor the UPU keeps (R139). number is the record's place; in_service is the setting; selected_by
and pending are read from the Selection table and the Operation Queue, where they are stored. -/
structure StepRecord where
  /-- the state, absent before start-up derivation (R2) -/
  state : Option StepState
  /-- the position, absent before the first debounce (R5) -/
  position : Option Position
  /-- discharge_remaining, seconds (R77) -/
  discharge : Nat
  /-- harmonic_hold_remaining, seconds (R85) -/
  harmonicHold : Nat
  /-- manual_hold (R168) -/
  manualHold : Bool
  /-- closed_while_out (R12) -/
  closedWhileOut : Bool
  /-- lockout_cause (R2) -/
  lockoutCause : Option LockoutCause
  /-- failure_cause (R2) -/
  failureCause : Option FailureCause
  /-- close_history, uptime seconds, oldest first (R83) -/
  closeHistory : List Nat
  /-- close_count (R65) -/
  closeCount : Nat
  /-- learned_rise, mpu (R113) -/
  learnedRise : Nat
  /-- compensation (R137) -/
  compensation : Option Compensation
  /-- alarm count (R141) -/
  alarmCount : Nat
  /-- trip count (R142) -/
  tripCount : Nat
  /-- alarm flag (R141) -/
  alarmFlag : Bool
  /-- latest U (R139) -/
  latestU : Nat
  /-- the kept difference phasor, real part (R139) -/
  dre : Int
  /-- the kept difference phasor, imaginary part -/
  dim : Int
  /-- debouncer of the closed contact (R4) -/
  closedContact : Debouncer
  /-- debouncer of the open contact (R4) -/
  openContact : Debouncer
  /-- the contact-fault timer, absent when stopped (R13) -/
  faultTimer : Option Timer
deriving DecidableEq, Repr

/-- The two coils of a step (R21). -/
inductive Coil where
  | closeCoil | openCoil
deriving DecidableEq, Repr

/-- The one coil pulse that can be running (R21, R22): the sixteen outputs are read from it. -/
structure Pulse where
  /-- the step whose coil is energised -/
  step : StepId
  /-- which of its coils -/
  coil : Coil
  /-- when the pulse began, and TPULSE -/
  timer : Timer
deriving DecidableEq, Repr

/-- The Step Supervisor (R1 to R23). -/
structure SsState where
  /-- the Step Table, S1 to S8 (R1) -/
  steps : Vector StepRecord 8
  /-- the Ready Order, longest open first (R7) -/
  readyOrder : List StepId
  /-- the Closed Order, longest closed first (R7) -/
  closedOrder : List StepId
  /-- the closed-while-charged set (R20) -/
  closedWhileCharged : List StepId
  /-- the unexpected-open set (R20) -/
  unexpectedOpen : List StepId
  /-- debouncer of the LOCAL/REMOTE key (R6) -/
  keyIn : Debouncer
  /-- debouncer of the external trip input (R6) -/
  tripIn : Debouncer
  /-- the running coil pulse (R22) -/
  pulse : Option Pulse
deriving DecidableEq, Repr

/-! ## Operation Queue and Switching Executor -/

/-- A mark on the in-flight entry (R49). -/
structure Mark where
  /-- OPEN or TRIP -/
  kind : OpKind
  /-- who posted the request that set it -/
  originator : Originator
  /-- that request's tag, if a port -/
  tag : Option Byte
  /-- that request's fast flag -/
  fast : Bool
deriving DecidableEq, Repr

/-- An entry of the Operation Queue (R48). -/
structure Entry where
  /-- the operation -/
  kind : OpKind
  /-- the step it acts on -/
  step : StepId
  /-- who posted it -/
  originator : Originator
  /-- the tag of the posting request, if a port -/
  tag : Option Byte
  /-- uptime at admission or conversion -/
  admittedAt : Nat
  /-- WAITING or IN_FLIGHT -/
  status : EntryStatus
  /-- the mark, on the in-flight entry only -/
  mark : Option Mark
  /-- set on AVC fast opens -/
  fast : Bool
deriving DecidableEq, Repr

/-- A posting (3.2). -/
structure Posting where
  /-- the operation -/
  kind : OpKind
  /-- the step -/
  step : StepId
  /-- who posts -/
  originator : Originator
  /-- the tag, if a port -/
  tag : Option Byte
  /-- the fast flag -/
  fast : Bool
deriving DecidableEq, Repr

/-- The Operation Queue and the Switching Executor (R48 to R76). -/
structure OqState where
  /-- the list of entries, head first (R48) -/
  entries : List Entry
  /-- the operate timer, absent when stopped (R62) -/
  operate : Option Timer
  /-- the retry count (R64) -/
  retryCount : Nat
  /-- V_pre of the operation in flight (R62) -/
  vPre : Option Nat
deriving DecidableEq, Repr

/-! ## Cooldown Unit -/

/-- Why a rise measurement was skipped (R91). -/
inductive SkipCause where
  | converted | otherStepChanged | replaced | stepMoved | noVPre | noVPost | deltaLimit
deriving DecidableEq, Repr

/-- The armed rise measurement (R87). -/
structure Armed where
  /-- the measured step -/
  step : StepId
  /-- kind of the completed entry -/
  kind : OpKind
  /-- the state the completion gave -/
  target : StepState
  /-- V_pre, possibly absent -/
  vPre : Option Nat
  /-- the completion converted a marked entry -/
  converted : Bool
  /-- the cause that voided it (R88) -/
  voided : Option SkipCause
deriving DecidableEq, Repr

/-- The last rise result (R91). -/
structure RiseResult where
  /-- the measured step -/
  step : StepId
  /-- kind of the completed entry -/
  kind : OpKind
  /-- V_pre -/
  vPre : Option Nat
  /-- V_post -/
  vPost : Option Nat
  /-- learned_rise before -/
  before : Nat
  /-- learned_rise after -/
  after : Nat
  /-- absent for APPLIED, else the cause of SKIPPED -/
  skipped : Option SkipCause
  /-- the frame number at which it was recorded -/
  frame : Nat
deriving DecidableEq, Repr

/-- The yard-wide part of the Cooldown Unit (R77 to R93); its per-step counts are in the Step
Record. -/
structure CuState where
  /-- settle_remaining, frames (R80) -/
  settle : Nat
  /-- the armed measurement (R87) -/
  armed : Option Armed
  /-- the last rise result (R91) -/
  lastRise : Option RiseResult
deriving DecidableEq, Repr

/-! ## Automatic Voltage Control -/

/-- The line state (R94). -/
inductive LineState where
  | live | dead
deriving DecidableEq, Repr

/-- What the last decision record holds beside its frame number (R115). -/
inductive Decision where
  | closePosted (step : StepId) (p : Int)
  | openPosted (step : StepId) (p : Int)
  | noCandidate (kind : OpKind)
  | predictWithheld (kind : OpKind) (step : StepId) (p : Int)
  | blocked (step : StepId) (p : Int) (cause : BlockCause)
  | fastPosted (step : StepId)
  | fastNoCandidate
  | openAllPosted (count : Nat)
deriving DecidableEq, Repr

/-- The last decision record (R115). -/
structure DecisionRecord where
  /-- source, outcome and fields -/
  decision : Decision
  /-- frame number -/
  frame : Nat
deriving DecidableEq, Repr

/-- The last open-all record (R97, R116). -/
structure OpenAllRecord where
  /-- frame number -/
  frame : Nat
  /-- uptime -/
  uptime : Nat
  /-- number of ACCEPTED answers -/
  count : Nat
  /-- the answers of S1 to S8, in order -/
  answers : List PostAnswer
deriving DecidableEq, Repr

/-- The last result record of an AVC operation (R114). -/
structure AvcResult where
  /-- the step -/
  step : StepId
  /-- CLOSE or OPEN -/
  kind : OpKind
  /-- the fast flag -/
  fast : Bool
  /-- the result -/
  result : OutcomeResult
  /-- the step's state at the end of the event -/
  state : Option StepState
  /-- uptime -/
  uptime : Nat
deriving DecidableEq, Repr

/-- The Automatic Voltage Control (R94 to R119). -/
structure AvcState where
  /-- line_state (R96) -/
  line : LineState
  /-- run_count (R96) -/
  runCount : Nat
  /-- D_low (R102) -/
  dLow : Nat
  /-- D_high (R103) -/
  dHigh : Nat
  /-- OV_cnt (R111) -/
  ovCnt : Nat
  /-- last decision (R115) -/
  lastDecision : Option DecisionRecord
  /-- last open-all (R97) -/
  lastOpenAll : Option OpenAllRecord
  /-- last result (R114) -/
  lastResult : Option AvcResult
deriving DecidableEq, Repr

/-! ## Harmonic Monitor Unit -/

/-- The last_detune record of a monitor (R129). -/
inductive LastDetune where
  | target (step : StepId) (uptime frame : Nat)
      (result : Option (OutcomeResult × Option StepState))
  | noneAvailable (uptime frame : Nat)
deriving DecidableEq, Repr

/-- The running part of a monitor record (R120). -/
structure Monitor where
  /-- the accumulator (R123) -/
  accumulator : Nat
  /-- active (R124) -/
  active : Bool
  /-- assert_count (R124) -/
  assertCount : Nat
  /-- active_frames (R126) -/
  activeFrames : Nat
  /-- last_detune (R129) -/
  lastDetune : Option LastDetune
deriving DecidableEq, Repr

/-- The Harmonic Monitor Unit (R120 to R136). -/
structure HmuState where
  /-- M1 to M8 -/
  monitors : Vector Monitor 8
deriving DecidableEq, Repr

/-! ## Unbalance Protection Unit -/

/-- The Trip Record (R145). The cause is UNBALANCE when it names a step and EXTERNAL when it names
ALL. -/
structure TripRecord where
  /-- UNBALANCE or EXTERNAL -/
  cause : LockoutCause
  /-- the step, absent for ALL -/
  step : Option StepId
  /-- uptime -/
  uptime : Nat
  /-- frame number -/
  frame : Nat
  /-- U, absent for an external trip -/
  u : Option Nat
  /-- Dre, absent for an external trip -/
  dre : Option Int
  /-- Dim, absent for an external trip -/
  dim : Option Int
  /-- V_avg -/
  vAvg : Nat
  /-- the largest DI of the three phases -/
  di : Nat
  /-- further_trips -/
  further : Nat
deriving DecidableEq, Repr

/-- The last trip result (R148). -/
structure TripResult where
  /-- the step -/
  step : StepId
  /-- UNBALANCE or EXTERNAL -/
  originator : Originator
  /-- the result -/
  result : OutcomeResult
  /-- the step's state at the end of the event -/
  state : Option StepState
  /-- uptime -/
  uptime : Nat
deriving DecidableEq, Repr

/-- Why BKT was asserted (R151). -/
inductive BackupReason where
  | closeTimeout | openTimeout | contactFault | failedStep
deriving DecidableEq, Repr

/-- The backup trip record (R151): BKT is asserted while it is held. -/
structure BackupRecord where
  /-- the step -/
  step : StepId
  /-- the reason -/
  reason : BackupReason
  /-- the originator of the TRIP concerned -/
  originator : Originator
  /-- uptime -/
  uptime : Nat
deriving DecidableEq, Repr

/-- The running capture engine (R154). -/
structure Capture where
  /-- the captured step -/
  step : StepId
  /-- the request's tag -/
  tag : Byte
  /-- frames taken -/
  count : Nat
  /-- sum of Pre -/
  sumRe : Int
  /-- sum of Pim -/
  sumIm : Int
  /-- sum of V_avg -/
  sumV : Nat
deriving DecidableEq, Repr

/-- What an assertion edge of the external trip found, kept for a frame that comes together with it (R150):
the model's own record (log entry 35). -/
structure TripEdge where
  /-- the instant of the edge, microseconds -/
  instant : Nat
  /-- the CLOSED steps with their trip counts -/
  counts : List (StepId × Nat)
deriving DecidableEq, Repr

/-- The yard-wide part of the Unbalance Protection Unit (R137 to R158); its per-step counts are in
the Step Record. -/
structure UpuState where
  /-- the Trip Record (R145) -/
  tripRecord : Option TripRecord
  /-- the last trip result (R148) -/
  lastTrip : Option TripResult
  /-- the backup trip record; BKT is asserted while present (R151) -/
  backup : Option BackupRecord
  /-- the capture engine, absent when idle (R154) -/
  capture : Option Capture
  /-- the model's own: the external trip edge since the UPU last took a frame (R150, log entry 35) -/
  edge : Option TripEdge
deriving DecidableEq, Repr

/-! ## Authority Unit -/

/-- The panel key (R159). -/
inductive KeyPos where
  | loc | remote
deriving DecidableEq, Repr

/-- Dispatch supervision (R159). -/
inductive Supervision where
  | ok | late | lost
deriving DecidableEq, Repr

/-- A filled slot of the Selection table (R170). -/
structure Selection where
  /-- the selected step -/
  step : StepId
  /-- the SELECT's tag -/
  tag : Byte
  /-- the expiry time, uptime seconds -/
  expiry : Nat
deriving DecidableEq, Repr

/-- The Authority Unit (R159 to R175). The holder is read from the key and the supervision (R161);
whether the first key value has been taken is whether the key is present (R160). -/
structure AuState where
  /-- the key, absent until first accepted -/
  key : Option KeyPos
  /-- AUTO -/
  auto : Bool
  /-- supervision -/
  supervision : Supervision
  /-- supervision_remaining, absent when the timer is stopped -/
  remaining : Option Nat
  /-- Port A's slot -/
  slotA : Option Selection
  /-- Port B's slot -/
  slotB : Option Selection
deriving DecidableEq, Repr

/-! ## Port Interfaces and Outcome Store -/

/-- One Port Interface (chapter 9). -/
structure PortState where
  /-- the response waiting to be clocked out (R178) -/
  buffer : Option (List Byte)
  /-- the change flag (R190) -/
  changeFlag : Bool
  /-- the lost-outcome counter (R189) -/
  lost : Nat
  /-- the bytes the controller's data line carried in the port's last window (R176) -/
  line : List Byte
deriving DecidableEq, Repr

/-- The two Port Interfaces. -/
structure PiState where
  /-- PI-A -/
  a : PortState
  /-- PI-B -/
  b : PortState
deriving DecidableEq, Repr

/-- An Outcome Record (R185). -/
structure OutcomeRecord where
  /-- the tag of the request it answers -/
  tag : Byte
  /-- the step, absent for a SAVE -/
  step : Option StepId
  /-- what -/
  what : OutcomeWhat
  /-- the result -/
  result : OutcomeResult
  /-- the step's state at the end of the posting event -/
  state : Option StepState
  /-- uptime of that event -/
  uptime : Nat
deriving DecidableEq, Repr

/-- The pool a slot belongs to (R186). -/
inductive Slot where
  | shared | reserve
deriving DecidableEq, Repr

/-- The Outcome Store (R186): each port's records with the slot each occupies, oldest first. -/
structure OsState where
  /-- Port A's list -/
  a : List (Slot × OutcomeRecord)
  /-- Port B's list -/
  b : List (Slot × OutcomeRecord)
deriving DecidableEq, Repr

/-! ## Settings and Store -/

/-- A pending value (R195, R202): loaded from the image, or taken from a SET. -/
structure PendingValue where
  /-- the setting -/
  id : SettingId
  /-- the value to be applied -/
  value : Nat
  /-- it comes from the loaded image, not from a SET (R202) -/
  loaded : Bool
deriving DecidableEq, Repr

/-- The SAVE in flight (R199). -/
structure SaveInFlight where
  /-- the snapshot -/
  image : Image
  /-- the request's tag -/
  tag : Byte
  /-- the target copy is copy 1, else copy 0 -/
  target1 : Bool
deriving DecidableEq, Repr

/-- The start-up state (10.6). -/
inductive Startup where
  | loading | running
deriving DecidableEq, Repr

/-- Settings and Store (R194 to R205). -/
structure SetState where
  /-- the values in force -/
  settings : Settings
  /-- the pending values (R195) -/
  pendingValues : List PendingValue
  /-- copy 0 of the nonvolatile image (R198) -/
  copy0 : Image
  /-- copy 1 of the nonvolatile image -/
  copy1 : Image
  /-- the current copy: absent for none, else whether it is copy 1 (R198) -/
  current1 : Option Bool
  /-- the sequence number of the current copy (R202) -/
  currentSeq : Nat
  /-- the SAVE in flight (R199) -/
  save : Option SaveInFlight
  /-- SETTINGS_DEFAULTED (R202) -/
  defaulted : Bool
  /-- LOADING or RUNNING -/
  startup : Startup
  /-- the instant of the loaded application, absent before it (R203) -/
  loadedAt : Option Nat
  /-- step derivation has taken place (R204) -/
  derived : Bool
deriving DecidableEq, Repr

/-! ## The state -/

/-- The whole controller, one field for each block, the queue of commands that are waiting, and the
model's free counter (log entry 12). -/
structure State where
  /-- timebase and reset record -/
  clock : Clock
  /-- Measurement Engine -/
  me : MeState
  /-- Step Supervisor -/
  ss : SsState
  /-- Operation Queue and Switching Executor -/
  oq : OqState
  /-- Cooldown Unit -/
  cu : CuState
  /-- Automatic Voltage Control -/
  avc : AvcState
  /-- Harmonic Monitor Unit -/
  hmu : HmuState
  /-- Unbalance Protection Unit -/
  upu : UpuState
  /-- Authority Unit -/
  au : AuState
  /-- Port Interfaces -/
  pi : PiState
  /-- Outcome Store -/
  os : OsState
  /-- Settings and Store -/
  set : SetState
  /-- the commands that are waiting, first in, first out -/
  pending : List Instr
  /-- the model's own counter of free values -/
  free : Nat
deriving DecidableEq, Repr

/-! ## After reset -/

/-- The raw levels of the eighteen discrete inputs, which a reset does not change. -/
structure RawLevels where
  /-- closed and open contact of S1 to S8 -/
  contacts : Vector (Bool × Bool) 8
  /-- the key, true for REMOTE -/
  key : Bool
  /-- the external trip, true for asserted -/
  trip : Bool
deriving DecidableEq, Repr

/-- A debouncer after reset: no accepted value, its window starting at the release (R23). -/
def Debouncer.afterReset (raw : Bool) : Debouncer := { raw := raw, since := 0, accepted := none }

/-- A Step Record after reset (R23, R93, R158). learned_rise is RINIT at its default and close_count
0 until the image is loaded (R202). -/
def StepRecord.afterReset (raw : Bool × Bool) : StepRecord where
  state := none
  position := none
  discharge := 0
  harmonicHold := 0
  manualHold := false
  closedWhileOut := false
  lockoutCause := none
  failureCause := none
  closeHistory := []
  closeCount := 0
  learnedRise := StepSetting.rinit.dflt
  compensation := none
  alarmCount := 0
  tripCount := 0
  alarmFlag := false
  latestU := 0
  dre := 0
  dim := 0
  closedContact := .afterReset raw.1
  openContact := .afterReset raw.2
  faultTimer := none

/-- The per-phase part of the placeholder frame (R47). -/
def PhaseFrame.zero : PhaseFrame where
  v := 0
  h3 := 0
  h5 := 0
  h7 := 0
  h11 := 0
  h13 := 0
  di := 0
  lowSignal := false
  clip := false

/-- The per-step part of the placeholder frame (R47). -/
def NeutralFrame.zero : NeutralFrame := { pre := 0, pim := 0, u := 0, clip := false }

/-- The placeholder frame (R47). -/
def Frame.placeholder (f : Fsel) : Frame where
  number := 0
  reference := none
  frequency := centihertz (nominalPeriod f)
  a := .zero
  b := .zero
  c := .zero
  vAvg := 0
  vMax := 0
  vMin := 0
  neutrals := Vector.replicate 8 .zero
  noRef := true
  offFreq := false
  vtLoss := false
  settling := false

/-- A detector after reset (R47). -/
def Detector.afterReset : Detector := { armed := false, stamp := none, recent := [] }

/-- A monitor's running part after reset (R136). -/
def Monitor.afterReset : Monitor where
  accumulator := 0
  active := false
  assertCount := 0
  activeFrames := 0
  lastDetune := none

/-- A Port Interface after reset (R193). -/
def PortState.afterReset : PortState := { buffer := none, changeFlag := false, lost := 0, line := [] }

/-- The controller at the release of reset (R201): every block takes its state after reset, with the
reset cause and FSEL as found at the release. The raw levels of the inputs and the two copies of the
nonvolatile image are what they were. -/
def State.afterReset (fsel : Fsel) (cause : ResetCause) (raw : RawLevels) (copy0 copy1 : Image) :
    State where
  clock := { now := 0, nextSecond := 1000000, uptime := 0, held := none, cause := cause }
  me :=
    { fsel := fsel
      period := nominalPeriod fsel
      reference := none
      detA := .afterReset
      detB := .afterReset
      detC := .afterReset
      lastArrival := 0
      sampling := some { start := 0, period := nominalPeriod fsel, freeStarted := false }
      measurement := none
      counter := 0
      frame := .placeholder fsel
      lastValidAvg := none }
  ss :=
    { steps := raw.contacts.map StepRecord.afterReset
      readyOrder := []
      closedOrder := []
      closedWhileCharged := []
      unexpectedOpen := []
      keyIn := .afterReset raw.key
      tripIn := .afterReset raw.trip
      pulse := none }
  oq := { entries := [], operate := none, retryCount := 0, vPre := none }
  cu := { settle := 0, armed := none, lastRise := none }
  avc :=
    { line := .live
      runCount := 0
      dLow := 0
      dHigh := 0
      ovCnt := 0
      lastDecision := none
      lastOpenAll := none
      lastResult := none }
  hmu := { monitors := Vector.replicate 8 .afterReset }
  upu := { tripRecord := none, lastTrip := none, backup := none, capture := none, edge := none }
  au :=
    { key := none
      auto := false
      supervision := .ok
      remaining := none
      slotA := none
      slotB := none }
  pi := { a := .afterReset, b := .afterReset }
  os := { a := [], b := [] }
  set :=
    { settings := .default
      pendingValues := []
      copy0 := copy0
      copy1 := copy1
      current1 := none
      currentSeq := 0
      save := none
      defaulted := false
      startup := .loading
      loadedAt := none
      derived := false }
  pending := []
  free := 0

/-- The machine right after a power-on reset: FSEL strapped for 50 Hz, every discrete input at its
inactive level, the nonvolatile store blank (log entries 5 and 6). -/
def State.reset : State :=
  State.afterReset .hz50 .powerOn
    { contacts := Vector.replicate 8 (false, false), key := false, trip := false }
    imageBlank imageBlank

end Sys2Proof.Machine
end

