-- ==== Sys2Proof/Machine/Operands.lean ====
section
/-!
DEFINITION. Reading and writing the named pieces of the state: Step Records, ports, settings, slots,
the derived fields of R1 and R159, and the range tests of the operand fields (R182).
-/
namespace Sys2Proof.Machine

/-! ## Step Records -/

/-- The Step Record of a step (R1). -/
def State.stepRec (s : State) (k : StepId) : StepRecord := s.ss.steps[k]

/-- Replaces the Step Record of a step. -/
def State.setStep (s : State) (k : StepId) (r : StepRecord) : State :=
  { s with ss := { s.ss with steps := s.ss.steps.set k r } }

/-- Changes the Step Record of a step. -/
def State.modStep (s : State) (k : StepId) (f : StepRecord → StepRecord) : State :=
  s.setStep k (f (s.stepRec k))

/-- A value in force: a yard setting (R194). -/
def State.y (s : State) (y : YardSetting) : Nat := s.set.settings.y y

/-- in_service of a step (R1): the per-step setting in force. -/
def State.inService (s : State) (k : StepId) : Bool := s.set.settings.inService k

/-- The step's entry of the Operation Queue, its pending field (R1, R48). -/
def State.entryOf (s : State) (k : StepId) : Option Entry :=
  s.oq.entries.find? (fun e => e.step = k)

/-- The IN_FLIGHT entry (R48). -/
def State.inFlight (s : State) : Option Entry :=
  s.oq.entries.find? (fun e => e.status = .inFlight)

/-- A port's slot of the Selection table (R170). -/
def State.slot (s : State) : Port → Option Selection
  | .a => s.au.slotA
  | .b => s.au.slotB

/-- Fills or empties a port's slot (R170). -/
def State.setSlot (s : State) (p : Port) (v : Option Selection) : State :=
  match p with
  | .a => { s with au := { s.au with slotA := v } }
  | .b => { s with au := { s.au with slotB := v } }

/-- selected_by of a step (R1, R170): the port whose slot holds it. -/
def State.selectedBy (s : State) (k : StepId) : Option Port :=
  if (s.au.slotA.map (·.step)) = some k then some .a
  else if (s.au.slotB.map (·.step)) = some k then some .b
  else none

/-- The holder of close authority, from the key and the supervision (R161). -/
def State.holder (s : State) : Option Port :=
  match s.au.key, s.au.supervision with
  | none, _ => none
  | some .loc, _ => some .a
  | some .remote, .lost => none
  | some .remote, _ => some .b

/-! ## Ports -/

/-- A Port Interface. -/
def State.portState (s : State) : Port → PortState
  | .a => s.pi.a
  | .b => s.pi.b

/-- Replaces a Port Interface. -/
def State.setPort (s : State) (p : Port) (v : PortState) : State :=
  match p with
  | .a => { s with pi := { s.pi with a := v } }
  | .b => { s with pi := { s.pi with b := v } }

/-- The records held for a port in the Outcome Store, oldest first (R186). -/
def State.outcomes (s : State) : Port → List (Slot × OutcomeRecord)
  | .a => s.os.a
  | .b => s.os.b

/-- Replaces a port's list in the Outcome Store. -/
def State.setOutcomes (s : State) (p : Port) (l : List (Slot × OutcomeRecord)) : State :=
  match p with
  | .a => { s with os := { s.os with a := l } }
  | .b => { s with os := { s.os with b := l } }

/-- A port as an originator (R48). -/
def portOriginator : Port → Originator
  | .a => .portA
  | .b => .portB

/-- The port an originator is, if it is one. -/
def originatorPort : Originator → Option Port
  | .portA => some .a
  | .portB => some .b
  | _ => none

/-- The cause a TRIP's originator gives a lockout (R2): only the unbalance stages and the external
trip post TRIPs (3.2). -/
def lockoutCauseOf : Originator → LockoutCause
  | .unbalance => .unbalance
  | _ => .external

/-- The originator a lockout cause names (R11). -/
def causeOriginator : LockoutCause → Originator
  | .unbalance => .unbalance
  | .external => .external

/-! ## Time -/

/-- Time passes up to an instant; an instant already past leaves the count as it is (log entry 2). -/
def State.until (s : State) (t : Nat) : State :=
  { s with clock := { s.clock with now := max s.clock.now t } }

/-- `dt` microseconds pass. -/
def State.pass (s : State) (dt : Nat) : State :=
  { s with clock := { s.clock with now := s.clock.now + dt } }

/-- The instant at which a timer expires. -/
def Timer.due (t : Timer) : Nat := t.since + t.length * 1000

/-- A timer started now with a length in milliseconds. -/
def State.timer (s : State) (length : Nat) : Timer := { since := s.clock.now, length := length }

/-- Runs an event unless a reset is being held (R201): while it is held nothing of the controller
works. -/
def State.unlessHeld (s : State) (f : State → State) : State :=
  if s.clock.held.isSome then s else f s

/-! ## Operand fields -/

/-- A step field that names a single step: 1 to 8 (R182). -/
def stepField (b : Byte) : Option StepId :=
  if h : 1 ≤ b.toNat ∧ b.toNat ≤ 8 then some ⟨b.toNat - 1, by omega⟩ else none

/-- The value ALL of a step field (R182). -/
def allStepsField : Byte := 15

/-- A debouncer of a discrete input (R4, R6). -/
def State.debouncer (s : State) : DiscreteInput → Debouncer
  | .contact k .closedContact => (s.stepRec k).closedContact
  | .contact k .openContact => (s.stepRec k).openContact
  | .key => s.ss.keyIn
  | .externalTrip => s.ss.tripIn

/-- Replaces a debouncer. -/
def State.setDebouncer (s : State) (i : DiscreteInput) (d : Debouncer) : State :=
  match i with
  | .contact k .closedContact => s.modStep k (fun r => { r with closedContact := d })
  | .contact k .openContact => s.modStep k (fun r => { r with openContact := d })
  | .key => { s with ss := { s.ss with keyIn := d } }
  | .externalTrip => { s with ss := { s.ss with tripIn := d } }

/-- A zero-crossing detector (R26). -/
def State.detector (s : State) : Phase → Detector
  | .a => s.me.detA
  | .b => s.me.detB
  | .c => s.me.detC

/-- Replaces a zero-crossing detector. -/
def State.setDetector (s : State) (p : Phase) (d : Detector) : State :=
  match p with
  | .a => { s with me := { s.me with detA := d } }
  | .b => { s with me := { s.me with detB := d } }
  | .c => { s with me := { s.me with detC := d } }

/-- A harmonic monitor's running part (R120). -/
def State.monitor (s : State) (m : MonitorId) : Monitor := s.hmu.monitors[m]

/-- Replaces a monitor's running part. -/
def State.setMonitor (s : State) (m : MonitorId) (v : Monitor) : State :=
  { s with hmu := { s.hmu with monitors := s.hmu.monitors.set m v } }

end Sys2Proof.Machine
end

