-- ==== Sys2Proof/Machine/Flags.lean ====
section
/-!
DEFINITION. The flags and lines that follow the records: change flags (R190), close blocks (R61), the
notice lines (R191), the alarm output (R192), BKT and the sixteen coil outputs (R21).
-/
namespace Sys2Proof.Machine

/-- Both ports' change flags are set (R190). -/
def State.setFlags (s : State) : State :=
  { s with pi := { a := { s.pi.a with changeFlag := true }, b := { s.pi.b with changeFlag := true } } }

/-- Both change flags are set when the condition holds. -/
def State.setFlagsIf (s : State) (c : Bool) : State := if c then s.setFlags else s

/-- A monitor counts as active only while it is enabled (R120, R127). -/
def State.monitorActive (s : State) (m : MonitorId) : Bool :=
  s.set.settings.enabled m && (s.monitor m).active

/-- The harmonic close block: an enabled monitor with action BLOCK_CLOSE is active (R128). -/
def State.harmonicBlock (s : State) : Bool :=
  allMonitors.any (fun m => s.monitorActive m && decide (s.set.settings.action m = .blockClose))

/-- An enabled monitor with action DETUNE is active (R86). -/
def State.detuneActive (s : State) : Bool :=
  allMonitors.any (fun m => s.monitorActive m && decide (s.set.settings.action m = .detune))

/-- The latest frame's V_max stands at or above VOV (R61). -/
def State.overvoltageBlock (s : State) : Bool := decide (s.y .vov ≤ s.me.frame.vMax)

/-- BKT is asserted: its record is held (R151). -/
def State.bkt (s : State) : Bool := s.upu.backup.isSome

/-- The trip-record close block (R146). -/
def State.tripRecordBlock (s : State) : Bool :=
  s.upu.tripRecord.isSome && decide (s.y .tripblock ≠ 0)

/-- The line is taken as dead (R96). -/
def State.lineDead (s : State) : Bool := decide (s.avc.line = .dead)

/-- A close block holds (R61). -/
def State.closeBlock (s : State) : Bool :=
  s.lineDead || s.harmonicBlock || s.overvoltageBlock || s.bkt || s.tripRecordBlock

/-- The unbalance alarm flag of some step is set (R141). -/
def State.anyAlarm (s : State) : Bool := allSteps.any (fun k => (s.stepRec k).alarmFlag)

/-- A step is in FAILED or LOCKOUT (R192). -/
def State.anyFailedOrLocked (s : State) : Bool :=
  allSteps.any (fun k =>
    decide ((s.stepRec k).state = some .failed) || decide ((s.stepRec k).state = some .lockout))

/-- The conditions of the alarm relay (R192). -/
def State.alarmCondition (s : State) : Bool :=
  allMonitors.any s.monitorActive || s.anyAlarm || s.anyFailedOrLocked
    || decide (s.au.supervision ≠ .ok) || s.upu.tripRecord.isSome || s.bkt || s.me.frame.vtLoss
    || s.set.defaulted || !s.ss.closedWhileCharged.isEmpty || !s.ss.unexpectedOpen.isEmpty

/-- The alarm output ALM: de-asserted while a reset is held (R192, R201). -/
def State.alm (s : State) : Bool := s.clock.held.isNone && s.alarmCondition

/-- The backup-trip output pin: de-asserted while a reset is held (R151, R201). -/
def State.bktPin (s : State) : Bool := s.clock.held.isNone && s.bkt

/-- The notice line of a port (R191, R201). -/
def State.notice (s : State) (p : Port) : Bool :=
  s.clock.held.isNone && ((s.portState p).changeFlag || !(s.outcomes p).isEmpty)

/-- A coil output is energised (R21, R201): the sixteen outputs, read from the one pulse. -/
def State.coilOn (s : State) (k : StepId) (c : Coil) : Bool :=
  s.clock.held.isNone
    && (match s.ss.pulse with
        | none => false
        | some p => decide (p.step = k) && decide (p.coil = c))

end Sys2Proof.Machine
end

