-- ==== Sys2Proof/Machine/Ops.lean ====
section
/-!
DEFINITION. The operations the blocks share: posting outcomes and results, asserting BKT, settle
starts, the one event of a step's state change (R3), admission (R50 to R59), the dispatch examination
and dispatch (R60 to R62), completion (R65 to R68), failure (R69, R70) and the removals of R71 to R74.
-/
namespace Sys2Proof.Machine

/-! ## Outcome Store (R185 to R189) -/

/-- Shared slots in use (R186). -/
def State.sharedUsed (s : State) : Nat :=
  (s.os.a.countP (fun x => x.1 = .shared)) + (s.os.b.countP (fun x => x.1 = .shared))

/-- Reserve slots of a port in use (R186). -/
def State.reserveUsed (s : State) (p : Port) : Nat :=
  (s.outcomes p).countP (fun x => x.1 = .reserve)

/-- A port's lost-outcome counter rises, saturating at 255 (R189). -/
def State.addLost (s : State) (p : Port) (n : Nat) : State :=
  s.setPort p { s.portState p with lost := min 255 ((s.portState p).lost + n) }

/-- An Outcome Record is inserted for a port (R186): a shared slot if one is free, else a slot of its
reserve, else the slot of its own oldest record, which is lost. -/
def State.insertOutcome (s : State) (p : Port) (r : OutcomeRecord) : State :=
  if s.sharedUsed < 10 then s.setOutcomes p (s.outcomes p ++ [(.shared, r)])
  else if s.reserveUsed p < 3 then s.setOutcomes p (s.outcomes p ++ [(.reserve, r)])
  else
    match s.outcomes p with
    | [] => s
    | (slot, _) :: rest => (s.setOutcomes p (rest ++ [(slot, r)])).addLost p 1

/-- Every record of Port B is discarded and counted as lost (R188). -/
def State.discardB (s : State) : State :=
  (s.setOutcomes .b []).addLost .b s.os.b.length

/-- What an operation's record is about (R75). -/
def whatOf : OpKind → OutcomeWhat
  | .closeOp => .closeOp
  | .openOp => .openOp
  | .tripOp => .tripOp

/-- An Outcome Record about a step, as the records stand now (R75, R174, R155). The manual leaves open
whether a dispatch that follows at once belongs to the event whose end state the record carries (R75, R130,
R185): DESIGN CHOICE, the record is taken at the posting, before that dispatch (log entry 30). -/
def State.outcomeOf (s : State) (tag : Byte) (k : StepId) (what : OutcomeWhat) (r : OutcomeResult) :
    OutcomeRecord :=
  { tag := tag
    step := some k
    what := what
    result := r
    state := (s.stepRec k).state
    uptime := s.clock.uptime }

/-! ## Results of operations (R75, R114, R130, R148) -/

/-- A last_detune that names the step and still has no result (R130). -/
def awaitsResult (d : Option LastDetune) (k : StepId) : Bool :=
  match d with
  | some (.target k' _ _ none) => decide (k' = k)
  | _ => false

/-- A last_detune with its result written in (R130). -/
def withResult (d : Option LastDetune) (r : OutcomeResult) (st : Option StepState) :
    Option LastDetune :=
  match d with
  | some (.target k u f _) => some (.target k u f (some (r, st)))
  | d => d

/-- The result of a HARMONIC operation goes to the monitor whose last_detune names the step and has
no result; a result that matches none is discarded (R130). -/
def State.detuneResult (s : State) (k : StepId) (r : OutcomeResult) : State :=
  match allMonitors.find? (fun m => awaitsResult (s.monitor m).lastDetune k) with
  | none => s
  | some m =>
    s.setMonitor m
      { s.monitor m with
        lastDetune := withResult (s.monitor m).lastDetune r (s.stepRec k).state }

/-- A result is given to the originator of an operation (R75): an Outcome Record for a port, the AVC's
last result (R114), a monitor's last_detune (R130), the UPU's last trip result (R148). -/
def State.giveResult (s : State) (o : Originator) (tag : Option Byte) (k : StepId) (kind : OpKind)
    (fast : Bool) (r : OutcomeResult) : State :=
  match o with
  | .portA => s.insertOutcome .a (s.outcomeOf (tag.getD 0) k (whatOf kind) r)
  | .portB => s.insertOutcome .b (s.outcomeOf (tag.getD 0) k (whatOf kind) r)
  | .avc =>
    { s with
      avc :=
        { s.avc with
          lastResult := some
            { step := k
              kind := kind
              fast := fast
              result := r
              state := (s.stepRec k).state
              uptime := s.clock.uptime } } }
  | .harmonic => s.detuneResult k r
  | .unbalance | .external =>
    { s with
      upu :=
        { s.upu with
          lastTrip := some
            { step := k
              originator := o
              result := r
              state := (s.stepRec k).state
              uptime := s.clock.uptime } } }

/-- The result of an entry. -/
def State.entryResult (s : State) (e : Entry) (r : OutcomeResult) : State :=
  s.giveResult e.originator e.tag e.step e.kind e.fast r

/-- The result of a mark on the step's entry. -/
def State.markResult (s : State) (k : StepId) (m : Mark) (r : OutcomeResult) : State :=
  s.giveResult m.originator m.tag k m.kind m.fast r

/-! ## Coils and the backup trip (R21, R151) -/

/-- Every coil of the step is de-energised (R21). -/
def State.coilsOff (s : State) (k : StepId) : State :=
  match s.ss.pulse with
  | none => s
  | some p => if p.step = k then { s with ss := { s.ss with pulse := none } } else s

/-- A close coil that is energised is de-energised and its pulse has ended (R21, R152). -/
def State.closeCoilOff (s : State) : State :=
  match s.ss.pulse with
  | none => s
  | some p => if p.coil = .closeCoil then { s with ss := { s.ss with pulse := none } } else s

/-- BKT is asserted with its record, and close coils are de-energised; when it is asserted already
nothing changes (R151, R152). -/
def State.assertBkt (s : State) (k : StepId) (reason : BackupReason) (o : Originator) : State :=
  if s.bkt then s
  else
    ({ s with
        upu :=
          { s.upu with
            backup := some
              { step := k, reason := reason, originator := o, uptime := s.clock.uptime } } }
      |>.setFlags).closeCoilOff

/-! ## Settle period and capture abort (R80, R156) -/

/-- A running capture is aborted (R156). -/
def State.abortCapture (s : State) : State :=
  match s.upu.capture with
  | none => s
  | some c =>
    { s with upu := { s.upu with capture := none } }.insertOutcome .a
      (s.outcomeOf c.tag c.step .capture .captureAborted)

/-- A settle start (R80): settle_remaining takes TSETTLE, and a running capture is aborted. -/
def State.settleStart (s : State) : State :=
  { s with cu := { s.cu with settle := s.y .tsettle } }.abortCapture

/-! ## A step's change of state (R3) -/

/-- The state and the fields that follow it (R2, R12, R13, R79). -/
def State.writeState (s : State) (k : StepId) (new : StepState) (lc : Option LockoutCause)
    (fc : Option FailureCause) : State :=
  s.modStep k (fun r =>
    { r with
      state := some new
      lockoutCause := lc
      failureCause := fc
      closedWhileOut := decide (new = .out) && decide (r.position = some .atClosed)
      discharge := if new = .closed then 0 else r.discharge
      faultTimer :=
        if new = .ready ∨ new = .discharging ∨ new = .closed then r.faultTimer else none })

/-- The step leaves whichever rotation order it was in and joins the tail of the one that matches its
new state (R3, R7). -/
def State.rotate (s : State) (k : StepId) (new : StepState) : State :=
  { s with
    ss :=
      { s.ss with
        readyOrder :=
          s.ss.readyOrder.filter (· ≠ k) ++ (if new = .ready then [k] else [])
        closedOrder :=
          s.ss.closedOrder.filter (· ≠ k) ++ (if new = .closed then [k] else []) } }

/-- The step's entry leaves the list, its coils are de-energised (R48, R21). -/
def State.dropEntry (s : State) (k : StepId) : State :=
  { s with oq := { s.oq with entries := s.oq.entries.filter (fun e => e.step ≠ k) } }.coilsOff k

/-- A WAITING entry that no longer fits its step's state is removed with the result of R72. -/
def State.fitEntry (s : State) (k : StepId) : State :=
  match s.entryOf k with
  | none => s
  | some e =>
    if e.status = .inFlight then s
    else
      match e.kind with
      | .closeOp =>
        if (s.stepRec k).state = some .ready then s
        else (s.dropEntry k).entryResult e (.cancelled .stepChanged)
      | .openOp =>
        if (s.stepRec k).state = some .closed then s
        else
          (s.dropEntry k).entryResult e
            (if (s.stepRec k).state = some .failed then .switchFailed else .done)
      | .tripOp =>
        if (s.stepRec k).state = some .closed then s
        else if (s.stepRec k).state = some .failed then
          ((s.dropEntry k).entryResult e .switchFailed).assertBkt k .contactFault e.originator
        else (s.dropEntry k).entryResult e .done

/-- A port's selection ends with a result: its slot is emptied and an Outcome Record posted (R174). -/
def State.endSelection (s : State) (p : Port) (r : OutcomeResult) : State :=
  match s.slot p with
  | none => s
  | some sel =>
    (s.setSlot p none).insertOutcome p (s.outcomeOf sel.tag sel.step .select r)

/-- Whichever selection holds the step ends with the result. -/
def State.endSelectionOf (s : State) (k : StepId) (r : OutcomeResult) : State :=
  match s.selectedBy k with
  | none => s
  | some p => s.endSelection p r

/-- A selection whose step has left READY is cancelled (R3, R174). -/
def State.leaveReady (s : State) (k : StepId) : State :=
  if (s.stepRec k).state = some .ready then s
  else s.endSelectionOf k (.cancelled .stepChanged)

/-- A state change of another step voids the armed rise measurement (R88). -/
def State.voidOther (s : State) (k : StepId) : State :=
  match s.cu.armed with
  | none => s
  | some a =>
    if a.step = k ∨ a.voided.isSome then s
    else { s with cu := { s.cu with armed := some { a with voided := some .otherStepChanged } } }

/-- The unbalance stages of a step that leaves CLOSED start again from 0, and a capture of it is
aborted (R143, R156). -/
def State.leaveClosed (s : State) (k : StepId) (old : Option StepState) : State :=
  if old = some .closed ∧ (s.stepRec k).state ≠ some .closed then
    let t := (s.setFlagsIf (s.stepRec k).alarmFlag).modStep k (fun r =>
      { r with alarmCount := 0, tripCount := 0, alarmFlag := false })
    if (t.upu.capture.map (·.step)) = some k then t.abortCapture else t
  else s

/-- A change of a step's state as one event (R3), with the optional fields the new state carries. When a
captured step leaves CLOSED and its WAITING OPEN goes in the same event, the manual gives no order for the
OPEN's Outcome Record and CAPTURE_ABORTED (R72, R156): DESIGN CHOICE, the OPEN's record is inserted first
(log entry 34). -/
def State.enter (s : State) (k : StepId) (new : StepState) (lc : Option LockoutCause)
    (fc : Option FailureCause) : State :=
  (((((((s.writeState k new lc fc).rotate k new).setFlags).coilsOff k).fitEntry k).leaveReady
    k).voidOther k).leaveClosed k (s.stepRec k).state

/-! ## Switch event latches (R20) -/

/-- A step joins the closed-while-charged set (R20). -/
def State.latchCharged (s : State) (k : StepId) : State :=
  if k ∈ s.ss.closedWhileCharged then s
  else { s with ss := { s.ss with closedWhileCharged := s.ss.closedWhileCharged ++ [k] } }.setFlags

/-- A step joins the unexpected-open set (R20). -/
def State.latchOpen (s : State) (k : StepId) : State :=
  if k ∈ s.ss.unexpectedOpen then s
  else { s with ss := { s.ss with unexpectedOpen := s.ss.unexpectedOpen ++ [k] } }.setFlags

/-! ## Rise measurement (R87, R91) -/

/-- The last rise result is replaced and the measurement disarmed (R89, R91). -/
def State.recordRise (s : State) (a : Armed) (vPost : Option Nat) (after : Nat)
    (skipped : Option SkipCause) : State :=
  { s with
    cu :=
      { s.cu with
        armed := none
        lastRise := some
          { step := a.step
            kind := a.kind
            vPre := a.vPre
            vPost := vPost
            before := (s.stepRec a.step).learnedRise
            after := after
            skipped := skipped
            frame := s.me.frame.number } } }

/-- A completion that finds a measurement armed first ends it (R87). -/
def State.endArmed (s : State) : State :=
  match s.cu.armed with
  | none => s
  | some a =>
    s.recordRise a none (s.stepRec a.step).learnedRise (some (a.voided.getD .replaced))

/-- A measurement is armed at a completion (R87). -/
def State.arm (s : State) (k : StepId) (kind : OpKind) (target : StepState) (converted : Bool) :
    State :=
  { s with
    cu :=
      { s.cu with
        armed := some
          { step := k
            kind := kind
            target := target
            vPre := s.oq.vPre
            converted := converted
            voided := none } } }

/-! ## Admission (R50 to R59) -/

/-- A posting becomes a new entry at the tail of the list (R50). -/
def State.admitNew (s : State) (p : Posting) : State :=
  { s with
    oq :=
      { s.oq with
        entries := s.oq.entries ++
          [{ kind := p.kind
             step := p.step
             originator := p.originator
             tag := p.tag
             admittedAt := s.clock.uptime
             status := .waiting
             mark := none
             fast := p.fast }] } }

/-- The entry of a step is changed in place (R55, R57, R58, R62). -/
def State.modEntry (s : State) (k : StepId) (f : Entry → Entry) : State :=
  { s with
    oq := { s.oq with entries := s.oq.entries.map (fun e => if e.step = k then f e else e) } }

/-- The mark a posting makes (R49). -/
def markOf (p : Posting) : Mark :=
  { kind := p.kind, originator := p.originator, tag := p.tag, fast := p.fast }

/-- A posting sets the mark of its step's entry (R57, R58). -/
def State.setMark (s : State) (p : Posting) : State :=
  s.modEntry p.step (fun e => { e with mark := some (markOf p) })

/-- A CLOSE for a step with no pending entry: the checks of R51 in order. -/
def State.postClose (s : State) (p : Posting) : State × PostAnswer :=
  let r := s.stepRec p.step
  if r.state = some .discharging then (s, .cooling r.discharge)
  else if r.state ≠ some .ready then (s, .wrongState)
  else if s.inService p.step = false then (s, .wrongState)
  else if s.lineDead then (s, .deadLine)
  else if s.harmonicBlock then (s, .blocked .harmonic)
  else if s.bkt then (s, .blocked .backupTrip)
  else if s.tripRecordBlock then (s, .blocked .tripRecord)
  else (s.admitNew p, .accepted)

/-- An OPEN for a step with no pending entry (R52). -/
def State.postOpen (s : State) (p : Posting) : State × PostAnswer :=
  match (s.stepRec p.step).state with
  | some .closed => (s.admitNew p, .accepted)
  | some .ready | some .discharging => (s, .done)
  | _ => (s, .wrongState)

/-- A TRIP for a step with no pending entry (R53). -/
def State.postTrip (s : State) (p : Posting) : State × PostAnswer :=
  match (s.stepRec p.step).state with
  | some .closed => (s.admitNew p, .accepted)
  | some .ready | some .discharging =>
    (s.enter p.step .lockout (some (lockoutCauseOf p.originator)) none, .done)
  | some .lockout => (s, .done)
  | some .failed =>
    if (s.stepRec p.step).position = some .atOpen then (s, .wrongState)
    else (s.assertBkt p.step .failedStep p.originator, .wrongState)
  | _ => (s, .wrongState)

/-- A posting for a step with a WAITING CLOSE (R54). -/
def State.postOnWaitingClose (s : State) (e : Entry) (p : Posting) : State × PostAnswer :=
  match p.kind with
  | .openOp => ((s.dropEntry p.step).entryResult e (.cancelled .openedByRequest), .done)
  | .tripOp =>
    (((s.dropEntry p.step).enter p.step .lockout (some (lockoutCauseOf p.originator)) none).entryResult
      e (.cancelled .lockout), .done)
  | .closeOp => (s, .pending)

/-- A posting for a step with a WAITING OPEN (R55). The SUPERSEDED of an upgrade carries the step's state
before the upgraded TRIP is dispatched, CLOSED, even when that comes at once: DESIGN CHOICE (log entry
30). -/
def State.postOnWaitingOpen (s : State) (e : Entry) (p : Posting) : State × PostAnswer :=
  match p.kind with
  | .tripOp =>
    ((s.modEntry p.step (fun x =>
        { x with
          kind := .tripOp
          originator := p.originator
          tag := p.tag
          fast := p.fast })).entryResult e .superseded, .accepted)
  | .openOp => (s, .pending)
  | .closeOp => (s, .conflict)

/-- A posting for a step with a WAITING TRIP (R56). -/
def State.postOnWaitingTrip (s : State) (p : Posting) : State × PostAnswer :=
  match p.kind with
  | .tripOp => (s, .accepted)
  | .openOp => (s, .pending)
  | .closeOp => (s, .conflict)

/-- A posting for a step with an IN_FLIGHT CLOSE (R57). -/
def State.postOnFlightClose (s : State) (e : Entry) (p : Posting) : State × PostAnswer :=
  match p.kind with
  | .closeOp => (s, .pending)
  | .openOp =>
    match e.mark with
    | none => (s.setMark p, .accepted)
    | some _ => (s, .pending)
  | .tripOp =>
    match e.mark with
    | none => (s.setMark p, .accepted)
    | some m =>
      if m.kind = .tripOp then (s, .accepted)
      else ((s.setMark p).markResult p.step m .superseded, .accepted)

/-- A posting for a step with an IN_FLIGHT OPEN or TRIP (R58). -/
def State.postOnFlightOpen (s : State) (e : Entry) (p : Posting) : State × PostAnswer :=
  match p.kind with
  | .closeOp => (s, .conflict)
  | .openOp => (s, .pending)
  | .tripOp =>
    if e.kind = .openOp ∧ e.mark = none then (s.setMark p, .accepted) else (s, .accepted)

/-- A posting judged at the Operation Queue (R50), without the examination that ends the admission
event. -/
def State.post (s : State) (p : Posting) : State × PostAnswer :=
  if (s.stepRec p.step).state = none then (s, .wrongState)
  else
    match s.entryOf p.step with
    | none =>
      match p.kind with
      | .closeOp => s.postClose p
      | .openOp => s.postOpen p
      | .tripOp => s.postTrip p
    | some e =>
      match e.status, e.kind with
      | .waiting, .closeOp => s.postOnWaitingClose e p
      | .waiting, .openOp => s.postOnWaitingOpen e p
      | .waiting, .tripOp => s.postOnWaitingTrip p
      | .inFlight, .closeOp => s.postOnFlightClose e p
      | .inFlight, _ => s.postOnFlightOpen e p

/-- The OPEN posting of one step of an ALL expansion (R59). -/
def openPosting (o : Originator) (tag : Option Byte) (fast : Bool) (k : StepId) : Posting :=
  { kind := .openOp, step := k, originator := o, tag := tag, fast := fast }

/-- One posting of an ALL expansion is judged, and its answer joins the answers before it (R59). -/
def expandOne (o : Originator) (tag : Option Byte) (fast : Bool) (acc : State × List PostAnswer)
    (k : StepId) : State × List PostAnswer :=
  ((acc.1.post (openPosting o tag fast k)).1, acc.2 ++ [(acc.1.post (openPosting o tag fast k)).2])

/-- An OPEN for ALL is expanded in step-number order (R59): the state after it and the eight answers,
without the examination at its end. -/
def State.expandAll (s : State) (o : Originator) (tag : Option Byte) (fast : Bool) :
    State × List PostAnswer :=
  allSteps.foldl (expandOne o tag fast) (s, [])

/-- The number of ACCEPTED answers of an expansion (R59). -/
def acceptedCount (l : List PostAnswer) : Nat := l.countP (fun a => a = .accepted)

/-! ## Dispatch (R60 to R62) -/

/-- The oldest WAITING entry of a kind (R61). -/
def State.oldestWaiting (s : State) (kind : OpKind) : Option Entry :=
  s.oq.entries.find? (fun e => e.status = .waiting ∧ e.kind = kind)

/-- The entry the Switching Executor chooses (R61): a TRIP whatever holds, an OPEN when the yard has
settled, a CLOSE when it has settled and no close block holds. -/
def State.chooseEntry (s : State) : Option Entry :=
  match s.oldestWaiting .tripOp with
  | some e => some e
  | none =>
    if s.cu.settle ≠ 0 then none
    else
      match s.oldestWaiting .openOp with
      | some e => some e
      | none => if s.closeBlock then none else s.oldestWaiting .closeOp

/-- The coil an operation drives (R21). -/
def coilOf : OpKind → Coil
  | .closeOp => .closeCoil
  | _ => .openCoil

/-- The position an operation drives the switch to (R22). -/
def targetOf : OpKind → Position
  | .closeOp => .atClosed
  | _ => .atOpen

/-- The Switching Executor asks for a coil pulse (R21, R22): a close pulse is refused while
discharge_remaining is non-zero or BKT is asserted, and a pulse whose target is reached already ends
at once; in both cases every coil of the step is off. -/
def State.askPulse (s : State) (k : StepId) (kind : OpKind) : State :=
  if kind = .closeOp ∧ ((s.stepRec k).discharge ≠ 0 ∨ s.bkt = true) then s.coilsOff k
  else if (s.stepRec k).position = some (targetOf kind) then s.coilsOff k
  else
    { s with
      ss := { s.ss with
        pulse := some { step := k, coil := coilOf kind, timer := s.timer (s.y .tpulse) } } }

/-- The operate timer starts at the TOP in force (R62, R64). -/
def State.startOperate (s : State) : State :=
  { s with oq := { s.oq with operate := some (s.timer (s.y .top)) } }

/-- The entry's status becomes IN_FLIGHT; it keeps its place (R62). -/
def State.takeEntry (s : State) (e : Entry) : State :=
  s.modEntry e.step (fun x => { x with status := .inFlight })

/-- The state a dispatched step enters (R62). -/
def movingState (k : OpKind) : StepState := if k = .closeOp then .closing else .opening

/-- V_pre is recorded and the retry count set to 0 (R62). -/
def State.startFlight (s : State) : State :=
  { s with oq := { s.oq with vPre := s.me.lastValidAvg, retryCount := 0 } }

/-- Dispatch of an entry (R62). -/
def State.dispatchEntry (s : State) (e : Entry) : State :=
  ((((s.takeEntry e).enter e.step (movingState e.kind) none none).startFlight).askPulse e.step
    e.kind).startOperate

/-- A dispatch examination (R60): with nothing in flight, the entry R61 chooses is dispatched. -/
def State.examine (s : State) : State :=
  match s.inFlight with
  | some _ => s
  | none =>
    match s.chooseEntry with
    | none => s
    | some e => s.dispatchEntry e

/-- An examination when an entry has left the list since `before` (R60). -/
def State.examineIfLeft (s : State) (before : State) : State :=
  if s.oq.entries.length = before.oq.entries.length then s else s.examine

/-- An admission event: the posting is judged, and dispatch is examined at its end (R50, R60). -/
def State.admitOne (s : State) (p : Posting) : State × PostAnswer :=
  ((s.post p).1.examine, (s.post p).2)

/-- An OPEN ALL as one admission event (R59, R60). -/
def State.admitAll (s : State) (o : Originator) (tag : Option Byte) (fast : Bool) :
    State × List PostAnswer :=
  ((s.expandAll o tag fast).1.examine, (s.expandAll o tag fast).2)

/-! ## Completion (R65 to R68) -/

/-- The marked close becomes a WAITING entry at the head of the list (R66). -/
def State.convert (s : State) (k : StepId) (m : Mark) : State :=
  { s with
    oq :=
      { s.oq with
        entries :=
          { kind := m.kind
            step := k
            originator := m.originator
            tag := m.tag
            admittedAt := s.clock.uptime
            status := .waiting
            mark := none
            fast := m.fast } :: s.oq.entries.filter (fun e => e.step ≠ k) } }.coilsOff k

/-- The close is counted and its time appended to close_history (R65, R83). -/
def State.countClose (s : State) (k : StepId) : State :=
  s.modStep k (fun r =>
    { r with
      closeCount := min 999999 (r.closeCount + 1)
      closeHistory :=
        (if r.closeHistory.length < 8 then r.closeHistory else r.closeHistory.drop 1)
          ++ [s.clock.uptime] })

/-- The AU's part of a completion: manual_hold is set by a port's OPEN and cleared by a port's CLOSE
(R168). -/
def State.manualHoldAfter (s : State) (e : Entry) : State :=
  match originatorPort e.originator, e.kind with
  | some _, .openOp => s.modStep e.step (fun r => { r with manualHold := true })
  | some _, .closeOp => s.modStep e.step (fun r => { r with manualHold := false })
  | _, _ => s

/-- A completed OPEN of the HMU loads the step's harmonic hold (R68, R85). -/
def State.harmonicHoldAfter (s : State) (e : Entry) : State :=
  if e.kind = .openOp ∧ e.originator = .harmonic then
    s.modStep e.step (fun r => { r with harmonicHold := s.y .thhold })
  else s

/-- The operate timer stops. -/
def State.stopOperate (s : State) : State := { s with oq := { s.oq with operate := none } }

/-- A CLOSE completes (R65, R66, R68). The DONE of a converted CLOSE carries CLOSED, the state before a
converted TRIP is dispatched: DESIGN CHOICE (log entry 30). -/
def State.completeClose (s : State) (e : Entry) : State :=
  let t := (((s.endArmed.stopOperate).enter e.step .closed none none).countClose e.step).entryResult
    e .done
  let u := match e.mark with
    | none => t.dropEntry e.step
    | some m => t.convert e.step m
  (((u.settleStart).arm e.step e.kind .closed e.mark.isSome).manualHoldAfter e).examine

/-- The TRIP mark of an entry, if it carries one. -/
def tripMark (e : Entry) : Option Mark :=
  match e.mark with
  | some m => if m.kind = .tripOp then some m else none
  | none => none

/-- The lockout cause an OPEN or TRIP ends with, none for DISCHARGING (R67). -/
def openEndCause (e : Entry) : Option LockoutCause :=
  if e.kind = .tripOp then some (lockoutCauseOf e.originator)
  else (tripMark e).map (fun m => lockoutCauseOf m.originator)

/-- The state an OPEN or TRIP ends in (R67). -/
def openEndState (e : Entry) : StepState :=
  if (openEndCause e).isSome then .lockout else .discharging

/-- discharge_remaining takes TDIS (R77). -/
def State.loadDischarge (s : State) (k : StepId) : State :=
  s.modStep k (fun r => { r with discharge := s.y .tdis })

/-- An optional mark receives a result. -/
def State.markResultOpt (s : State) (k : StepId) (m : Option Mark) (r : OutcomeResult) : State :=
  match m with
  | none => s
  | some m => s.markResult k m r

/-- An OPEN or TRIP completes (R67, R68). -/
def State.completeOpen (s : State) (e : Entry) : State :=
  let t := ((((s.endArmed.stopOperate).dropEntry e.step).loadDischarge e.step).enter e.step
    (openEndState e) (openEndCause e) none).entryResult e .done
  let u := (t.markResultOpt e.step (tripMark e) .done).settleStart
  (((u.arm e.step e.kind (openEndState e) false).harmonicHoldAfter e).manualHoldAfter e).examine

/-- A position change completes the operation in flight when it reaches the target (R63). -/
def State.completeIfTarget (s : State) (k : StepId) : State :=
  match s.inFlight with
  | none => s
  | some e =>
    if e.step = k ∧ (s.stepRec k).position = some (targetOf e.kind) then
      (if e.kind = .closeOp then s.completeClose e else s.completeOpen e)
    else s

/-! ## Failure (R64, R69, R70) -/

/-- The operate timer of a CLOSE ends it (R69). -/
def State.failClose (s : State) (e : Entry) : State :=
  let t := (((s.stopOperate.dropEntry e.step).enter e.step .failed none (some .closeTimeout)).entryResult
    e .switchFailed).markResultOpt e.step e.mark .switchFailed
  let u := match tripMark e with
    | none => t
    | some m => t.assertBkt e.step .closeTimeout m.originator
  u.settleStart.examine

/-- The open is retried (R64). -/
def State.retryOpen (s : State) (e : Entry) : State :=
  (({ s with oq := { s.oq with retryCount := s.oq.retryCount + 1 } }.askPulse e.step
    e.kind).startOperate).settleStart

/-- The originator of the TRIP an ended OPEN or TRIP carried, if any (R70). -/
def tripOriginator (e : Entry) : Option Originator :=
  if e.kind = .tripOp then some e.originator else (tripMark e).map (·.originator)

/-- An OPEN or TRIP ends with no retry left (R70). -/
def State.failOpen (s : State) (e : Entry) : State :=
  let t := (((s.stopOperate.dropEntry e.step).enter e.step .failed none (some .openTimeout)).entryResult
    e .switchFailed).markResultOpt e.step (tripMark e) .switchFailed
  let u := match tripOriginator e with
    | none => t
    | some o => t.assertBkt e.step .openTimeout o
  u.settleStart.examine

/-! ## Waiting closes that leave the queue (R71, R73, R74) -/

/-- Each listed entry is removed from the queue with the result, one after another in list order. -/
def State.removeEach (s : State) (l : List Entry) (r : OutcomeResult) : State :=
  l.foldl (fun t e => (t.dropEntry e.step).entryResult e r) s

/-- Stale removal at an elapsed second (R71). -/
def State.removeStale (s : State) : State :=
  s.removeEach
    (s.oq.entries.filter (fun e =>
      e.status = .waiting ∧ e.kind = .closeOp ∧ s.y .tstale < age s.clock.uptime e.admittedAt))
    .stale

/-- The AU has a port's WAITING CLOSE entries removed (R74). -/
def State.removeCloses (s : State) (p : Port) : State :=
  s.removeEach
    (s.oq.entries.filter (fun e =>
      e.status = .waiting ∧ e.kind = .closeOp ∧ e.originator = portOriginator p))
    (.cancelled .authorityLost)

/-- The WAITING CLOSE of a step that goes out of service is removed (R73). -/
def State.removeCloseOf (s : State) (k : StepId) : State :=
  s.removeEach
    (s.oq.entries.filter (fun e => e.status = .waiting ∧ e.kind = .closeOp ∧ e.step = k))
    (.cancelled .stepChanged)

end Sys2Proof.Machine
end

