-- ==== Sys2Proof/Machine/Authority.lean ====
section
/-!
DEFINITION. The Authority Unit: key values (R160), dispatch supervision (R164 to R167), AUTO (R162,
R163), selections (R170, R173) and their ends.
-/
namespace Sys2Proof.Machine

/-- Both selections are cancelled with AUTHORITY_LOST (R162). -/
def State.cancelSelections (s : State) : State :=
  (s.endSelection .a (.cancelled .authorityLost)).endSelection .b (.cancelled .authorityLost)

/-- AUTO takes a value. -/
def State.setAuto (s : State) (b : Bool) : State := { s with au := { s.au with auto := b } }

/-- AUTO is turned on or forced on: every selection is cancelled (R162, R163). -/
def State.autoOn (s : State) : State := (s.setAuto true).cancelSelections

/-- The supervision state and its timer take values; both change flags are set when the state changes
(R190). -/
def State.setSupervision (s : State) (v : Supervision) (remaining : Option Nat) : State :=
  ({ s with au := { s.au with supervision := v, remaining := remaining } }).setFlagsIf
    (decide (s.au.supervision ≠ v))

/-! ## The key (R160) -/

/-- The key takes a value. -/
def State.setKey (s : State) (k : KeyPos) : State := { s with au := { s.au with key := some k } }

/-- The supervision that goes with a key position: stopped and OK at LOCAL, running at REMOTE (R160). -/
def State.superviseKey (s : State) (k : KeyPos) : State :=
  match k with
  | .loc => s.setSupervision .ok none
  | .remote => s.setSupervision s.au.supervision (some (s.y .tsup))

/-- The previous holder's selection and WAITING CLOSEs are cancelled (R160 part 2). -/
def State.dropHolder (s : State) : State :=
  match s.holder with
  | none => s
  | some p => ((s.endSelection p (.cancelled .authorityLost)).removeCloses p)

/-- The first key value after reset: recorded, and at REMOTE the timer is started (R160). -/
def State.firstKey (s : State) (k : KeyPos) : State :=
  match k with
  | .loc => s.setKey .loc
  | .remote => ({ s with au := { s.au with remaining := some (s.y .tsup) } }).setKey .remote

/-- A key change (R160), with the examination that its removals call for. -/
def State.changeKey (s : State) (k : KeyPos) : State :=
  (((s.dropHolder).setKey k).superviseKey k).examineIfLeft s

/-- The AU takes a value from the key debouncer (R160). -/
def State.takeKey (s : State) (k : KeyPos) : State :=
  match s.au.key with
  | none => s.firstKey k
  | some _ => s.changeKey k

/-- The key position a debounced level means: true is REMOTE. -/
def keyOf (level : Bool) : KeyPos := if level then .remote else .loc

/-! ## Supervision (R164 to R167) -/

/-- A good frame from Port B while the key is REMOTE restarts the timer and returns supervision to OK
(R164, R167). Frames on Port A do not touch supervision. -/
def State.superviseGood (s : State) (p : Port) : State :=
  match p, s.au.key with
  | .b, some .remote => s.setSupervision .ok (some (s.y .tsup))
  | _, _ => s

/-- The entry into LOST (R166), its parts in order, with the examination that the removals call for. -/
def State.enterLost (s : State) : State :=
  ((((((s.setSupervision .lost none).endSelection .b (.cancelled .authorityLost)).removeCloses
    .b).autoOn).discardB).setFlags).examineIfLeft s

/-- An expiry of the supervision timer (R165, R166). -/
def State.superviseExpiry (s : State) : State :=
  match s.au.supervision with
  | .ok => s.setSupervision .late (some (s.y .tsup))
  | .late => s.enterLost
  | .lost => s.setSupervision .lost none

/-- The supervision timer's part of an elapsed second (R164). -/
def State.superviseSecond (s : State) : State :=
  match s.au.remaining with
  | none => s
  | some n =>
    if n ≤ 1 then s.superviseExpiry
    else { s with au := { s.au with remaining := some (n - 1) } }

/-! ## Selections -/

/-- A selection whose expiry time is reached ends (R173). -/
def State.expireSelection (s : State) (p : Port) : State :=
  match s.slot p with
  | none => s
  | some sel => if sel.expiry ≤ s.clock.uptime then s.endSelection p .selectExpired else s

/-- The selections' part of an elapsed second (R173). -/
def State.selectionSecond (s : State) : State := (s.expireSelection .a).expireSelection .b

/-- A port's slot holds this step (R171, R172). -/
def State.holdsSelection (s : State) (p : Port) (k : StepId) : Bool :=
  decide ((s.slot p).map (·.step) = some k)

/-- manual_hold of a step becomes no (R169). -/
def State.releaseOne (s : State) (k : StepId) : State :=
  s.modStep k (fun r => { r with manualHold := false })

end Sys2Proof.Machine
end

