-- ==== Sys2Proof/Machine/Contacts.lean ====
section
/-!
DEFINITION. The Step Supervisor's inputs: debouncing (R4, R6), the position (R5), what a position
change does in each state (R8 to R13), and the external lockout of open steps (R19).
-/
namespace Sys2Proof.Machine

/-- The position two accepted contact values give (R5): absent until both exist. -/
def positionOf (closedMade openMade : Option Bool) : Option Position :=
  match closedMade, openMade with
  | some true, some false => some .atClosed
  | some false, some true => some .atOpen
  | some false, some false => some .travel
  | some true, some true => some .invalid
  | _, _ => none

/-- The contact-fault timer at a position change (R13): it starts from zero in READY, DISCHARGING and
CLOSED at a change into TRAVEL or INVALID, and stops at OPEN and CLOSED. -/
def State.faultTimerAt (s : State) (k : StepId) (p : Position) : Option Timer :=
  match p, (s.stepRec k).state with
  | .travel, some .ready | .travel, some .discharging | .travel, some .closed
  | .invalid, some .ready | .invalid, some .discharging | .invalid, some .closed =>
    some (s.timer (s.y .top))
  | _, _ => none

/-- The new position is recorded (R8, R12) and the contact-fault timer follows it (R13). -/
def State.recordPosition (s : State) (k : StepId) (p : Position) : State :=
  s.modStep k (fun r => { r with position := some p, faultTimer := s.faultTimerAt k p })

/-- The TRIP waiting for a step, if there is one. -/
def State.waitingTrip (s : State) (k : StepId) : Option Entry :=
  s.oq.entries.find? (fun e => e.step = k ∧ e.status = .waiting ∧ e.kind = .tripOp)

/-- A CLOSED step's position has become OPEN: unexpected open (R9). -/
def State.unexpectedOpening (s : State) (k : StepId) : State :=
  let t := s.loadDischarge k
  let u := match s.waitingTrip k with
    | some e => t.enter k .lockout (some (lockoutCauseOf e.originator)) none
    | none => t.enter k .discharging none none
  (u.latchOpen k).examineIfLeft s

/-- A READY or DISCHARGING step's position has become CLOSED: unexpected close (R10). -/
def State.unexpectedClosing (s : State) (k : StepId) : State :=
  let t := s.enter k .closed none none
  (if (s.stepRec k).state = some .discharging then t.latchCharged k else t).examineIfLeft s

/-- A LOCKOUT step's position has become CLOSED: re-trip (R11). -/
def State.lockoutClosing (s : State) (k : StepId) : State :=
  let t := s.enter k .closed none none
  let u := if (s.stepRec k).discharge ≠ 0 then t.latchCharged k else t
  match (s.stepRec k).lockoutCause with
  | none => u
  | some c =>
    (u.admitOne
      { kind := .tripOp
        step := k
        originator := causeOriginator c
        tag := none
        fast := false }).1

/-- An OUT step's position has changed (R12). -/
def State.outMoved (s : State) (k : StepId) (p : Position) : State :=
  match p with
  | .atClosed => s.modStep k (fun r => { r with closedWhileOut := true })
  | .atOpen =>
    if (s.stepRec k).closedWhileOut then
      (s.loadDischarge k).modStep k (fun r => { r with closedWhileOut := false })
    else s
  | _ => s

/-- What a position change does in each state (1.5). -/
def State.positionRules (s : State) (k : StepId) (p : Position) : State :=
  match (s.stepRec k).state, p with
  | some .closed, .atOpen => s.unexpectedOpening k
  | some .ready, .atClosed => s.unexpectedClosing k
  | some .discharging, .atClosed => s.unexpectedClosing k
  | some .lockout, .atClosed => s.lockoutClosing k
  | some .out, _ => s.outMoved k p
  | some .closing, _ => s.completeIfTarget k
  | some .opening, _ => s.completeIfTarget k
  | _, _ => s

/-- The position is derived afresh; a value different from the previous one is a position change
(R5). -/
def State.derivePosition (s : State) (k : StepId) : State :=
  match positionOf (s.stepRec k).closedContact.accepted (s.stepRec k).openContact.accepted with
  | none => s
  | some p =>
    if (s.stepRec k).position = some p then s
    else (s.recordPosition k p).positionRules k p

/-- Whether a debouncer has a raw value to accept (R4). -/
def Debouncer.toAccept (d : Debouncer) : Bool := decide (d.accepted ≠ some d.raw)

/-- The instant a debouncer's window ends, by the DEBOUNCE in force (R4). -/
def State.windowEnd (s : State) (d : Debouncer) : Nat := d.since + s.y .debounce * 1000

/-- The raw value of an input becomes the accepted one (R4). -/
def State.takeRaw (s : State) (i : DiscreteInput) : State :=
  s.setDebouncer i { s.debouncer i with accepted := some (s.debouncer i).raw }

/-- The raw value of an input is accepted once it has held for DEBOUNCE (R4, R6). -/
def State.accept (s : State) (i : DiscreteInput) : State :=
  (s.until (s.windowEnd (s.debouncer i))).takeRaw i

/-- The instant at which a debouncer's raw value is accepted: the end of its window, or the latest frame
arrival when the DEBOUNCE applied there had already passed (R4). -/
def State.acceptInstant (s : State) (d : Debouncer) : Nat := max s.me.lastArrival (s.windowEnd d)

/-- The other contact of the same step. -/
def otherContact : Contact → Contact
  | .closedContact => .openContact
  | .openContact => .closedContact

/-- The other contact of the step is accepted at the same instant as this one (R5). -/
def State.acceptedTogether (s : State) (k : StepId) (c : Contact) : Bool :=
  (s.debouncer (.contact k (otherContact c))).toAccept
    && decide (s.acceptInstant (s.debouncer (.contact k (otherContact c)))
        = s.acceptInstant (s.debouncer (.contact k c)))

/-- A contact's raw value is accepted, and with it that of the step's other contact when both fall at one
instant (R4, R5). -/
def State.acceptPair (s : State) (k : StepId) (c : Contact) : State :=
  if s.acceptedTogether k c then (s.accept (.contact k c)).takeRaw (.contact k (otherContact c))
  else s.accept (.contact k c)

/-- A contact is accepted and the position derived (R4, R5). Of two contacts of the step accepted at one
instant the transitions act on the position entered last: the intermediate one, which lasts no time, is not
acted on (R5, log entry 32). -/
def State.acceptContact (s : State) (k : StepId) (c : Contact) : State :=
  if (s.debouncer (.contact k c)).toAccept then (s.acceptPair k c).derivePosition k else s

/-- The external trip edge locks out every READY or DISCHARGING step, in step-number order (R19). -/
def State.lockOutOpen (s : State) : State :=
  allSteps.foldl
    (fun t k =>
      if (t.stepRec k).state = some .ready ∨ (t.stepRec k).state = some .discharging then
        t.enter k .lockout (some .external) none
      else t) s

/-- A step's contact-fault timer reaches its limit (R13): FAILED, with the waiting entry dealt with by
the Operation Queue (R72). -/
def State.contactFault (s : State) (k : StepId) (t : Timer) : State :=
  ((s.until t.due).enter k .failed none (some .contactInvalid)).examineIfLeft s

end Sys2Proof.Machine
end

