-- ==== Sys2Proof/Machine/Cooldown.lean ====
section
/-!
DEFINITION. The Cooldown Unit: the countdowns of an elapsed second (R78, R83, R86), the close-rate
window (R84), the settle count (R81) and the rise measurement (R89, R90).
-/
namespace Sys2Proof.Machine

/-! ## Seconds -/

/-- discharge_remaining counts down in DISCHARGING, LOCKOUT and OUT (R78). -/
def State.countDischarge (s : State) (k : StepId) : State :=
  match (s.stepRec k).state with
  | some .discharging | some .lockout | some .out =>
    s.modStep k (fun r => { r with discharge := r.discharge - 1 })
  | _ => s

/-- A DISCHARGING step whose discharge_remaining is 0 enters READY (R14). -/
def State.endDischarge (s : State) (k : StepId) : State :=
  if (s.stepRec k).state = some .discharging ∧ (s.stepRec k).discharge = 0 then
    s.enter k .ready none none
  else s

/-- harmonic_hold_remaining counts down while no DETUNE monitor is active (R86). -/
def State.countHold (s : State) (k : StepId) : State :=
  if s.detuneActive then s
  else s.modStep k (fun r => { r with harmonicHold := r.harmonicHold - 1 })

/-- The rate window in seconds (R83). -/
def State.rateWindow (s : State) : Nat := s.y .whours * 3600

/-- Entries older than the window leave the head of a close_history (R83). -/
def ageHistory (now window : Nat) (l : List Nat) : List Nat :=
  l.dropWhile (fun t => window < age now t)

/-- close_history is aged (R83). -/
def State.ageStep (s : State) (k : StepId) : State :=
  s.modStep k (fun r =>
    { r with closeHistory := ageHistory s.clock.uptime s.rateWindow r.closeHistory })

/-- The Cooldown Unit's part of an elapsed second, step by step in step-number order (R78, R83, R86);
discharge ends follow the counts, so that steps that reach 0 together join in step order (R14). -/
def State.cooldownSecond (s : State) : State :=
  allSteps.foldl (fun t k => t.endDischarge k)
    (allSteps.foldl (fun t k => ((t.countDischarge k).countHold k).ageStep k) s)

/-! ## Close-rate window -/

/-- The Cooldown Unit's answer for a step: permitted by the rate window (R84). -/
def State.ratePermitted (s : State) (k : StepId) : Bool :=
  decide ((s.stepRec k).closeHistory.length < s.y .nops)

/-- The rate release time of a rate-limited step (R84); none when it is permitted. -/
def State.rateRelease (s : State) (k : StepId) : Option Nat :=
  if s.ratePermitted k then none
  else
    ((s.stepRec k).closeHistory[(s.stepRec k).closeHistory.length - s.y .nops]?).map
      (fun t => (t + s.rateWindow + 1) % wrap32)

/-! ## Settle end and rise measurement -/

/-- V_post of the latest frame (R89): absent when it is flagged NO_REF or VT_LOSS. -/
def State.vPost (s : State) : Option Nat :=
  if s.me.frame.noRef ∨ s.me.frame.vtLoss then none else some s.me.frame.vAvg

/-- |a − b| of two voltages. -/
def dist (a b : Nat) : Nat := (a - b) + (b - a)

/-- The cause that skips a measurement, by the first condition of R89 that holds; none for APPLIED. -/
def State.skipCause (s : State) (a : Armed) : Option SkipCause :=
  if a.converted then some .converted
  else if a.voided.isSome then a.voided
  else if (s.stepRec a.step).state ≠ some a.target
      ∨ (s.stepRec a.step).position ≠ some (targetOf a.kind) then some .stepMoved
  else
    match a.vPre, s.vPost with
    | none, _ => some .noVPre
    | some _, none => some .noVPost
    | some p, some q => if 200 < dist q p then some .deltaLimit else none

/-- The update of R90: a quarter of the way toward Δ, truncated toward zero, clamped to 0..200. -/
def riseUpdate (r delta : Nat) : Nat :=
  (max 0 (min 200 ((r : Int) + ((delta : Int) - (r : Int)).tdiv 4))).toNat

/-- The learned rise after a measurement (R90). -/
def State.riseAfter (s : State) (a : Armed) : Nat :=
  match s.skipCause a, a.vPre, s.vPost with
  | none, some p, some q => riseUpdate (s.stepRec a.step).learnedRise (dist q p)
  | _, _, _ => (s.stepRec a.step).learnedRise

/-- The armed measurement is taken at the settle end (R89, R90, R91). -/
def State.takeMeasurement (s : State) : State :=
  match s.cu.armed with
  | none => s
  | some a =>
    (s.recordRise a s.vPost (s.riseAfter a) (s.skipCause a)).modStep a.step
      (fun r => { r with learnedRise := s.riseAfter a })

/-- The Cooldown Unit takes a frame (R81): the count goes down by one, and the arrival at which it goes
from 1 to 0 is the settle end. -/
def State.cuFrame (s : State) : State :=
  if s.cu.settle = 0 then s
  else if s.cu.settle = 1 then
    { s with cu := { s.cu with settle := 0 } }.takeMeasurement
  else { s with cu := { s.cu with settle := s.cu.settle - 1 } }

end Sys2Proof.Machine
end

