-- ==== Sys2Proof/Machine/Avc.lean ====
section
/-!
DEFINITION. The Automatic Voltage Control: the three stages of a frame (R95), the line state (R96 to
R98), fast overvoltage (R111, R112), the integrators (R100 to R104) and the attempts (R105 to R110).
-/
namespace Sys2Proof.Machine

/-- The last decision record is replaced (R115). -/
def State.setDecision (s : State) (d : Decision) : State :=
  { s with avc := { s.avc with lastDecision := some { decision := d, frame := s.me.frame.number } } }

/-! ## Line state -/

/-- The latest frame is a dead frame (R96). -/
def State.deadFrame (s : State) : Bool :=
  s.me.frame.noRef || decide (s.me.frame.vMax < s.y .vdead)

/-- The latest frame is a live frame (R98). -/
def State.liveFrame (s : State) : Bool :=
  !s.me.frame.noRef && decide (s.y .vdead + 50 ≤ s.me.frame.vMax)

/-- run_count takes a value. -/
def State.setRun (s : State) (n : Nat) : State := { s with avc := { s.avc with runCount := n } }

/-- line_state changes, run_count becomes 0 and both change flags are set (R97, R98); dispatch is
examined at the start and the end of the DEAD close block. -/
def State.setLine (s : State) (l : LineState) : State :=
  (({ s with avc := { s.avc with line := l, runCount := 0 } }).setFlags).examine

/-- The dead-line OPEN ALL and its two records (R97, R116). -/
def State.deadOpenAll (s : State) : State :=
  let r := s.admitAll .avc none true
  ({ r.1 with
      avc :=
        { r.1.avc with
          lastOpenAll := some
            { frame := r.1.me.frame.number
              uptime := r.1.clock.uptime
              count := acceptedCount r.2
              answers := r.2 } } }).setDecision (.openAllPosted (acceptedCount r.2))

/-- The entry into DEAD (R97). -/
def State.enterDead (s : State) : State := (s.setLine .dead).deadOpenAll

/-- Stage 1 of a frame: the line state (R96, R98). -/
def State.lineStage (s : State) : State :=
  match s.avc.line with
  | .live =>
    if s.deadFrame then
      if s.y .ndead ≤ s.avc.runCount + 1 then s.enterDead else s.setRun (s.avc.runCount + 1)
    else s.setRun 0
  | .dead =>
    if s.liveFrame then
      if s.y .ndead ≤ s.avc.runCount + 1 then s.setLine .live else s.setRun (s.avc.runCount + 1)
    else s.setRun 0

/-! ## Fast overvoltage -/

/-- OV_cnt takes a value. -/
def State.setOv (s : State) (n : Nat) : State := { s with avc := { s.avc with ovCnt := n } }

/-- OV_cnt after its update by the latest frame (R111). -/
def State.ovAfter (s : State) : Nat :=
  if s.y .oven = 0 then 0
  else if s.me.frame.settling then s.avc.ovCnt
  else if s.y .vov ≤ s.me.frame.vMax then s.avc.ovCnt + 1
  else 0

/-- The latest frame raises OV_cnt: the third row of R111. -/
def State.ovRises (s : State) : Bool :=
  decide (s.y .oven ≠ 0) && !s.me.frame.settling && decide (s.y .vov ≤ s.me.frame.vMax)

/-- A fast open is due: the latest frame has raised OV_cnt, to NOV or more. A frame that holds the count,
as one flagged SETTLING does, brings none, however low NOV has been set (R82, R112, R118). -/
def State.fastDue (s : State) : Bool := s.ovRises && decide (s.y .nov ≤ s.ovAfter)

/-- The candidate of an open (R109, R112): the first step of the Closed Order with no pending entry. -/
def State.openCandidate (s : State) : Option StepId :=
  s.ss.closedOrder.find? (fun k => (s.entryOf k).isNone)

/-- An AVC posting (R108, R110, R112). -/
def avcPosting (kind : OpKind) (k : StepId) (fast : Bool) : Posting :=
  { kind := kind, step := k, originator := .avc, tag := none, fast := fast }

/-- A fast open (R112). -/
def State.fastOpening (s : State) : State :=
  match s.openCandidate with
  | none => (s.setOv 0).setDecision .fastNoCandidate
  | some k => (((s.setOv 0).admitOne (avcPosting .openOp k true)).1).setDecision (.fastPosted k)

/-- Stage 2 of a frame (R111, R112, R118). -/
def State.fastStage (s : State) : State :=
  if s.fastDue then s.fastOpening else s.setOv s.ovAfter

/-- Stage 2 has posted a fast open at this frame (R109). -/
def State.fastPosts (s : State) : Bool := s.fastDue && s.openCandidate.isSome

/-! ## Integrators -/

/-- The low edge of the band (R101). -/
def State.lowEdge (s : State) : Nat := s.y .vset - s.y .bw

/-- The high edge of the band (R101). -/
def State.highEdge (s : State) : Nat := s.y .vset + s.y .bw

/-- D_low after an active frame (R102). -/
def State.dLowAfter (s : State) : Nat :=
  if s.me.frame.vAvg < s.lowEdge then min 65535 (s.avc.dLow + (s.lowEdge - s.me.frame.vAvg))
  else if s.me.frame.vAvg < s.lowEdge + s.y .hys then s.avc.dLow
  else 0

/-- D_high after an active frame (R103). -/
def State.dHighAfter (s : State) : Nat :=
  if s.highEdge < s.me.frame.vAvg then min 65535 (s.avc.dHigh + (s.me.frame.vAvg - s.highEdge))
  else if s.highEdge < s.me.frame.vAvg + s.y .hys then s.avc.dHigh
  else 0

/-- The integrators take values. -/
def State.setD (s : State) (lo hi : Nat) : State :=
  { s with avc := { s.avc with dLow := lo, dHigh := hi } }

/-- A step meets every condition of a close candidate (R105). -/
def State.closeCandidateOk (s : State) (k : StepId) : Bool :=
  s.inService k && !(s.stepRec k).manualHold && decide ((s.stepRec k).harmonicHold = 0)
    && s.ratePermitted k && (s.entryOf k).isNone && (s.selectedBy k).isNone

/-- The candidate of a close attempt (R105). -/
def State.closeCandidate (s : State) : Option StepId :=
  s.ss.readyOrder.find? s.closeCandidateOk

/-- The close block that ends a close attempt BLOCKED, in the order of R107. -/
def State.attemptBlock (s : State) : Option BlockCause :=
  if s.harmonicBlock then some .harmonic
  else if s.overvoltageBlock then some .overvoltage
  else if s.bkt then some .backupTrip
  else if s.tripRecordBlock then some .tripRecord
  else none

/-- An attempt's posting; when it is admitted both integrators become 0 (R104, R108, R110). -/
def State.attemptPost (s : State) (p : Posting) (d : Decision) : State :=
  let r := s.admitOne p
  (if r.2 = .accepted then r.1.setD 0 0 else r.1).setDecision d

/-- A close attempt (R105 to R108). -/
def State.closeAttempt (s : State) : State :=
  match s.closeCandidate with
  | none => s.setDecision (.noCandidate .closeOp)
  | some k =>
    let p : Int := s.me.frame.vAvg + (s.stepRec k).learnedRise
    if (s.highEdge : Int) - s.y .pm < p then s.setDecision (.predictWithheld .closeOp k p)
    else
      match s.attemptBlock with
      | some c => s.setDecision (.blocked k p c)
      | none => s.attemptPost (avcPosting .closeOp k false) (.closePosted k p)

/-- An open attempt (R109, R110). -/
def State.openAttempt (s : State) : State :=
  match s.openCandidate with
  | none => s.setDecision (.noCandidate .openOp)
  | some k =>
    let p : Int := (s.me.frame.vAvg : Int) - (s.stepRec k).learnedRise
    if p < (s.lowEdge : Int) + s.y .pm then s.setDecision (.predictWithheld .openOp k p)
    else s.attemptPost (avcPosting .openOp k false) (.openPosted k p)

/-- Both integrators are set to 0 at the frame: rows 1 to 4 of R100. -/
def State.integratorsReset (s : State) : Bool :=
  !s.au.auto || s.lineDead || s.me.frame.noRef || s.me.frame.vtLoss

/-- Stage 3 of a frame (R100 to R104); `fast` says that stage 2 has posted a fast open (R109). -/
def State.integratorStage (s : State) (fast : Bool) : State :=
  if s.integratorsReset then s.setD 0 0
  else if s.me.frame.settling then s
  else
    let t := s.setD s.dLowAfter s.dHighAfter
    if s.y .tclose ≤ s.dLowAfter then t.closeAttempt
    else if s.y .topen ≤ s.dHighAfter then (if fast then t else t.openAttempt)
    else t

/-- The AVC takes a frame: its three stages as a single event (R95). -/
def State.avcFrame (s : State) : State :=
  let t := s.lineStage
  (t.fastStage).integratorStage t.fastPosts

end Sys2Proof.Machine
end

