-- ==== Sys2Proof/Machine/Unbalance.lean ====
section
/-!
DEFINITION. The Unbalance Protection Unit: compensated unbalance (R138), the two stages (R140 to R142),
the Trip Record (R145), the capture engine (R155) and the external trip (R149).
-/
namespace Sys2Proof.Machine

/-! ## Compensated unbalance (R138) -/

/-- A stored component scaled by the frame's average voltage, truncated toward zero. -/
def scaledBy (c : Int) (vAvg vcap : Nat) : Int := (c * (vAvg : Int)).tdiv (vcap : Int)

/-- Dre: the live component less the scaled inherent one. -/
def diffRe (c : Option Compensation) (pre : Int) (vAvg : Nat) : Int :=
  match c with
  | none => pre
  | some p => pre - scaledBy p.cre vAvg p.vcap

/-- Dim. -/
def diffIm (c : Option Compensation) (pim : Int) (vAvg : Nat) : Int :=
  match c with
  | none => pim
  | some p => pim - scaledBy p.cim vAvg p.vcap

/-- U of a difference phasor: 9999 for a clipped channel (R138). -/
def unbalanceOf (irated : Nat) (dre dim : Int) (clip : Bool) : Nat :=
  if clip then 9999
  else min 9999 (isqrt (dre * dre + dim * dim).toNat * 10000 / (16 * irated))

/-! ## The Trip Record (R145) -/

/-- The largest DI of the three phases of a frame. -/
def Frame.largestDi (f : Frame) : Nat := max f.a.di (max f.b.di f.c.di)

/-- A protection trip enters the Trip Record (R145): it fills an empty record, and is counted in a held
one. The filling sets both change flags and, with TRIPBLOCK on, starts the close block (R146). -/
def State.enterTripRecord (s : State) (cause : LockoutCause) (step : Option StepId) (u : Option Nat)
    (dre dim : Option Int) : State :=
  match s.upu.tripRecord with
  | none =>
    (({ s with
        upu :=
          { s.upu with
            tripRecord := some
              { cause := cause
                step := step
                uptime := s.clock.uptime
                frame := s.me.frame.number
                u := u
                dre := dre
                dim := dim
                vAvg := s.me.frame.vAvg
                di := s.me.frame.largestDi
                further := 0 } } }).setFlags).examine
  | some r =>
    { s with
      upu := { s.upu with tripRecord := some { r with further := min 255 (r.further + 1) } } }

/-! ## The stages (R140 to R142) -/

/-- The alarm stage of a step at a frame that does not hold the stages (R141). -/
def State.alarmStage (s : State) (k : StepId) : State :=
  let u := s.me.frame.neutrals[k].u
  let level := s.set.settings.s .ualm k
  let r := s.stepRec k
  if level ≤ u then
    let n := min (s.set.settings.s .talm k) (r.alarmCount + 1)
    let set := decide (n = s.set.settings.s .talm k)
    (s.setStep k { r with alarmCount := n, alarmFlag := r.alarmFlag || set }).setFlagsIf
      (set && !r.alarmFlag)
  else if level * 9 / 10 ≤ u then s
  else (s.setStep k { r with alarmCount := 0, alarmFlag := false }).setFlagsIf r.alarmFlag

/-- trip count takes a value. -/
def State.setTripCount (s : State) (k : StepId) (n : Nat) : State :=
  s.modStep k (fun r => { r with tripCount := n })

/-- The TRIP posting of an unbalance trip decision (R142). -/
def unbalanceTrip (k : StepId) : Posting :=
  { kind := .tripOp, step := k, originator := .unbalance, tag := none, fast := false }

/-- An unbalance trip decision on a U and a difference phasor (R142, R145). -/
def State.decideTrip (s : State) (k : StepId) (u : Nat) (dre dim : Int) : State :=
  (((s.setTripCount k 0).admitOne (unbalanceTrip k)).1).enterTripRecord .unbalance (some k)
    (some u) (some dre) (some dim)

/-- An unbalance trip decision of a CLOSED step, on what the latest frame carries for it (R142). -/
def State.tripDecision (s : State) (k : StepId) : State :=
  s.decideTrip k s.me.frame.neutrals[k].u (s.stepRec k).dre (s.stepRec k).dim

/-- The trip stage of a step at a frame that does not hold the stages (R142). -/
def State.tripStage (s : State) (k : StepId) : State :=
  let u := s.me.frame.neutrals[k].u
  let level := s.set.settings.s .utrip k
  if level ≤ u then
    if s.set.settings.s .ttrip k ≤ (s.stepRec k).tripCount + 1 then s.tripDecision k
    else s.setTripCount k ((s.stepRec k).tripCount + 1)
  else if level * 9 / 10 ≤ u then s
  else s.setTripCount k 0

/-- Both stages of every step are held at the latest frame (R140). -/
def State.stagesHeld (s : State) : Bool := s.me.frame.settling || s.me.frame.noRef

/-- A detune that the HMU posted at this same frame has been dispatched at once: the step was CLOSED with
no entry in `base`, the state in which the frame was published, and is OPENING by an OPEN of HARMONIC
(R131). -/
def State.detunedSince (s base : State) (k : StepId) : Bool :=
  decide ((base.stepRec k).state = some .closed) && (base.entryOf k).isNone
    && decide ((s.stepRec k).state = some .opening)
    && decide ((s.inFlight.map (fun e => (e.step, e.kind, e.originator))) =
        some (k, .openOp, .harmonic))

/-- The frame takes a CLOSED step's trip count to TTRIP, judged on the count in `base` (R142). -/
def State.tripDue (s base : State) (k : StepId) : Bool :=
  decide (s.set.settings.s .utrip k ≤ s.me.frame.neutrals[k].u)
    && decide (s.set.settings.s .ttrip k ≤ (base.stepRec k).tripCount + 1)

/-- The stages of a step that is not CLOSED: it is passed over (R140), but for one that a detune of this
same frame has dispatched. The unbalance TRIP that the frame brings it is posted all the same, and sets a
TRIP mark (R131, R58; log entry 33). -/
def State.stagesOfOther (s base : State) (k : StepId) : State :=
  if s.detunedSince base k && s.tripDue base k then s.tripDecision k else s

/-- One step's stages (R140). `base` is the state in which the frame was published. -/
def State.stages (s base : State) (k : StepId) : State :=
  if (s.stepRec k).state = some .closed then (s.alarmStage k).tripStage k
  else s.stagesOfOther base k

/-! ## An external trip edge that comes together with the frame (R150)

DEDUCED: R139, R140 and R143 alone would leave a step whose TRIP the edge has had dispatched without the
decision that R150 counts as a further trip (log entry 35). -/

/-- The trip count a step had at the external trip edge of this very instant, if it was CLOSED there
(R150). -/
def State.edgeCount (s : State) (k : StepId) : Option Nat :=
  match s.upu.edge with
  | none => none
  | some g =>
    if g.instant = s.clock.now then (g.counts.find? (fun x => x.1 = k)).map (·.2) else none

/-- The step is OPENING by a TRIP in flight. -/
def State.tripInFlight (s : State) (k : StepId) : Bool :=
  decide ((s.stepRec k).state = some .opening)
    && decide ((s.inFlight.map (fun e => (e.step, e.kind))) = some (k, .tripOp))

/-- Dre of a step at the latest frame, by the compensation in force (R138). -/
def State.dreNow (s : State) (k : StepId) : Int :=
  diffRe (s.stepRec k).compensation s.me.frame.neutrals[k].pre s.me.frame.vAvg

/-- Dim of a step at the latest frame. -/
def State.dimNow (s : State) (k : StepId) : Int :=
  diffIm (s.stepRec k).compensation s.me.frame.neutrals[k].pim s.me.frame.vAvg

/-- The U that the latest frame's phasor of a step gives by R138, whatever the step's state. -/
def State.uNow (s : State) (k : StepId) : Nat :=
  unbalanceOf (s.set.settings.s .irated k) (s.dreNow k) (s.dimNow k) s.me.frame.neutrals[k].clip

/-- The frame brings a trip decision to a step whose TRIP the edge of this instant has had dispatched
already, by the count the edge found and the U of the frame's phasors (R150; log entry 35). -/
def State.furtherDue (s : State) (k : StepId) : Bool :=
  match s.edgeCount k with
  | none => false
  | some n =>
    s.tripInFlight k && decide (s.set.settings.s .utrip k ≤ s.uNow k)
      && decide (s.set.settings.s .ttrip k ≤ n + 1)

/-- One step's part of a frame that does not hold the stages: its stages, or the decision of R150, whose
posting is answered ACCEPTED by R58 and which the Trip Record counts (log entry 35). -/
def State.stepFrame (s base : State) (k : StepId) : State :=
  if s.furtherDue k then s.decideTrip k (s.uNow k) (s.dreNow k) (s.dimNow k) else s.stages base k

/-- The record of an external trip edge takes a value. -/
def State.setEdge (s : State) (g : Option TripEdge) : State :=
  { s with upu := { s.upu with edge := g } }

/-- What an assertion edge finds is kept for a frame of the same instant (R150). -/
def State.noteEdge (s : State) : State :=
  s.setEdge (some
    { instant := s.clock.now
      counts := (allSteps.filter (fun k => decide ((s.stepRec k).state = some .closed))).map
        (fun k => (k, (s.stepRec k).tripCount)) })

/-! ## The capture engine (R155) -/

/-- The capture engine's record takes a value. -/
def State.setCapture (s : State) (c : Option Capture) : State :=
  { s with upu := { s.upu with capture := c } }

/-- The compensation a completed capture gives (R155). -/
def captured (sumRe sumIm : Int) (sumV : Nat) : Compensation :=
  { cre := sumRe.tdiv 16, cim := sumIm.tdiv 16, vcap := max 500 (sumV / 16) }

/-- A capture that has taken its sixteenth frame completes (R155). -/
def State.completeCapture (s : State) (c : Capture) : State :=
  let t := (s.modStep c.step (fun r =>
    { r with
      compensation := some (captured c.sumRe c.sumIm c.sumV)
      alarmCount := 0
      tripCount := 0
      alarmFlag := false })).setFlagsIf (s.stepRec c.step).alarmFlag
  (t.insertOutcome .a (t.outcomeOf c.tag c.step .capture .captured)).setCapture none

/-- The engine with the latest frame added to its sums (R155). -/
def State.captureAdd (s : State) (c : Capture) : Capture :=
  { c with
    count := c.count + 1
    sumRe := c.sumRe + s.me.frame.neutrals[c.step].pre
    sumIm := c.sumIm + s.me.frame.neutrals[c.step].pim
    sumV := c.sumV + s.me.frame.vAvg }

/-- The capture engine takes the latest frame (R155). -/
def State.captureFrame (s : State) : State :=
  match s.upu.capture with
  | none => s
  | some c =>
    if s.me.frame.noRef ∨ s.me.frame.neutrals[c.step].clip then s.abortCapture
    else if s.me.frame.settling then s
    else if 16 ≤ c.count + 1 then s.completeCapture (s.captureAdd c)
    else s.setCapture (some (s.captureAdd c))

/-- The UPU takes a frame as one event: the stages in step-number order, then the capture engine (R140).
`base` is the state in which the frame was published. An edge of the external trip is kept no longer. -/
def State.upuFrame (s base : State) : State :=
  ((if s.stagesHeld then s else allSteps.foldl (fun t k => t.stepFrame base k) s).setEdge
    none).captureFrame

/-- A lowered TALM clamps the alarm counts at its application (R144). -/
def State.clampAlarm (s : State) (k : StepId) : State :=
  s.modStep k (fun r => { r with alarmCount := min r.alarmCount (s.set.settings.s .talm k) })

/-! ## The external trip (R149) -/

/-- The external trip posts a TRIP for this step (R149 part 2). -/
def State.externallyTripped (s : State) (k : StepId) : Bool :=
  match (s.stepRec k).state with
  | some .closed | some .closing | some .opening => true
  | some .failed => decide ((s.stepRec k).position ≠ some .atOpen)
  | _ => false

/-- The TRIP posting of an external trip edge (R149). -/
def externalTrip (k : StepId) : Posting :=
  { kind := .tripOp, step := k, originator := .external, tag := none, fast := false }

/-- Part 2 of an external trip edge: the postings in step-number order, each judged at once (R149). -/
def State.externalPosts (s : State) : State :=
  allSteps.foldl
    (fun t k => if t.externallyTripped k then (t.admitOne (externalTrip k)).1 else t) s

/-- Parts 2 and 3 of an external trip edge (R149, R150), with the examination that the removals of part
3 call for (R60). -/
def State.externalParts (s : State) : State :=
  (s.externalPosts.lockOutOpen).examineIfLeft s.externalPosts

/-- An assertion edge of the external trip input (R149, R150). -/
def State.externalEdge (s : State) : State :=
  (s.noteEdge.enterTripRecord .external none none none none).externalParts

end Sys2Proof.Machine
end

