-- ==== Sys2Proof/Machine/Measure.lean ====
section
/-!
DEFINITION. The Measurement Engine: crossings and arming (R26, R29), the start of a frame (R28), the
correlation and what is computed from it (R34 to R42), the period (R30), the reference choice (R27) and
the publication of a Measurement Frame (R44).
-/
namespace Sys2Proof.Machine

/-! ## Crossings -/

/-- A detector is armed (R26). -/
def State.armDetector (s : State) (p : Phase) : State :=
  s.setDetector p { s.detector p with armed := true }

/-- The interval a crossing at `now` gives: none without an earlier stamp or with a stale one (R29). -/
def State.interval (s : State) (p : Phase) : Option Nat :=
  match (s.detector p).stamp with
  | none => none
  | some t => if s.clock.now - t ≤ staleInterval s.me.fsel then some (s.clock.now - t) else none

/-- The last measurement of the window after a crossing: an interval of the reference phase (R29). -/
def State.measurementAfter (s : State) (p : Phase) : Option Nat :=
  if s.me.reference = some p then (s.interval p).or s.me.measurement else s.me.measurement

/-- A crossing recognised now: the detector disarms and its stamp is replaced (R26, R29). -/
def State.recognise (s : State) (p : Phase) : State :=
  { s with me := { s.me with measurement := s.measurementAfter p } }.setDetector p
    { armed := false
      stamp := some s.clock.now
      recent := (s.detector p).recent ++ [s.clock.now] }

/-! ## The start of a frame (R28) -/

/-- The fixed offset of a start point after a crossing of the reference phase (R28). -/
def startOffset (period : Nat) : Phase → Nat
  | .a => 0
  | .b => 2 * period / 3
  | .c => period / 3

/-- The start points a phase's stamps define that fall from the previous arrival to P after it (R28). -/
def State.startPoints (s : State) (p : Phase) : List Nat :=
  ((s.detector p).recent.map (· + startOffset s.me.period p)).filter
    (fun t => s.me.lastArrival ≤ t ∧ t ≤ s.me.lastArrival + s.me.period)

/-- The earliest of a list of instants. -/
def earliest (l : List Nat) : Option Nat :=
  l.foldl (fun acc t => match acc with
    | none => some t
    | some u => some (min u t)) none

/-- The frame that starts after the previous arrival (R28): contiguous without a reference,
synchronised at the earliest start point, or free-started after a missed crossing. -/
def State.nextSampling (s : State) : Sampling :=
  match s.me.reference with
  | none =>
    { start := s.me.lastArrival + s.me.period / 32, period := s.me.period, freeStarted := false }
  | some p =>
    match earliest (s.startPoints p) with
    | some t => { start := t, period := s.me.period, freeStarted := false }
    | none =>
      { start := s.me.lastArrival + s.me.period, period := s.me.period, freeStarted := true }

/-- The frame being sampled, or the one that starts now when none is. -/
def State.samplingNow (s : State) : Sampling := s.me.sampling.getD s.nextSampling

/-- A frame starts (R28). A frame that is being sampled goes on. -/
def State.startFrame (s : State) : State :=
  match s.me.sampling with
  | some _ => s
  | none =>
    { (s.until s.nextSampling.start) with
      me := { s.me with sampling := some s.nextSampling } }

/-- The instant at which set `n` is taken: floor(n × P / 32) after the frame's start, with the period in
force at the start (R33). -/
def Sampling.instant (f : Sampling) (n : Nat) : Nat := f.start + n * f.period / 32

/-- The frame arrives when set 31 is taken (R33). -/
def Sampling.arrival (f : Sampling) : Nat := f.instant 31

/-! ## The correlation (R34 to R36) -/

/-- C(0) to C(8) (R34). -/
def cosQuarter : List Int := [4096, 4017, 3784, 3406, 2896, 2276, 1567, 799, 0]

/-- C(m) for m up to 16: C(16 − m) = −C(m). -/
def cosHalf (m : Nat) : Int := if m ≤ 8 then cosQuarter.getD m 0 else -(cosQuarter.getD (16 - m) 0)

/-- C(m) for m from 0 to 31: C(32 − m) = C(m) (R34). -/
def cosAt (m : Nat) : Int := if m ≤ 16 then cosHalf m else cosHalf (32 - m)

/-- S(m) = C((m + 24) mod 32) (R34). -/
def sinAt (m : Nat) : Int := cosAt ((m + 24) % 32)

/-- A channel's samples against the coefficients of an order (R35). -/
def correlate (x : Channel) (coeff : Nat → Int) (h : Nat) : Int :=
  x.toList.zipIdx.foldl (fun acc p => acc + p.1.toInt * coeff (h * p.2 % 32)) 0

/-- Re_h (R35). -/
def corrRe (x : Channel) (h : Nat) : Int := correlate x cosAt h

/-- Im_h (R35). -/
def corrIm (x : Channel) (h : Nat) : Int := -correlate x sinAt h

/-- M16_h (R36). -/
def magnitude (x : Channel) (h : Nat) : Nat :=
  min 32767 (isqrt (corrRe x h * corrRe x h + corrIm x h * corrIm x h).toNat / 4096)

/-- A sample stands at a limit of the converter (R25). -/
def clipped (x : Channel) : Bool := x.toList.any (fun c => decide (c.toInt = -2048 ∨ c.toInt = 2047))

/-! ## Phase quantities (R37 to R39) -/

/-- V of a phase from its fundamental magnitude (R37). -/
def phaseVoltage (vnom m1 : Nat) : Nat := min 1999 ((m1 * 2000 + 16 * vnom) / (32 * vnom))

/-- LOW_SIGNAL (R38). -/
def lowSignalAt (vnom m1 : Nat) : Bool := decide (m1 < 16 * vnom / 10)

/-- A harmonic ratio: 0 for a LOW_SIGNAL phase (R38). -/
def harmonicRatio (vnom m1 mh : Nat) : Nat :=
  if lowSignalAt vnom m1 then 0 else min 9999 (mh * 10000 / m1)

/-- The distortion index of five ratios (R39). -/
def distortion (h3 h5 h7 h11 h13 : Nat) : Nat :=
  min 9999 (isqrt (h3 * h3 + h5 * h5 + h7 * h7 + h11 * h11 + h13 * h13))

/-- The per-phase part of a frame from the phase's samples (R37 to R39, R25). -/
def phaseFrame (vnom : Nat) (x : Channel) : PhaseFrame :=
  let m1 := magnitude x 1
  let h3 := harmonicRatio vnom m1 (magnitude x 3)
  let h5 := harmonicRatio vnom m1 (magnitude x 5)
  let h7 := harmonicRatio vnom m1 (magnitude x 7)
  let h11 := harmonicRatio vnom m1 (magnitude x 11)
  let h13 := harmonicRatio vnom m1 (magnitude x 13)
  { v := phaseVoltage vnom m1
    h3 := h3
    h5 := h5
    h7 := h7
    h11 := h11
    h13 := h13
    di := distortion h3 h5 h7 h11 h13
    lowSignal := lowSignalAt vnom m1
    clip := clipped x }

/-! ## Aggregates, period and reference -/

/-- V_avg (R41). -/
def averageOf (a b c : Nat) : Nat := (a + b + c) / 3

/-- VT_LOSS (R42). -/
def vtLossAt (vdead vspread vMax vMin : Nat) : Bool :=
  decide (vdead ≤ vMax) && decide (vMin + vspread < vMax)

/-- A measurement clamped to the limits of the tracked period (R30). -/
def clampPeriod (f : Fsel) (m : Nat) : Nat := max (periodLow f) (min (periodHigh f) m)

/-- The period applied at the arrival (R30). -/
def State.periodAfter (s : State) : Nat :=
  match s.me.reference, s.me.measurement with
  | some _, some m => clampPeriod s.me.fsel m
  | _, _ => s.me.period

/-- OFF_FREQ: the clamp changed the value (R30). -/
def State.offFreqNow (s : State) : Bool :=
  match s.me.reference, s.me.measurement with
  | some _, some m => decide (clampPeriod s.me.fsel m ≠ m)
  | _, _ => false

/-- The reference chosen for the next frame: the first phase at 200 mpu or more (R27). -/
def referenceOf (va vb vc : Nat) : Option Phase :=
  if 200 ≤ va then some .a
  else if 200 ≤ vb then some .b
  else if 200 ≤ vc then some .c
  else none

/-! ## The frame (R40, R44) -/

/-- Pre of a neutral channel, truncated toward zero (R40). -/
def neutralRe (x : Channel) : Int := (corrRe x 1).tdiv 4096

/-- Pim of a neutral channel (R40). -/
def neutralIm (x : Channel) : Int := (corrIm x 1).tdiv 4096

/-- U of a step at the arrival: by R138 for a CLOSED step, 0 for any other (R40, R139). -/
def State.uOf (s : State) (k : StepId) (x : Channel) (vAvg : Nat) : Nat :=
  if (s.stepRec k).state = some .closed then
    unbalanceOf (s.set.settings.s .irated k)
      (diffRe (s.stepRec k).compensation (neutralRe x) vAvg)
      (diffIm (s.stepRec k).compensation (neutralIm x) vAvg) (clipped x)
  else 0

/-- The per-step part of a frame (R40). -/
def State.neutralFrame (s : State) (k : StepId) (x : Channel) (vAvg : Nat) : NeutralFrame where
  pre := neutralRe x
  pim := neutralIm x
  u := s.uOf k x vAvg
  clip := clipped x

/-- The Measurement Frame that arrives, by the settings in force (R44, R46); `free` says that the frame
was free-started. -/
def State.frameOf (s : State) (i : FrameInput) (free : Bool) : Frame :=
  let a := phaseFrame (s.y .vnom) i.va
  let b := phaseFrame (s.y .vnom) i.vb
  let c := phaseFrame (s.y .vnom) i.vc
  let vAvg := averageOf a.v b.v c.v
  let vMax := max a.v (max b.v c.v)
  let vMin := min a.v (min b.v c.v)
  { number := (s.me.counter + 1) % wrap32
    reference := s.me.reference
    frequency := centihertz s.periodAfter
    a := a
    b := b
    c := c
    vAvg := vAvg
    vMax := vMax
    vMin := vMin
    neutrals := Vector.ofFn (fun k => s.neutralFrame k i.neutrals[k] vAvg)
    noRef := s.me.reference.isNone || free
    offFreq := s.offFreqNow
    vtLoss := vtLossAt (s.y .vdead) (s.y .vspread) vMax vMin
    settling := decide (0 < s.cu.settle) }

/-- The UPU keeps what the frame carries for a step: the latest U for every step, the difference phasor
for a CLOSED one (R139). -/
def State.keepUnbalance (s : State) (f : Frame) (k : StepId) : State :=
  s.modStep k (fun r =>
    if r.state = some .closed then
      { r with
        latestU := f.neutrals[k].u
        dre := diffRe r.compensation f.neutrals[k].pre f.vAvg
        dim := diffIm r.compensation f.neutrals[k].pim f.vAvg }
    else { r with latestU := f.neutrals[k].u })

/-- Stamps whose start points all lie before an arrival are no longer needed (R28). -/
def Detector.prune (d : Detector) (arrival period : Nat) : Detector :=
  { d with recent := d.recent.filter (fun t => arrival ≤ t + 2 * period / 3) }

/-- The ME's own record after the arrival of a frame sampled from `m` (R27, R30, R43, R44). -/
def State.meAfter (s : State) (f : Frame) (m : Sampling) : MeState where
  fsel := s.me.fsel
  period := s.periodAfter
  reference := referenceOf f.a.v f.b.v f.c.v
  detA := s.me.detA.prune m.arrival s.periodAfter
  detB := s.me.detB.prune m.arrival s.periodAfter
  detC := s.me.detC.prune m.arrival s.periodAfter
  lastArrival := m.arrival
  sampling := none
  measurement := none
  counter := f.number
  frame := f
  lastValidAvg := if f.noRef || f.vtLoss then s.me.lastValidAvg else some f.vAvg

/-- The frame is published: it becomes the latest frame, the ME makes its choices for the next one, and
the latest U of every step takes what the frame carries (R44, R139). -/
def State.publish (s : State) (i : FrameInput) (m : Sampling) : State :=
  let f := s.frameOf i m.freeStarted
  allSteps.foldl (fun t k => t.keepUnbalance f k) { s with me := s.meAfter f m }

end Sys2Proof.Machine
end

