-- ==== Sys2Proof/Machine/Harmonic.lean ====
section
/-!
DEFINITION. The Harmonic Monitor Unit: the compared value (R121), the hold (R122), the accumulator
(R123), activation with its effects (R124, R128, R129), clearing (R125), the counters (R126), the taking
of a frame (R131), and what a changed setting does to a running monitor (R132, R133).
-/
namespace Sys2Proof.Machine

/-- The per-phase part of a frame (R44). -/
def Frame.phase (f : Frame) : Phase → PhaseFrame
  | .a => f.a
  | .b => f.b
  | .c => f.c

/-- A phase is usable when it is flagged neither LOW_SIGNAL nor CLIP (R121). -/
def PhaseFrame.usable (p : PhaseFrame) : Bool := !p.lowSignal && !p.clip

/-- The quantity a source names on a phase (R121). -/
def PhaseFrame.quantity (p : PhaseFrame) : MonitorSource → Nat
  | .h3 => p.h3
  | .h5 => p.h5
  | .h7 => p.h7
  | .h11 => p.h11
  | .h13 => p.h13
  | .di => p.di

/-- The phases a monitor takes into its comparison: its own phase, or all three for ANY (R121). -/
def comparedPhases : Option Phase → List Phase
  | some p => [p]
  | none => allPhases

/-- The larger of an optional value and a value. -/
def largerOf (acc : Option Nat) (v : Nat) : Option Nat := some (max (acc.getD 0) v)

/-- The compared value of a monitor at the latest frame (R121): the largest quantity over the usable
phases it takes; none when no such phase is usable. -/
def State.comparedValue (s : State) (m : MonitorId) : Option Nat :=
  (comparedPhases (s.set.settings.phase m)).foldl
    (fun acc p =>
      if (s.me.frame.phase p).usable then
        largerOf acc ((s.me.frame.phase p).quantity (s.set.settings.source m))
      else acc)
    none

/-- An enabled monitor is held at the latest frame (R122). -/
def State.monitorHeld (s : State) (m : MonitorId) : Bool :=
  s.me.frame.settling || s.me.frame.noRef || s.me.frame.offFreq || (s.comparedValue m).isNone

/-- The latest frame is an exceeding frame for the monitor (R123). -/
def State.exceeding (s : State) (m : MonitorId) : Bool :=
  match s.comparedValue m with
  | none => false
  | some v => decide (s.set.settings.m .threshold m < v)

/-- The pickup P of a monitor (R120). -/
def State.pickup (s : State) (m : MonitorId) : Nat := s.set.settings.m .pickup m

/-- The accumulator after the latest frame (R123). -/
def State.accumulatorAfter (s : State) (m : MonitorId) : Nat :=
  if s.exceeding m then min ((s.monitor m).accumulator + 1) (2 * s.pickup m)
  else (s.monitor m).accumulator - 1

/-- The accumulator takes a value. -/
def State.setAccumulator (s : State) (m : MonitorId) (n : Nat) : State :=
  s.setMonitor m { s.monitor m with accumulator := n }

/-- Dispatch is examined when the harmonic close block has started or ended since `before` (R128). -/
def State.examineIfBlockMoved (s : State) (before : State) : State :=
  if s.harmonicBlock = before.harmonicBlock then s else s.examine

/-! ## Detune (R129) -/

/-- The detune target: the step nearest the tail of the Closed Order that has no pending entry. -/
def State.detuneTarget (s : State) : Option StepId :=
  s.ss.closedOrder.reverse.find? (fun k => (s.entryOf k).isNone)

/-- A monitor's last_detune is replaced. -/
def State.setDetune (s : State) (m : MonitorId) (d : LastDetune) : State :=
  s.setMonitor m { s.monitor m with lastDetune := some d }

/-- The detune of an activating monitor (R129). -/
def State.detune (s : State) (m : MonitorId) : State :=
  match s.detuneTarget with
  | none => s.setDetune m (.noneAvailable s.clock.uptime s.me.frame.number)
  | some k =>
    ((s.setDetune m (.target k s.clock.uptime s.me.frame.number none)).admitOne
      { kind := .openOp, step := k, originator := .harmonic, tag := none, fast := false }).1

/-! ## Activation and clearing -/

/-- A monitor activates (R124). -/
def State.activate (s : State) (m : MonitorId) : State :=
  let t := (s.setMonitor m
    { s.monitor m with
      active := true
      assertCount := min 65535 ((s.monitor m).assertCount + 1) }).setFlags
  match s.set.settings.action m with
  | .alarm => t
  | .blockClose => t.examineIfBlockMoved s
  | .detune => t.detune m

/-- A monitor clears (R125). -/
def State.clearMonitor (s : State) (m : MonitorId) : State :=
  ((s.setMonitor m { s.monitor m with active := false }).setFlags).examineIfBlockMoved s

/-! ## The taking of a frame (R131) -/

/-- A monitor that is not held updates its accumulator, and activates or clears (R123 to R125). -/
def State.monitorUpdate (s : State) (m : MonitorId) : State :=
  let t := s.setAccumulator m (s.accumulatorAfter m)
  if s.exceeding m then
    if (s.monitor m).active = false ∧ s.pickup m ≤ s.accumulatorAfter m then t.activate m else t
  else
    if (s.monitor m).active = true ∧ s.accumulatorAfter m = 0 then t.clearMonitor m else t

/-- One monitor takes the frame: a disabled monitor is passed over and a held one keeps its count
(R120, R122). -/
def State.monitorFrame (s : State) (m : MonitorId) : State :=
  if s.set.settings.enabled m = false then s
  else if s.monitorHeld m then s
  else s.monitorUpdate m

/-- active_frames of an enabled active monitor rises, saturating (R126). -/
def State.countActive (s : State) (m : MonitorId) : State :=
  if s.monitorActive m then
    s.setMonitor m
      { s.monitor m with activeFrames := min 4294967295 ((s.monitor m).activeFrames + 1) }
  else s

/-- The HMU takes a frame as one event: the monitors in number order, then the counts (R131, R126). -/
def State.hmuFrame (s : State) : State :=
  allMonitors.foldl (fun t m => t.countActive m)
    (allMonitors.foldl (fun t m => t.monitorFrame m) s)

/-! ## Changed settings (R132, R133) -/

/-- The accumulator becomes 0 and an active monitor clears, with both change flags set (R132). The
examination that the end of the close block calls for is made by the application as a whole. -/
def State.restartMonitor (s : State) (m : MonitorId) : State :=
  (s.setMonitor m { s.monitor m with accumulator := 0, active := false }).setFlagsIf
    (s.monitor m).active

/-- What new settings do to a running monitor at their application (R132, R133); `old` are the settings
before it. -/
def State.applyMonitor (s : State) (old : Settings) (m : MonitorId) : State :=
  if old.enabled m = false then
    s.setMonitor m { s.monitor m with accumulator := 0, active := false }
  else if s.set.settings.enabled m = false then s.restartMonitor m
  else if s.set.settings.source m ≠ old.source m ∨ s.set.settings.phase m ≠ old.phase m then
    s.restartMonitor m
  else s.setAccumulator m (min (s.monitor m).accumulator (2 * s.pickup m))

end Sys2Proof.Machine
end

