-- ==== Sys2Proof/Machine/Settings.lean ====
section
/-!
DEFINITION. Settings and Store: the cross-clamp (R196), pending values and their application (R197), the
loading of the image (R202), SAVE (R199, R200), step derivation (R204) and the end of a reset (R201).
-/
namespace Sys2Proof.Machine

/-! ## SET (R195, R196) -/

/-- The value a setting will hold at the next application: its last pending value, else the value in
force (R196). -/
def State.upcoming (s : State) (i : SettingId) : Nat :=
  ((s.set.pendingValues.reverse.find? (fun p => p.id = i)).map (·.value)).getD
    (s.set.settings.get i)

/-- The cross-clamp of R196, against the partners' upcoming values. -/
def State.crossClamp (s : State) (i : SettingId) (v : Nat) : Nat :=
  let up := fun y => s.upcoming (.yard y)
  match i with
  | .yard .hys => min v (up .bw)
  | .yard .bw => min (max v (up .hys)) (up .vset - up .vdead - 100)
  | .yard .tpulse => min v (up .top)
  | .yard .top => max v (up .tpulse)
  | .yard .vdead => min v (up .vset - up .bw - 100)
  | .yard .vset => max v (up .vdead + 100 + up .bw)
  | .step .ualm k => min v (s.upcoming (.step .utrip k) - 10)
  | .step .utrip k => max v (s.upcoming (.step .ualm k) + 10)
  | _ => v

/-- The value a SET results in: the range clamp, then the cross-clamp (R195). -/
def State.clamp (s : State) (i : SettingId) (v : Nat) : Nat := s.crossClamp i (i.rangeClamp v)

/-- A value is held pending (R195). -/
def State.hold (s : State) (i : SettingId) (v : Nat) : State :=
  { s with
    set :=
      { s.set with
        pendingValues := s.set.pendingValues ++ [{ id := i, value := v, loaded := false }] } }

/-! ## Application (R197) -/

/-- The settings with every pending value in force (R197): the last one taken stands. -/
def State.settingsAfter (s : State) : Settings :=
  s.set.pendingValues.foldl (fun c p => c.put p.id p.value) s.set.settings

/-- A step goes out of service at this application. -/
def State.goesOut (s : State) (old : Settings) (k : StepId) : Bool :=
  old.inService k && !s.inService k

/-- A change of in_service to no: the WAITING CLOSE is removed and a selection cancelled (R73, R174). -/
def State.applyInService (s : State) (old : Settings) (k : StepId) : State :=
  if s.goesOut old k then (s.removeCloseOf k).endSelectionOf k (.cancelled .stepChanged) else s

/-- The values take their places, and the first application after LOADING is the loaded application
(R197, R203). -/
def State.putSettings (s : State) : State :=
  { s with
    set :=
      { s.set with
        settings := s.settingsAfter
        pendingValues := []
        loadedAt :=
          if s.set.startup = .running ∧ s.set.loadedAt = none then some s.clock.now
          else s.set.loadedAt } }

/-- What the values do to running records: monitors (R132, R133), alarm counts (R144), steps that go
out of service (R73, R174). Where several steps go out of service at one arrival the manual gives no order
in which their closes and selections end and their records are inserted: DESIGN CHOICE, the model takes the
steps in step-number order (log entry 31). -/
def State.applyEffects (s : State) (old : Settings) : State :=
  allSteps.foldl (fun t k => t.applyInService old k)
    (allSteps.foldl (fun t k => t.clampAlarm k)
      (allMonitors.foldl (fun t m => t.applyMonitor old m) s))

/-- Pending values become the values in force in one event (R197). Dispatch is examined when the harmonic or
the trip-record block has started or ended or an entry has left (R60). Whether a VOV that changes the
overvoltage block on the frame before calls for an examination of its own the manual leaves open: DESIGN
CHOICE, it does not, and the examination after the new frame is published takes it up (log entry 36). -/
def State.applySettings (s : State) : State :=
  let t := s.putSettings.applyEffects s.set.settings
  if t.harmonicBlock = s.harmonicBlock ∧ t.tripRecordBlock = s.tripRecordBlock then
    t.examineIfLeft s
  else t.examine

/-- The learned rises that SETs of RINIT load at this application (R113, R197): values loaded from the
image are not among them (R202). -/
def rinitLoads (l : List PendingValue) : List (StepId × Nat) :=
  l.filterMap (fun p =>
    match p.id with
    | .step .rinit k => if p.loaded then none else some (k, p.value)
    | _ => none)

/-- learned_rise takes the applied RINIT (R113). -/
def State.loadRises (s : State) (l : List (StepId × Nat)) : State :=
  l.foldl (fun t x => t.modStep x.1 (fun r => { r with learnedRise := x.2 })) s

/-! ## SAVE (R199, R200) -/

/-- What the image stores of a step (R198). -/
def StepRecord.stored (r : StepRecord) : StoredStep where
  compensation := r.compensation
  learnedRise := r.learnedRise
  closeCount := r.closeCount

/-- The snapshot a SAVE takes (R199). -/
def State.snapshot (s : State) : Image :=
  imageBuild ((s.set.currentSeq + 1) % 65536) s.set.settings (s.ss.steps.map StepRecord.stored)

/-- A SAVE is admitted: its target is the copy that is not the current one (R198, R199). -/
def State.startSave (s : State) (tag : Byte) : State :=
  { s with
    set :=
      { s.set with
        save := some
          { image := s.snapshot, tag := tag, target1 := decide (s.set.current1 ≠ some true) } } }

/-- A copy of the nonvolatile image is written. -/
def SetState.setCopy (c : SetState) (copy1 : Bool) (i : Image) : SetState :=
  if copy1 then { c with copy1 := i } else { c with copy0 := i }

/-- The record of a SAVE's end: no step, no state (R185, R200). -/
def State.saveOutcome (s : State) (tag : Byte) (r : OutcomeResult) : OutcomeRecord where
  tag := tag
  step := none
  what := .save
  result := r
  state := none
  uptime := s.clock.uptime

/-- The end of a SAVE: what the target copy reads back decides which of the two ends it is (R200). -/
def State.endSave (s : State) (f : SaveInFlight) (readback : Image) : State :=
  let written := { s.set.setCopy f.target1 readback with save := none }
  if readback = f.image then
    { s with
      set :=
        { written with
          current1 := some f.target1
          currentSeq := f.image.seq
          defaulted := false } }.insertOutcome .a (s.saveOutcome f.tag .saved)
  else
    { s with set := written }.insertOutcome .a (s.saveOutcome f.tag .saveFailed)

/-- A reset abandons a SAVE: the target copy no longer passes its check (R200). -/
def SetState.abandonSave (c : SetState) : SetState :=
  match c.save with
  | none => c
  | some f => { c.setCopy f.target1 (imageTorn f.image) with save := none }

/-! ## Reset (R201) -/

/-- A reset is held: the coils are off, and a SAVE in flight is abandoned (R21, R200, R201). -/
def State.holdReset (s : State) (h : ResetHold) : State :=
  { s with
    clock := { s.clock with held := some h }
    ss := { s.ss with pulse := none }
    set := s.set.abandonSave }

/-- The raw levels of the inputs as they stand. -/
def State.rawLevels (s : State) : RawLevels where
  contacts := s.ss.steps.map (fun r => (r.closedContact.raw, r.openContact.raw))
  key := s.ss.keyIn.raw
  trip := s.ss.tripIn.raw

/-- The reset cause: POWER_ON if the supply fell since the previous release, else PIN (R201). -/
def causeOf (h : ResetHold) : ResetCause := if h.power then .powerOn else .pin

/-- The release of reset (R201): every block takes its state after reset. The commands that wait and the
free counter are the model's own and stay. -/
def State.release (s : State) (h : ResetHold) (fsel : Fsel) : State :=
  { State.afterReset fsel (causeOf h) s.rawLevels s.set.copy0 s.set.copy1 with
    pending := s.pending
    free := s.free }

/-! ## Loading (R202) -/

/-- The copy that loading takes: true for copy 1, none when neither is valid (R202 part 1). -/
def chooseCopy (c0 c1 : Image) : Option Bool :=
  match imageValid c0, imageValid c1 with
  | true, true => some (decide (c1.seq = (c0.seq + 1) % 65536))
  | true, false => some false
  | false, true => some true
  | false, false => none

/-- Every setting of a copy as a pending value (R202 part 2). -/
def loadedValues (c : Settings) : List PendingValue :=
  allSettingIds.map (fun i => { id := i, value := c.get i, loaded := true })

/-- The stored data of a step taken from a copy (R202 part 2). -/
def StepRecord.load (r : StepRecord) (d : StoredStep) : StepRecord :=
  { r with
    compensation := d.compensation
    learnedRise := d.learnedRise
    closeCount := d.closeCount }

/-- A copy is taken (R202 part 2). -/
def State.takeCopy (s : State) (copy1 : Bool) (i : Image) : State :=
  { s with
    ss := { s.ss with steps := Vector.ofFn (fun k => (s.stepRec k).load i.steps[k]) }
    au := { s.au with auto := decide (i.settings.y .autostart ≠ 0) }
    set :=
      { s.set with
        pendingValues := loadedValues i.settings
        current1 := some copy1
        currentSeq := i.seq } }

/-- No copy is taken: the defaults stay (R202 part 3). -/
def State.takeDefaults (s : State) : State :=
  { s with
    ss :=
      { s.ss with
        steps := s.ss.steps.map (fun r =>
          r.load { compensation := none, learnedRise := StepSetting.rinit.dflt, closeCount := 0 }) }
    au := { s.au with auto := false }
    set := { s.set with defaulted := true, current1 := some true, currentSeq := 0xFFFF } }

/-- The end of LOADING (R202). -/
def State.endLoading (s : State) : State :=
  let t := match chooseCopy s.set.copy0 s.set.copy1 with
    | none => s.takeDefaults
    | some true => s.takeCopy true s.set.copy1
    | some false => s.takeCopy false s.set.copy0
  { t with set := { t.set with startup := .running } }

end Sys2Proof.Machine
end

