-- ==== Sys2Proof/Machine/Frames.lean ====
section
/-!
DEFINITION. The events that reach several blocks: step derivation (R203, R204), the arrival of a frame
(R44) and an elapsed second.
-/
namespace Sys2Proof.Machine

/-! ## Step derivation (R204) -/

/-- One step is derived from its in_service and its position (R204). -/
def State.deriveStep (s : State) (k : StepId) : State :=
  match s.inService k, (s.stepRec k).position with
  | false, some .atOpen => (s.loadDischarge k).enter k .out none none
  | false, _ => s.enter k .out none none
  | true, some .atOpen => (s.loadDischarge k).enter k .discharging none none
  | true, some .atClosed => s.enter k .closed none none
  | true, _ => s.enter k .failed none (some .contactInvalid)

/-- The dead-line OPEN ALL at the end of derivation (R97, R204). -/
def State.derivedOpenAll (s : State) : State := if s.lineDead then s.deadOpenAll else s

/-- Parts 2 and 3 of the external trip at the end of derivation, while the input stands asserted (R150,
R204). -/
def State.derivedTrip (s : State) : State :=
  if s.ss.tripIn.accepted = some true then s.externalParts else s

/-- Every step is given a state, and what follows at the end of derivation (R204). -/
def State.deriveAll (s : State) (openAllFirst : Bool) : State :=
  let t := (allSteps.foldl (fun (t : State) k => t.deriveStep k)
    { s with set := { s.set with derived := true } }).examine
  if openAllFirst then t.derivedOpenAll.derivedTrip else t.derivedTrip.derivedOpenAll

/-- Every step's position exists (R203). -/
def State.positionsKnown (s : State) : Bool := allSteps.all (fun k => (s.stepRec k).position.isSome)

/-- Derivation takes place (R203): at the moment every position exists, from the loaded application on,
and 1000 ms after it at the latest. Before the loaded application, and after derivation, it does not. -/
def State.derivation (s : State) (openAllFirst : Bool) : State :=
  match s.set.loadedAt with
  | none => s
  | some t =>
    if s.set.derived then s
    else if s.positionsKnown then s.deriveAll openAllFirst
    else (s.until (t + 1000000)).deriveAll openAllFirst

/-! ## The arrival of a frame (R44) -/

/-- One part of a frame's arrival. Derivation falls at an arrival only with every position known (R203).
`base` is the state in which the frame was published, which the UPU needs for a detune of this same frame
(R131). -/
def State.framePart (s base : State) : FramePart → State
  | .avc => s.avcFrame
  | .hmu => s.hmuFrame
  | .upu => s.upuFrame base
  | .cu => s.cuFrame
  | .sx => s.examine
  | .derive first => if s.positionsKnown then s.derivation first else s

/-- The order in which the parts of an arrival are taken: each at most once, and the blocks that the
order leaves out after it (log entry 3). -/
def frameOrder (l : List FramePart) : List FramePart :=
  l.dedup ++ [.avc, .hmu, .upu, .cu].filter (fun p => p ∉ l)

/-- The parts that are left when the Cooldown Unit has taken the frame first (R113). -/
def frameRest (i : FrameInput) : List FramePart :=
  if i.riseFirst then (frameOrder i.parts).filter (· ≠ .cu) else frameOrder i.parts

/-- The blocks take the frame, each at its own arrival of it, and the Switching Executor examines
dispatch (R44, R60). `rises` are the applied RINITs, loaded before or after the update of R90 (R113). -/
def State.takeFrame (s : State) (i : FrameInput) (rises : List (StepId × Nat)) : State :=
  let t := (if i.riseFirst then s.cuFrame else s).loadRises rises
  ((frameRest i).foldl (fun t p => t.framePart s p) t).examine

/-- A frame arrives (R33, R44, R197): set 31 is taken, pending values take effect, the frame is
published and the blocks take it. -/
def State.frameArrives (s : State) (i : FrameInput) : State :=
  let t := s.startFrame.until s.samplingNow.arrival
  (t.applySettings.publish i s.samplingNow).takeFrame i (rinitLoads s.set.pendingValues)

/-! ## An elapsed second -/

/-- One part of an elapsed second. -/
def State.secondPart (s : State) : SecondPart → State
  | .cooldown => s.cooldownSecond
  | .stale => s.removeStale.examineIfLeft s
  | .selections => s.selectionSecond
  | .supervision => s.superviseSecond

/-- The order in which the parts of a second are taken: each once, those the order leaves out after it
(log entry 4). -/
def secondOrder (l : List SecondPart) : List SecondPart :=
  l.dedup ++ [.cooldown, .stale, .selections, .supervision].filter (fun p => p ∉ l)

/-- The uptime counter increments (00_scope). -/
def State.tick (s : State) : State :=
  { (s.until s.clock.nextSecond) with
    clock :=
      { (s.until s.clock.nextSecond).clock with
        nextSecond := s.clock.nextSecond + 1000000
        uptime := (s.clock.uptime + 1) % wrap32 } }

/-- A second elapses: discharge, holds and histories are aged, stale closes leave, selections expire and
the supervision timer counts (R71, R78, R83, R86, R164, R173). -/
def State.secondElapses (s : State) (parts : List SecondPart) : State :=
  (secondOrder parts).foldl (fun t p => t.secondPart p) s.tick

end Sys2Proof.Machine
end

