-- ==== Sys2Proof/Config.lean ====
section
/-!
DEFINITION. What the manual leaves open as a value: constants with no body, so that nothing can be
proved of what they are.
-/
namespace Sys2Proof

/-- DESIGN CHOICE (log entry 12): the byte the controller sends where a record that a response lays
out is absent and the layout of 9.9 states no byte for the absent field (an absent 32-bit time or
frame number, an absent count, the tag of an empty slot). The first argument is the model's free
counter, so each response may carry other bytes; the second is the place within the payload. -/
opaque Config.unstatedByte : Nat → Nat → Byte

end Sys2Proof
end

