-- ==== Sys2Proof/Machine/Layout.lean ====
section
/-!
DEFINITION. The encodings and byte layouts of 9.9. A byte for which an absent record leaves no stated
value is a free value (log entry 12). A flag is sent as 0 or 1 (`flagByte`), a record's present and held
fields too, which is the model's choice (log entry 37).
-/
namespace Sys2Proof.Machine

/-! ## Result codes and answers -/

/-- The result codes (9.9), in the order of the table. -/
inductive ResultCode where
  | accepted | done | clamped | empty | badFrame | unknownRequest | badStep | notPermitted | notHolder
  | autoActive | notSelected | selectionHeld | wrongState | cooling | pending | conflict | blocked
  | deadLine | busy
deriving DecidableEq, Repr

/-- The number of a result code (9.9). -/
def ResultCode.code : ResultCode → Nat
  | .accepted => 1
  | .done => 2
  | .clamped => 3
  | .empty => 4
  | .badFrame => 5
  | .unknownRequest => 6
  | .badStep => 7
  | .notPermitted => 8
  | .notHolder => 9
  | .autoActive => 10
  | .notSelected => 11
  | .selectionHeld => 12
  | .wrongState => 13
  | .cooling => 14
  | .pending => 15
  | .conflict => 16
  | .blocked => 17
  | .deadLine => 18
  | .busy => 19

/-- An answer: a result code and its payload (R178, R181). -/
structure Answer where
  /-- the result code -/
  code : ResultCode
  /-- the payload -/
  payload : List Byte
deriving DecidableEq, Repr

/-- An answer without payload (R181). -/
def Answer.plain (c : ResultCode) : Answer := { code := c, payload := [] }

/-! ## Enumerations, numbered from 1 in the order of 9.9 -/

/-- A step number. -/
def stepNo (k : StepId) : Nat := k.val + 1

/-- An optional step, 0 when absent. -/
def stepNoOpt : Option StepId → Nat
  | none => 0
  | some k => stepNo k

/-- step state. -/
def StepState.code : StepState → Nat
  | .out => 1
  | .discharging => 2
  | .ready => 3
  | .closing => 4
  | .closed => 5
  | .opening => 6
  | .lockout => 7
  | .failed => 8

/-- An optional state, 0 when absent. -/
def stateNo : Option StepState → Nat
  | none => 0
  | some x => x.code

/-- position, 0 when absent. -/
def positionNo : Option Position → Nat
  | none => 0
  | some .atClosed => 1
  | some .atOpen => 2
  | some .travel => 3
  | some .invalid => 4

/-- outcome what. -/
def OutcomeWhat.code : OutcomeWhat → Nat
  | .closeOp => 1
  | .openOp => 2
  | .tripOp => 3
  | .select => 4
  | .save => 5
  | .capture => 6

/-- outcome result. -/
def OutcomeResult.code : OutcomeResult → Nat
  | .done => 1
  | .switchFailed => 2
  | .stale => 3
  | .cancelled _ => 4
  | .superseded => 5
  | .selectExpired => 6
  | .saved => 7
  | .saveFailed => 8
  | .captured => 9
  | .captureAborted => 10

/-- cancel cause, 0 unless the result is CANCELLED. -/
def OutcomeResult.cancelCode : OutcomeResult → Nat
  | .cancelled .openedByRequest => 1
  | .cancelled .stepChanged => 2
  | .cancelled .authorityLost => 3
  | .cancelled .lockout => 4
  | _ => 0

/-- entry kind; mark kind. -/
def OpKind.code : OpKind → Nat
  | .closeOp => 1
  | .openOp => 2
  | .tripOp => 3

/-- A mark's kind, 0 for no mark. -/
def markNo : Option Mark → Nat
  | none => 0
  | some m => m.kind.code

/-- originator. -/
def Originator.code : Originator → Nat
  | .portA => 1
  | .portB => 2
  | .avc => 3
  | .harmonic => 4
  | .unbalance => 5
  | .external => 6

/-- entry status (9.9, STATUS bytes 143 to 190). -/
def EntryStatus.code : EntryStatus → Nat
  | .waiting => 1
  | .inFlight => 2

/-- block cause. -/
def BlockCause.code : BlockCause → Nat
  | .harmonic => 1
  | .overvoltage => 2
  | .backupTrip => 3
  | .tripRecord => 4

/-- skip cause, 0 when the result is APPLIED. -/
def skipNo : Option SkipCause → Nat
  | none => 0
  | some .converted => 1
  | some .otherStepChanged => 2
  | some .replaced => 3
  | some .stepMoved => 4
  | some .noVPre => 5
  | some .noVPost => 6
  | some .deltaLimit => 7

/-- backup trip reason. -/
def BackupReason.code : BackupReason → Nat
  | .closeTimeout => 1
  | .openTimeout => 2
  | .contactFault => 3
  | .failedStep => 4

/-- lockout cause. -/
def LockoutCause.code : LockoutCause → Nat
  | .unbalance => 1
  | .external => 2

/-- lockout cause, 0 when absent. -/
def lockoutNo : Option LockoutCause → Nat
  | none => 0
  | some c => c.code

/-- failure cause, 0 when absent. -/
def failureNo : Option FailureCause → Nat
  | none => 0
  | some .closeTimeout => 1
  | some .openTimeout => 2
  | some .contactInvalid => 3

/-- An optional port: 0 none, 1 A, 2 B. -/
def portNo : Option Port → Nat
  | none => 0
  | some .a => 1
  | some .b => 2

/-- An optional reference phase: 0 none, 1 A, 2 B, 3 C. -/
def phaseNo : Option Phase → Nat
  | none => 0
  | some .a => 1
  | some .b => 2
  | some .c => 3

/-- The result code of a posting's answer (R50). -/
def PostAnswer.result : PostAnswer → ResultCode
  | .accepted => .accepted
  | .done => .done
  | .wrongState => .wrongState
  | .cooling _ => .cooling
  | .deadLine => .deadLine
  | .blocked _ => .blocked
  | .pending => .pending
  | .conflict => .conflict

/-- The answer a port receives to a posting, with the payload of R181. -/
def PostAnswer.answer (a : PostAnswer) : Answer :=
  match a with
  | .cooling n => { code := .cooling, payload := be 2 n }
  | .blocked c => { code := .blocked, payload := [byte c.code] }
  | a => .plain a.result

/-- A mask of the numbers that satisfy a test, bit k − 1 for number k (9.9). -/
def maskOf (f : Fin 8 → Bool) : Byte :=
  byte (allSteps.foldl (fun acc k => acc + (if f k then 2 ^ k.val else 0)) 0)

/-! ## Unstated bytes -/

/-- `n` bytes from a place of the payload on for which nothing is stated (log entry 12). -/
def State.unstated (s : State) (place n : Nat) : List Byte :=
  (List.range n).map (fun j => Config.unstatedByte s.free (place + j))

/-! ## Records -/

/-- An Outcome Record in ten bytes (9.9). -/
def OutcomeRecord.bytes (r : OutcomeRecord) : List Byte :=
  [r.tag, byte (stepNoOpt r.step), byte r.what.code, byte r.result.code, byte r.result.cancelCode,
    byte (stateNo r.state)] ++ be 4 r.uptime

/-- A selection slot in six bytes: step 0 when empty (9.9). -/
def State.slotBytes (s : State) (p : Port) (place : Nat) : List Byte :=
  match s.slot p with
  | none => byte 0 :: s.unstated (place + 1) 5
  | some x => [byte (stepNo x.step), x.tag] ++ be 4 x.expiry

/-- A rotation order: its length, then its steps, zero beyond the length (9.9). -/
def orderBytes (l : List StepId) : List Byte :=
  byte l.length :: exactly 8 (l.map (fun k => byte (stepNo k)))

/-- One entry of the Operation Queue in six bytes (9.9). -/
def Entry.bytes (e : Entry) : List Byte :=
  [byte e.kind.code, byte (stepNo e.step), byte e.originator.code, byte e.status.code,
    byte (markNo e.mark), flagByte e.fast]

/-- The last decision's source, outcome, kind, step, P, cause (R115, 9.9): absent fields are 0, an absent
P is FFFF hex. -/
def Decision.bytes : Decision → List Byte
  | .closePosted k p => [1, 1, 1, byte (stepNo k)] ++ beSigned 2 p ++ [0]
  | .openPosted k p => [1, 2, 2, byte (stepNo k)] ++ beSigned 2 p ++ [0]
  | .noCandidate kind => [1, 3, byte kind.code, 0, 0xFF, 0xFF, 0]
  | .predictWithheld kind k p => [1, 4, byte kind.code, byte (stepNo k)] ++ beSigned 2 p ++ [0]
  | .blocked k p c => [1, 5, 0, byte (stepNo k)] ++ beSigned 2 p ++ [byte c.code]
  | .fastPosted k => [2, 2, 0, byte (stepNo k), 0xFF, 0xFF, 0]
  | .fastNoCandidate => [2, 3, 0, 0, 0xFF, 0xFF, 0]
  | .openAllPosted _ => [3, 6, 0, 0, 0xFF, 0xFF, 0]

/-- The count of a last decision, present for OPEN_ALL_POSTED only (R115). -/
def State.decisionCount (s : State) (d : Decision) (place : Nat) : List Byte :=
  match d with
  | .openAllPosted n => [byte n]
  | _ => s.unstated place 1

/-- The last decision in twelve bytes: STATUS 84 to 95. -/
def State.decisionBytes (s : State) (place : Nat) : List Byte :=
  match s.avc.lastDecision with
  | none => [0, 0, 0, 0, 0xFF, 0xFF, 0] ++ s.unstated (place + 7) 5
  | some d => d.decision.bytes ++ s.decisionCount d.decision (place + 7) ++ be 4 d.frame

/-- The last open-all in eighteen bytes, present as 0 or 1 (log entry 37): STATUS 96 to 113. -/
def State.openAllBytes (s : State) (place : Nat) : List Byte :=
  match s.avc.lastOpenAll with
  | none => byte 0 :: (s.unstated (place + 1) 1 ++ exactly 8 [] ++ s.unstated (place + 10) 8)
  | some r =>
    [byte 1, byte r.count] ++ exactly 8 (r.answers.map (fun a => byte a.result.code))
      ++ be 4 r.frame ++ be 4 r.uptime

/-- The last AVC result in ten bytes: STATUS 114 to 123. -/
def State.avcResultBytes (s : State) (place : Nat) : List Byte :=
  match s.avc.lastResult with
  | none => [0, 0] ++ s.unstated (place + 2) 1 ++ [0, 0, 0] ++ s.unstated (place + 6) 4
  | some r =>
    [byte (stepNo r.step), byte r.kind.code, flagByte r.fast, byte r.result.code,
      byte r.result.cancelCode, byte (stateNo r.state)] ++ be 4 r.uptime

/-- Δ of a rise result, absent where either voltage is absent (R91). -/
def RiseResult.delta (r : RiseResult) : Option Nat :=
  match r.vPre, r.vPost with
  | some p, some q => some (dist q p)
  | _, _ => none

/-- The last rise result in sixteen bytes: STATUS 124 to 139. -/
def State.riseBytes (s : State) (place : Nat) : List Byte :=
  match s.cu.lastRise with
  | none =>
    [0, 0, 0xFF, 0xFF, 0xFF, 0xFF, 0xFF, 0xFF] ++ s.unstated (place + 8) 2 ++ [0, 0]
      ++ s.unstated (place + 12) 4
  | some r =>
    [byte (stepNo r.step), byte r.kind.code] ++ be16Opt r.vPre ++ be16Opt r.vPost ++ be16Opt r.delta
      ++ [byte r.before, byte r.after, byte (if r.skipped.isNone then 1 else 2), byte (skipNo r.skipped)]
      ++ be 4 r.frame

/-- The capture engine: its step and frames counted, step 0 when idle: STATUS 140 to 141. -/
def State.captureBytes (s : State) (place : Nat) : List Byte :=
  match s.upu.capture with
  | none => byte 0 :: s.unstated (place + 1) 1
  | some c => [byte (stepNo c.step), byte c.count]

/-- The backup trip record in seven bytes, zero when empty: STATUS 67 to 73. -/
def State.backupBytes (s : State) : List Byte :=
  match s.upu.backup with
  | none => exactly 7 []
  | some r => [byte (stepNo r.step), byte r.reason.code, byte r.originator.code] ++ be 4 r.uptime

/-! ## STATUS (200 bytes) -/

/-- The reset cause: 1 POWER_ON, 2 PIN. -/
def ResetCause.code : ResetCause → Nat
  | .powerOn => 1
  | .pin => 2

/-- The key: 0 absent, 1 LOCAL, 2 REMOTE. -/
def keyNo : Option KeyPos → Nat
  | none => 0
  | some .loc => 1
  | some .remote => 2

/-- Supervision: 1 OK, 2 LATE, 3 LOST. -/
def Supervision.code : Supervision → Nat
  | .ok => 1
  | .late => 2
  | .lost => 3

/-- line_state: 1 LIVE, 2 DEAD. -/
def LineState.code : LineState → Nat
  | .live => 1
  | .dead => 2

/-- Close blocks holding: STATUS byte 62. -/
def State.blockMask (s : State) : Byte :=
  byte ((if s.lineDead then 1 else 0) + (if s.harmonicBlock then 2 else 0)
    + (if s.overvoltageBlock then 4 else 0) + (if s.bkt then 8 else 0)
    + (if s.tripRecordBlock then 16 else 0))

/-- STATUS bytes 0 to 31: flags, authority, slots, outcomes, states. -/
def State.statusHead (s : State) (p : Port) : List Byte :=
  [flagByte (s.portState p).changeFlag, byte s.clock.cause.code, flagByte s.set.defaulted,
    byte (keyNo s.au.key), byte (portNo s.holder), flagByte s.au.auto, byte s.au.supervision.code]
    ++ be16Opt s.au.remaining ++ s.slotBytes .a 9 ++ s.slotBytes .b 15
    ++ [byte (s.portState p).lost, byte (s.outcomes p).length, byte (10 - s.sharedUsed)]
    ++ allSteps.map (fun k => byte (stateNo (s.stepRec k).state))

/-- STATUS bytes 32 to 83: orders, latches, monitors, blocks, backup trip, settle, AVC counts. Byte 64 is
the accepted value of the external trip. While its debouncer has accepted none the manual gives the byte no
value: DESIGN CHOICE, the model sends 0, as 9.9 does for an absent enumeration (log entry 29). -/
def State.statusMiddle (s : State) : List Byte :=
  orderBytes s.ss.readyOrder ++ orderBytes s.ss.closedOrder
    ++ [maskOf (fun k => decide (k ∈ s.ss.closedWhileCharged)),
      maskOf (fun k => decide (k ∈ s.ss.unexpectedOpen)), maskOf (fun k => (s.stepRec k).alarmFlag),
      maskOf s.monitorActive]
    ++ allMonitors.map (fun m => byte (s.set.settings.m .action m))
    ++ [s.blockMask, flagByte s.me.frame.vtLoss, flagByte (s.ss.tripIn.accepted.getD false),
      flagByte s.bkt, flagByte s.upu.tripRecord.isSome]
    ++ s.backupBytes ++ be 2 s.cu.settle ++ [byte s.avc.line.code] ++ be 2 s.avc.runCount
    ++ be 2 s.avc.dLow ++ be 2 s.avc.dHigh ++ [byte s.avc.ovCnt]

/-- The retry count of the IN_FLIGHT entry: STATUS byte 191 (R48). While no entry is IN_FLIGHT the manual
gives the byte no value: DESIGN CHOICE, it is a free value (log entry 28). -/
def State.retryBytes (s : State) (place : Nat) : List Byte :=
  if s.inFlight.isSome then [byte s.oq.retryCount] else s.unstated place 1

/-- STATUS bytes 84 to 199: the AVC's and the CU's records, the capture engine, the queue, uptime. -/
def State.statusTail (s : State) : List Byte :=
  s.decisionBytes 84 ++ s.openAllBytes 96 ++ s.avcResultBytes 114 ++ s.riseBytes 124
    ++ s.captureBytes 140 ++ [byte s.oq.entries.length]
    ++ exactly 48 (s.oq.entries.flatMap Entry.bytes) ++ s.retryBytes 191 ++ be 4 s.clock.uptime
    ++ be 4 s.me.frame.number

/-- The STATUS payload of a port (9.9). -/
def State.statusPayload (s : State) (p : Port) : List Byte :=
  s.statusHead p ++ s.statusMiddle ++ s.statusTail

/-! ## The other query payloads -/

/-- A step's compensation: present flag, 0 or 1 (log entry 37), Cre, Cim, Vcap (9.9). -/
def State.compensationBytes (s : State) (c : Option Compensation) (place : Nat) : List Byte :=
  match c with
  | none => byte 0 :: (s.unstated (place + 1) 8 ++ be 2 0xFFFF)
  | some c => byte 1 :: (beSigned 4 c.cre ++ beSigned 4 c.cim ++ be 2 c.vcap)

/-- The place of the step's entry in the list, from 1; 0 for none (9.9). -/
def State.pendingPlace (s : State) (k : StepId) : Nat :=
  match s.oq.entries.findIdx? (fun e => e.step = k) with
  | none => 0
  | some i => i + 1

/-- The STEP_QUERY payload, 74 bytes (9.9). -/
def State.stepPayload (s : State) (k : StepId) : List Byte :=
  let r := s.stepRec k
  [byte (stepNo k), flagByte (s.inService k), byte (stateNo r.state), byte (positionNo r.position)]
    ++ be 2 r.discharge ++ be 2 r.harmonicHold
    ++ [flagByte r.manualHold, byte (lockoutNo r.lockoutCause), byte (failureNo r.failureCause),
      byte r.closeHistory.length]
    ++ exactly 32 (r.closeHistory.flatMap (be 4)) ++ be 4 r.closeCount ++ be 2 r.learnedRise
    ++ s.compensationBytes r.compensation 50
    ++ be 2 r.alarmCount ++ be 2 r.tripCount ++ [flagByte r.alarmFlag] ++ be 2 r.latestU
    ++ [byte (portNo (s.selectedBy k)), byte (s.pendingPlace k)] ++ be 4 ((s.rateRelease k).getD 0)

/-- The per-phase part of FRAME_QUERY. -/
def PhaseFrame.bytes (p : PhaseFrame) : List Byte :=
  be 2 p.v ++ be 2 p.h3 ++ be 2 p.h5 ++ be 2 p.h7 ++ be 2 p.h11 ++ be 2 p.h13 ++ be 2 p.di
    ++ [flagByte p.lowSignal, flagByte p.clip]

/-- The per-step part of FRAME_QUERY. -/
def NeutralFrame.bytes (n : NeutralFrame) : List Byte :=
  beSigned 4 n.pre ++ beSigned 4 n.pim ++ be 2 n.u ++ [flagByte n.clip]

/-- The FRAME_QUERY payload, 153 bytes (9.9). -/
def Frame.payload (f : Frame) : List Byte :=
  be 4 f.number ++ [byte (phaseNo f.reference)] ++ be 2 f.frequency
    ++ f.a.bytes ++ f.b.bytes ++ f.c.bytes ++ be 2 f.vAvg ++ be 2 f.vMax ++ be 2 f.vMin
    ++ allSteps.flatMap (fun k => f.neutrals[k].bytes)
    ++ [flagByte f.noRef, flagByte f.offFreq, flagByte f.vtLoss, flagByte f.settling]

/-- The last_detune part of MONITOR_QUERY: kind, step, uptime, frame number, result, state. -/
def State.detuneBytes (s : State) (d : Option LastDetune) (place : Nat) : List Byte :=
  match d with
  | none => [0, 0] ++ s.unstated (place + 2) 8 ++ [0, 0]
  | some (.target k u f r) =>
    [1, byte (stepNo k)] ++ be 4 u ++ be 4 f
      ++ (match r with
          | none => [0, 0]
          | some (x, st) => [byte x.code, byte (stateNo st)])
  | some (.noneAvailable u f) => [2, 0] ++ be 4 u ++ be 4 f ++ [0, 0]

/-- The MONITOR_QUERY payload, 30 bytes (9.9). -/
def State.monitorPayload (s : State) (m : MonitorId) : List Byte :=
  let c := s.set.settings
  let r := s.monitor m
  [byte (m.val + 1), byte (c.m .enable m), byte (c.m .source m), byte (c.m .phase m)]
    ++ be 2 (c.m .threshold m) ++ be 2 (c.m .pickup m) ++ [byte (c.m .action m)]
    ++ be 2 r.accumulator ++ [flagByte r.active] ++ be 2 r.assertCount ++ be 4 r.activeFrames
    ++ s.detuneBytes r.lastDetune 18

/-- The Trip Record part of TRIP_RECORD_QUERY, 26 bytes, zero when empty (9.9). That held is 1 for a record is
the model's choice (log entry 37). -/
def tripBytes : Option TripRecord → List Byte
  | none => exactly 26 []
  | some r =>
    [byte 1, byte r.cause.code, byte (match r.step with
      | none => 15
      | some k => stepNo k)]
      ++ be 4 r.uptime ++ be 4 r.frame ++ be16Opt r.u ++ beSigned 4 (r.dre.getD 0)
      ++ beSigned 4 (r.dim.getD 0) ++ be 2 r.vAvg ++ be 2 r.di ++ [byte r.further]

/-- The last trip result part of TRIP_RECORD_QUERY, 9 bytes, present as 0 or 1 (log entry 37). -/
def State.tripResultBytes (s : State) (place : Nat) : List Byte :=
  match s.upu.lastTrip with
  | none => [0, 0, 0, 0, 0] ++ s.unstated (place + 5) 4
  | some r =>
    [byte 1, byte (stepNo r.step), byte r.originator.code, byte r.result.code, byte (stateNo r.state)]
      ++ be 4 r.uptime

/-- The TRIP_RECORD_QUERY payload, 35 bytes (9.9). -/
def State.tripPayload (s : State) : List Byte := tripBytes s.upu.tripRecord ++ s.tripResultBytes 26

/-- The GET payload, 4 bytes (9.9). -/
def State.getPayload (s : State) (i : SettingId) : List Byte :=
  [byte i.number, byte i.index] ++ be 2 (s.set.settings.get i)

end Sys2Proof.Machine
end

