-- ==== Sys2Proof/Machine/Port.lean ====
section
/-!
DEFINITION. What every request frame does at its port: the window (R176), the response (R178), dispatch
supervision (R164) and the order of judgement (R179); the framing checks (R177) and the catalogue (R181).
-/
namespace Sys2Proof.Machine

/-! ## The window and the response -/

/-- The bytes a response carries: length, result code, tag, payload, check byte (R178). -/
def responseBytes (tag : Byte) (a : Answer) : List Byte :=
  let head := byte a.payload.length :: byte a.code.code :: tag :: a.payload
  head ++ [crc8 head]

/-- During a window the controller's line carries the waiting response, cut to the window and followed by
zeros; the response is not offered again (R176). -/
def State.clockOut (s : State) (p : Port) (window : Nat) : State :=
  s.setPort p
    { s.portState p with
      line := exactly window ((s.portState p).buffer.getD [])
      buffer := none }

/-- The response is written into the port's frame buffer (R178); the free counter moves on, so that the
next response has free bytes of its own. -/
def State.respond (s : State) (p : Port) (tag : Byte) (a : Answer) : State :=
  { (s.setPort p { s.portState p with buffer := some (responseBytes tag a) }) with free := s.free + 1 }

/-- A request judged by the block that owns it: the state after its effects, and its answer. -/
abbrev Judge : Type := State → State × Answer

/-- The good frame of a request (R179): the window runs, a Port B frame acts on supervision, LOADING
answers BUSY, a request that is not accepted from its port is answered NOT_PERMITTED, and otherwise the
request is judged. Nothing happens while a reset is held (R201). -/
def State.request (s : State) (h : Header) (permitted : Bool) (judge : Judge) : State :=
  s.unlessHeld (fun s =>
    let t := (s.clockOut h.port h.window).superviseGood h.port
    let r :=
      if t.set.startup = .loading then (t, Answer.plain .busy)
      else if permitted = false then (t, Answer.plain .notPermitted)
      else judge t
    r.1.respond h.port h.tag r.2)

/-- A request that is accepted from Port A only (R181). -/
def fromA (h : Header) : Bool := decide (h.port = .a)

/-! ## Judging helpers -/

/-- A request that changes nothing but its answer. -/
def answering (f : State → Answer) : Judge := fun s => (s, f s)

/-- A request for a single step: BAD_STEP for any value outside 1 to 8 (R182). -/
def withStep (b : Byte) (judge : StepId → Judge) : Judge := fun s =>
  match stepField b with
  | none => (s, .plain .badStep)
  | some k => judge k s

/-- A request that needs the holder (R161). -/
def ifHolder (p : Port) (judge : Judge) : Judge := fun s =>
  if s.holder = some p then judge s else (s, .plain .notHolder)

/-- An answer DONE with a new state. -/
def doneWith (s : State) : State × Answer := (s, .plain .done)

/-- A refusal with a result code: no record changes. -/
def refusedWith (s : State) (c : ResultCode) : State × Answer := (s, .plain c)

/-! ## The catalogue and the framing checks -/

/-- The payload size the catalogue gives for a request code; none for a code that is not in it
(R181). -/
def payloadSize (code : Byte) : Option Nat :=
  match code.toNat with
  | 0x01 | 0x03 | 0x05 | 0x06 | 0x08 | 0x21 | 0x27 | 0x28 | 0x29 => some 0
  | 0x02 | 0x04 => some 1
  | 0x07 => some 2
  | 0x10 | 0x11 | 0x12 | 0x13 | 0x14 | 0x15 => some 1
  | 0x20 => some 4
  | 0x22 | 0x23 | 0x24 | 0x25 | 0x26 => some 1
  | _ => none

/-- A window holds a good frame: it passes the four checks of R177. -/
def goodFrame (w : List Byte) : Bool :=
  match w with
  | l :: code :: tag :: rest =>
    decide (l.toNat ≤ 60) && decide (l.toNat + 1 ≤ rest.length)
      && decide (rest[l.toNat]? = some (crc8 (l :: code :: tag :: rest.take l.toNat)))
      && (match payloadSize code with
          | none => true
          | some n => decide (l.toNat = n))
  | _ => false

/-- The tag a BAD_FRAME response echoes: byte 2 of the window, 0 when it held fewer than 3 bytes
(R177). -/
def badTag (w : List Byte) : Byte := (w[2]?).getD 0

end Sys2Proof.Machine
end

