-- ==== Sys2Proof/WellFormed.lean ====
section
/-!
DEFINITION. Which terms of `Instr` are commands the outside world can send: a request's window holds its
whole frame (R177), an unknown request's code is outside the catalogue (R179), a bad frame fails a check
(R177), an order of parts names no part twice, and what the nonvolatile store reads back fits its words
(R198).
-/
namespace Sys2Proof

open Sys2Proof.Machine

/-- A window holds a request with a payload of `size` bytes: at least size + 4 bytes (R176). -/
def Header.fits (h : Header) (size : Nat) : Bool := decide (size + 4 ≤ h.window)

/-- A value fits a 16-bit word. -/
def fits16 (n : Nat) : Bool := decide (n < 65536)

/-- A signed value fits a 32-bit word. -/
def fitsSigned32 (i : Int) : Bool := decide (-2147483648 ≤ i ∧ i < 2147483648)

/-- The stored data of a step fits its words (R198). -/
def StoredStep.fits (d : StoredStep) : Bool :=
  (match d.compensation with
   | none => true
   | some c => fitsSigned32 c.cre && fitsSigned32 c.cim && fits16 c.vcap)
    && fits16 d.learnedRise && decide (d.closeCount < 4294967296)

/-- A copy's contents fit their words (R198). -/
def Image.fits (i : Image) : Bool :=
  fits16 i.seq && allSettingIds.all (fun x => fits16 (i.settings.get x))
    && allSteps.all (fun k => i.steps[k].fits)

/-- The commands the outside world can send. -/
def Instr.wellFormed : Instr → Bool
  | .status h | .frameQuery h | .tripRecordQuery h | .outcomeRead h | .keepalive h | .save h
  | .clearTripRecord h | .resetBackup h | .clearCounters h => h.fits 0
  | .stepQuery h _ | .monitorQuery h _ | .openStep h _ | .select h _ | .operate h _ | .cancel h _
  | .auto h _ | .releaseHold h _ | .captureInherent h _ | .resetLockout h _ | .resetStep h _
  | .takeOut h _ | .returnStep h _ => h.fits 1
  | .getSetting h _ _ => h.fits 2
  | .setSetting h _ _ _ => h.fits 4
  | .badFrame _ w => !goodFrame w
  | .unknownRequest h code payload =>
    (payloadSize code).isNone && decide (payload.length ≤ 60) && h.fits payload.length
  | .frameArrival f => decide f.parts.Nodup
  | .elapsedSecond parts => decide parts.Nodup
  | .saveComplete r => r.fits
  | .rawInputChange _ _ _ | .contactDebounceAccept _ _ | .keyAccept | .externalTripAssertion
  | .externalTripDeassertion | .contactFaultExpiry _ | .coilPulseEnd | .closeOperateTimeout
  | .openOperateTimerExpiry | .dispatch | .crossing _ _ | .frameStart | .settleEnd | .deadLineEntry
  | .lineLiveReturn | .fastOpen | .monitorActivation _ | .monitorClearing _ | .unbalanceAlarm _
  | .unbalanceTripDecision _ | .captureComplete | .dischargeEnd _ | .harmonicHoldEnd _ | .stale
  | .selectExpired _ | .supervisionTimerExpiry | .powerOnReset | .pinReset | .releaseOfReset _
  | .loadingEnd | .stepDerivation _ | .zeroCrossingDetectorArming _ => true

end Sys2Proof
end

