-- ==== Sys2Proof/Decode.lean ====
section
/-!
DEFINITION. Reading commands from bits. The opcode table gives no row any bits, so no table word spells
a command; what has bytes is a request's window on a port (R176, R177, R181), which `decodeWindow` reads
whatever its bytes and `encodeWindow` writes.
-/
namespace Sys2Proof

open Sys2Proof.Machine

/-- The command a table word spells: none, since no row of the table has bits. -/
def decodeTableWord (_nbits _w : Nat) : Option Instr := none

/-- A 16-bit value of two bytes, most significant first (9.9). -/
def word16 (hi lo : Byte) : BitVec 16 := hi ++ lo

/-- The request a good frame carries (R181); a code outside the catalogue, or a payload of another size,
is an unknown request. -/
def decodeRequest (h : Header) (code : Byte) (payload : List Byte) : Instr :=
  match code.toNat, payload with
  | 0x01, [] => .status h
  | 0x02, [b] => .stepQuery h b
  | 0x03, [] => .frameQuery h
  | 0x04, [b] => .monitorQuery h b
  | 0x05, [] => .tripRecordQuery h
  | 0x06, [] => .outcomeRead h
  | 0x07, [n, i] => .getSetting h n i
  | 0x08, [] => .keepalive h
  | 0x10, [b] => .openStep h b
  | 0x11, [b] => .select h b
  | 0x12, [b] => .operate h b
  | 0x13, [b] => .cancel h b
  | 0x14, [v] => .auto h v
  | 0x15, [b] => .releaseHold h b
  | 0x20, [n, i, hi, lo] => .setSetting h n i (word16 hi lo)
  | 0x21, [] => .save h
  | 0x22, [b] => .captureInherent h b
  | 0x23, [b] => .resetLockout h b
  | 0x24, [b] => .resetStep h b
  | 0x25, [b] => .takeOut h b
  | 0x26, [b] => .returnStep h b
  | 0x27, [] => .clearTripRecord h
  | 0x28, [] => .resetBackup h
  | 0x29, [] => .clearCounters h
  | _, _ => .unknownRequest h code payload

/-- The command a window's bytes are (R177, R179): a good frame carries its request, and any other
window is a bad frame. -/
def decodeWindow (p : Port) (w : List Byte) : Instr :=
  if goodFrame w then
    match w with
    | l :: code :: tag :: rest =>
      decodeRequest { port := p, tag := tag, window := w.length } code (rest.take l.toNat)
    | _ => .badFrame p w
  else .badFrame p w

/-- A request frame in a window: length, code, tag, payload, check byte, and zeros up to the window's
length (R177). -/
def frameBytes (h : Header) (code : Byte) (payload : List Byte) : List Byte :=
  let head := byte payload.length :: code :: h.tag :: payload
  head ++ [crc8 head] ++ List.replicate (h.window - (payload.length + 4)) 0

/-- The port and the bytes of the window that carries a command; none for an event, which no port
carries (R181). -/
def encodeWindow : Instr → Option (Port × List Byte)
  | .status h => some (h.port, frameBytes h 0x01 [])
  | .stepQuery h b => some (h.port, frameBytes h 0x02 [b])
  | .frameQuery h => some (h.port, frameBytes h 0x03 [])
  | .monitorQuery h b => some (h.port, frameBytes h 0x04 [b])
  | .tripRecordQuery h => some (h.port, frameBytes h 0x05 [])
  | .outcomeRead h => some (h.port, frameBytes h 0x06 [])
  | .getSetting h n i => some (h.port, frameBytes h 0x07 [n, i])
  | .keepalive h => some (h.port, frameBytes h 0x08 [])
  | .openStep h b => some (h.port, frameBytes h 0x10 [b])
  | .select h b => some (h.port, frameBytes h 0x11 [b])
  | .operate h b => some (h.port, frameBytes h 0x12 [b])
  | .cancel h b => some (h.port, frameBytes h 0x13 [b])
  | .auto h v => some (h.port, frameBytes h 0x14 [v])
  | .releaseHold h b => some (h.port, frameBytes h 0x15 [b])
  | .setSetting h n i v =>
    some (h.port, frameBytes h 0x20 [n, i, v.extractLsb' 8 8, v.extractLsb' 0 8])
  | .save h => some (h.port, frameBytes h 0x21 [])
  | .captureInherent h b => some (h.port, frameBytes h 0x22 [b])
  | .resetLockout h b => some (h.port, frameBytes h 0x23 [b])
  | .resetStep h b => some (h.port, frameBytes h 0x24 [b])
  | .takeOut h b => some (h.port, frameBytes h 0x25 [b])
  | .returnStep h b => some (h.port, frameBytes h 0x26 [b])
  | .clearTripRecord h => some (h.port, frameBytes h 0x27 [])
  | .resetBackup h => some (h.port, frameBytes h 0x28 [])
  | .clearCounters h => some (h.port, frameBytes h 0x29 [])
  | .badFrame p w => some (p, w)
  | .unknownRequest h code payload => some (h.port, frameBytes h code payload)
  | .rawInputChange _ _ _ | .contactDebounceAccept _ _ | .keyAccept | .externalTripAssertion
  | .externalTripDeassertion | .contactFaultExpiry _ | .coilPulseEnd | .closeOperateTimeout
  | .openOperateTimerExpiry | .dispatch | .crossing _ _ | .frameStart | .frameArrival _ | .settleEnd
  | .deadLineEntry | .lineLiveReturn | .fastOpen | .monitorActivation _ | .monitorClearing _
  | .unbalanceAlarm _ | .unbalanceTripDecision _ | .captureComplete | .elapsedSecond _
  | .dischargeEnd _ | .harmonicHoldEnd _ | .stale | .selectExpired _ | .supervisionTimerExpiry
  | .saveComplete _ | .powerOnReset | .pinReset | .releaseOfReset _ | .loadingEnd
  | .stepDerivation _ | .zeroCrossingDetectorArming _ => none

end Sys2Proof
end

