-- ==== Sys2Proof/Machine/Events.lean ====
section
/-!
DEFINITION. The events of measurement, of the frame-counted and second-counted rules, and of reset,
loading and storing. A row that names one event inside a frame arrival or an elapsed second has its own
meaning here: that event alone, taken on the records as they stand, and nothing when its condition does
not hold (log entries 13 and 14).
-/
namespace Sys2Proof.Machine

/-! ## Measurement -/

/-- A positive-going crossing of an armed detector (R26); a detector that is not armed recognises
none. -/
def State.crossing (s : State) (p : Phase) : State :=
  if (s.detector p).armed then s.recognise p else s

/-- CROSSING (R26, R29). -/
def execCrossing (p : Phase) (elapsed : Nat) (s : State) : Host.Outcome State Fault Refusal :=
  .next (s.unlessHeld (fun s => (s.pass elapsed).crossing p))

/-- ZERO_CROSSING_DETECTOR_ARMING (R26). -/
def execZeroCrossingDetectorArming (p : Phase) (s : State) : Host.Outcome State Fault Refusal :=
  .next (s.unlessHeld (fun s => s.armDetector p))

/-- FRAME_START (R28). -/
def execFrameStart (s : State) : Host.Outcome State Fault Refusal :=
  .next (s.unlessHeld State.startFrame)

/-- FRAME_ARRIVAL (R44). -/
def execFrameArrival (i : FrameInput) (s : State) : Host.Outcome State Fault Refusal :=
  .next (s.unlessHeld (fun s => s.frameArrives i))

/-! ## Events of a frame arrival -/

/-- settle_remaining goes from 1 to 0: the settle end and its examination (R81). -/
def State.settleEnds (s : State) : State := if s.cu.settle = 1 then s.cuFrame.examine else s

/-- SETTLE_END (R81, R89). -/
def execSettleEnd (s : State) : Host.Outcome State Fault Refusal :=
  .next (s.unlessHeld State.settleEnds)

/-- The dead frame that brings run_count to NDEAD (R96, R97). -/
def State.deadLineEntry (s : State) : State :=
  if s.avc.line = .live ∧ s.deadFrame = true ∧ s.y .ndead ≤ s.avc.runCount + 1 then s.enterDead
  else s

/-- DEAD_LINE_ENTRY (R97). -/
def execDeadLineEntry (s : State) : Host.Outcome State Fault Refusal :=
  .next (s.unlessHeld State.deadLineEntry)

/-- The live frame that brings run_count to NDEAD (R98). -/
def State.liveReturn (s : State) : State :=
  if s.avc.line = .dead ∧ s.liveFrame = true ∧ s.y .ndead ≤ s.avc.runCount + 1 then s.setLine .live
  else s

/-- LINE_LIVE_RETURN (R98). -/
def execLineLiveReturn (s : State) : Host.Outcome State Fault Refusal :=
  .next (s.unlessHeld State.liveReturn)

/-- The frame that brings OV_cnt to NOV (R111, R112). -/
def State.fastOpen (s : State) : State := if s.fastDue then s.fastOpening else s

/-- FAST_OPEN (R112). -/
def execFastOpen (s : State) : Host.Outcome State Fault Refusal :=
  .next (s.unlessHeld State.fastOpen)

/-- The exceeding frame at which a monitor activates (R124). -/
def State.monitorActivates (s : State) (m : MonitorId) : State :=
  if s.set.settings.enabled m = true ∧ s.monitorHeld m = false ∧ s.exceeding m = true
      ∧ (s.monitor m).active = false ∧ s.pickup m ≤ s.accumulatorAfter m then
    (s.setAccumulator m (s.accumulatorAfter m)).activate m
  else s

/-- MONITOR_ACTIVATION (R124). -/
def execMonitorActivation (m : MonitorId) (s : State) : Host.Outcome State Fault Refusal :=
  .next (s.unlessHeld (fun s => s.monitorActivates m))

/-- The frame at which a monitor clears (R125). -/
def State.monitorClears (s : State) (m : MonitorId) : State :=
  if s.set.settings.enabled m = true ∧ s.monitorHeld m = false ∧ s.exceeding m = false
      ∧ (s.monitor m).active = true ∧ s.accumulatorAfter m = 0 then
    (s.setAccumulator m 0).clearMonitor m
  else s

/-- MONITOR_CLEARING (R125). -/
def execMonitorClearing (m : MonitorId) (s : State) : Host.Outcome State Fault Refusal :=
  .next (s.unlessHeld (fun s => s.monitorClears m))

/-- The counting frame that brings a step's alarm count to TALM with the flag clear (R141). -/
def State.alarmSets (s : State) (k : StepId) : State :=
  if (s.stepRec k).state = some .closed ∧ s.stagesHeld = false
      ∧ s.set.settings.s .ualm k ≤ s.me.frame.neutrals[k].u
      ∧ (s.stepRec k).alarmFlag = false
      ∧ s.set.settings.s .talm k ≤ (s.stepRec k).alarmCount + 1 then s.alarmStage k
  else s

/-- UNBALANCE_ALARM (R141). -/
def execUnbalanceAlarm (k : StepId) (s : State) : Host.Outcome State Fault Refusal :=
  .next (s.unlessHeld (fun s => s.alarmSets k))

/-- The counting frame that brings a step's trip count to TTRIP (R142). -/
def State.tripDecides (s : State) (k : StepId) : State :=
  if (s.stepRec k).state = some .closed ∧ s.stagesHeld = false
      ∧ s.set.settings.s .utrip k ≤ s.me.frame.neutrals[k].u
      ∧ s.set.settings.s .ttrip k ≤ (s.stepRec k).tripCount + 1 then s.tripDecision k
  else s

/-- UNBALANCE_TRIP_DECISION (R142). -/
def execUnbalanceTripDecision (k : StepId) (s : State) : Host.Outcome State Fault Refusal :=
  .next (s.unlessHeld (fun s => s.tripDecides k))

/-- The sixteenth frame a running capture counts (R155). -/
def State.captureCompletes (s : State) : State :=
  match s.upu.capture with
  | none => s
  | some c =>
    if 16 ≤ c.count + 1 ∧ s.me.frame.noRef = false ∧ s.me.frame.settling = false
        ∧ s.me.frame.neutrals[c.step].clip = false then s.completeCapture (s.captureAdd c)
    else s

/-- CAPTURE_COMPLETE (R155). -/
def execCaptureComplete (s : State) : Host.Outcome State Fault Refusal :=
  .next (s.unlessHeld State.captureCompletes)

/-! ## Events of an elapsed second -/

/-- ELAPSED_SECOND (R78 and the rules of every block that counts seconds). -/
def execElapsedSecond (parts : List SecondPart) (s : State) : Host.Outcome State Fault Refusal :=
  .next (s.unlessHeld (fun s => s.secondElapses parts))

/-- The second at which a DISCHARGING step's discharge_remaining reaches 0 (R14). -/
def State.dischargeEnds (s : State) (k : StepId) : State :=
  if (s.stepRec k).state = some .discharging ∧ (s.stepRec k).discharge ≤ 1 then
    (s.countDischarge k).endDischarge k
  else s

/-- DISCHARGE_END (R14). -/
def execDischargeEnd (k : StepId) (s : State) : Host.Outcome State Fault Refusal :=
  .next (s.unlessHeld (fun s => s.dischargeEnds k))

/-- The second at which a step's harmonic_hold_remaining reaches 0 (R86). -/
def State.holdEnds (s : State) (k : StepId) : State :=
  if (s.stepRec k).harmonicHold = 1 then s.countHold k else s

/-- HARMONIC_HOLD_END (R86). -/
def execHarmonicHoldEnd (k : StepId) (s : State) : Host.Outcome State Fault Refusal :=
  .next (s.unlessHeld (fun s => s.holdEnds k))

/-- STALE (R71): the waiting closes past TSTALE leave, and dispatch is examined at a removal. -/
def execStale (s : State) : Host.Outcome State Fault Refusal :=
  .next (s.unlessHeld (fun s => s.removeStale.examineIfLeft s))

/-- SELECT_EXPIRED (R173). -/
def execSelectExpired (p : Port) (s : State) : Host.Outcome State Fault Refusal :=
  .next (s.unlessHeld (fun s => s.expireSelection p))

/-- The second at which the supervision timer reaches 0 (R164). -/
def State.supervisionEnds (s : State) : State :=
  match s.au.remaining with
  | none => s
  | some n => if n ≤ 1 then s.superviseExpiry else s

/-- SUPERVISION_TIMER_EXPIRY (R165, R166). -/
def execSupervisionTimerExpiry (s : State) : Host.Outcome State Fault Refusal :=
  .next (s.unlessHeld State.supervisionEnds)

/-! ## Storing, reset and start-up -/

/-- The SAVE in flight ends with what its target copy reads back as (R200). -/
def State.saveEnds (s : State) (readback : Image) : State :=
  match s.set.save with
  | none => s
  | some f => s.endSave f readback

/-- SAVE_COMPLETE (R200). -/
def execSaveComplete (readback : Image) (s : State) : Host.Outcome State Fault Refusal :=
  .next (s.unlessHeld (fun s => s.saveEnds readback))

/-- The reset being held, none of either kind when the controller runs (R201). -/
def State.heldNow (s : State) : ResetHold := s.clock.held.getD { power := false, pin := false }

/-- POWER_ON_RESET (R201): the supply falls below its threshold. -/
def execPowerOnReset (s : State) : Host.Outcome State Fault Refusal :=
  .next (s.holdReset { s.heldNow with power := true })

/-- PIN_RESET (R201): the reset pin is asserted. -/
def execPinReset (s : State) : Host.Outcome State Fault Refusal :=
  .next (s.holdReset { s.heldNow with pin := true })

/-- The moment at which no reset is held any more (R201). -/
def State.released (s : State) (fsel : Fsel) : State :=
  match s.clock.held with
  | none => s
  | some h => s.release h fsel

/-- RELEASE_OF_RESET (R201). -/
def execReleaseOfReset (fsel : Fsel) (s : State) : Host.Outcome State Fault Refusal :=
  .next (s.released fsel)

/-- LOADING ends 40 ms after the release of reset (R202). -/
def State.loadingEnds (s : State) : State :=
  if s.set.startup = .loading then (s.until 40000).endLoading else s

/-- LOADING_END (R202). -/
def execLoadingEnd (s : State) : Host.Outcome State Fault Refusal :=
  .next (s.unlessHeld State.loadingEnds)

/-- STEP_DERIVATION (R203, R204). -/
def execStepDerivation (openAllFirst : Bool) (s : State) : Host.Outcome State Fault Refusal :=
  .next (s.unlessHeld (fun s => s.derivation openAllFirst))

end Sys2Proof.Machine
end

