-- ==== Sys2Proof/Machine/Inputs.lean ====
section
/-!
DEFINITION. The events at the discrete inputs and the switching timers: raw changes and accepted values
(R4 to R6), the external trip edges (R149, R150), the contact-fault timer (R13), the end of a coil pulse
(R22), the operate timer (R64, R69, R70) and dispatch (R60 to R62).
-/
namespace Sys2Proof.Machine

/-! ## Debounced inputs -/

/-- The key's raw value is accepted and handed to the AU (R6, R160). -/
def State.acceptKey (s : State) : State :=
  if s.ss.keyIn.toAccept then (s.accept .key).takeKey (keyOf s.ss.keyIn.raw) else s

/-- An asserted external trip is accepted: the assertion edge (R6, R149, R150). -/
def State.acceptAssertion (s : State) : State :=
  if s.ss.tripIn.toAccept ∧ s.ss.tripIn.raw = true then (s.accept .externalTrip).externalEdge else s

/-- A de-asserted external trip is accepted: nothing else changes (R150). -/
def State.acceptDeassertion (s : State) : State :=
  if s.ss.tripIn.toAccept ∧ s.ss.tripIn.raw = false then s.accept .externalTrip else s

/-- The raw value of an input is accepted, with what follows from it. -/
def State.acceptInput (s : State) : DiscreteInput → State
  | .contact k c => s.acceptContact k c
  | .key => s.acceptKey
  | .externalTrip => s.acceptAssertion.acceptDeassertion

/-- A raw value that has held for DEBOUNCE before the level changes has been accepted (R4). -/
def State.acceptHeld (s : State) (i : DiscreteInput) : State :=
  if s.windowEnd (s.debouncer i) ≤ s.clock.now then s.acceptInput i else s

/-- The raw level of an input changes now: its window starts again (R4). -/
def State.changeRaw (s : State) (i : DiscreteInput) (level : Bool) : State :=
  s.setDebouncer i { s.debouncer i with raw := level, since := s.clock.now }

/-- RAW_INPUT_CHANGE (R4): a level equal to the present one is no change. While a reset is held the
level is followed and nothing else happens. -/
def execRawInputChange (i : DiscreteInput) (level : Bool) (elapsed : Nat) (s : State) :
    Host.Outcome State Fault Refusal :=
  .next (
    if s.clock.held.isSome then s.changeRaw i level
    else if (s.debouncer i).raw = level then s.pass elapsed
    else ((s.pass elapsed).acceptHeld i).changeRaw i level)

/-- CONTACT_DEBOUNCE_ACCEPT (R4, R5). -/
def execContactDebounceAccept (k : StepId) (c : Contact) (s : State) :
    Host.Outcome State Fault Refusal :=
  .next (s.unlessHeld (fun s => s.acceptContact k c))

/-- KEY_ACCEPT (R160). -/
def execKeyAccept (s : State) : Host.Outcome State Fault Refusal :=
  .next (s.unlessHeld State.acceptKey)

/-- EXTERNAL_TRIP_ASSERTION (R149). -/
def execExternalTripAssertion (s : State) : Host.Outcome State Fault Refusal :=
  .next (s.unlessHeld State.acceptAssertion)

/-- EXTERNAL_TRIP_DEASSERTION (R150). -/
def execExternalTripDeassertion (s : State) : Host.Outcome State Fault Refusal :=
  .next (s.unlessHeld State.acceptDeassertion)

/-! ## Timers -/

/-- The contact-fault timer of a step runs out, if it runs (R13). -/
def State.faultExpires (s : State) (k : StepId) : State :=
  match (s.stepRec k).faultTimer with
  | none => s
  | some t => s.contactFault k t

/-- CONTACT_FAULT_EXPIRY (R13). -/
def execContactFaultExpiry (k : StepId) (s : State) : Host.Outcome State Fault Refusal :=
  .next (s.unlessHeld (fun s => s.faultExpires k))

/-- TPULSE passes on the running pulse: the coil is de-energised, and the end starts nothing (R22,
R63). -/
def State.pulseEnds (s : State) : State :=
  match s.ss.pulse with
  | none => s
  | some p => { (s.until p.timer.due) with ss := { s.ss with pulse := none } }

/-- COIL_PULSE_END (R22). -/
def execCoilPulseEnd (s : State) : Host.Outcome State Fault Refusal :=
  .next (s.unlessHeld State.pulseEnds)

/-- The operate timer of an in-flight CLOSE expires (R69). -/
def State.closeTimesOut (s : State) : State :=
  match s.inFlight, s.oq.operate with
  | some e, some t => if e.kind = .closeOp then (s.until t.due).failClose e else s
  | _, _ => s

/-- CLOSE_OPERATE_TIMEOUT (R69). -/
def execCloseOperateTimeout (s : State) : Host.Outcome State Fault Refusal :=
  .next (s.unlessHeld State.closeTimesOut)

/-- The operate timer of an in-flight OPEN or TRIP expires: a retry while retries remain, else the
failure (R64, R70). -/
def State.openTimesOut (s : State) : State :=
  match s.inFlight, s.oq.operate with
  | some e, some t =>
    if e.kind = .closeOp then s
    else if s.oq.retryCount < s.y .nretry then (s.until t.due).retryOpen e
    else (s.until t.due).failOpen e
  | _, _ => s

/-- OPEN_OPERATE_TIMER_EXPIRY (R64, R70). -/
def execOpenOperateTimerExpiry (s : State) : Host.Outcome State Fault Refusal :=
  .next (s.unlessHeld State.openTimesOut)

/-- DISPATCH (R60 to R62): an examination, which dispatches the entry R61 chooses. -/
def execDispatch (s : State) : Host.Outcome State Fault Refusal :=
  .next (s.unlessHeld State.examine)

end Sys2Proof.Machine
end

