-- ==== Sys2Proof/Machine/Maintenance.lean ====
section
/-!
DEFINITION. The requests of the station processor: SET (R184, R195), SAVE (R199), CAPTURE_INHERENT
(R154), RESET_LOCKOUT, RESET_STEP, TAKE_OUT and RETURN (R15 to R18), CLEAR_TRIP_RECORD (R147),
RESET_BACKUP (R153) and CLEAR_COUNTERS (R134).
-/
namespace Sys2Proof.Machine

/-- Port B may name VSET or BW in a SET; Port A may name any setting (R184). -/
def setPermitted (p : Port) (i : Option SettingId) : Bool :=
  decide (p = .a) || decide (i = some (.yard .vset)) || decide (i = some (.yard .bw))

/-- SET of a setting of the catalogue: NOT_HOLDER for Port B, BUSY while a SAVE is in flight, and
otherwise the clamped value is held pending (R184, R195). -/
def judgeSetId (p : Port) (i : SettingId) (v : BitVec 16) : Judge := fun s =>
  if p = .b ∧ s.holder ≠ some .b then refusedWith s .notHolder
  else if s.set.save.isSome then refusedWith s .busy
  else
    (s.hold i (s.clamp i v.toNat),
      if s.clamp i v.toNat = v.toNat then .plain .done
      else { code := .clamped, payload := be 2 (s.clamp i v.toNat) })

/-- SET (R184). -/
def judgeSet (p : Port) (i : Option SettingId) (v : BitVec 16) : Judge :=
  match i with
  | none => fun s => refusedWith s .badStep
  | some i => judgeSetId p i v

/-- SET (R195). -/
def execSetSetting (h : Header) (number index : Byte) (v : BitVec 16) (s : State) :
    Host.Outcome State Fault Refusal :=
  .next (s.request h (setPermitted h.port (SettingId.ofBytes number.toNat index.toNat))
    (judgeSet h.port (SettingId.ofBytes number.toNat index.toNat) v))

/-- SAVE (R199). -/
def judgeSave (tag : Byte) : Judge := fun s =>
  if s.set.save.isSome then refusedWith s .busy else (s.startSave tag, .plain .accepted)

/-- SAVE (R199). -/
def execSave (h : Header) (s : State) : Host.Outcome State Fault Refusal :=
  .next (s.request h (fromA h) (judgeSave h.tag))

/-- CAPTURE_INHERENT of a step: the checks of R154 in order. -/
def judgeCaptureStep (tag : Byte) (k : StepId) : Judge := fun s =>
  if s.set.save.isSome then refusedWith s .busy
  else if s.upu.capture.isSome then refusedWith s .busy
  else if (s.stepRec k).state ≠ some .closed then refusedWith s .wrongState
  else if 0 < s.cu.settle then refusedWith s .busy
  else
    (s.setCapture (some { step := k, tag := tag, count := 0, sumRe := 0, sumIm := 0, sumV := 0 }),
      .plain .accepted)

/-- CAPTURE_INHERENT (R154). -/
def execCaptureInherent (h : Header) (b : Byte) (s : State) : Host.Outcome State Fault Refusal :=
  .next (s.request h (fromA h) (withStep b (judgeCaptureStep h.tag)))

/-- The state an open step returns to: DISCHARGING while discharge_remaining runs, else READY (R16,
R18). -/
def availableState (discharge : Nat) : StepState := if 0 < discharge then .discharging else .ready

/-- RESET_LOCKOUT of a step (R18). -/
def judgeResetLockout (k : StepId) : Judge := fun s =>
  if (s.stepRec k).state = some .lockout ∧ (s.stepRec k).position = some .atOpen then
    doneWith (s.enter k (availableState (s.stepRec k).discharge) none none)
  else refusedWith s .wrongState

/-- RESET_LOCKOUT (R18). -/
def execResetLockout (h : Header) (b : Byte) (s : State) : Host.Outcome State Fault Refusal :=
  .next (s.request h (fromA h) (withStep b judgeResetLockout))

/-- RESET_STEP of a step (R17). -/
def judgeResetStep (k : StepId) : Judge := fun s =>
  match (s.stepRec k).state, (s.stepRec k).position with
  | some .failed, some .atOpen => doneWith ((s.loadDischarge k).enter k .discharging none none)
  | some .failed, some .atClosed => doneWith (s.enter k .closed none none)
  | _, _ => refusedWith s .wrongState

/-- RESET_STEP (R17). -/
def execResetStep (h : Header) (b : Byte) (s : State) : Host.Outcome State Fault Refusal :=
  .next (s.request h (fromA h) (withStep b judgeResetStep))

/-- A step may be taken out from READY, DISCHARGING, LOCKOUT and FAILED (R15). -/
def mayTakeOut : Option StepState → Bool
  | some .ready | some .discharging | some .lockout | some .failed => true
  | _ => false

/-- TAKE_OUT of a step (R15); a lockout_cause is kept. -/
def judgeTakeOut (k : StepId) : Judge := fun s =>
  if mayTakeOut (s.stepRec k).state = false then refusedWith s .wrongState
  else if (s.entryOf k).isSome then refusedWith s .pending
  else doneWith (s.enter k .out (s.stepRec k).lockoutCause none)

/-- TAKE_OUT (R15). -/
def execTakeOut (h : Header) (b : Byte) (s : State) : Host.Outcome State Fault Refusal :=
  .next (s.request h (fromA h) (withStep b judgeTakeOut))

/-- RETURN of a step (R16). -/
def judgeReturn (k : StepId) : Judge := fun s =>
  if (s.stepRec k).state = some .out ∧ (s.stepRec k).position = some .atOpen then
    match (s.stepRec k).lockoutCause with
    | some c => doneWith (s.enter k .lockout (some c) none)
    | none => doneWith (s.enter k (availableState (s.stepRec k).discharge) none none)
  else refusedWith s .wrongState

/-- RETURN (R16). -/
def execReturnStep (h : Header) (b : Byte) (s : State) : Host.Outcome State Fault Refusal :=
  .next (s.request h (fromA h) (withStep b judgeReturn))

/-- The Trip Record is emptied; when the close block was holding, dispatch is examined at its end (R146,
R147). -/
def State.clearTripRecord (s : State) : State :=
  let t := { s with upu := { s.upu with tripRecord := none } }
  if s.tripRecordBlock then t.examine else t

/-- CLEAR_TRIP_RECORD (R147). -/
def execClearTripRecord (h : Header) (s : State) : Host.Outcome State Fault Refusal :=
  .next (s.request h (fromA h) (fun s => doneWith s.clearTripRecord))

/-- BKT is de-asserted and its record emptied; dispatch is examined at the end of its close block
(R152, R153). -/
def State.clearBackup (s : State) : State :=
  let t := { s with upu := { s.upu with backup := none } }
  if s.bkt then t.examine else t

/-- RESET_BACKUP (R153). -/
def execResetBackup (h : Header) (s : State) : Host.Outcome State Fault Refusal :=
  .next (s.request h (fromA h) (fun s => doneWith s.clearBackup))

/-- assert_count and active_frames of every monitor become 0 (R134). -/
def State.clearCounters (s : State) : State :=
  { s with
    hmu :=
      { s.hmu with
        monitors := s.hmu.monitors.map (fun m => { m with assertCount := 0, activeFrames := 0 }) } }

/-- CLEAR_COUNTERS (R134). -/
def execClearCounters (h : Header) (s : State) : Host.Outcome State Fault Refusal :=
  .next (s.request h (fromA h) (fun s => doneWith s.clearCounters))

end Sys2Proof.Machine
end

