-- ==== Sys2Proof/Machine/Operations.lean ====
section
/-!
DEFINITION. The requests that operate the yard: OPEN (R52, R59), SELECT, OPERATE and CANCEL (R170 to
R172), AUTO (R162) and RELEASE_HOLD (R169).
-/
namespace Sys2Proof.Machine

/-- OPEN of one step: the posting's answer (R50 to R58). -/
def judgeOpenOne (p : Port) (tag : Byte) (k : StepId) : Judge := fun s =>
  let r := s.admitOne (openPosting (portOriginator p) (some tag) false k)
  (r.1, r.2.answer)

/-- OPEN of ALL: ACCEPTED with the count and the eight answers (R59, R181). -/
def judgeOpenAll (p : Port) (tag : Byte) : Judge := fun s =>
  let r := s.admitAll (portOriginator p) (some tag) false
  (r.1,
    { code := .accepted
      payload := byte (acceptedCount r.2) :: r.2.map (fun a => byte a.result.code) })

/-- OPEN (R52, R59): 1 to 8 or 15; any other value is BAD_STEP (R182). -/
def judgeOpen (p : Port) (tag b : Byte) : Judge :=
  if b = allStepsField then judgeOpenAll p tag else withStep b (judgeOpenOne p tag)

/-- OPEN (R52). -/
def execOpenStep (h : Header) (b : Byte) (s : State) : Host.Outcome State Fault Refusal :=
  .next (s.request h true (judgeOpen h.port h.tag b))

/-- The close block a SELECT is refused for, in the order of R170. -/
def State.selectBlock (s : State) : Option BlockCause :=
  if s.harmonicBlock then some .harmonic
  else if s.overvoltageBlock then some .overvoltage
  else if s.bkt then some .backupTrip
  else if s.tripRecordBlock then some .tripRecord
  else none

/-- The expiry time of a selection made now (R170). -/
def State.expiryNow (s : State) : Nat := (s.clock.uptime + s.y .tsel) % wrap32

/-- SELECT past the holder and AUTO tests: the step's checks, then the blocks (R170). -/
def judgeSelectStep (p : Port) (tag : Byte) (k : StepId) : Judge := fun s =>
  match (s.stepRec k).state with
  | some .discharging => (s, (PostAnswer.cooling (s.stepRec k).discharge).answer)
  | some .ready =>
    if s.inService k = false then refusedWith s .wrongState
    else if (s.entryOf k).isSome then refusedWith s .pending
    else if (s.slot p).isSome then refusedWith s .selectionHeld
    else if s.lineDead then refusedWith s .deadLine
    else
      match s.selectBlock with
      | some c => (s, (PostAnswer.blocked c).answer)
      | none =>
        (s.setSlot p (some { step := k, tag := tag, expiry := s.expiryNow }),
          { code := .accepted, payload := be 4 s.expiryNow })
  | _ => refusedWith s .wrongState

/-- SELECT (R170). -/
def judgeSelect (p : Port) (tag b : Byte) : Judge :=
  withStep b (fun k => ifHolder p (fun s =>
    if s.au.auto then refusedWith s .autoActive else judgeSelectStep p tag k s))

/-- SELECT (R170). -/
def execSelect (h : Header) (b : Byte) (s : State) : Host.Outcome State Fault Refusal :=
  .next (s.request h true (judgeSelect h.port h.tag b))

/-- The CLOSE posting of an OPERATE (R171). -/
def closePosting (p : Port) (tag : Byte) (k : StepId) : Posting :=
  { kind := .closeOp, step := k, originator := portOriginator p, tag := some tag, fast := false }

/-- OPERATE (R171): the selection is consumed and a CLOSE posted; its answer is the posting's. -/
def judgeOperate (p : Port) (tag b : Byte) : Judge :=
  withStep b (fun k s =>
    if s.holdsSelection p k then
      let r := (s.setSlot p none).admitOne (closePosting p tag k)
      (r.1, r.2.answer)
    else refusedWith s .notSelected)

/-- OPERATE (R171). -/
def execOperate (h : Header) (b : Byte) (s : State) : Host.Outcome State Fault Refusal :=
  .next (s.request h true (judgeOperate h.port h.tag b))

/-- CANCEL (R172): the slot is emptied with no record. -/
def judgeCancel (p : Port) (b : Byte) : Judge :=
  withStep b (fun k s =>
    if s.holdsSelection p k then doneWith (s.setSlot p none) else refusedWith s .notSelected)

/-- CANCEL (R172). -/
def execCancel (h : Header) (b : Byte) (s : State) : Host.Outcome State Fault Refusal :=
  .next (s.request h true (judgeCancel h.port b))

/-- AUTO (R162): 0 is off and any other value on; turning it on cancels every selection. -/
def judgeAuto (p : Port) (v : Byte) : Judge :=
  ifHolder p (fun s =>
    if s.au.auto = decide (v ≠ 0) then doneWith s
    else if v ≠ 0 then doneWith s.autoOn
    else doneWith (s.setAuto false))

/-- AUTO (R162). -/
def execAuto (h : Header) (v : Byte) (s : State) : Host.Outcome State Fault Refusal :=
  .next (s.request h true (judgeAuto h.port v))

/-- RELEASE_HOLD (R169): manual_hold of one step or of every step becomes no. -/
def judgeReleaseHold (p : Port) (b : Byte) : Judge :=
  if b = allStepsField then
    ifHolder p (fun s => doneWith (allSteps.foldl (fun (t : State) k => t.releaseOne k) s))
  else withStep b (fun k => ifHolder p (fun s => doneWith (s.releaseOne k)))

/-- RELEASE_HOLD (R169). -/
def execReleaseHold (h : Header) (b : Byte) (s : State) : Host.Outcome State Fault Refusal :=
  .next (s.request h true (judgeReleaseHold h.port b))

end Sys2Proof.Machine
end

