-- ==== Sys2Proof/Machine/Queries.lean ====
section
/-!
DEFINITION. The queries of R181: STATUS, STEP_QUERY, FRAME_QUERY, MONITOR_QUERY, TRIP_RECORD_QUERY,
OUTCOME_READ, GET, KEEPALIVE, and the two answers a frame can receive before it is judged: BAD_FRAME and
UNKNOWN_REQUEST.
-/
namespace Sys2Proof.Machine

/-- A port's change flag is cleared (R183). -/
def State.clearFlag (s : State) (p : Port) : State :=
  s.setPort p { s.portState p with changeFlag := false }

/-- Both switch event sets are emptied (R20). -/
def State.clearLatches (s : State) : State :=
  { s with ss := { s.ss with closedWhileCharged := [], unexpectedOpen := [] } }

/-- STATUS (R183, R20): the summary as it stands, then the flag cleared and the sets emptied. -/
def judgeStatus (p : Port) : Judge := fun s =>
  ((s.clearFlag p).clearLatches, { code := .done, payload := s.statusPayload p })

/-- STATUS (R183). -/
def execStatus (h : Header) (s : State) : Host.Outcome State Fault Refusal :=
  .next (s.request h true (judgeStatus h.port))

/-- STEP_QUERY (R1): the Step Record; the value ALL and any value outside 1 to 8 is BAD_STEP (R182). -/
def judgeStepQuery (b : Byte) : Judge :=
  withStep b (fun k => answering (fun s => { code := .done, payload := s.stepPayload k }))

/-- STEP_QUERY (R1). -/
def execStepQuery (h : Header) (b : Byte) (s : State) : Host.Outcome State Fault Refusal :=
  .next (s.request h true (judgeStepQuery b))

/-- FRAME_QUERY (R44): the latest frame. -/
def judgeFrameQuery : Judge :=
  answering (fun s => { code := .done, payload := s.me.frame.payload })

/-- FRAME_QUERY (R44). -/
def execFrameQuery (h : Header) (s : State) : Host.Outcome State Fault Refusal :=
  .next (s.request h true judgeFrameQuery)

/-- MONITOR_QUERY (R135): a monitor's whole record. -/
def judgeMonitorQuery (b : Byte) : Judge :=
  withStep b (fun m => answering (fun s => { code := .done, payload := s.monitorPayload m }))

/-- MONITOR_QUERY (R135). -/
def execMonitorQuery (h : Header) (b : Byte) (s : State) : Host.Outcome State Fault Refusal :=
  .next (s.request h true (judgeMonitorQuery b))

/-- TRIP_RECORD_QUERY (R147): the Trip Record and the last trip result. -/
def judgeTripQuery : Judge := answering (fun s => { code := .done, payload := s.tripPayload })

/-- TRIP_RECORD_QUERY (R147). -/
def execTripRecordQuery (h : Header) (s : State) : Host.Outcome State Fault Refusal :=
  .next (s.request h true judgeTripQuery)

/-- A port's lost-outcome counter becomes 0 (R187). -/
def State.clearLost (s : State) (p : Port) : State :=
  s.setPort p { s.portState p with lost := 0 }

/-- OUTCOME_READ (R187): the oldest record leaves the store, its slot is freed and the counter becomes
0; an empty list is answered EMPTY. -/
def judgeOutcomeRead (p : Port) : Judge := fun s =>
  match s.outcomes p with
  | [] =>
    (s.clearLost p, { code := .empty, payload := [byte (s.portState p).lost, 0] })
  | (_, r) :: rest =>
    ((s.setOutcomes p rest).clearLost p,
      { code := .done
        payload := [byte (s.portState p).lost, byte rest.length] ++ r.bytes })

/-- OUTCOME_READ (R187). -/
def execOutcomeRead (h : Header) (s : State) : Host.Outcome State Fault Refusal :=
  .next (s.request h true (judgeOutcomeRead h.port))

/-- GET (R184): the value in force; an id that names no setting is BAD_STEP (R182). -/
def judgeGet (number index : Byte) : Judge := fun s =>
  match SettingId.ofBytes number.toNat index.toNat with
  | none => refusedWith s .badStep
  | some i => (s, { code := .done, payload := s.getPayload i })

/-- GET (R184). -/
def execGetSetting (h : Header) (number index : Byte) (s : State) :
    Host.Outcome State Fault Refusal :=
  .next (s.request h true (judgeGet number index))

/-- KEEPALIVE (R181): no effect beyond that of any good frame. -/
def execKeepalive (h : Header) (s : State) : Host.Outcome State Fault Refusal :=
  .next (s.request h true doneWith)

/-- BAD_FRAME (R177): the window runs and is answered BAD_FRAME, with no other effect. A window that
passes the checks is no bad frame and does nothing here (log entry 14). -/
def execBadFrame (p : Port) (w : List Byte) (s : State) : Host.Outcome State Fault Refusal :=
  .next (s.unlessHeld (fun s =>
    if goodFrame w then s
    else (s.clockOut p w.length).respond p (badTag w) (.plain .badFrame)))

/-- UNKNOWN_REQUEST (R179): a good frame with a code outside the catalogue. A code of the catalogue is
no unknown request and does nothing here (log entry 14). -/
def execUnknownRequest (h : Header) (code : Byte) (_payload : List Byte) (s : State) :
    Host.Outcome State Fault Refusal :=
  .next (if (payloadSize code).isSome then s
    else s.request h true (fun t => refusedWith t .unknownRequest))

end Sys2Proof.Machine
end

