-- ==== Sys2Proof/Machine/Dispatch.lean ====
section
/-! DEFINITION. One arm for each command: a direct call of its meaning. -/
namespace Sys2Proof.Machine

/-- What a command does to everything but the queue of waiting commands. -/
def exec (i : Instr) (s : State) : Host.Outcome State Fault Refusal :=
  match i with
  | .status h => Sys2Proof.Machine.execStatus h s
  | .stepQuery h b => Sys2Proof.Machine.execStepQuery h b s
  | .frameQuery h => Sys2Proof.Machine.execFrameQuery h s
  | .monitorQuery h b => Sys2Proof.Machine.execMonitorQuery h b s
  | .tripRecordQuery h => Sys2Proof.Machine.execTripRecordQuery h s
  | .outcomeRead h => Sys2Proof.Machine.execOutcomeRead h s
  | .getSetting h n x => Sys2Proof.Machine.execGetSetting h n x s
  | .keepalive h => Sys2Proof.Machine.execKeepalive h s
  | .openStep h b => Sys2Proof.Machine.execOpenStep h b s
  | .select h b => Sys2Proof.Machine.execSelect h b s
  | .operate h b => Sys2Proof.Machine.execOperate h b s
  | .cancel h b => Sys2Proof.Machine.execCancel h b s
  | .auto h v => Sys2Proof.Machine.execAuto h v s
  | .releaseHold h b => Sys2Proof.Machine.execReleaseHold h b s
  | .setSetting h n x v => Sys2Proof.Machine.execSetSetting h n x v s
  | .save h => Sys2Proof.Machine.execSave h s
  | .captureInherent h b => Sys2Proof.Machine.execCaptureInherent h b s
  | .resetLockout h b => Sys2Proof.Machine.execResetLockout h b s
  | .resetStep h b => Sys2Proof.Machine.execResetStep h b s
  | .takeOut h b => Sys2Proof.Machine.execTakeOut h b s
  | .returnStep h b => Sys2Proof.Machine.execReturnStep h b s
  | .clearTripRecord h => Sys2Proof.Machine.execClearTripRecord h s
  | .resetBackup h => Sys2Proof.Machine.execResetBackup h s
  | .clearCounters h => Sys2Proof.Machine.execClearCounters h s
  | .badFrame p w => Sys2Proof.Machine.execBadFrame p w s
  | .unknownRequest h c l => Sys2Proof.Machine.execUnknownRequest h c l s
  | .rawInputChange x l e => Sys2Proof.Machine.execRawInputChange x l e s
  | .contactDebounceAccept k c => Sys2Proof.Machine.execContactDebounceAccept k c s
  | .keyAccept => Sys2Proof.Machine.execKeyAccept s
  | .externalTripAssertion => Sys2Proof.Machine.execExternalTripAssertion s
  | .externalTripDeassertion => Sys2Proof.Machine.execExternalTripDeassertion s
  | .contactFaultExpiry k => Sys2Proof.Machine.execContactFaultExpiry k s
  | .coilPulseEnd => Sys2Proof.Machine.execCoilPulseEnd s
  | .closeOperateTimeout => Sys2Proof.Machine.execCloseOperateTimeout s
  | .openOperateTimerExpiry => Sys2Proof.Machine.execOpenOperateTimerExpiry s
  | .dispatch => Sys2Proof.Machine.execDispatch s
  | .crossing p e => Sys2Proof.Machine.execCrossing p e s
  | .frameStart => Sys2Proof.Machine.execFrameStart s
  | .frameArrival f => Sys2Proof.Machine.execFrameArrival f s
  | .settleEnd => Sys2Proof.Machine.execSettleEnd s
  | .deadLineEntry => Sys2Proof.Machine.execDeadLineEntry s
  | .lineLiveReturn => Sys2Proof.Machine.execLineLiveReturn s
  | .fastOpen => Sys2Proof.Machine.execFastOpen s
  | .monitorActivation m => Sys2Proof.Machine.execMonitorActivation m s
  | .monitorClearing m => Sys2Proof.Machine.execMonitorClearing m s
  | .unbalanceAlarm k => Sys2Proof.Machine.execUnbalanceAlarm k s
  | .unbalanceTripDecision k => Sys2Proof.Machine.execUnbalanceTripDecision k s
  | .captureComplete => Sys2Proof.Machine.execCaptureComplete s
  | .elapsedSecond l => Sys2Proof.Machine.execElapsedSecond l s
  | .dischargeEnd k => Sys2Proof.Machine.execDischargeEnd k s
  | .harmonicHoldEnd k => Sys2Proof.Machine.execHarmonicHoldEnd k s
  | .stale => Sys2Proof.Machine.execStale s
  | .selectExpired p => Sys2Proof.Machine.execSelectExpired p s
  | .supervisionTimerExpiry => Sys2Proof.Machine.execSupervisionTimerExpiry s
  | .saveComplete r => Sys2Proof.Machine.execSaveComplete r s
  | .powerOnReset => Sys2Proof.Machine.execPowerOnReset s
  | .pinReset => Sys2Proof.Machine.execPinReset s
  | .releaseOfReset f => Sys2Proof.Machine.execReleaseOfReset f s
  | .loadingEnd => Sys2Proof.Machine.execLoadingEnd s
  | .stepDerivation o => Sys2Proof.Machine.execStepDerivation o s
  | .zeroCrossingDetectorArming p => Sys2Proof.Machine.execZeroCrossingDetectorArming p s

end Sys2Proof.Machine
end

