-- ==== Sys2Proof/Machine/Step.lean ====
section
/-!
DEFINITION. The step: the command at the front of the queue is taken; with no command waiting, time
passes (log entry 1).
-/
namespace Sys2Proof.Machine

/-- With no command waiting, a microsecond passes on the count of a controller that runs; while a reset
is held nothing does (log entry 1). -/
def State.idle (s : State) : State := s.unlessHeld (fun s => s.pass 1)

/-- One step: the command at the front of the queue runs on the state with the queue's rest. -/
def step (s : State) : Host.Outcome State Fault Refusal :=
  match s.pending with
  | [] => .next s.idle
  | c :: rest => exec c { s with pending := rest }

/-- The state with the command a table word spells put at the front of its queue; the table gives no row
any bits, so no word spells one. -/
def State.withFetchWord (s : State) (nbits w : Nat) : State :=
  match Sys2Proof.decodeTableWord nbits w with
  | none => s
  | some c => { s with pending := c :: s.pending }

end Sys2Proof.Machine
end

