-- ==== Sys2Proof/Safety.lean ====
section
/-!
DEFINITION. What a sound state is, in the terms the claims use: the bounds of the Outcome Store (R186),
the rotation orders (R7), the Operation Queue (R2, R48, R49), the coil outputs (R21), the Selection table
(R163, R170), the settings (R194, R195), the monitors (R120), the discharge times (R79), the tracked
period (R30) and the saturating counts; when a request is judged; and in which blocks two states differ.
-/
namespace Sys2Proof.Machine

/-- The Outcome Store holds no more than its slots (R186): ten shared ones and three of each reserve. -/
abbrev State.StoreSound (s : State) : Prop :=
  s.sharedUsed ≤ 10 ∧ s.reserveUsed .a ≤ 3 ∧ s.reserveUsed .b ≤ 3

/-- The Ready Order holds exactly the steps in READY and the Closed Order exactly the steps in CLOSED,
each at most once (R7). -/
abbrev State.OrdersSound (s : State) : Prop :=
  s.ss.readyOrder.Nodup ∧ s.ss.closedOrder.Nodup
    ∧ (∀ k : StepId, k ∈ s.ss.readyOrder ↔ (s.stepRec k).state = some .ready)
    ∧ (∀ k : StepId, k ∈ s.ss.closedOrder ↔ (s.stepRec k).state = some .closed)

/-- The state an entry's step is in (R48). -/
def Entry.stepState (e : Entry) : StepState :=
  match e.status, e.kind with
  | .waiting, .closeOp => .ready
  | .waiting, _ => .closed
  | .inFlight, .closeOp => .closing
  | .inFlight, _ => .opening

/-- A mark is an OPEN or a TRIP and stands on an entry in flight only (R49). -/
def Entry.markSound (e : Entry) : Bool :=
  match e.mark with
  | none => true
  | some m => decide (e.status = .inFlight) && decide (m.kind ≠ .closeOp)

/-- The Operation Queue is sound: one entry for each step at most, one in flight at most, every entry's
step in the state R48 gives, marks as R49 gives; a step in CLOSING or OPENING has its entry in flight
(R2); a contact-fault timer runs only in READY, DISCHARGING and CLOSED (R13); before derivation every
step's state is absent (R23). -/
abbrev State.QueueSound (s : State) : Prop :=
  (s.oq.entries.map (·.step)).Nodup
    ∧ s.oq.entries.countP (fun e => e.status = .inFlight) ≤ 1
    ∧ (∀ e ∈ s.oq.entries, (s.stepRec e.step).state = some e.stepState ∧ e.markSound = true)
    ∧ (∀ k : StepId,
        ((s.stepRec k).state = some .closing ∨ (s.stepRec k).state = some .opening) →
          (s.inFlight.map (·.step)) = some k)
    ∧ (∀ k : StepId, (s.stepRec k).faultTimer.isSome = true →
        (s.stepRec k).state = some .ready ∨ (s.stepRec k).state = some .discharging
          ∨ (s.stepRec k).state = some .closed)
    ∧ (s.set.derived = false → ∀ k : StepId, (s.stepRec k).state = none)

/-- The coil that is energised is the one that matches the entry in flight, and a close coil only with
no discharge time left and BKT de-asserted (R21). -/
def State.CoilsSound (s : State) : Prop :=
  match s.ss.pulse with
  | none => True
  | some p =>
    (∃ e, s.inFlight = some e ∧ e.step = p.step ∧ coilOf e.kind = p.coil)
      ∧ (p.coil = .closeCoil → (s.stepRec p.step).discharge = 0 ∧ s.bkt = false)

/-- A filled slot belongs to the holder, names a READY step and stands with AUTO off (R163, R170). -/
abbrev State.slotSound (s : State) (p : Port) : Prop :=
  ∀ sel, s.slot p = some sel →
    s.holder = some p ∧ s.au.auto = false ∧ (s.stepRec sel.step).state = some .ready
      ∧ s.set.startup = .running

/-- The Selection table is sound (R170). -/
abbrev State.SelectionsSound (s : State) : Prop := s.slotSound .a ∧ s.slotSound .b

/-- Every setting in force and every pending value lies in its range (R194, R195). -/
abbrev State.SettingsSound (s : State) : Prop :=
  s.set.settings.inRange = true
    ∧ ∀ p ∈ s.set.pendingValues, p.id.inRange p.value = true

/-- Every monitor's accumulator lies within 0 to 2P, and a disabled monitor has accumulator 0 and is not
active (R120). -/
abbrev State.MonitorsSound (s : State) : Prop :=
  ∀ m : MonitorId,
    (s.monitor m).accumulator ≤ 2 * s.pickup m
      ∧ (s.set.settings.enabled m = false →
          (s.monitor m).accumulator = 0 ∧ (s.monitor m).active = false)

/-- A step in READY, CLOSING, CLOSED or OPENING has no discharge time left (R79). -/
abbrev State.DischargeSound (s : State) : Prop :=
  ∀ k : StepId,
    ((s.stepRec k).state = some .ready ∨ (s.stepRec k).state = some .closing
        ∨ (s.stepRec k).state = some .closed ∨ (s.stepRec k).state = some .opening) →
      (s.stepRec k).discharge = 0

/-- The period in force lies within the limits of the FSEL read at the release (R30). -/
abbrev State.PeriodSound (s : State) : Prop :=
  periodLow s.me.fsel ≤ s.me.period ∧ s.me.period ≤ periodHigh s.me.fsel

/-- The saturating counts stay within their bounds: the lost-outcome counters (R189), the integrators
(R94), the close histories (R83), and a monitor's counters (R120). -/
abbrev State.CountsSound (s : State) : Prop :=
  s.pi.a.lost ≤ 255 ∧ s.pi.b.lost ≤ 255 ∧ s.avc.dLow ≤ 65535 ∧ s.avc.dHigh ≤ 65535
    ∧ (∀ k : StepId, (s.stepRec k).closeHistory.length ≤ 8)
    ∧ ∀ m : MonitorId,
        (s.monitor m).assertCount ≤ 65535 ∧ (s.monitor m).activeFrames ≤ 4294967295

/-- The Step Table, the orders, the queue, the coils and the selections are sound together. -/
abbrev State.YardSound (s : State) : Prop :=
  s.OrdersSound ∧ s.QueueSound ∧ s.CoilsSound ∧ s.SelectionsSound

/-! ## Requests -/

/-- The controller takes requests and judges them: no reset is held and LOADING is over (R201, R202). -/
abbrev State.serves (s : State) : Prop := s.clock.held = none ∧ s.set.startup = .running

/-- The state a request is judged on: the window has run and a good frame has acted on supervision (R164,
R176). -/
def State.judged (s : State) (h : Header) : State :=
  (s.clockOut h.port h.window).superviseGood h.port

/-- Between the judged state and `t` the ports changed by the response alone (R178). -/
abbrev State.answered (u t : State) (h : Header) (a : Answer) : Prop :=
  t.pi =
    (u.setPort h.port
      { u.portState h.port with buffer := some (responseBytes h.tag a) }).pi

/-- Nothing that waits can be dispatched: an operation is in flight, or the yard has not settled and no
TRIP waits (R60, R61). -/
abbrev State.heldBack (s : State) : Prop :=
  s.inFlight.isSome = true
    ∨ (s.cu.settle ≠ 0 ∧ ∀ e ∈ s.oq.entries, ¬(e.status = .waiting ∧ e.kind = .tripOp))

/-- The value of a request's step field that names a step (R182). -/
abbrev names (b : Byte) (k : StepId) : Prop := b.toNat = k.val + 1

/-! ## Blocks -/

/-- The blocks of the controller. -/
inductive Block where
  | clock | me | ss | oq | cu | avc | hmu | upu | au | pi | os | set
deriving DecidableEq, Repr

/-- A block is the same in two states. -/
def State.sameBlock (u t : State) : Block → Prop
  | .clock => t.clock = u.clock
  | .me => t.me = u.me
  | .ss => t.ss = u.ss
  | .oq => t.oq = u.oq
  | .cu => t.cu = u.cu
  | .avc => t.avc = u.avc
  | .hmu => t.hmu = u.hmu
  | .upu => t.upu = u.upu
  | .au => t.au = u.au
  | .pi => t.pi = u.pi
  | .os => t.os = u.os
  | .set => t.set = u.set

/-- Two states differ in the listed blocks at most. -/
abbrev State.onlyIn (u t : State) (l : List Block) : Prop := ∀ b, b ∉ l → u.sameBlock t b

end Sys2Proof.Machine

namespace Sys2Proof

open Sys2Proof.Machine

/-- The header of a command that is a good frame's request; an unknown request carries a code outside the
catalogue. -/
def Instr.header : Instr → Option Header
  | .status h | .stepQuery h _ | .frameQuery h | .monitorQuery h _ | .tripRecordQuery h
  | .outcomeRead h | .getSetting h _ _ | .keepalive h | .openStep h _ | .select h _ | .operate h _
  | .cancel h _ | .auto h _ | .releaseHold h _ | .setSetting h _ _ _ | .save h | .captureInherent h _
  | .resetLockout h _ | .resetStep h _ | .takeOut h _ | .returnStep h _ | .clearTripRecord h
  | .resetBackup h | .clearCounters h => some h
  | .unknownRequest h code _ => if (payloadSize code).isNone then some h else none
  | .badFrame _ _ | .rawInputChange _ _ _ | .contactDebounceAccept _ _ | .keyAccept
  | .externalTripAssertion | .externalTripDeassertion | .contactFaultExpiry _ | .coilPulseEnd
  | .closeOperateTimeout | .openOperateTimerExpiry | .dispatch | .crossing _ _ | .frameStart
  | .frameArrival _ | .settleEnd | .deadLineEntry | .lineLiveReturn | .fastOpen | .monitorActivation _
  | .monitorClearing _ | .unbalanceAlarm _ | .unbalanceTripDecision _ | .captureComplete
  | .elapsedSecond _ | .dischargeEnd _ | .harmonicHoldEnd _ | .stale | .selectExpired _
  | .supervisionTimerExpiry | .saveComplete _ | .powerOnReset | .pinReset | .releaseOfReset _
  | .loadingEnd | .stepDerivation _ | .zeroCrossingDetectorArming _ => none

/-- A request that the catalogue gives to Port A only; for SET, any setting but VSET (10 00) and BW (11
00) (R181, R184). -/
def Instr.portAOnly : Instr → Bool
  | .save _ | .captureInherent _ _ | .resetLockout _ _ | .resetStep _ _ | .takeOut _ _
  | .returnStep _ _ | .clearTripRecord _ | .resetBackup _ | .clearCounters _ => true
  | .setSetting _ n i _ => !(decide (n = 0x10 ∧ i = 0) || decide (n = 0x11 ∧ i = 0))
  | _ => false

/-- A step, monitor or setting field of a request is out of range (R182). -/
def Instr.fieldOut : Instr → Bool
  | .stepQuery _ b | .monitorQuery _ b | .select _ b | .operate _ b | .cancel _ b
  | .captureInherent _ b | .resetLockout _ b | .resetStep _ b | .takeOut _ b | .returnStep _ b =>
    decide (b.toNat = 0 ∨ 8 < b.toNat)
  | .openStep _ b | .releaseHold _ b => decide ((b.toNat = 0 ∨ 8 < b.toNat) ∧ b.toNat ≠ 15)
  | .getSetting _ n i | .setSetting _ n i _ =>
    allSettingIds.all (fun x => decide (¬(x.number = n.toNat ∧ x.index = i.toNat)))
  | _ => false

/-- The commands that work while a reset is held: the reset rows, and an input's raw level, which is
outside the controller (R201). -/
def Instr.worksInReset : Instr → Bool
  | .powerOnReset | .pinReset | .releaseOfReset _ | .rawInputChange _ _ _ => true
  | _ => false

end Sys2Proof
end

