-- ==== Sys2Proof/Certificates/Slice0/Obligations.lean ====
section
/-!
DEFINITION. What the model claims: one statement for each definition. In a statement about a request, `s`
is the state the command meets and `u` the state on which it is judged: the window has run and a good frame
from Port B has acted on supervision (R164, R176), which leaves every block but `pi` and `au` as it was.
-/
open Sys2Proof
open Sys2Proof.Machine

/-! ## The queue of commands -/

/-- A step runs the command at the front of the queue on the state with the queue's rest. With no command
waiting a microsecond passes on a controller that runs, and nothing while a reset is held: this is the
model's choice (log entry 1). -/
def Obligations.StepRunsFrontCommand : Prop :=
  (∀ (c : Instr) (rest : List Instr) (s : State), s.pending = c :: rest →
      step s = exec c { s with pending := rest })
    ∧ (∀ s : State, s.pending = [] → s.clock.held = none →
        step s = .next { s with clock := { s.clock with now := s.clock.now + 1 } })
    ∧ ∀ s : State, s.pending = [] → s.clock.held ≠ none → step s = .next s

/-- Every command answers a next state, whatever the state, and leaves the queue of waiting commands. -/
def Obligations.EveryCommandCompletes : Prop :=
  ∀ (c : Instr) (s : State), ∃ t, exec c s = .next t ∧ t.pending = s.pending

/-! ## Reset (R201) -/

/-- What a held reset does beside recording its kind: every output is de-asserted, a SAVE in flight is
abandoned with a target copy that is not valid, and nothing else changes (R21, R200, R201). -/
def heldResetEffects (s t : State) : Prop :=
  (∀ k c, t.coilOn k c = false) ∧ t.bktPin = false ∧ t.alm = false ∧ (∀ p, t.notice p = false)
    ∧ t.set.save = none ∧ (s.set.save = none → t.set = s.set)
    ∧ (∀ f, s.set.save = some f →
        (f.target1 = true → imageValid t.set.copy1 = false ∧ t.set.copy0 = s.set.copy0)
          ∧ (f.target1 = false → imageValid t.set.copy0 = false ∧ t.set.copy1 = s.set.copy1)
          ∧ t.set.settings = s.set.settings ∧ t.set.current1 = s.set.current1)
    ∧ { t.clock with held := s.clock.held } = s.clock ∧ { t.ss with pulse := s.ss.pulse } = s.ss
    ∧ s.onlyIn t [.clock, .ss, .set]

/-- A power-on reset and a pin reset are held, each beside the other when both are, with every output
de-asserted; while a reset is held, every command but the reset rows and a raw input change leaves the state
as it is (R201; that the microsecond count stands is log entry 9). -/
def Obligations.HeldResetStopsTheController : Prop :=
  (∀ (c : Instr) (s : State), s.clock.held ≠ none → c.worksInReset = false → exec c s = .next s)
    ∧ ∀ s : State,
        (∃ t, exec .powerOnReset s = .next t ∧ heldResetEffects s t
            ∧ t.clock.held =
                some { power := true, pin := (s.clock.held.map (·.pin)).getD false })
          ∧ ∃ t, exec .pinReset s = .next t ∧ heldResetEffects s t
            ∧ t.clock.held =
                some { power := (s.clock.held.map (·.power)).getD false, pin := true }

/-- The release of reset leaves the values the chapters state as after reset: uptime 0, the period and the
placeholder frame from FSEL, absent states and positions, empty orders, queue and stores, defaults and
LOADING; every monitor with accumulator and counts 0, not active and without a last_detune; the AVC's counts
and integrators 0 with no decision, open-all or result; no rise result and no trip result. The raw levels of
the eighteen inputs and the two copies of the image stay; no input has an accepted value, and every window
starts at the release (R4, R6, R23, R47, R93, R119, R136, R158, R201). -/
def Obligations.ReleaseLeavesAfterReset : Prop :=
  ∀ (s : State) (f : Fsel) (r : ResetHold), s.clock.held = some r →
    ∃ t, exec (.releaseOfReset f) s = .next t
      ∧ t.clock.held = none ∧ t.clock.uptime = 0
      ∧ t.clock.cause = (if r.power then .powerOn else .pin)
      ∧ t.me.fsel = f ∧ t.me.period = nominalPeriod f ∧ t.me.counter = 0
      ∧ t.me.frame = Frame.placeholder f ∧ t.me.reference = none ∧ t.me.lastValidAvg = none
      ∧ (∀ p, (t.detector p).armed = false ∧ (t.detector p).stamp = none)
      ∧ (∀ k, (t.stepRec k).state = none ∧ (t.stepRec k).position = none
          ∧ (t.stepRec k).discharge = 0 ∧ (t.stepRec k).harmonicHold = 0
          ∧ (t.stepRec k).manualHold = false ∧ (t.stepRec k).closeHistory = []
          ∧ (t.stepRec k).lockoutCause = none ∧ (t.stepRec k).failureCause = none
          ∧ (t.stepRec k).faultTimer = none ∧ (t.stepRec k).latestU = 0
          ∧ (t.stepRec k).closedContact.accepted = none
          ∧ (t.stepRec k).openContact.accepted = none
          ∧ (t.stepRec k).closedContact.raw = (s.stepRec k).closedContact.raw
          ∧ (t.stepRec k).openContact.raw = (s.stepRec k).openContact.raw
          ∧ (t.stepRec k).alarmCount = 0 ∧ (t.stepRec k).tripCount = 0
          ∧ (t.stepRec k).alarmFlag = false
          ∧ ∀ c, t.coilOn k c = false)
      ∧ t.ss.readyOrder = [] ∧ t.ss.closedOrder = [] ∧ t.ss.closedWhileCharged = []
      ∧ t.ss.unexpectedOpen = [] ∧ t.oq.entries = [] ∧ t.oq.operate = none
      ∧ t.cu.settle = 0 ∧ t.cu.armed = none ∧ t.cu.lastRise = none
      ∧ t.avc =
          { line := .live, runCount := 0, dLow := 0, dHigh := 0, ovCnt := 0, lastDecision := none
            lastOpenAll := none, lastResult := none }
      ∧ (∀ m, t.monitor m =
          { accumulator := 0, active := false, assertCount := 0, activeFrames := 0
            lastDetune := none })
      ∧ t.harmonicBlock = false
      ∧ t.upu.tripRecord = none ∧ t.upu.backup = none ∧ t.upu.capture = none
      ∧ t.upu.lastTrip = none
      ∧ t.au.key = none ∧ t.holder = none ∧ t.au.auto = false ∧ t.au.supervision = .ok
      ∧ t.au.remaining = none ∧ (∀ p, t.slot p = none ∧ t.outcomes p = [])
      ∧ (∀ p, (t.portState p).buffer = none ∧ (t.portState p).changeFlag = false
          ∧ (t.portState p).lost = 0)
      ∧ (∀ i, t.set.settings.get i = i.dflt) ∧ t.set.pendingValues = []
      ∧ t.set.startup = .loading ∧ t.set.defaulted = false ∧ t.set.save = none
      ∧ t.set.copy0 = s.set.copy0 ∧ t.set.copy1 = s.set.copy1
      ∧ ∀ i, t.debouncer i =
          { raw := (s.debouncer i).raw, since := t.clock.now, accepted := none }

/-! ## What every step keeps -/

/-- The state after reset is sound in every way the invariants below speak of. -/
def Obligations.ResetIsSound : Prop :=
  State.reset.StoreSound ∧ State.reset.YardSound ∧ State.reset.SettingsSound
    ∧ State.reset.MonitorsSound ∧ State.reset.DischargeSound ∧ State.reset.PeriodSound
    ∧ State.reset.CountsSound

/-- No step takes the Outcome Store beyond its slots (R186). -/
def Obligations.StepsKeepTheStoreSound : Prop :=
  ∀ s t : State, s.StoreSound → step s = .next t → t.StoreSound

/-- After every step the Ready Order holds exactly the READY steps and the Closed Order exactly the CLOSED
steps, each once (R7). -/
def Obligations.StepsKeepTheOrdersSound : Prop :=
  ∀ s t : State, s.OrdersSound → step s = .next t → t.OrdersSound

/-- After every step each step has one entry at most, one entry at most is in flight, every entry fits its
step's state, marks stand on the entry in flight only (R2, R48, R49), and only the coil that matches the
entry in flight is energised, a close coil only for a discharged step with BKT de-asserted (R21). -/
def Obligations.StepsKeepTheQueueAndCoilsSound : Prop :=
  ∀ s t : State, s.QueueSound → s.CoilsSound → step s = .next t → t.QueueSound ∧ t.CoilsSound

/-- After every step a filled selection slot belongs to the holder, names a READY step and stands with AUTO
off (R163, R170). -/
def Obligations.StepsKeepTheSelectionsSound : Prop :=
  ∀ s t : State, s.SelectionsSound → step s = .next t → t.SelectionsSound

/-- After every step every setting in force and every pending value lies in its range (R194, R195), and a
monitor's accumulator lies within 0 to 2P, a disabled monitor having accumulator 0 and not being active
(R120, R123). -/
def Obligations.StepsKeepTheSettingsAndMonitorsSound : Prop :=
  (∀ s t : State, s.SettingsSound → step s = .next t → t.SettingsSound)
    ∧ ∀ s t : State, s.MonitorsSound → step s = .next t → t.MonitorsSound

/-- After every step a READY, CLOSING, CLOSED or OPENING step has no discharge time left (R79). -/
def Obligations.StepsKeepEnergisedStepsDischarged : Prop :=
  ∀ s t : State, s.QueueSound → s.CoilsSound → s.DischargeSound → step s = .next t →
    t.DischargeSound

/-- After every step the period in force lies within the limits (R30) and the saturating counts within
their bounds (R83, R94, R120, R189). -/
def Obligations.StepsKeepThePeriodAndCountsBounded : Prop :=
  ∀ s t : State, s.PeriodSound → s.CountsSound → step s = .next t → t.PeriodSound ∧ t.CountsSound

/-! ## Frames on the ports -/

/-- KEEPALIVE is answered DONE. A Port B frame while the key is REMOTE restarts the supervision timer at
TSUP and makes supervision OK, setting both change flags when it was not; any other touches neither. The
window carries the response that was waiting, filled with zeros or cut short, and offers it once (R164,
R176, R178, R181). What the line carried is held by the model (log entry 19). -/
def Obligations.KeepaliveActsOnSupervision : Prop :=
  ∀ (h : Header) (s : State), s.serves →
    ∃ t, exec (.keepalive h) s = .next t
      ∧ (t.portState h.port).buffer = some (responseBytes h.tag { code := .done, payload := [] })
      ∧ (t.portState h.port).line = exactly h.window (((s.portState h.port).buffer).getD [])
      ∧ (t.portState h.port).line.length = h.window
      ∧ (if h.port = .b ∧ s.au.key = some .remote then
          t.au = { s.au with supervision := .ok, remaining := some (s.y .tsup) }
            ∧ ∀ p, (t.portState p).changeFlag =
                ((s.portState p).changeFlag || decide (s.au.supervision ≠ .ok))
        else t.au = s.au ∧ ∀ p, (t.portState p).changeFlag = (s.portState p).changeFlag)
      ∧ (∀ p, (t.portState p).lost = (s.portState p).lost)
      ∧ (∀ p, p ≠ h.port → (t.portState p).buffer = (s.portState p).buffer
          ∧ (t.portState p).line = (s.portState p).line)
      ∧ s.onlyIn t [.au, .pi]

/-- The rows of R179 that come before a request's own checks, with no effect but the answer: BUSY for
every code during LOADING, UNKNOWN_REQUEST for a code outside the catalogue, NOT_PERMITTED for a Port A
request on Port B, and BAD_STEP for a field out of range (R179, R182). -/
def Obligations.RequestsAreScreenedInOrder : Prop :=
  ∀ (c : Instr) (h : Header) (s u : State),
    c.header = some h → s.clock.held = none → u = s.judged h →
      (s.set.startup = .loading →
          ∃ t, exec c s = .next t ∧ u.answered t h (.plain .busy) ∧ u.onlyIn t [.pi])
        ∧ (s.set.startup = .running → (∃ code l, c = .unknownRequest h code l) →
            ∃ t, exec c s = .next t ∧ u.answered t h (.plain .unknownRequest) ∧ u.onlyIn t [.pi])
        ∧ (s.set.startup = .running → c.portAOnly = true → h.port = .b →
            ∃ t, exec c s = .next t ∧ u.answered t h (.plain .notPermitted) ∧ u.onlyIn t [.pi])
        ∧ (s.set.startup = .running → (c.portAOnly = false ∨ h.port = .a) → c.fieldOut = true →
            ∃ t, exec c s = .next t ∧ u.answered t h (.plain .badStep) ∧ u.onlyIn t [.pi])

/-- A window that fails a framing check is answered BAD_FRAME with byte 2 of the window as the tag, 0 when
there is none. The waiting response is clocked out as in any window; supervision, the change flags and every
record stay (R177, R178). A code outside the catalogue is a good frame answered UNKNOWN_REQUEST (R179). What
the line carried is held by the model (log entry 19). -/
def Obligations.UnservedFramesAreAnswered : Prop :=
  (∀ (p : Port) (w : List Byte) (s : State), s.clock.held = none → goodFrame w = false →
      ∃ t, exec (.badFrame p w) s = .next t
        ∧ (t.portState p).buffer =
            some (responseBytes ((w[2]?).getD 0) { code := .badFrame, payload := [] })
        ∧ (t.portState p).line = exactly w.length (((s.portState p).buffer).getD [])
        ∧ (t.portState p).changeFlag = (s.portState p).changeFlag
        ∧ (t.portState p).lost = (s.portState p).lost
        ∧ (∀ q, q ≠ p → t.portState q = s.portState q)
        ∧ s.onlyIn t [.pi])
    ∧ ∀ (h : Header) (code : Byte) (l : List Byte) (s u : State),
        s.serves → payloadSize code = none → u = s.judged h →
        ∃ t, exec (.unknownRequest h code l) s = .next t
          ∧ u.answered t h { code := .unknownRequest, payload := [] } ∧ u.onlyIn t [.pi]

/-- A window read as a command and a command written as a window agree: a well-formed request, unknown
request or bad frame is read back from the bytes that carry it (R176, R177, R181). -/
def Obligations.WindowsReadBackAsTheirCommands : Prop :=
  ∀ (c : Instr) (p : Port) (w : List Byte),
    c.wellFormed = true → encodeWindow c = some (p, w) → decodeWindow p w = c

/-! ## Queries -/

/-- A payload carries each number of the list, `(place, width, value)`, at its place in that many bytes,
most significant byte first (9.9). -/
def carries (l : List Byte) (fields : List (Nat × Nat × Nat)) : Prop :=
  ∀ f ∈ fields, ∀ j < f.2.1,
    l[f.1 + j]? = some (BitVec.ofNat 8 (f.2.2 / 256 ^ (f.2.1 - 1 - j)))

/-- A signed number of `n` bytes in two's complement (9.9). -/
def twos (n : Nat) (i : Int) : Nat := (i % (256 ^ n : Nat)).toNat

/-- A flag as 0 or 1: stated for an on/off setting (R184), for any other flag the model's choice (log entry
37). -/
def oneIf (b : Bool) : Nat := if b then 1 else 0

/-- The number of an enumerated value, from 1 in the order listed; 0 when absent (9.9). -/
def numbered {α : Type} [DecidableEq α] (order : List α) : Option α → Nat
  | none => 0
  | some x => order.idxOf x + 1

/-- The step states, in the order of 9.9. -/
def stepStates : List StepState :=
  [.out, .discharging, .ready, .closing, .closed, .opening, .lockout, .failed]

/-- The positions, in the order of 9.9. -/
def positions : List Position := [.atClosed, .atOpen, .travel, .invalid]

/-- The kinds of an entry or a mark, in the order of 9.9. -/
def opKinds : List OpKind := [.closeOp, .openOp, .tripOp]

/-- The originators, in the order of 9.9. -/
def originators : List Originator := [.portA, .portB, .avc, .harmonic, .unbalance, .external]

/-- The number of an outcome result, from 1 in the order of 9.9. -/
def resultNo : OutcomeResult → Nat
  | .cancelled _ => 4
  | r => numbered [.done, .switchFailed, .stale, .cancelled .lockout, .superseded, .selectExpired,
      .saved, .saveFailed, .captured, .captureAborted] (some r)

/-- The number of the cancel cause, 0 unless the result is CANCELLED (9.9). -/
def cancelNo : OutcomeResult → Nat
  | .cancelled c => numbered [.openedByRequest, .stepChanged, .authorityLost, .lockout] (some c)
  | _ => 0

/-- The number of a step, 0 when absent (9.9). -/
def stepNumber (k : Option StepId) : Nat := numbered allSteps k

/-- The fields of STEP_QUERY at their places (9.9); the rate release time on the 32-bit uptime is log entry
11. -/
def stepFields (u : State) (k : StepId) : List (Nat × Nat × Nat) :=
  [(0, 1, k.val + 1), (1, 1, oneIf (u.inService k)), (2, 1, numbered stepStates (u.stepRec k).state),
      (3, 1, numbered positions (u.stepRec k).position), (4, 2, (u.stepRec k).discharge),
      (6, 2, (u.stepRec k).harmonicHold), (8, 1, oneIf (u.stepRec k).manualHold),
      (9, 1, numbered [.unbalance, .external] (u.stepRec k).lockoutCause),
      (10, 1, numbered [.closeTimeout, .openTimeout, .contactInvalid] (u.stepRec k).failureCause),
      (11, 1, (u.stepRec k).closeHistory.length)]
    ++ (List.range 8).map (fun i => (12 + 4 * i, 4, (u.stepRec k).closeHistory.getD i 0))
    ++ [(44, 4, (u.stepRec k).closeCount), (48, 2, (u.stepRec k).learnedRise)]
    ++ (match (u.stepRec k).compensation with
        | none => [(50, 1, 0), (59, 2, 65535)]
        | some c => [(50, 1, 1), (51, 4, twos 4 c.cre), (55, 4, twos 4 c.cim), (59, 2, c.vcap)])
    ++ [(61, 2, (u.stepRec k).alarmCount), (63, 2, (u.stepRec k).tripCount),
      (65, 1, oneIf (u.stepRec k).alarmFlag), (66, 2, (u.stepRec k).latestU),
      (68, 1, numbered [.a, .b] (u.selectedBy k)),
      (69, 1, ((u.oq.entries.findIdx? (fun e => e.step = k)).map (· + 1)).getD 0),
      (70, 4,
        if (u.stepRec k).closeHistory.length < u.y .nops then 0
        else match (u.stepRec k).closeHistory[(u.stepRec k).closeHistory.length - u.y .nops]? with
          | none => 0
          | some x => x + 3600 * u.y .whours + 1)]

/-- The fields of one phase of FRAME_QUERY from a place on (9.9). -/
def phaseFields (a : Nat) (p : PhaseFrame) : List (Nat × Nat × Nat) :=
  [(a, 2, p.v), (a + 2, 2, p.h3), (a + 4, 2, p.h5), (a + 6, 2, p.h7), (a + 8, 2, p.h11),
    (a + 10, 2, p.h13), (a + 12, 2, p.di), (a + 14, 1, oneIf p.lowSignal), (a + 15, 1, oneIf p.clip)]

/-- The fields of FRAME_QUERY at their places (9.9). -/
def frameFields (f : Frame) : List (Nat × Nat × Nat) :=
  [(0, 4, f.number), (4, 1, numbered [.a, .b, .c] f.reference), (5, 2, f.frequency)]
    ++ phaseFields 7 f.a ++ phaseFields 23 f.b ++ phaseFields 39 f.c
    ++ [(55, 2, f.vAvg), (57, 2, f.vMax), (59, 2, f.vMin)]
    ++ allSteps.flatMap (fun k =>
      [(61 + 11 * k.val, 4, twos 4 f.neutrals[k].pre), (65 + 11 * k.val, 4, twos 4 f.neutrals[k].pim),
        (69 + 11 * k.val, 2, f.neutrals[k].u), (71 + 11 * k.val, 1, oneIf f.neutrals[k].clip)])
    ++ [(149, 1, oneIf f.noRef), (150, 1, oneIf f.offFreq), (151, 1, oneIf f.vtLoss),
      (152, 1, oneIf f.settling)]

/-- The fields of MONITOR_QUERY at their places (9.9). -/
def monitorFields (u : State) (m : MonitorId) : List (Nat × Nat × Nat) :=
  [(0, 1, m.val + 1), (1, 1, u.set.settings.m .enable m), (2, 1, u.set.settings.m .source m),
      (3, 1, u.set.settings.m .phase m), (4, 2, u.set.settings.m .threshold m),
      (6, 2, u.set.settings.m .pickup m), (8, 1, u.set.settings.m .action m),
      (9, 2, (u.monitor m).accumulator), (11, 1, oneIf (u.monitor m).active),
      (12, 2, (u.monitor m).assertCount), (14, 4, (u.monitor m).activeFrames)]
    ++ (match (u.monitor m).lastDetune with
        | none => [(18, 1, 0), (19, 1, 0), (28, 1, 0), (29, 1, 0)]
        | some (.target k x n r) =>
          [(18, 1, 1), (19, 1, k.val + 1), (20, 4, x), (24, 4, n),
            (28, 1, (r.map (fun r => resultNo r.1)).getD 0),
            (29, 1, numbered stepStates (r.bind (·.2)))]
        | some (.noneAvailable x n) =>
          [(18, 1, 2), (19, 1, 0), (20, 4, x), (24, 4, n), (28, 1, 0), (29, 1, 0)])

/-- The fields of TRIP_RECORD_QUERY at their places: zero for an empty record, 15 for ALL (9.9). -/
def tripFields (u : State) : List (Nat × Nat × Nat) :=
  (match u.upu.tripRecord with
    | none => (List.range 26).map (fun i => (i, 1, 0))
    | some r =>
      [(0, 1, 1), (1, 1, numbered [.unbalance, .external] (some r.cause)),
        (2, 1, if r.step = none then 15 else stepNumber r.step), (3, 4, r.uptime), (7, 4, r.frame),
        (11, 2, r.u.getD 65535), (13, 4, twos 4 (r.dre.getD 0)), (17, 4, twos 4 (r.dim.getD 0)),
        (21, 2, r.vAvg), (23, 2, r.di), (25, 1, r.further)])
    ++ (match u.upu.lastTrip with
      | none => [(26, 1, 0), (27, 1, 0), (28, 1, 0), (29, 1, 0), (30, 1, 0)]
      | some r =>
        [(26, 1, 1), (27, 1, r.step.val + 1), (28, 1, numbered originators (some r.originator)),
          (29, 1, resultNo r.result), (30, 1, numbered stepStates r.state), (31, 4, r.uptime)])

/-- The queries of a record, the frame, a monitor, the Trip Record and a setting are answered DONE with a
payload of the length 9.9 gives, each field at its place, taken from the state as it stands, and change
nothing (R183). A flag's 0 or 1, where it is not an on/off setting, is the model's choice (log entry 37). A
field of an absent record for which 9.9 states no value is left open (log entry 12). -/
def Obligations.QueriesReportAndChangeNothing : Prop :=
  ∀ (h : Header) (s u : State), s.serves → u = s.judged h →
    (∀ (b : Byte) (k : StepId), names b k →
        ∃ t, exec (.stepQuery h b) s = .next t ∧ u.onlyIn t [.pi]
          ∧ u.answered t h { code := .done, payload := u.stepPayload k }
          ∧ (u.stepPayload k).length = 74 ∧ carries (u.stepPayload k) (stepFields u k))
      ∧ (∃ t, exec (.frameQuery h) s = .next t ∧ u.onlyIn t [.pi]
          ∧ u.answered t h { code := .done, payload := u.me.frame.payload }
          ∧ u.me.frame.payload.length = 153 ∧ carries u.me.frame.payload (frameFields u.me.frame))
      ∧ (∀ (b : Byte) (m : MonitorId), names b m →
          ∃ t, exec (.monitorQuery h b) s = .next t ∧ u.onlyIn t [.pi]
            ∧ u.answered t h { code := .done, payload := u.monitorPayload m }
            ∧ (u.monitorPayload m).length = 30 ∧ carries (u.monitorPayload m) (monitorFields u m))
      ∧ (∃ t, exec (.tripRecordQuery h) s = .next t ∧ u.onlyIn t [.pi]
          ∧ u.answered t h { code := .done, payload := u.tripPayload } ∧ u.tripPayload.length = 35
          ∧ carries u.tripPayload (tripFields u))
      ∧ ∀ (n i : Byte) (x : SettingId), x ∈ allSettingIds → x.number = n.toNat → x.index = i.toNat →
          ∃ t, exec (.getSetting h n i) s = .next t ∧ u.onlyIn t [.pi]
            ∧ u.answered t h { code := .done, payload := n :: i :: be 2 (u.set.settings.get x) }

/-- The fields of a port's slot of the Selection table from a place of STATUS on: step 0 when empty (9.9).
-/
def slotFields (u : State) (p : Port) (a : Nat) : List (Nat × Nat × Nat) :=
  match u.slot p with
  | none => [(a, 1, 0)]
  | some x => [(a, 1, x.step.val + 1), (a + 1, 1, x.tag.toNat), (a + 2, 4, x.expiry)]

/-- The fields of a rotation order from a place of STATUS on: its length and its steps, 0 beyond it
(9.9). -/
def orderFields (l : List StepId) (a : Nat) : List (Nat × Nat × Nat) :=
  (a, 1, l.length) :: (List.range 8).map (fun i => (a + 1 + i, 1, stepNumber l[i]?))

/-- A step mask: bit k − 1 for step Sk (9.9). -/
def maskNo (b : StepId → Bool) : Nat := ((allSteps.filter b).map (fun k => 2 ^ k.val)).sum

/-- STATUS bytes 0 to 83 at their places (9.9). Byte 64 is left open while the external trip has no accepted
value (log entry 29). -/
def statusFieldsLow (u : State) (p : Port) : List (Nat × Nat × Nat) :=
  [(0, 1, oneIf (u.portState p).changeFlag), (1, 1, numbered [.powerOn, .pin] (some u.clock.cause)),
      (2, 1, oneIf u.set.defaulted), (3, 1, numbered [.loc, .remote] u.au.key),
      (4, 1, numbered [.a, .b] u.holder), (5, 1, oneIf u.au.auto),
      (6, 1, numbered [.ok, .late, .lost] (some u.au.supervision)),
      (7, 2, u.au.remaining.getD 65535), (21, 1, (u.portState p).lost),
      (22, 1, (u.outcomes p).length), (23, 1, 10 - u.sharedUsed)]
    ++ slotFields u .a 9 ++ slotFields u .b 15
    ++ allSteps.map (fun k => (24 + k.val, 1, numbered stepStates (u.stepRec k).state))
    ++ orderFields u.ss.readyOrder 32 ++ orderFields u.ss.closedOrder 41
    ++ [(50, 1, maskNo (fun k => decide (k ∈ u.ss.closedWhileCharged))),
      (51, 1, maskNo (fun k => decide (k ∈ u.ss.unexpectedOpen))),
      (52, 1, maskNo (fun k => (u.stepRec k).alarmFlag)), (53, 1, maskNo u.monitorActive)]
    ++ allMonitors.map (fun m => (54 + m.val, 1, u.set.settings.m .action m))
    ++ [(62, 1, oneIf u.lineDead + 2 * oneIf u.harmonicBlock + 4 * oneIf u.overvoltageBlock
          + 8 * oneIf u.bkt + 16 * oneIf u.tripRecordBlock),
      (63, 1, oneIf u.me.frame.vtLoss), (65, 1, oneIf u.bkt), (66, 1, oneIf u.upu.tripRecord.isSome)]
    ++ (match u.ss.tripIn.accepted with
        | none => []
        | some b => [(64, 1, oneIf b)])
    ++ (match u.upu.backup with
        | none => [(67, 1, 0), (68, 1, 0), (69, 1, 0), (70, 4, 0)]
        | some r =>
          [(67, 1, r.step.val + 1),
            (68, 1, numbered [.closeTimeout, .openTimeout, .contactFault, .failedStep] (some r.reason)),
            (69, 1, numbered originators (some r.originator)), (70, 4, r.uptime)])
    ++ [(74, 2, u.cu.settle), (76, 1, numbered [.live, .dead] (some u.avc.line)),
      (77, 2, u.avc.runCount), (79, 2, u.avc.dLow), (81, 2, u.avc.dHigh), (83, 1, u.avc.ovCnt)]

/-- The fields of a last decision at STATUS 84 to 91: source, outcome, kind, step, P, cause, count, as far
as R115 gives the outcome them; absent ones are 0, an absent P is FFFF hex (9.9). -/
def decisionFields : Decision → List (Nat × Nat × Nat)
  | .closePosted k p =>
    [(84, 1, 1), (85, 1, 1), (86, 1, 1), (87, 1, k.val + 1), (88, 2, twos 2 p), (90, 1, 0)]
  | .openPosted k p =>
    [(84, 1, 1), (85, 1, 2), (86, 1, 2), (87, 1, k.val + 1), (88, 2, twos 2 p), (90, 1, 0)]
  | .noCandidate kind =>
    [(84, 1, 1), (85, 1, 3), (86, 1, numbered opKinds (some kind)), (87, 1, 0), (88, 2, 65535),
      (90, 1, 0)]
  | .predictWithheld kind k p =>
    [(84, 1, 1), (85, 1, 4), (86, 1, numbered opKinds (some kind)), (87, 1, k.val + 1),
      (88, 2, twos 2 p), (90, 1, 0)]
  | .blocked k p c =>
    [(84, 1, 1), (85, 1, 5), (86, 1, 0), (87, 1, k.val + 1), (88, 2, twos 2 p),
      (90, 1, numbered [.harmonic, .overvoltage, .backupTrip, .tripRecord] (some c))]
  | .fastPosted k =>
    [(84, 1, 2), (85, 1, 2), (86, 1, 0), (87, 1, k.val + 1), (88, 2, 65535), (90, 1, 0)]
  | .fastNoCandidate => [(84, 1, 2), (85, 1, 3), (86, 1, 0), (87, 1, 0), (88, 2, 65535), (90, 1, 0)]
  | .openAllPosted n =>
    [(84, 1, 3), (85, 1, 6), (86, 1, 0), (87, 1, 0), (88, 2, 65535), (90, 1, 0), (91, 1, n)]

/-- The fields of one entry of the Operation Queue from a place of STATUS on (9.9). -/
def entryFields (a : Nat) (e : Entry) : List (Nat × Nat × Nat) :=
  [(a, 1, numbered opKinds (some e.kind)), (a + 1, 1, e.step.val + 1),
    (a + 2, 1, numbered originators (some e.originator)),
    (a + 3, 1, numbered [.waiting, .inFlight] (some e.status)),
    (a + 4, 1, numbered opKinds (e.mark.map (·.kind))), (a + 5, 1, oneIf e.fast)]

/-- STATUS bytes 84 to 199 at their places (9.9). Byte 191 is left open while no entry is IN_FLIGHT (log
entry 28). -/
def statusFieldsHigh (u : State) : List (Nat × Nat × Nat) :=
  (match u.avc.lastDecision with
    | none => [(84, 1, 0), (85, 1, 0), (86, 1, 0), (87, 1, 0), (88, 2, 65535), (90, 1, 0)]
    | some d => decisionFields d.decision ++ [(92, 4, d.frame)])
    ++ (match u.avc.lastOpenAll with
        | none => (96, 1, 0) :: (List.range 8).map (fun i => (98 + i, 1, 0))
        | some r =>
          [(96, 1, 1), (97, 1, r.count), (106, 4, r.frame), (110, 4, r.uptime)]
            ++ (List.range 8).map (fun i =>
              (98 + i, 1, ((r.answers[i]?).map (fun a => a.result.code)).getD 0)))
    ++ (match u.avc.lastResult with
        | none => [(114, 1, 0), (115, 1, 0), (117, 1, 0), (118, 1, 0), (119, 1, 0)]
        | some r =>
          [(114, 1, r.step.val + 1), (115, 1, numbered opKinds (some r.kind)), (116, 1, oneIf r.fast),
            (117, 1, resultNo r.result), (118, 1, cancelNo r.result),
            (119, 1, numbered stepStates r.state), (120, 4, r.uptime)])
    ++ (match u.cu.lastRise with
        | none =>
          [(124, 1, 0), (125, 1, 0), (126, 2, 65535), (128, 2, 65535), (130, 2, 65535), (134, 1, 0),
            (135, 1, 0)]
        | some r =>
          [(124, 1, r.step.val + 1), (125, 1, numbered opKinds (some r.kind)),
            (126, 2, r.vPre.getD 65535), (128, 2, r.vPost.getD 65535),
            (130, 2, match r.vPre, r.vPost with
              | some p, some q => max p q - min p q
              | _, _ => 65535),
            (132, 1, r.before), (133, 1, r.after), (134, 1, if r.skipped = none then 1 else 2),
            (135, 1, numbered [.converted, .otherStepChanged, .replaced, .stepMoved, .noVPre, .noVPost,
              .deltaLimit] r.skipped), (136, 4, r.frame)])
    ++ (match u.upu.capture with
        | none => [(140, 1, 0)]
        | some c => [(140, 1, c.step.val + 1), (141, 1, c.count)])
    ++ (142, 1, u.oq.entries.length)
      :: (List.range 8).flatMap (fun i =>
        match u.oq.entries[i]? with
        | none => [(143 + 6 * i, 6, 0)]
        | some e => entryFields (143 + 6 * i) e)
    ++ (if u.inFlight = none then [] else [(191, 1, u.oq.retryCount)])
    ++ [(192, 4, u.clock.uptime), (196, 4, u.me.frame.number)]

/-- The fields of an Outcome Record at their places (9.9). -/
def recordFields (r : OutcomeRecord) : List (Nat × Nat × Nat) :=
  [(0, 1, r.tag.toNat), (1, 1, stepNumber r.step),
    (2, 1, numbered [.closeOp, .openOp, .tripOp, .select, .save, .capture] (some r.what)),
    (3, 1, resultNo r.result), (4, 1, cancelNo r.result), (5, 1, numbered stepStates r.state),
    (6, 4, r.uptime)]

/-- STATUS is answered DONE with the 200-byte summary, every field at its place and the first byte the
port's change flag before it is cleared. The port's flag is cleared and the other port's is not, the two
switch event sets are emptied, and nothing else changes (R20, R183). OUTCOME_READ takes the oldest record of
the port's list and answers DONE with the lost-outcome counter, the number of records that remain and the
record with its fields at their places; an empty list is answered EMPTY. The counter becomes 0 either way,
and the other port's list stays (R185, R187). A flag's 0 or 1, where it is not an on/off setting, is the
model's choice (log entry 37). The bytes that log entries 12, 28 and 29 speak of are left open. -/
def Obligations.StatusAndOutcomeReadTakeWhatTheyReport : Prop :=
  (∀ (h : Header) (s u : State), s.serves → u = s.judged h →
     ∃ t, exec (.status h) s = .next t
       ∧ (t.portState h.port).buffer =
           some (responseBytes h.tag { code := .done, payload := u.statusPayload h.port })
       ∧ (u.statusPayload h.port).length = 200
       ∧ (u.statusPayload h.port).head? = some (if (u.portState h.port).changeFlag then 1 else 0)
       ∧ carries (u.statusPayload h.port) (statusFieldsLow u h.port)
       ∧ carries (u.statusPayload h.port) (statusFieldsHigh u)
       ∧ (t.portState h.port).changeFlag = false
       ∧ (t.portState h.port).lost = (u.portState h.port).lost
       ∧ (∀ p, p ≠ h.port → t.portState p = u.portState p)
       ∧ t.ss = { u.ss with closedWhileCharged := [], unexpectedOpen := [] }
       ∧ u.onlyIn t [.pi, .ss])
    ∧ ∀ (h : Header) (s u : State), s.serves → u = s.judged h →
        ∃ t, exec (.outcomeRead h) s = .next t
          ∧ (t.portState h.port).lost = 0
          ∧ (t.portState h.port).changeFlag = (u.portState h.port).changeFlag
          ∧ (∀ p, p ≠ h.port → t.portState p = u.portState p ∧ t.outcomes p = u.outcomes p)
          ∧ (match u.outcomes h.port with
              | [] =>
                t.outcomes h.port = []
                  ∧ (t.portState h.port).buffer =
                      some (responseBytes h.tag
                        { code := .empty, payload := [byte (u.portState h.port).lost, 0] })
              | (_, r) :: rest =>
                t.outcomes h.port = rest
                  ∧ (t.portState h.port).buffer =
                      some (responseBytes h.tag
                        { code := .done
                          payload :=
                            [byte (u.portState h.port).lost, byte rest.length] ++ r.bytes })
                  ∧ r.bytes.length = 10 ∧ carries r.bytes (recordFields r))
          ∧ u.onlyIn t [.pi, .os]

/-! ## Opening and closing requests -/

/-- An OPEN for a step with no pending entry is judged by the step's state: a CLOSED step has it admitted
at the tail of the list and answered ACCEPTED, a READY or DISCHARGING step answers DONE with no entry made,
and LOCKOUT, OUT and FAILED refuse it WRONG_STATE. A step in CLOSING or OPENING has a pending entry, by
the invariant of the queue (R52). -/
def Obligations.OpenIsJudgedByTheStepsState : Prop :=
  ∀ (s : State) (p : Posting), p.kind = .openOp → s.entryOf p.step = none →
    ((s.stepRec p.step).state = some .closed →
        (s.post p).2 = .accepted
          ∧ (s.post p).1.oq =
              { s.oq with
                entries := s.oq.entries ++
                  [{ kind := .openOp
                     step := p.step
                     originator := p.originator
                     tag := p.tag
                     admittedAt := s.clock.uptime
                     status := .waiting
                     mark := none
                     fast := p.fast }] }
          ∧ s.onlyIn (s.post p).1 [.oq])
      ∧ ((s.stepRec p.step).state = some .ready ∨ (s.stepRec p.step).state = some .discharging →
          s.post p = (s, .done))
      ∧ ((s.stepRec p.step).state = some .lockout ∨ (s.stepRec p.step).state = some .out
            ∨ (s.stepRec p.step).state = some .failed → s.post p = (s, .wrongState))
      ∧ (s.QueueSound → (s.stepRec p.step).state ≠ some .closing
          ∧ (s.stepRec p.step).state ≠ some .opening)

/-- An OPEN of a CLOSED step that cannot be dispatched yet is answered ACCEPTED and waits at the tail of
the list; with the yard settled and nothing else to open, the step is dispatched in the same event
(R50, R52, R60 to R62). -/
def Obligations.OpenRequestIsAdmitted : Prop :=
  ∀ (h : Header) (b : Byte) (k : StepId) (s u : State),
    s.serves → names b k → u = s.judged h →
    (u.stepRec k).state = some .closed → u.entryOf k = none →
      (u.heldBack →
        ∃ t, exec (.openStep h b) s = .next t
          ∧ u.answered t h { code := .accepted, payload := [] }
          ∧ t.oq =
              { u.oq with
                entries := u.oq.entries ++
                  [{ kind := .openOp
                     step := k
                     originator := portOriginator h.port
                     tag := some h.tag
                     admittedAt := u.clock.uptime
                     status := .waiting
                     mark := none
                     fast := false }] }
          ∧ u.onlyIn t [.pi, .oq])
        ∧ (u.inFlight = none → u.cu.settle = 0 →
            (∀ e ∈ u.oq.entries, e.status = .waiting → e.kind = .closeOp) →
            ∃ t, exec (.openStep h b) s = .next t
              ∧ (t.portState h.port).buffer =
                  some (responseBytes h.tag { code := .accepted, payload := [] })
              ∧ (t.stepRec k).state = some .opening
              ∧ (t.inFlight.map (fun e => (e.kind, e.step, e.originator, e.tag))) =
                  some (.openOp, k, portOriginator h.port, some h.tag)
              ∧ t.oq.vPre = u.me.lastValidAvg ∧ t.oq.retryCount = 0
              ∧ t.oq.operate = some { since := u.clock.now, length := u.y .top }
              ∧ ((u.stepRec k).position ≠ some .atOpen → t.coilOn k .openCoil = true)
              ∧ (∀ j, j ≠ k → t.stepRec j = u.stepRec j)
              ∧ u.onlyIn t [.ss, .oq, .cu, .avc, .hmu, .upu, .au, .pi, .os])

/-- An OPEN for ALL is answered ACCEPTED with the number of postings accepted and the eight answers in step
order, each the answer that a posting for that step alone would have received. While nothing can be
dispatched, in a state whose queue and coils are sound, the accepted postings for steps without an entry
join the tail of the list in step order, and no step changes (R59). -/
def Obligations.OpenAllIsAnsweredStepByStep : Prop :=
  ∀ (h : Header) (s u : State), s.serves → u = s.judged h →
    ∃ t, exec (.openStep h 15) s = .next t
      ∧ (∀ answers, answers = allSteps.map (fun k =>
            (u.post { kind := .openOp, step := k, originator := portOriginator h.port
                      tag := some h.tag, fast := false }).2) →
          (t.portState h.port).buffer =
            some (responseBytes h.tag
              { code := .accepted
                payload :=
                  byte (answers.countP (fun a => a = .accepted)) ::
                    answers.map (fun a => byte a.result.code) }))
      ∧ u.onlyIn t [.ss, .oq, .cu, .avc, .hmu, .upu, .au, .pi, .os]
      ∧ (u.QueueSound → u.CoilsSound → u.heldBack → t.ss = u.ss ∧
          t.oq.entries.map (·.step) =
            (u.oq.entries.map (·.step)).filter (fun k =>
                decide (¬∃ e ∈ u.oq.entries, e.step = k ∧ e.status = .waiting ∧ e.kind = .closeOp))
              ++ allSteps.filter (fun k =>
                decide ((u.stepRec k).state = some .closed ∧ u.entryOf k = none)))

/-- The refusal of a SELECT of a step: the first check of R170 that applies. COOLING carries the discharge
time, and BLOCKED its cause: HARMONIC, OVERVOLTAGE, BACKUP_TRIP or TRIP_RECORD. -/
def selectRefusal (u : State) (p : Port) (k : StepId) : Answer :=
  if u.holder ≠ some p then { code := .notHolder, payload := [] }
  else if u.au.auto = true then { code := .autoActive, payload := [] }
  else if (u.stepRec k).state = none then { code := .wrongState, payload := [] }
  else if (u.stepRec k).state = some .discharging then
    { code := .cooling, payload := be 2 (u.stepRec k).discharge }
  else if (u.stepRec k).state ≠ some .ready then { code := .wrongState, payload := [] }
  else if u.inService k = false then { code := .wrongState, payload := [] }
  else if u.entryOf k ≠ none then { code := .pending, payload := [] }
  else if u.slot p ≠ none then { code := .selectionHeld, payload := [] }
  else if u.avc.line = .dead then { code := .deadLine, payload := [] }
  else if u.harmonicBlock = true then { code := .blocked, payload := [byte 1] }
  else if u.y .vov ≤ u.me.frame.vMax then { code := .blocked, payload := [byte 2] }
  else if u.bkt = true then { code := .blocked, payload := [byte 3] }
  else { code := .blocked, payload := [byte 4] }

/-- SELECT of a step is accepted exactly when its port is the holder, AUTO is off, the step is READY, in
service and without a pending entry, the port's slot is empty and no close block holds. The slot then holds
the step, the tag and the expiry time, which the answer carries; otherwise nothing changes but the answer,
which is the refusal of the first check that applies (R170). That the expiry time, uptime plus TSEL, is
taken modulo 2^32 is the model's choice (log entry 11). -/
def Obligations.SelectFillsItsSlot : Prop :=
  ∀ (h : Header) (b : Byte) (k : StepId) (s u : State),
    s.serves → names b k → u = s.judged h →
    ∃ t, exec (.select h b) s = .next t
      ∧ (if u.holder = some h.port ∧ u.au.auto = false ∧ (u.stepRec k).state = some .ready
            ∧ u.inService k = true ∧ u.entryOf k = none ∧ u.slot h.port = none
            ∧ u.avc.line = .live ∧ u.harmonicBlock = false ∧ u.me.frame.vMax < u.y .vov
            ∧ u.bkt = false ∧ u.tripRecordBlock = false then
          u.answered t h
              { code := .accepted, payload := be 4 ((u.clock.uptime + u.y .tsel) % 4294967296) }
            ∧ t.slot h.port =
                some { step := k, tag := h.tag
                       expiry := (u.clock.uptime + u.y .tsel) % 4294967296 }
            ∧ (∀ p, p ≠ h.port → t.slot p = u.slot p)
            ∧ { t.au with slotA := u.au.slotA, slotB := u.au.slotB } = u.au
            ∧ (s.SelectionsSound → t.selectedBy k = some h.port)
            ∧ u.onlyIn t [.pi, .au]
        else
          u.onlyIn t [.pi] ∧ u.answered t h (selectRefusal u h.port k))

/-- OPERATE of the step that the port's slot holds empties the slot without a record and posts a CLOSE: it
is admitted, and waits while nothing can be dispatched. The first block of R51 that holds refuses it with
its cause: DEAD_LINE, or BLOCKED with HARMONIC, BACKUP_TRIP or TRIP_RECORD. OPERATE of any other step is
refused NOT_SELECTED and leaves the slot (R51, R171). -/
def Obligations.OperateConsumesTheSelection : Prop :=
  ∀ (h : Header) (b : Byte) (k : StepId) (s u : State),
    s.serves → names b k → u = s.judged h →
    ((u.slot h.port).map (·.step) = some k → (u.stepRec k).state = some .ready →
        u.inService k = true → u.entryOf k = none →
        (u.avc.line = .live → u.harmonicBlock = false → u.bkt = false → u.tripRecordBlock = false →
            u.heldBack →
            ∃ t, exec (.operate h b) s = .next t
              ∧ u.answered t h { code := .accepted, payload := [] }
              ∧ t.slot h.port = none ∧ (∀ p, p ≠ h.port → t.slot p = u.slot p)
              ∧ { t.au with slotA := u.au.slotA, slotB := u.au.slotB } = u.au
              ∧ t.oq =
                  { u.oq with
                    entries := u.oq.entries ++
                      [{ kind := .closeOp
                         step := k
                         originator := portOriginator h.port
                         tag := some h.tag
                         admittedAt := u.clock.uptime
                         status := .waiting
                         mark := none
                         fast := false }] }
              ∧ u.onlyIn t [.pi, .au, .oq])
          ∧ (u.avc.line = .dead → u.heldBack →
              ∃ t, exec (.operate h b) s = .next t ∧ t.slot h.port = none
                ∧ u.answered t h { code := .deadLine, payload := [] } ∧ u.onlyIn t [.pi, .au])
          ∧ (u.avc.line = .live → u.harmonicBlock = true → u.heldBack →
              ∃ t, exec (.operate h b) s = .next t ∧ t.slot h.port = none
                ∧ u.answered t h { code := .blocked, payload := [byte 1] }
                ∧ u.onlyIn t [.pi, .au])
          ∧ (u.avc.line = .live → u.harmonicBlock = false → u.bkt = true → u.heldBack →
              ∃ t, exec (.operate h b) s = .next t ∧ t.slot h.port = none
                ∧ u.answered t h { code := .blocked, payload := [byte 3] }
                ∧ u.onlyIn t [.pi, .au])
          ∧ (u.avc.line = .live → u.harmonicBlock = false → u.bkt = false →
              u.tripRecordBlock = true → u.heldBack →
              ∃ t, exec (.operate h b) s = .next t ∧ t.slot h.port = none
                ∧ u.answered t h { code := .blocked, payload := [byte 4] }
                ∧ u.onlyIn t [.pi, .au]))
      ∧ ((u.slot h.port).map (·.step) ≠ some k →
          ∃ t, exec (.operate h b) s = .next t ∧ u.onlyIn t [.pi]
            ∧ u.answered t h { code := .notSelected, payload := [] })

/-- CANCEL of a value outside 1 to 8, ALL among them, is refused BAD_STEP; of a step the port's slot does
not hold, NOT_SELECTED; otherwise the slot is emptied, the step's selected_by becomes absent and the answer
is DONE, with no Outcome Record and whoever the holder is (R172). -/
def Obligations.CancelEmptiesItsSlot : Prop :=
  ∀ (h : Header) (b : Byte) (s u : State), s.serves → u = s.judged h →
    (b.toNat = 0 ∨ 8 < b.toNat →
        ∃ t, exec (.cancel h b) s = .next t ∧ u.onlyIn t [.pi]
          ∧ u.answered t h { code := .badStep, payload := [] })
      ∧ ∀ k : StepId, names b k →
        ((u.slot h.port).map (·.step) ≠ some k →
            ∃ t, exec (.cancel h b) s = .next t ∧ u.onlyIn t [.pi]
              ∧ u.answered t h { code := .notSelected, payload := [] })
          ∧ ((u.slot h.port).map (·.step) = some k →
              ∃ t, exec (.cancel h b) s = .next t
                ∧ u.answered t h { code := .done, payload := [] }
                ∧ t.slot h.port = none ∧ (∀ p, p ≠ h.port → t.slot p = u.slot p)
                ∧ { t.au with slotA := u.au.slotA, slotB := u.au.slotB } = u.au
                ∧ (s.SelectionsSound → t.selectedBy k = none)
                ∧ u.onlyIn t [.pi, .au])

/-- AUTO from the holder takes the value asked for and is answered DONE; turned on, it cancels every
selection with CANCELLED (AUTHORITY_LOST) in the selecting port's list, and sets no change flag (R162,
R174). RELEASE_HOLD from the holder makes manual_hold of the named step, or of every step for ALL, no and is
answered DONE (R169). From a port that is not the holder each is refused NOT_HOLDER. -/
def Obligations.AutoAndReleaseHoldFollowTheHolder : Prop :=
  (∀ (h : Header) (v : Byte) (s u : State), s.serves → u = s.judged h →
     (u.holder ≠ some h.port →
         ∃ t, exec (.auto h v) s = .next t ∧ u.onlyIn t [.pi]
           ∧ u.answered t h { code := .notHolder, payload := [] })
       ∧ (u.holder = some h.port →
           ∃ t, exec (.auto h v) s = .next t ∧ t.au.auto = decide (v ≠ 0)
             ∧ (t.portState h.port).buffer =
                 some (responseBytes h.tag { code := .done, payload := [] })
             ∧ (∀ p, (t.portState p).changeFlag = (u.portState p).changeFlag)
             ∧ { t.au with auto := u.au.auto, slotA := u.au.slotA, slotB := u.au.slotB } = u.au
             ∧ (v = 0 ∨ u.au.auto = true →
                 (∀ p, t.slot p = u.slot p) ∧ t.os = u.os)
             ∧ (v ≠ 0 → u.au.auto = false →
                 ∀ p, t.slot p = none
                   ∧ (u.slot p = none → t.outcomes p = u.outcomes p)
                   ∧ ∀ x, u.slot p = some x →
                       ((t.outcomes p).getLast?.map (·.2)) =
                         some { tag := x.tag
                                step := some x.step
                                what := .select
                                result := .cancelled .authorityLost
                                state := (u.stepRec x.step).state
                                uptime := u.clock.uptime })
             ∧ u.onlyIn t [.pi, .au, .os]))
    ∧ ∀ (h : Header) (b : Byte) (s u : State), s.serves → u = s.judged h →
        (b.toNat = 15 ∨ (1 ≤ b.toNat ∧ b.toNat ≤ 8)) →
        ∃ t, exec (.releaseHold h b) s = .next t
          ∧ (if u.holder = some h.port then
              u.answered t h { code := .done, payload := [] }
                ∧ (∀ k, t.stepRec k =
                    if b.toNat = 15 ∨ names b k then { u.stepRec k with manualHold := false }
                    else u.stepRec k)
                ∧ { t.ss with steps := u.ss.steps } = u.ss
                ∧ u.onlyIn t [.pi, .ss]
            else u.answered t h { code := .notHolder, payload := [] } ∧ u.onlyIn t [.pi])

/-! ## Settings and the store -/

/-- The value the range clamp of R195 gives. The limits are those of R194's table, and so 0 and 1 for an
on/off setting, and the first and the last position for an enumerated one. -/
def rangeClamped (x : SettingId) (v : Nat) : Nat :=
  if x = .yard .debounce then (if v ≤ 11 then 4 else 20)
  else if v < x.low then x.low
  else if x.high < v then x.high
  else v

/-- The limits of R194's table, in its order. -/
def limitsOfTheTable : Prop :=
  allYardSettings.map (fun y => (y.low, y.high)) =
      [(800, 1800), (100, 600), (4, 20), (950, 1080), (5, 60), (1, 20), (100, 60000), (100, 60000),
        (0, 30), (1050, 1200), (1, 120), (0, 1), (100, 500), (1, 600), (1, 8), (1, 24), (50, 500),
        (100, 2000), (0, 3), (30, 3600), (5, 120), (60, 900), (60, 7200), (2, 60), (10, 600), (0, 1),
        (0, 1)]
    ∧ allStepSettings.map (fun y => (y.low, y.high)) =
      [(0, 1), (0, 200), (100, 2000), (10, 5000), (20, 9999), (1, 600), (1, 600)]
    ∧ allMonitorSettings.map (fun y => (y.low, y.high)) =
      [(0, 1), (1, 6), (1, 4), (0, 9999), (1, 3600), (1, 3)]

/-- The value the cross-clamp of R196 gives, against the partners' upcoming values. -/
def crossClamped (u : State) (v : Nat) : SettingId → Nat
  | .yard .hys => min v (u.upcoming (.yard .bw))
  | .yard .bw =>
    min (max v (u.upcoming (.yard .hys)))
      (u.upcoming (.yard .vset) - u.upcoming (.yard .vdead) - 100)
  | .yard .tpulse => min v (u.upcoming (.yard .top))
  | .yard .top => max v (u.upcoming (.yard .tpulse))
  | .yard .vdead => min v (u.upcoming (.yard .vset) - u.upcoming (.yard .bw) - 100)
  | .yard .vset => max v (u.upcoming (.yard .vdead) + 100 + u.upcoming (.yard .bw))
  | .step .ualm k => min v (u.upcoming (.step .utrip k) - 10)
  | .step .utrip k => max v (u.upcoming (.step .ualm k) + 10)
  | _ => v

/-- SET clamps its value to the range and against the partners' upcoming values, holds it pending, and is
answered DONE, or CLAMPED with the value held. A value below the range takes the lower limit of R194's table
and one above it the upper limit; an on/off setting takes 1 above 1, an enumerated one its first position
for 0 and its last above it, DEBOUNCE 4 up to 11 and 20 from 12. Port B needs to be the holder and may name
VSET and BW only; while a SAVE is in flight the answer is BUSY. What is held lies in range and meets its
partners (R184, R194, R195, R196). -/
def Obligations.SetHoldsTheClampedValue : Prop :=
  limitsOfTheTable ∧ ∀ (h : Header) (n i : Byte) (v : BitVec 16) (x : SettingId) (s u : State),
    s.serves → u = s.judged h → x ∈ allSettingIds → x.number = n.toNat → x.index = i.toNat →
    (h.port = .a ∨ x = .yard .vset ∨ x = .yard .bw) →
    ∃ t, exec (.setSetting h n i v) s = .next t
      ∧ (if h.port = .b ∧ u.holder ≠ some .b then
          u.answered t h { code := .notHolder, payload := [] } ∧ u.onlyIn t [.pi]
        else if u.set.save ≠ none then
          u.answered t h { code := .busy, payload := [] } ∧ u.onlyIn t [.pi]
        else
          u.onlyIn t [.pi, .set]
            ∧ ∃ w, t.set =
                { u.set with
                  pendingValues := u.set.pendingValues ++ [{ id := x, value := w, loaded := false }] }
              ∧ u.answered t h
                  (if w = v.toNat then { code := .done, payload := [] }
                   else { code := .clamped, payload := be 2 w })
              ∧ t.upcoming x = w ∧ w = crossClamped u (rangeClamped x v.toNat) x
              ∧ (u.SettingsSound → x.inRange w = true
                  ∧ (x.inRange v.toNat = true → u.crossClamp x v.toNat = v.toNat → w = v.toNat)
                  ∧ (x = .yard .hys → w ≤ u.upcoming (.yard .bw))
                  ∧ (x = .yard .bw → u.upcoming (.yard .hys) ≤ w
                      ∧ u.upcoming (.yard .vdead) + 100 + w ≤ u.upcoming (.yard .vset))
                  ∧ (x = .yard .tpulse → w ≤ u.upcoming (.yard .top))
                  ∧ (x = .yard .top → u.upcoming (.yard .tpulse) ≤ w)
                  ∧ (x = .yard .vdead →
                      w + 100 + u.upcoming (.yard .bw) ≤ u.upcoming (.yard .vset))
                  ∧ (x = .yard .vset →
                      u.upcoming (.yard .vdead) + 100 + u.upcoming (.yard .bw) ≤ w)
                  ∧ ∀ k, (x = .step .ualm k → w + 10 ≤ u.upcoming (.step .utrip k))
                    ∧ (x = .step .utrip k → u.upcoming (.step .ualm k) + 10 ≤ w)))

/-- SAVE from Port A is answered BUSY while one is in flight. Otherwise it is answered ACCEPTED, and the
SAVE in flight holds the settings in force, each step's stored data, the next sequence number and a check
word that matches, with the copy that is not current as its target; nothing is written yet (R198, R199). It
ends with what the target copy reads back as. When that is the snapshot, the copy becomes current,
SETTINGS_DEFAULTED is cleared and Port A's list gains SAVED at its tail; otherwise the current copy and
SETTINGS_DEFAULTED stay and the list gains SAVE_FAILED. The other copy is not touched (R200). That the end
carries what reads back is log entry 20. -/
def Obligations.SaveStoresASnapshot : Prop :=
  (∀ (h : Header) (s u : State), s.serves → h.port = .a → u = s.judged h →
     (s.set.save ≠ none →
         ∃ t, exec (.save h) s = .next t ∧ u.onlyIn t [.pi]
           ∧ u.answered t h { code := .busy, payload := [] })
       ∧ (s.set.save = none →
           ∃ t f, exec (.save h) s = .next t ∧ u.answered t h { code := .accepted, payload := [] }
             ∧ t.set = { u.set with save := some f } ∧ u.onlyIn t [.pi, .set]
             ∧ f.tag = h.tag ∧ (f.target1 = true ↔ u.set.current1 ≠ some true)
             ∧ f.image.seq = (u.set.currentSeq + 1) % 65536
             ∧ f.image.settings = u.set.settings
             ∧ (∀ k : StepId, f.image.steps[k] =
                 { compensation := (u.stepRec k).compensation
                   learnedRise := (u.stepRec k).learnedRise
                   closeCount := (u.stepRec k).closeCount })
             ∧ (u.SettingsSound → imageValid f.image = true)))
    ∧ ∀ (r : Image) (f : SaveInFlight) (s : State), s.clock.held = none → s.set.save = some f →
        ∃ t, exec (.saveComplete r) s = .next t
          ∧ t.set.save = none
          ∧ (if f.target1 then t.set.copy1 = r ∧ t.set.copy0 = s.set.copy0
            else t.set.copy0 = r ∧ t.set.copy1 = s.set.copy1)
          ∧ (if r = f.image then
              t.set.current1 = some f.target1 ∧ t.set.currentSeq = f.image.seq
                ∧ t.set.defaulted = false
            else
              t.set.current1 = s.set.current1 ∧ t.set.currentSeq = s.set.currentSeq
                ∧ t.set.defaulted = s.set.defaulted)
          ∧ ((t.outcomes .a).getLast?.map (·.2)) =
              some { tag := f.tag
                     step := none
                     what := .save
                     result := if r = f.image then .saved else .saveFailed
                     state := none
                     uptime := s.clock.uptime }
          ∧ t.set.settings = s.set.settings ∧ t.set.pendingValues = s.set.pendingValues
          ∧ t.outcomes .b = s.outcomes .b
          ∧ (∀ p, (t.portState p).changeFlag = (s.portState p).changeFlag)
          ∧ s.onlyIn t [.set, .os, .pi]

/-- LOADING ends 40 ms after the release: a valid copy is taken, the successor when both are valid and copy
0 when neither succeeds the other, its settings pending and AUTO its AUTOSTART; with none valid the defaults
stay, SETTINGS_DEFAULTED is set and copy 1 is made current. The ports then judge requests (R202). That the
count moves to the due instant is log entry 2. -/
def Obligations.LoadingTakesAValidCopy : Prop :=
  ∀ s : State, s.clock.held = none → s.set.startup = .loading →
    ∃ t, exec .loadingEnd s = .next t
      ∧ t.set.startup = .running ∧ t.clock.now = max s.clock.now 40000
      ∧ t.set.settings = s.set.settings ∧ t.set.derived = s.set.derived
      ∧ (∀ one : Bool, ∀ c, c = (if one then s.set.copy1 else s.set.copy0) →
          imageValid c = true →
          (∀ d, d = (if one then s.set.copy0 else s.set.copy1) →
            (imageValid d = false
              ∨ (if one then c.seq = (d.seq + 1) % 65536 else d.seq ≠ (c.seq + 1) % 65536))) →
          t.set.current1 = some one ∧ t.set.currentSeq = c.seq
            ∧ t.set.defaulted = s.set.defaulted
            ∧ t.au.auto = decide (c.settings.y .autostart ≠ 0)
            ∧ (∀ x, t.upcoming x = c.settings.get x)
            ∧ ∀ k : StepId, t.stepRec k =
                { s.stepRec k with
                  compensation := c.steps[k].compensation
                  learnedRise := c.steps[k].learnedRise
                  closeCount := c.steps[k].closeCount })
      ∧ (imageValid s.set.copy0 = false → imageValid s.set.copy1 = false →
          t.set.defaulted = true ∧ t.set.current1 = some true ∧ t.set.currentSeq = 65535
            ∧ t.au.auto = false ∧ t.alm = true ∧ t.set.pendingValues = s.set.pendingValues
            ∧ ∀ k, t.stepRec k =
                { s.stepRec k with compensation := none, learnedRise := 15, closeCount := 0 })
      ∧ s.onlyIn t [.clock, .ss, .au, .set]

/-! ## Maintenance requests -/

/-- RESET_LOCKOUT from Port A is refused WRONG_STATE unless the step is in LOCKOUT with its position OPEN.
Otherwise it is answered DONE: the lockout cause goes, and the step enters DISCHARGING while discharge time
is left, else READY at the tail of the Ready Order. The Trip Record, the backup trip and the compensation
stay, and while either block stands a CLOSE of the released step is refused (R18). -/
def Obligations.ResetLockoutReleasesTheStep : Prop :=
  ∀ (h : Header) (b : Byte) (k : StepId) (s u : State),
    s.serves → h.port = .a → names b k → s.YardSound → u = s.judged h →
    ∃ t, exec (.resetLockout h b) s = .next t
      ∧ (if (u.stepRec k).state = some .lockout ∧ (u.stepRec k).position = some .atOpen then
          u.setFlags.answered t h { code := .done, payload := [] }
            ∧ t.stepRec k =
                { u.stepRec k with
                  state := some (if 0 < (u.stepRec k).discharge then .discharging else .ready)
                  lockoutCause := none
                  failureCause := none
                  closedWhileOut := false }
            ∧ (∀ j, j ≠ k → t.stepRec j = u.stepRec j)
            ∧ t.ss.readyOrder =
                u.ss.readyOrder ++ (if 0 < (u.stepRec k).discharge then [] else [k])
            ∧ t.ss.closedOrder = u.ss.closedOrder
            ∧ u.onlyIn t [.pi, .ss, .cu]
            ∧ { t.cu with armed := u.cu.armed } = u.cu
            ∧ (u.bkt = true ∨ u.tripRecordBlock = true → ∀ o tag,
                (t.post { kind := .closeOp, step := k, originator := o, tag := tag
                          fast := false }).2 ≠ .accepted)
        else
          u.answered t h { code := .wrongState, payload := [] } ∧ u.onlyIn t [.pi])

/-- TAKE_OUT moves a READY, DISCHARGING, LOCKOUT or FAILED step without a pending entry to OUT: it leaves
the Ready Order, keeps a lockout cause and its discharge time, loses a failure cause, and counts as closed
while out when its switch is closed; a selection on it is cancelled. WRONG_STATE and PENDING refuse the
others (R12, R15). -/
def Obligations.TakeOutMovesTheStepOut : Prop :=
  ∀ (h : Header) (b : Byte) (k : StepId) (s u : State),
    s.serves → h.port = .a → names b k → s.YardSound → u = s.judged h →
    ∃ t, exec (.takeOut h b) s = .next t
      ∧ (if (u.stepRec k).state = none ∨ (u.stepRec k).state = some .closing
            ∨ (u.stepRec k).state = some .closed ∨ (u.stepRec k).state = some .opening
            ∨ (u.stepRec k).state = some .out then
          u.answered t h { code := .wrongState, payload := [] } ∧ u.onlyIn t [.pi]
        else if u.entryOf k ≠ none then
          u.answered t h { code := .pending, payload := [] } ∧ u.onlyIn t [.pi]
        else
          (t.portState h.port).buffer = some (responseBytes h.tag { code := .done, payload := [] })
            ∧ (∀ p, (t.portState p).changeFlag = true)
            ∧ t.stepRec k =
                { u.stepRec k with
                  state := some .out
                  failureCause := none
                  closedWhileOut := decide ((u.stepRec k).position = some .atClosed)
                  faultTimer := none }
            ∧ (∀ j, j ≠ k → t.stepRec j = u.stepRec j)
            ∧ t.ss.readyOrder = u.ss.readyOrder.filter (· ≠ k)
            ∧ t.ss.closedOrder = u.ss.closedOrder ∧ t.selectedBy k = none
            ∧ (u.selectedBy k = none → u.onlyIn t [.pi, .ss, .cu])
            ∧ u.onlyIn t [.pi, .ss, .cu, .au, .os])

/-- RESET_STEP derives a FAILED step's state from its position: OPEN gives DISCHARGING with TDIS, CLOSED
gives CLOSED at the tail of the Closed Order with no discharge time; anything else is refused WRONG_STATE
(R17, R77, R79). RETURN brings an OUT step whose position is OPEN back: to LOCKOUT when it holds a lockout
cause, which it keeps, else to DISCHARGING while discharge time is left, else to READY at the tail of the
Ready Order; it is refused WRONG_STATE otherwise (R16). -/
def Obligations.ResetStepAndReturnFollowThePosition : Prop :=
  (∀ (h : Header) (b : Byte) (k : StepId) (s u : State),
     s.serves → h.port = .a → names b k → s.YardSound → u = s.judged h →
     ∃ t, exec (.resetStep h b) s = .next t
       ∧ (if (u.stepRec k).state = some .failed ∧ (u.stepRec k).position = some .atOpen then
           u.setFlags.answered t h { code := .done, payload := [] }
             ∧ t.stepRec k =
                 { u.stepRec k with
                   state := some .discharging
                   lockoutCause := none
                   failureCause := none
                   closedWhileOut := false
                   discharge := u.y .tdis }
             ∧ t.ss.readyOrder = u.ss.readyOrder ∧ t.ss.closedOrder = u.ss.closedOrder
             ∧ (∀ j, j ≠ k → t.stepRec j = u.stepRec j) ∧ u.onlyIn t [.pi, .ss, .cu]
         else if (u.stepRec k).state = some .failed ∧ (u.stepRec k).position = some .atClosed then
           u.setFlags.answered t h { code := .done, payload := [] }
             ∧ t.stepRec k =
                 { u.stepRec k with
                   state := some .closed
                   lockoutCause := none
                   failureCause := none
                   closedWhileOut := false
                   discharge := 0 }
             ∧ t.ss.readyOrder = u.ss.readyOrder ∧ t.ss.closedOrder = u.ss.closedOrder ++ [k]
             ∧ (∀ j, j ≠ k → t.stepRec j = u.stepRec j) ∧ u.onlyIn t [.pi, .ss, .cu]
         else
           u.answered t h { code := .wrongState, payload := [] } ∧ u.onlyIn t [.pi]))
    ∧ ∀ (h : Header) (b : Byte) (k : StepId) (s u : State),
        s.serves → h.port = .a → names b k → s.YardSound → u = s.judged h →
        ∃ t, exec (.returnStep h b) s = .next t
          ∧ (if (u.stepRec k).state = some .out ∧ (u.stepRec k).position = some .atOpen then
              u.setFlags.answered t h { code := .done, payload := [] }
                ∧ t.stepRec k =
                    { u.stepRec k with
                      state := some
                        (if (u.stepRec k).lockoutCause ≠ none then .lockout
                         else if 0 < (u.stepRec k).discharge then .discharging else .ready)
                      failureCause := none
                      closedWhileOut := false }
                ∧ (∀ j, j ≠ k → t.stepRec j = u.stepRec j)
                ∧ t.ss.readyOrder =
                    u.ss.readyOrder ++
                      (if (u.stepRec k).lockoutCause = none ∧ (u.stepRec k).discharge = 0 then [k]
                       else [])
                ∧ t.ss.closedOrder = u.ss.closedOrder ∧ u.onlyIn t [.pi, .ss, .cu]
            else
              u.answered t h { code := .wrongState, payload := [] } ∧ u.onlyIn t [.pi])

/-- CLEAR_TRIP_RECORD empties the Trip Record, RESET_BACKUP de-asserts BKT and empties its record, and each
is answered DONE and leaves the other's record. With nothing waiting or an operation in flight nothing else
changes (R147, R153). A WAITING CLOSE that only the ended block held is dispatched (R60, R61, R146, R152).
-/
def Obligations.ProtectionRecordsAreCleared : Prop :=
  ∀ (h : Header) (s u : State), s.serves → h.port = .a → u = s.judged h →
    (∃ t, exec (.clearTripRecord h) s = .next t ∧ t.upu.tripRecord = none
        ∧ t.upu.backup = u.upu.backup ∧ t.upu.lastTrip = u.upu.lastTrip
        ∧ (t.portState h.port).buffer = some (responseBytes h.tag { code := .done, payload := [] })
        ∧ (u.inFlight ≠ none ∨ u.oq.entries = [] →
            u.answered t h { code := .done, payload := [] }
              ∧ t.upu.capture = u.upu.capture ∧ u.onlyIn t [.pi, .upu])
        ∧ (∀ e, u.tripRecordBlock = true → u.inFlight = none → u.cu.settle = 0 →
            u.avc.line = .live → u.harmonicBlock = false → u.overvoltageBlock = false →
            u.bkt = false → u.oldestWaiting .tripOp = none → u.oldestWaiting .openOp = none →
            u.oldestWaiting .closeOp = some e →
            (t.stepRec e.step).state = some .closing)
        ∧ u.onlyIn t [.ss, .oq, .cu, .avc, .hmu, .upu, .au, .pi, .os])
      ∧ ∃ t, exec (.resetBackup h) s = .next t ∧ t.upu.backup = none ∧ t.bktPin = false
        ∧ t.upu.tripRecord = u.upu.tripRecord ∧ t.upu.lastTrip = u.upu.lastTrip
        ∧ (t.portState h.port).buffer = some (responseBytes h.tag { code := .done, payload := [] })
        ∧ (u.inFlight ≠ none ∨ u.oq.entries = [] →
            u.answered t h { code := .done, payload := [] }
              ∧ t.upu.capture = u.upu.capture ∧ u.onlyIn t [.pi, .upu])
        ∧ (∀ e, u.bkt = true → u.inFlight = none → u.cu.settle = 0 →
            u.avc.line = .live → u.harmonicBlock = false → u.overvoltageBlock = false →
            u.tripRecordBlock = false → u.oldestWaiting .tripOp = none →
            u.oldestWaiting .openOp = none → u.oldestWaiting .closeOp = some e →
            (t.stepRec e.step).state = some .closing)
        ∧ u.onlyIn t [.ss, .oq, .cu, .avc, .hmu, .upu, .au, .pi, .os]

/-- CLEAR_COUNTERS from Port A sets the assert_count and the active_frames of every monitor to 0 and is
answered DONE; accumulators, active flags, last_detune and settings stay. A monitor that is active counts
active_frames from 0 at the next frame, its assert_count staying at 0 (R126, R134). -/
def Obligations.ClearCountersClearsTheCounts : Prop :=
  ∀ (h : Header) (s u : State), s.serves → h.port = .a → u = s.judged h →
    ∃ t, exec (.clearCounters h) s = .next t
      ∧ u.answered t h { code := .done, payload := [] }
      ∧ (∀ m, t.monitor m = { u.monitor m with assertCount := 0, activeFrames := 0 })
      ∧ (∀ m, t.monitorActive m = true → ((t.countActive m).monitor m).activeFrames = 1
          ∧ ((t.countActive m).monitor m).assertCount = 0)
      ∧ u.onlyIn t [.pi, .hmu]

/-! ## Discrete inputs -/

/-- The command that accepts an input's raw level. -/
def acceptanceOf (i : DiscreteInput) (raw : Bool) : Instr :=
  match i with
  | .contact k c => .contactDebounceAccept k c
  | .key => .keyAccept
  | .externalTrip => if raw then .externalTripAssertion else .externalTripDeassertion

/-- A raw level that changes restarts its input's window. The accepted value, the positions and the states
stay when the old level had not held for DEBOUNCE, and when it was the accepted one, however long it had
stood. Where an acceptance was due and its command had not come, the change takes it first, with all that
follows from it: that is the model's choice (log entry 16). A level equal to the present one lets time pass
only. While a reset is held the level is followed and time stands (R4, R6; log entries 2 and 9). -/
def Obligations.RawChangeRestartsTheWindow : Prop :=
  ∀ (i : DiscreteInput) (level : Bool) (dt : Nat) (s : State),
    (s.clock.held = none → (s.debouncer i).raw ≠ level →
        s.clock.now + dt < (s.debouncer i).since + s.y .debounce * 1000
          ∨ (s.debouncer i).accepted = some (s.debouncer i).raw →
        ∃ t, exec (.rawInputChange i level dt) s = .next t
          ∧ t.debouncer i =
              { raw := level, since := s.clock.now + dt, accepted := (s.debouncer i).accepted }
          ∧ (∀ j, j ≠ i → t.debouncer j = s.debouncer j)
          ∧ (∀ k, (t.stepRec k).state = (s.stepRec k).state
              ∧ (t.stepRec k).position = (s.stepRec k).position)
          ∧ t.clock = { s.clock with now := s.clock.now + dt } ∧ s.onlyIn t [.clock, .ss])
      ∧ (s.clock.held = none → (s.debouncer i).raw ≠ level →
          (s.debouncer i).since + s.y .debounce * 1000 ≤ s.clock.now + dt →
          (s.debouncer i).accepted ≠ some (s.debouncer i).raw →
          ∃ t, exec (.rawInputChange i level dt) s = .next t
            ∧ t.debouncer i =
                { raw := level, since := s.clock.now + dt, accepted := some (s.debouncer i).raw }
            ∧ ∃ a, exec (acceptanceOf i (s.debouncer i).raw)
                { s with clock := { s.clock with now := s.clock.now + dt } } = .next a
              ∧ t = a.setDebouncer i (t.debouncer i))
      ∧ (s.clock.held = none → (s.debouncer i).raw = level →
          exec (.rawInputChange i level dt) s =
            .next { s with clock := { s.clock with now := s.clock.now + dt } })
      ∧ (s.clock.held ≠ none →
          ∃ t, exec (.rawInputChange i level dt) s = .next t ∧ (t.debouncer i).raw = level
            ∧ (t.debouncer i).accepted = (s.debouncer i).accepted ∧ s.onlyIn t [.ss])

/-- The position that a contact pair gives (R5); none while either contact has no accepted value. -/
def pairPosition (closedMade openMade : Option Bool) : Option Position :=
  if closedMade = some true ∧ openMade = some false then some .atClosed
  else if closedMade = some false ∧ openMade = some true then some .atOpen
  else if closedMade = some false ∧ openMade = some false then some .travel
  else if closedMade = some true ∧ openMade = some true then some .invalid
  else none

/-- The instant from which a debouncer's raw value is accepted: the end of its window, or the latest frame
arrival when the DEBOUNCE applied there had already been exceeded (R4). -/
def acceptedAt (s : State) (d : Debouncer) : Nat :=
  max s.me.lastArrival (d.since + s.y .debounce * 1000)

/-- The accepted value of a step's contact `x` once its contact `c` is accepted: the raw value for `c`, and
for one accepted at the same instant (R4, R5; log entry 32). -/
def valueAfter (s : State) (k : StepId) (c x : Contact) : Option Bool :=
  if x = c ∨ acceptedAt s (s.debouncer (.contact k x)) = acceptedAt s (s.debouncer (.contact k c)) then
    some (s.debouncer (.contact k x)).raw
  else (s.debouncer (.contact k x)).accepted

/-- The position of a step once its contact `c` is accepted (R5). -/
def positionAfter (s : State) (k : StepId) (c : Contact) : Option Position :=
  pairPosition (valueAfter s k c .closedContact) (valueAfter s k c .openContact)

/-- A contact whose raw value differs from its accepted one is accepted at the end of its window, together
with the step's other contact when both fall at one instant, and the step's position is the one its two
accepted values give, absent until both exist. When the position does not change, nothing else does. In
CLOSED, READY and DISCHARGING the contact-fault timer starts at a change into TRAVEL or INVALID (R4, R5,
R13). That the count moves to the due instant is log entry 2; that the position is derived once from two
contacts accepted together is log entry 32. -/
def Obligations.AcceptedContactGivesThePosition : Prop :=
  ∀ (k : StepId) (c : Contact) (s : State) (d : Debouncer),
    s.clock.held = none → d = s.debouncer (.contact k c) → d.accepted ≠ some d.raw →
    ∃ t, exec (.contactDebounceAccept k c) s = .next t
      ∧ t.debouncer (.contact k c) = { d with accepted := some d.raw }
      ∧ (∀ x, t.debouncer (.contact k x) =
          { s.debouncer (.contact k x) with accepted := valueAfter s k c x })
      ∧ (∀ i, (∀ x, i ≠ .contact k x) → t.debouncer i = s.debouncer i)
      ∧ t.clock = { s.clock with now := max s.clock.now (d.since + s.y .debounce * 1000) }
      ∧ ∀ p, p = positionAfter s k c →
          (t.stepRec k).position = (if p = none then (s.stepRec k).position else p)
            ∧ (p = none ∨ p = (s.stepRec k).position →
                (∀ j, (t.stepRec j).state = (s.stepRec j).state
                    ∧ (t.stepRec j).faultTimer = (s.stepRec j).faultTimer
                    ∧ (t.stepRec j).discharge = (s.stepRec j).discharge)
                  ∧ t.ss.readyOrder = s.ss.readyOrder ∧ t.ss.closedOrder = s.ss.closedOrder
                  ∧ s.onlyIn t [.clock, .ss])
            ∧ (p ≠ (s.stepRec k).position → p = some .travel ∨ p = some .invalid →
                (s.stepRec k).state = some .closed ∨ (s.stepRec k).state = some .ready
                  ∨ (s.stepRec k).state = some .discharging →
                (t.stepRec k).faultTimer = some { since := t.clock.now, length := s.y .top }
                  ∧ (t.stepRec k).state = (s.stepRec k).state ∧ s.onlyIn t [.clock, .ss])

/-- The acceptance of a contact brings a step's position to `p`, which it was not before (R5). -/
def reaches (s : State) (k : StepId) (c : Contact) (p : Position) : Prop :=
  s.clock.held = none
    ∧ (s.debouncer (.contact k c)).accepted ≠ some (s.debouncer (.contact k c)).raw
    ∧ (s.stepRec k).position ≠ some p ∧ positionAfter s k c = some p

/-- A CLOSED step whose position becomes OPEN loads TDIS, leaves the Closed Order and enters LOCKOUT with
the cause of a WAITING TRIP or else DISCHARGING, joining the unexpected-open set and losing its entry; its
manual_hold stays (R9, R20, R72). A READY or DISCHARGING step whose position becomes CLOSED enters CLOSED
with no discharge time, leaves the Ready Order and loses its WAITING CLOSE; its close_count and
close_history stay, and it joins the closed-while-charged set when it was DISCHARGING (R10, R20, R72). A
step in OUT or FAILED records the position and keeps its state. For one in OUT the change to CLOSED sets
closed_while_out, and a change to OPEN while it is set loads TDIS and clears it (R12). -/
def Obligations.UnexpectedMovesChangeTheState : Prop :=
  (∀ (k : StepId) (c : Contact) (s : State),
     s.YardSound → reaches s k c .atOpen → (s.stepRec k).state = some .closed →
     ∃ t, exec (.contactDebounceAccept k c) s = .next t
       ∧ (t.stepRec k).position = some .atOpen ∧ (t.stepRec k).discharge = s.y .tdis
       ∧ (t.stepRec k).manualHold = (s.stepRec k).manualHold
       ∧ (t.stepRec k).faultTimer = none ∧ t.entryOf k = none
       ∧ k ∈ t.ss.unexpectedOpen ∧ k ∉ t.ss.closedOrder
       ∧ (∀ p, (t.portState p).changeFlag = true)
       ∧ (s.entryOf k = none ∨ s.inFlight ≠ none → ∀ j, j ≠ k → t.stepRec j = s.stepRec j)
       ∧ s.onlyIn t [.clock, .ss, .oq, .cu, .avc, .hmu, .upu, .au, .pi, .os]
       ∧ (match s.entryOf k with
           | some e =>
             if e.kind = .tripOp then
               (t.stepRec k).state = some .lockout
                 ∧ (t.stepRec k).lockoutCause = some (lockoutCauseOf e.originator)
             else (t.stepRec k).state = some .discharging
           | none => (t.stepRec k).state = some .discharging))
    ∧ (∀ (k : StepId) (c : Contact) (s : State),
        s.YardSound → reaches s k c .atClosed →
        (s.stepRec k).state = some .ready ∨ (s.stepRec k).state = some .discharging →
        ∃ t, exec (.contactDebounceAccept k c) s = .next t
          ∧ (t.stepRec k).position = some .atClosed ∧ (t.stepRec k).state = some .closed
          ∧ (t.stepRec k).discharge = 0
          ∧ (t.stepRec k).closeCount = (s.stepRec k).closeCount
          ∧ (t.stepRec k).closeHistory = (s.stepRec k).closeHistory
          ∧ k ∈ t.ss.closedOrder ∧ k ∉ t.ss.readyOrder ∧ t.entryOf k = none ∧ t.selectedBy k = none
          ∧ (k ∈ t.ss.closedWhileCharged ↔
              k ∈ s.ss.closedWhileCharged ∨ (s.stepRec k).state = some .discharging)
          ∧ (s.entryOf k = none ∨ s.inFlight ≠ none → ∀ j, j ≠ k → t.stepRec j = s.stepRec j)
          ∧ s.onlyIn t [.clock, .ss, .oq, .cu, .avc, .hmu, .upu, .au, .pi, .os]
          ∧ ∀ p, (t.portState p).changeFlag = true)
    ∧ ∀ (k : StepId) (c : Contact) (s : State) (p : Position),
        reaches s k c p →
        (s.stepRec k).state = some .out ∨ (s.stepRec k).state = some .failed →
        ∃ t, exec (.contactDebounceAccept k c) s = .next t
          ∧ t.stepRec k =
              { s.stepRec k with
                position := some p
                faultTimer := none
                closedContact := (t.stepRec k).closedContact
                openContact := (t.stepRec k).openContact
                closedWhileOut :=
                  if (s.stepRec k).state = some .failed then (s.stepRec k).closedWhileOut
                  else if p = .atClosed then true
                  else if p = .atOpen then false
                  else (s.stepRec k).closedWhileOut
                discharge :=
                  if (s.stepRec k).state = some .out ∧ p = .atOpen
                      ∧ (s.stepRec k).closedWhileOut = true then s.y .tdis
                  else (s.stepRec k).discharge }
          ∧ (∀ j, j ≠ k → t.stepRec j = s.stepRec j)
          ∧ { t.ss with steps := s.ss.steps } = s.ss
          ∧ s.onlyIn t [.clock, .ss]

/-- A LOCKOUT step whose position becomes CLOSED enters CLOSED, loses its cause and its discharge time, and
a TRIP with that cause is posted for it: with another operation in flight the TRIP waits at the tail of the
list, and with nothing in flight and no other TRIP waiting it is dispatched. The Trip Record stays (R11). -/
def Obligations.LockedOutStepIsTrippedAgain : Prop :=
  ∀ (k : StepId) (c : Contact) (s : State) (x : LockoutCause),
    s.YardSound → reaches s k c .atClosed → (s.stepRec k).state = some .lockout →
    (s.stepRec k).lockoutCause = some x →
    ∃ t, exec (.contactDebounceAccept k c) s = .next t
      ∧ (t.stepRec k).lockoutCause = none ∧ (t.stepRec k).discharge = 0
      ∧ t.upu.tripRecord = s.upu.tripRecord
      ∧ ((s.stepRec k).discharge ≠ 0 → k ∈ t.ss.closedWhileCharged)
      ∧ (s.inFlight ≠ none →
          (t.stepRec k).state = some .closed
            ∧ t.oq.entries = s.oq.entries ++
                [{ kind := .tripOp
                   step := k
                   originator := if x = .unbalance then .unbalance else .external
                   tag := none
                   admittedAt := s.clock.uptime
                   status := .waiting
                   mark := none
                   fast := false }])
      ∧ (s.inFlight = none → s.oldestWaiting .tripOp = none →
          (t.stepRec k).state = some .opening)
      ∧ (s.inFlight ≠ none → ∀ j, j ≠ k → t.stepRec j = s.stepRec j)
      ∧ s.onlyIn t [.clock, .ss, .oq, .cu, .avc, .hmu, .upu, .au, .pi, .os]

/-- A step that was CLOSING and whose position becomes CLOSED completes its CLOSE. Without a mark it is
CLOSED, close_count rises, the uptime joins close_history, the entry leaves with DONE for a port, a settle
period starts, a measurement is armed, and a port's CLOSE clears manual_hold (R63, R65, R68, R80, R87,
R168). With a mark it is converted: with no TRIP waiting, a mark OPEN stands as a WAITING OPEN at the head
of the list with the mark's originator, tag and fast flag, and a mark TRIP is dispatched at once (R66). That
the record of a port's entry without a tag has tag 0 is the model's choice (log entry 25). -/
def Obligations.CloseCompletesAtClosed : Prop :=
  (∀ (k : StepId) (c : Contact) (s : State) (e : Entry),
     s.YardSound → reaches s k c .atClosed → s.inFlight = some e → e.step = k →
     e.kind = .closeOp → e.mark = none →
     ∃ t, exec (.contactDebounceAccept k c) s = .next t
       ∧ (t.stepRec k).state = some .closed ∧ k ∈ t.ss.closedOrder ∧ t.entryOf k = none
       ∧ (t.stepRec k).closeCount = min 999999 ((s.stepRec k).closeCount + 1)
       ∧ (t.stepRec k).closeHistory =
           (if (s.stepRec k).closeHistory.length < 8 then (s.stepRec k).closeHistory
             else (s.stepRec k).closeHistory.drop 1) ++ [s.clock.uptime]
       ∧ (t.stepRec k).manualHold =
           (match originatorPort e.originator with
            | some _ => false
            | none => (s.stepRec k).manualHold)
       ∧ t.cu.settle = s.y .tsettle
       ∧ (∃ v, t.cu.armed =
           some { step := k, kind := .closeOp, target := .closed, vPre := s.oq.vPre
                  converted := false, voided := v })
       ∧ (s.oldestWaiting .tripOp = none → s.y .tsettle ≠ 0 → ∀ j, j ≠ k →
           t.stepRec j = s.stepRec j ∧ t.entryOf j = s.entryOf j)
       ∧ s.onlyIn t [.clock, .ss, .oq, .cu, .avc, .hmu, .upu, .au, .pi, .os]
       ∧ (∀ p, e.originator = portOriginator p → ∃ slot,
           (slot, ({ tag := e.tag.getD 0
                     step := some k
                     what := .closeOp
                     result := .done
                     state := some .closed
                     uptime := s.clock.uptime } : OutcomeRecord)) ∈ t.outcomes p))
    ∧ ∀ (k : StepId) (c : Contact) (s : State) (e : Entry) (m : Mark),
        s.YardSound → s.SettingsSound → reaches s k c .atClosed → s.inFlight = some e → e.step = k →
        e.kind = .closeOp → e.mark = some m →
        ∃ t, exec (.contactDebounceAccept k c) s = .next t
          ∧ (t.stepRec k).closeCount = min 999999 ((s.stepRec k).closeCount + 1)
          ∧ t.cu.settle = s.y .tsettle ∧ (t.cu.armed.map (·.converted)) = some true
          ∧ (t.oq.entries.head?.map
                (fun x => (x.kind, x.step, x.originator, x.tag, x.admittedAt, x.mark, x.fast))) =
              some (m.kind, k, m.originator, m.tag, s.clock.uptime, none, m.fast)
          ∧ (m.kind = .tripOp → (t.stepRec k).state = some .opening
              ∧ (t.inFlight.map (·.step)) = some k)
          ∧ (m.kind = .openOp → s.oldestWaiting .tripOp = none →
              (t.stepRec k).state = some .closed ∧ t.inFlight = none)

/-- A step that was OPENING and whose position becomes OPEN completes: its entry leaves, TDIS is loaded, a
settle period starts, and it enters LOCKOUT with the cause of the TRIP, whether entry or mark, else
DISCHARGING. A HARMONIC OPEN loads the harmonic hold and a port's OPEN sets manual_hold (R63, R67, R68,
R85, R168). -/
def Obligations.OpenCompletesAtOpen : Prop :=
  ∀ (k : StepId) (c : Contact) (s : State) (e : Entry),
    s.YardSound → reaches s k c .atOpen → s.inFlight = some e → e.step = k → e.kind ≠ .closeOp →
    ∃ t, exec (.contactDebounceAccept k c) s = .next t
      ∧ t.entryOf k = none ∧ (t.stepRec k).discharge = s.y .tdis
      ∧ t.cu.settle = s.y .tsettle
      ∧ (t.cu.armed.map (fun a => (a.step, a.kind, a.vPre, a.converted))) =
          some (k, e.kind, s.oq.vPre, false)
      ∧ (e.kind = .openOp → (∀ m, e.mark = some m → m.kind ≠ .tripOp) →
          (t.stepRec k).state = some .discharging)
      ∧ (e.kind = .tripOp →
          (t.stepRec k).state = some .lockout
            ∧ (t.stepRec k).lockoutCause = some (lockoutCauseOf e.originator))
      ∧ (∀ m, e.kind = .openOp → e.mark = some m → m.kind = .tripOp →
          (t.stepRec k).state = some .lockout
            ∧ (t.stepRec k).lockoutCause = some (lockoutCauseOf m.originator))
      ∧ (t.stepRec k).harmonicHold =
          (if e.kind = .openOp ∧ e.originator = .harmonic then s.y .thhold
           else (s.stepRec k).harmonicHold)
      ∧ (t.stepRec k).manualHold =
          (if e.kind = .openOp ∧ originatorPort e.originator ≠ none then true
           else (s.stepRec k).manualHold)
      ∧ (s.oldestWaiting .tripOp = none → s.y .tsettle ≠ 0 → ∀ j, j ≠ k →
          t.stepRec j = s.stepRec j ∧ t.entryOf j = s.entryOf j)
      ∧ s.onlyIn t [.clock, .ss, .oq, .cu, .avc, .hmu, .upu, .au, .pi, .os]
      ∧ (t.stepRec k).closeCount = (s.stepRec k).closeCount

/-! ## Key and external trip -/

/-- The first key value after reset is recorded, and at REMOTE starts the supervision timer; nothing is
cancelled and no flag set. A later value ends the previous holder's selection and WAITING CLOSEs, takes the
key, stops the timer with supervision OK at LOCAL and starts it at REMOTE, and leaves AUTO; both flags are
set when it ends LATE or LOST. With a sound queue and an operation in flight no step changes (R160, R161,
R174). -/
def Obligations.KeyValuesMoveTheAuthority : Prop :=
  ∀ (s : State) (v : KeyPos), s.clock.held = none → s.ss.keyIn.accepted ≠ some s.ss.keyIn.raw →
    v = (if s.ss.keyIn.raw then .remote else .loc) →
    (s.au.key = none →
        ∃ t, exec .keyAccept s = .next t
          ∧ t.au =
              { s.au with
                key := some v
                remaining := if v = .remote then some (s.y .tsup) else s.au.remaining }
          ∧ s.onlyIn t [.clock, .ss, .au] ∧ t.ss.steps = s.ss.steps)
      ∧ (s.au.key ≠ none →
          ∃ t, exec .keyAccept s = .next t
            ∧ t.au.key = some v ∧ t.au.auto = s.au.auto
            ∧ t.au.supervision = (if v = .loc then .ok else s.au.supervision)
            ∧ t.au.remaining = (if v = .loc then none else some (s.y .tsup))
            ∧ (v = .loc → t.holder = some .a)
            ∧ (∀ p, s.holder = some p → t.slot p = none
                ∧ ∀ e ∈ t.oq.entries, ¬(e.status = .waiting ∧ e.kind = .closeOp
                    ∧ e.originator = portOriginator p))
            ∧ (v = .loc → s.au.supervision ≠ .ok → ∀ p, (t.portState p).changeFlag = true)
            ∧ t.ss.keyIn = { s.ss.keyIn with accepted := some s.ss.keyIn.raw }
            ∧ (s.QueueSound → s.inFlight ≠ none → t.ss.steps = s.ss.steps)
            ∧ s.onlyIn t [.clock, .ss, .oq, .cu, .avc, .hmu, .upu, .au, .pi, .os])

/-- An assertion edge of the external trip enters the Trip Record, which it fills when empty and counts in
when held; puts every step that is READY or DISCHARGING without an entry in LOCKOUT (EXTERNAL) with its
discharge time; does the same with a READY step whose CLOSE waits while nothing can be dispatched, and
removes the CLOSE, with CANCELLED (STEP_CHANGED) for its originator (R72); gives every CLOSED step a TRIP;
and leaves the records of OUT, LOCKOUT, FAILED, CLOSING and OPENING steps. BKT is asserted for a FAILED step
whose position is not OPEN (R19, R53, R145, R149). The de-assertion edge takes the accepted value and
changes nothing else: no step, no record and no block (R150). That the count moves to the due instant is log
entry 2; that the record of a port's entry without a tag has tag 0 is the model's choice (log entry 25). -/
def Obligations.ExternalTripReachesEveryStep : Prop :=
  (∀ s : State, s.YardSound → s.clock.held = none → s.ss.tripIn.raw = true →
     s.ss.tripIn.accepted ≠ some true →
     ∃ t, exec .externalTripAssertion s = .next t
       ∧ t.ss.tripIn.accepted = some true
       ∧ (match s.upu.tripRecord with
           | none =>
             t.upu.tripRecord =
                 some
                   { cause := .external
                     step := none
                     uptime := s.clock.uptime
                     frame := s.me.frame.number
                     u := none
                     dre := none
                     dim := none
                     vAvg := s.me.frame.vAvg
                     di := max s.me.frame.a.di (max s.me.frame.b.di s.me.frame.c.di)
                     further := 0 }
               ∧ ∀ p, (t.portState p).changeFlag = true
           | some r =>
             t.upu.tripRecord = some { r with further := min 255 (r.further + 1) })
       ∧ (∀ k, (s.stepRec k).state = some .ready ∨ (s.stepRec k).state = some .discharging →
           s.entryOf k = none →
           (t.stepRec k).state = some .lockout ∧ (t.stepRec k).lockoutCause = some .external
             ∧ (t.stepRec k).discharge = (s.stepRec k).discharge)
       ∧ (∀ k e, s.heldBack → s.entryOf k = some e → e.status = .waiting → e.kind = .closeOp →
           (t.stepRec k).state = some .lockout ∧ (t.stepRec k).lockoutCause = some .external
             ∧ (t.stepRec k).discharge = (s.stepRec k).discharge
             ∧ t.entryOf k = none ∧ k ∉ t.ss.readyOrder)
       ∧ (∀ f e, s.oq.entries = [f, e] ∨ s.oq.entries = [e, f] → f.status = .inFlight →
           e.status = .waiting → e.kind = .closeOp →
           (∀ p, e.originator = portOriginator p → (∀ q, s.slot q = none) →
               ((t.outcomes p).getLast?.map (·.2)) =
                 some { tag := e.tag.getD 0
                        step := some e.step
                        what := .closeOp
                        result := .cancelled .stepChanged
                        state := some .lockout
                        uptime := s.clock.uptime })
             ∧ (e.originator = .avc →
               t.avc.lastResult =
                 some { step := e.step
                        kind := .closeOp
                        fast := e.fast
                        result := .cancelled .stepChanged
                        state := some .lockout
                        uptime := s.clock.uptime }))
       ∧ (∀ k, (s.stepRec k).state = some .closed →
           ∃ e ∈ t.oq.entries, e.step = k
             ∧ (e.kind = .tripOp ∨ (e.mark.map (·.kind)) = some .tripOp))
       ∧ (∀ k, (s.stepRec k).state = some .out ∨ (s.stepRec k).state = some .lockout
             ∨ (s.stepRec k).state = some .failed ∨ (s.stepRec k).state = some .closing
             ∨ (s.stepRec k).state = some .opening → t.stepRec k = s.stepRec k)
       ∧ s.onlyIn t [.clock, .ss, .oq, .cu, .avc, .hmu, .upu, .au, .pi, .os]
       ∧ ((∃ k, (s.stepRec k).state = some .failed
           ∧ (s.stepRec k).position ≠ some .atOpen) → t.bkt = true))
    ∧ ∀ s : State, s.clock.held = none → s.ss.tripIn.raw = false →
        s.ss.tripIn.accepted ≠ some false →
        ∃ t, exec .externalTripDeassertion s = .next t
          ∧ t.ss = { s.ss with tripIn := { s.ss.tripIn with accepted := some false } }
          ∧ t.clock =
              { s.clock with now := max s.clock.now (s.ss.tripIn.since + s.y .debounce * 1000) }
          ∧ s.onlyIn t [.clock, .ss]

/-! ## Switching timers and dispatch -/

/-- A contact-fault timer that reaches its limit puts its step in FAILED (CONTACT_INVALID), out of both
orders, with every waiting entry of it removed; a WAITING TRIP asserts BKT (R13, R72, R151). TPULSE passing
de-energises the coil and starts nothing: the entry in flight, its timer and every step stay (R22, R63).
That the count moves to the due instant is log entry 2; that a pulse ends by the TPULSE kept from its start
is the model's choice (log entry 17). -/
def Obligations.FaultTimerFailsAndPulseEndStartsNothing : Prop :=
  (∀ (k : StepId) (s : State) (tm : Timer), s.YardSound → s.clock.held = none →
     (s.stepRec k).faultTimer = some tm →
     ∃ t, exec (.contactFaultExpiry k) s = .next t
       ∧ (t.stepRec k).state = some .failed
       ∧ (t.stepRec k).failureCause = some .contactInvalid
       ∧ (t.stepRec k).faultTimer = none
       ∧ (t.stepRec k).position = (s.stepRec k).position
       ∧ k ∉ t.ss.readyOrder ∧ k ∉ t.ss.closedOrder ∧ t.entryOf k = none ∧ t.selectedBy k = none
       ∧ t.clock = { s.clock with now := max s.clock.now (tm.since + tm.length * 1000) }
       ∧ (∀ e, s.entryOf k = some e → e.kind = .tripOp → t.bkt = true)
       ∧ (s.entryOf k = none ∨ s.inFlight ≠ none → ∀ j, j ≠ k → t.stepRec j = s.stepRec j)
       ∧ s.onlyIn t [.clock, .ss, .oq, .cu, .avc, .hmu, .upu, .au, .pi, .os]
       ∧ ((∀ e, s.entryOf k = some e → e.kind ≠ .tripOp) → t.upu.backup = s.upu.backup))
    ∧ ∀ (s : State) (p : Pulse), s.clock.held = none → s.ss.pulse = some p →
        ∃ t, exec .coilPulseEnd s = .next t
          ∧ (∀ k c, t.coilOn k c = false) ∧ { t.ss with pulse := s.ss.pulse } = s.ss
          ∧ t.clock = { s.clock with now := max s.clock.now (p.timer.since + p.timer.length * 1000) }
          ∧ s.onlyIn t [.clock, .ss]

/-- The operate timer of a CLOSE ends it: the step enters FAILED (CLOSE_TIMEOUT), the entry leaves, a settle
period starts, nothing is armed, close_count and close_history stay, and a TRIP mark asserts BKT (R69, R80,
R151). That of an OPEN or TRIP: with the retry count below NRETRY the operation is retried, with a new pulse
and timer, its entry and state kept and a settle period started; otherwise the step enters FAILED
(OPEN_TIMEOUT), its entry leaves, its discharge time stays, and a TRIP, whether entry or mark, asserts BKT
(R64, R70, R80, R151). That the count moves to the due instant is log entry 2. -/
def Obligations.OperateTimeoutsRetryOrFail : Prop :=
  (∀ (s : State) (e : Entry) (tm : Timer), s.YardSound → s.clock.held = none →
     s.inFlight = some e → e.kind = .closeOp → s.oq.operate = some tm →
     ∃ t, exec .closeOperateTimeout s = .next t
       ∧ (t.stepRec e.step).state = some .failed
       ∧ (t.stepRec e.step).failureCause = some .closeTimeout
       ∧ (t.stepRec e.step).position = (s.stepRec e.step).position
       ∧ (t.stepRec e.step).closeCount = (s.stepRec e.step).closeCount
       ∧ (t.stepRec e.step).closeHistory = (s.stepRec e.step).closeHistory
       ∧ t.entryOf e.step = none ∧ (∀ c, t.coilOn e.step c = false)
       ∧ t.cu.settle = s.y .tsettle ∧ (s.cu.armed = none → t.cu.armed = none)
       ∧ t.cu.lastRise = s.cu.lastRise
       ∧ (∀ m, e.mark = some m → m.kind = .tripOp → t.bkt = true)
       ∧ ((∀ m, e.mark = some m → m.kind ≠ .tripOp) → t.upu.backup = s.upu.backup)
       ∧ (s.oldestWaiting .tripOp = none → s.y .tsettle ≠ 0 →
           ∀ j, j ≠ e.step → t.stepRec j = s.stepRec j)
       ∧ s.onlyIn t [.clock, .ss, .oq, .cu, .avc, .hmu, .upu, .au, .pi, .os]
       ∧ t.clock = { s.clock with now := max s.clock.now (tm.since + tm.length * 1000) })
    ∧ ∀ (s : State) (e : Entry) (tm : Timer), s.YardSound → s.clock.held = none →
        s.inFlight = some e → e.kind ≠ .closeOp → s.oq.operate = some tm →
        ∃ t, exec .openOperateTimerExpiry s = .next t
          ∧ t.clock = { s.clock with now := max s.clock.now (tm.since + tm.length * 1000) }
          ∧ t.cu.settle = s.y .tsettle
          ∧ (if s.oq.retryCount < s.y .nretry then
              t.oq.retryCount = s.oq.retryCount + 1 ∧ t.oq.entries = s.oq.entries
                ∧ t.oq.operate = some { since := t.clock.now, length := s.y .top }
                ∧ (t.stepRec e.step).state = some .opening
                ∧ ((s.stepRec e.step).position ≠ some .atOpen → t.coilOn e.step .openCoil = true)
                ∧ t.ss.steps = s.ss.steps ∧ t.cu.armed = s.cu.armed
                ∧ s.onlyIn t [.clock, .ss, .oq, .cu, .upu, .os, .pi]
            else
              (t.stepRec e.step).state = some .failed
                ∧ (t.stepRec e.step).failureCause = some .openTimeout
                ∧ (t.stepRec e.step).discharge = (s.stepRec e.step).discharge
                ∧ t.entryOf e.step = none ∧ (∀ c, t.coilOn e.step c = false)
                ∧ (s.cu.armed = none → t.cu.armed = none)
                ∧ (e.kind = .tripOp ∨ (∃ m, e.mark = some m ∧ m.kind = .tripOp) → t.bkt = true)
                ∧ (e.kind = .openOp → (∀ m, e.mark = some m → m.kind ≠ .tripOp) →
                    t.upu.backup = s.upu.backup)
                ∧ (s.oldestWaiting .tripOp = none → s.y .tsettle ≠ 0 →
                    ∀ j, j ≠ e.step → t.stepRec j = s.stepRec j)
                ∧ s.onlyIn t [.clock, .ss, .oq, .cu, .avc, .hmu, .upu, .au, .pi, .os])

/-- The parts of a dispatch of entry `e` from `s` (R62): in place in the list, the step moving and out of
both orders, V_pre, retry count and timer set, and its coil energised when nothing forbids it. -/
def dispatched (s t : State) (e : Entry) : Prop :=
  t.oq.entries =
      s.oq.entries.map (fun x => if x.step = e.step then { x with status := .inFlight } else x)
    ∧ (t.stepRec e.step).state = some (if e.kind = .closeOp then .closing else .opening)
    ∧ (t.stepRec e.step).faultTimer = none
    ∧ (∀ j, j ≠ e.step → t.stepRec j = s.stepRec j)
    ∧ t.ss.readyOrder = s.ss.readyOrder.filter (· ≠ e.step)
    ∧ t.ss.closedOrder = s.ss.closedOrder.filter (· ≠ e.step)
    ∧ t.oq.vPre = s.me.lastValidAvg ∧ t.oq.retryCount = 0
    ∧ t.oq.operate = some { since := s.clock.now, length := s.y .top }
    ∧ (∀ p, (t.portState p).changeFlag = true)
    ∧ ((e.kind = .closeOp → (s.stepRec e.step).discharge = 0 ∧ s.bkt = false) →
        (s.stepRec e.step).position ≠ some (if e.kind = .closeOp then .atClosed else .atOpen) →
        t.coilOn e.step (if e.kind = .closeOp then .closeCoil else .openCoil) = true)
    ∧ s.onlyIn t [.ss, .oq, .cu, .upu, .au, .pi, .os]

/-- With nothing in flight the oldest WAITING TRIP is dispatched whatever holds; without one, and the yard
settled, the oldest WAITING OPEN; without that too, and no close block, the oldest WAITING CLOSE. With an
entry in flight, or with nothing to choose, nothing changes (R60, R61, R62). -/
def Obligations.DispatchChoosesByKindBeforeAge : Prop :=
  ∀ s : State, s.clock.held = none →
    (s.inFlight ≠ none → exec .dispatch s = .next s)
      ∧ (s.inFlight = none →
          (∀ e, s.oldestWaiting .tripOp = some e →
              ∃ t, exec .dispatch s = .next t ∧ dispatched s t e)
            ∧ (∀ e, s.oldestWaiting .tripOp = none → s.cu.settle = 0 →
                s.oldestWaiting .openOp = some e →
                ∃ t, exec .dispatch s = .next t ∧ dispatched s t e)
            ∧ (∀ e, s.oldestWaiting .tripOp = none → s.cu.settle = 0 →
                s.oldestWaiting .openOp = none → s.avc.line = .live → s.harmonicBlock = false →
                s.me.frame.vMax < s.y .vov → s.bkt = false → s.tripRecordBlock = false →
                s.oldestWaiting .closeOp = some e →
                ∃ t, exec .dispatch s = .next t ∧ dispatched s t e)
            ∧ (s.oldestWaiting .tripOp = none →
                s.cu.settle ≠ 0 ∨ (s.oldestWaiting .openOp = none
                  ∧ (s.closeBlock = true ∨ s.oldestWaiting .closeOp = none)) →
                exec .dispatch s = .next s))

/-! ## Measurement -/

/-- The start points after the crossings of a phase the detector still holds (R28). -/
def startsAfter (s : State) (p : Phase) : List Nat :=
  (s.detector p).recent.map (fun c =>
    c + match p with
      | .a => 0
      | .b => 2 * s.me.period / 3
      | .c => s.me.period / 3)

/-- A crossing of an armed detector disarms it and stamps the instant; the interval since its earlier stamp
is the window's measurement when the phase is the reference and the interval is no longer than twice the
nominal period. A detector that is not armed recognises nothing. Arming arms (R26, R29). A frame starts:
without a reference P/32 after the previous arrival; with one, at the earliest start point that falls from
the previous arrival to P after it, or free at P after it when there is none, and then flagged so. The frame
is sampled with the period in force, set n at floor(n × P / 32) after its start (R28, R33). That the count
moves to the due instant is log entry 2; that the start is judged on the crossings the detector still holds
is the model's (log entry 22). -/
def Obligations.CrossingsTimeTheFrames : Prop :=
  (∀ (p : Phase) (dt : Nat) (s : State), s.clock.held = none →
     (∃ t, exec (.crossing p dt) s = .next t
         ∧ t.clock = { s.clock with now := s.clock.now + dt }
         ∧ (∀ q, q ≠ p → t.detector q = s.detector q)
         ∧ (if (s.detector p).armed then
             (t.detector p).armed = false ∧ (t.detector p).stamp = some (s.clock.now + dt)
               ∧ (∀ old, s.me.reference = some p → (s.detector p).stamp = some old →
                   s.clock.now + dt - old ≤ 2 * nominalPeriod s.me.fsel →
                   t.me.measurement = some (s.clock.now + dt - old))
               ∧ (s.me.reference ≠ some p ∨ (s.detector p).stamp = none
                   ∨ (∃ old, (s.detector p).stamp = some old
                       ∧ 2 * nominalPeriod s.me.fsel < s.clock.now + dt - old) →
                   t.me.measurement = s.me.measurement)
           else t.me = s.me)
         ∧ (t.me.period, t.me.reference, t.me.sampling, t.me.frame) =
             (s.me.period, s.me.reference, s.me.sampling, s.me.frame)
         ∧ s.onlyIn t [.clock, .me])
       ∧ ∃ t, exec (.zeroCrossingDetectorArming p) s = .next t
         ∧ t.detector p = { s.detector p with armed := true }
         ∧ (∀ q, q ≠ p → t.detector q = s.detector q)
         ∧ (t.me.measurement, t.me.period, t.me.reference, t.me.sampling, t.me.frame) =
             (s.me.measurement, s.me.period, s.me.reference, s.me.sampling, s.me.frame)
         ∧ s.onlyIn t [.me])
    ∧ ∀ s : State, s.clock.held = none → s.me.sampling = none →
        ∃ t m, exec .frameStart s = .next t ∧ t.me = { s.me with sampling := some m }
          ∧ m.period = s.me.period ∧ (∀ n < 32, m.instant n = m.start + n * s.me.period / 32)
          ∧ t.clock = { s.clock with now := max s.clock.now m.start } ∧ s.onlyIn t [.clock, .me]
          ∧ (s.me.reference = none →
              m.start = s.me.lastArrival + s.me.period / 32 ∧ m.freeStarted = false)
          ∧ ∀ p, s.me.reference = some p →
              (m.freeStarted = false →
                  m.start ∈ startsAfter s p ∧ s.me.lastArrival ≤ m.start
                    ∧ m.start ≤ s.me.lastArrival + s.me.period
                    ∧ ∀ x ∈ startsAfter s p, s.me.lastArrival ≤ x → m.start ≤ x)
                ∧ (m.freeStarted = true →
                    m.start = s.me.lastArrival + s.me.period
                      ∧ ∀ x ∈ startsAfter s p,
                          x < s.me.lastArrival ∨ s.me.lastArrival + s.me.period < x)

/-- A frame reports the bus frequency in centihertz, floor((200,000,000 + P) / (2 P)) of the period P
applied at its arrival; a frame flagged OFF_FREQ reports that of the clamped period, and one whose period
was held that of the held period. At the limits and the nominal periods these are the values of the table
(R32). -/
def Obligations.FramesReportTheFrequency : Prop :=
  (∀ (i : FrameInput) (s : State), s.clock.held = none →
      ∃ t, exec (.frameArrival i) s = .next t
        ∧ t.me.frame.frequency = (200000000 + t.me.period) / (2 * t.me.period)
        ∧ (t.me.frame.offFreq = true →
            t.me.period = periodLow s.me.fsel ∨ t.me.period = periodHigh s.me.fsel)
        ∧ (s.me.reference = none ∨ s.me.measurement = none → t.me.period = s.me.period))
    ∧ (periodLow .hz50 = 19000 ∧ periodHigh .hz50 = 21000 ∧ periodLow .hz60 = 15834
      ∧ periodHigh .hz60 = 17500)
    ∧ (centihertz 19000 = 5263 ∧ centihertz 20000 = 5000 ∧ centihertz 21000 = 4762
      ∧ centihertz 15834 = 6316 ∧ centihertz 16667 = 6000 ∧ centihertz 17500 = 5714)

/-- The difference phasor and the U that the latest frame gives a step by R138. -/
def unbalanceAt (s : State) (k : StepId) : Int × Int × Nat :=
  let n := s.me.frame.neutrals[k]
  let c := (s.stepRec k).compensation
  let re := n.pre - (c.map (fun p => (p.cre * (s.me.frame.vAvg : Int)).tdiv p.vcap)).getD 0
  let im := n.pim - (c.map (fun p => (p.cim * (s.me.frame.vAvg : Int)).tdiv p.vcap)).getD 0
  (re, im,
    if n.clip then 9999
    else min 9999 (isqrt (re ^ 2 + im ^ 2).toNat * 10000 / (16 * s.set.settings.s .irated k)))

/-- The update of D_low by an active frame (R101, R102). -/
def lowAfter (s : State) : Nat :=
  if s.me.frame.vAvg + s.y .bw < s.y .vset then
    min 65535 (s.avc.dLow + (s.y .vset - s.y .bw - s.me.frame.vAvg))
  else if s.me.frame.vAvg + s.y .bw < s.y .vset + s.y .hys then s.avc.dLow
  else 0

/-- The update of D_high by an active frame (R101, R103). -/
def highAfter (s : State) : Nat :=
  if s.y .vset + s.y .bw < s.me.frame.vAvg then
    min 65535 (s.avc.dHigh + (s.me.frame.vAvg - s.y .vset - s.y .bw))
  else if s.y .vset + s.y .bw < s.me.frame.vAvg + s.y .hys then s.avc.dHigh
  else 0

/-- The AVC has taken a frame: the line state and run_count by R96 to R98, OV_cnt by R111 and R112, and the
integrators by R100 to R103 where no attempt follows. `s` is the state before the arrival, `t` after it. -/
def avcTakes (s t : State) : Prop :=
  ((t.avc.line, t.avc.runCount) =
      if s.avc.line = .live then
        if t.me.frame.noRef = true ∨ t.me.frame.vMax < t.y .vdead then
          if t.y .ndead ≤ s.avc.runCount + 1 then (.dead, 0) else (.live, s.avc.runCount + 1)
        else (.live, 0)
      else if t.me.frame.noRef = false ∧ t.y .vdead + 50 ≤ t.me.frame.vMax then
        if t.y .ndead ≤ s.avc.runCount + 1 then (.live, 0) else (.dead, s.avc.runCount + 1)
      else (.dead, 0))
    ∧ (t.avc.ovCnt =
        if t.y .oven = 0 then 0
        else if t.me.frame.settling = true then s.avc.ovCnt
        else if t.me.frame.vMax < t.y .vov then 0
        else if t.y .nov ≤ s.avc.ovCnt + 1 then 0 else s.avc.ovCnt + 1)
    ∧ (s.SettingsSound → ∀ u, u = { t with avc := s.avc } →
        (t.avc.dLow, t.avc.dHigh) =
            (if s.au.auto = false ∨ t.avc.line = .dead ∨ t.me.frame.noRef = true
                ∨ t.me.frame.vtLoss = true then (0, 0)
             else if t.me.frame.settling = true then (s.avc.dLow, s.avc.dHigh)
             else (lowAfter u, highAfter u))
          ∨ (t.me.frame.settling = false ∧ (t.avc.dLow, t.avc.dHigh) = (0, 0)
              ∧ (t.y .tclose ≤ lowAfter u ∨ t.y .topen ≤ highAfter u)))

/-- A monitor as the application of the settings leaves it, from `s` to the settings of `t`: it starts again
from 0 when it was or becomes disabled and when its source or phase changes; else its accumulator is clamped
to the 2P applied (R132, R133). -/
def monitorApplied (s t : State) (m : MonitorId) : Monitor :=
  if s.set.settings.enabled m = false ∨ t.set.settings.enabled m = false
      ∨ t.set.settings.source m ≠ s.set.settings.source m
      ∨ t.set.settings.phase m ≠ s.set.settings.phase m then
    { s.monitor m with accumulator := 0, active := false }
  else { s.monitor m with accumulator := min (s.monitor m).accumulator (2 * t.pickup m) }

/-- The HMU has taken a frame: a monitor is passed over when disabled and held by R122; else its
accumulator, its active flag and assert_count follow R123 to R125; and active_frames counts the frame of an
enabled active monitor (R126). `a` is the
monitor as the application of the settings leaves it, `t` the state after the arrival. -/
def monitorTakes (a : Monitor) (t : State) (m : MonitorId) : Prop :=
  let b := t.monitor m
  let held := t.me.frame.settling || t.me.frame.noRef || t.me.frame.offFreq
  (b.activeFrames =
      if t.set.settings.enabled m = true ∧ b.active = true then min 4294967295 (a.activeFrames + 1)
      else a.activeFrames)
    ∧ match t.comparedValue m with
      | none => (b.accumulator, b.active, b.assertCount) = (a.accumulator, a.active, a.assertCount)
      | some v =>
        (b.accumulator, b.active, b.assertCount) =
          if t.set.settings.enabled m = false ∨ held = true then
            (a.accumulator, a.active, a.assertCount)
          else if t.set.settings.m .threshold m < v then
            (min (a.accumulator + 1) (2 * t.pickup m),
              a.active || decide (t.pickup m ≤ min (a.accumulator + 1) (2 * t.pickup m)),
              if a.active = false ∧ t.pickup m ≤ min (a.accumulator + 1) (2 * t.pickup m) then
                min 65535 (a.assertCount + 1)
              else a.assertCount)
          else
            (a.accumulator - 1, a.active && decide (1 < a.accumulator), a.assertCount)

/-- The UPU has taken a frame for a step that is CLOSED before and after it: both stages are held at
SETTLING and NO_REF; else the alarm stage follows R141 and the trip stage R142, each counting at its level
or above, holding in the zone below it and reset under that. The alarm count starts from the TALM applied
(R144). -/
def stagesTake (s t : State) (k : StepId) : Prop :=
  let u := t.me.frame.neutrals[k].u
  let talm := t.set.settings.s .talm k
  let ualm := t.set.settings.s .ualm k
  let utrip := t.set.settings.s .utrip k
  let n := min (s.stepRec k).alarmCount talm
  let f := (s.stepRec k).alarmFlag
  let trips := (s.stepRec k).tripCount
  (t.stepRec k).latestU = u
    ∧ ((t.stepRec k).alarmCount, (t.stepRec k).alarmFlag) =
        (if t.me.frame.settling = true ∨ t.me.frame.noRef = true then (n, f)
         else if ualm ≤ u then (min talm (n + 1), f || decide (talm ≤ n + 1))
         else if ualm * 9 / 10 ≤ u then (n, f)
         else (0, false))
    ∧ (t.stepRec k).tripCount =
        (if t.me.frame.settling = true ∨ t.me.frame.noRef = true then trips
         else if utrip ≤ u then
           if t.set.settings.s .ttrip k ≤ trips + 1 then 0 else trips + 1
         else if utrip * 9 / 10 ≤ u then trips
         else 0)

/-- The capture engine has taken a frame for a step that is CLOSED before and after it: NO_REF or CLIP on
the step's channel aborts it, SETTLING is not counted, the frames before the sixteenth are added to the
sums, and the sixteenth ends it with the step's compensation (R155, R156). -/
def captureTakes (s t : State) (c : Capture) : Prop :=
  let n := t.me.frame.neutrals[c.step]
  if t.me.frame.noRef = true ∨ n.clip = true then
    t.upu.capture = none ∧ (t.stepRec c.step).compensation = (s.stepRec c.step).compensation
  else if t.me.frame.settling = true then t.upu.capture = some c
  else if c.count + 1 < 16 then
    t.upu.capture =
        some { c with
               count := c.count + 1
               sumRe := c.sumRe + n.pre
               sumIm := c.sumIm + n.pim
               sumV := c.sumV + t.me.frame.vAvg }
      ∧ (t.stepRec c.step).compensation = (s.stepRec c.step).compensation
  else
    t.upu.capture = none
      ∧ (t.stepRec c.step).compensation =
          some { cre := (c.sumRe + n.pre).tdiv 16
                 cim := (c.sumIm + n.pim).tdiv 16
                 vcap := max 500 ((c.sumV + t.me.frame.vAvg) / 16) }

/-- An arrival has every block take the frame, whatever the order of the parts (R44): the settle count goes
down by one (R81), and the AVC, the HMU and the UPU take the frame as said above. The queue is taken to be
sound where a step or the capture is followed. With an operation in flight no step changes its state, and an
abort of a capture is then the last record of Port A when no other entry stands. -/
def blocksTakeTheFrame : Prop :=
  ∀ (i : FrameInput) (s : State), s.clock.held = none →
    ∃ t, exec (.frameArrival i) s = .next t
      ∧ t.cu.settle = s.cu.settle - 1
      ∧ avcTakes s t
      ∧ (∀ m, monitorTakes (monitorApplied s t m) t m)
      ∧ (s.QueueSound → ∀ k, (s.stepRec k).state = some .closed →
          (t.stepRec k).state = some .closed →
          (∀ c, s.upu.capture = some c → c.step ≠ k ∨ c.count < 15) → stagesTake s t k)
      ∧ (s.QueueSound → ∀ c, s.upu.capture = some c → (s.stepRec c.step).state = some .closed →
          ((t.stepRec c.step).state = some .closed → captureTakes s t c)
            ∧ ((t.stepRec c.step).state ≠ some .closed → t.upu.capture = none))
      ∧ (s.QueueSound → s.inFlight ≠ none → ∀ k, (t.stepRec k).state = (s.stepRec k).state)
      ∧ (∀ c e, s.QueueSound → s.upu.capture = some c → (s.stepRec c.step).state = some .closed →
          s.oq.entries = [e] → e.status = .inFlight →
          t.me.frame.noRef = true ∨ t.me.frame.neutrals[c.step].clip = true →
          ((t.outcomes .a).getLast?.map (·.2)) =
            some { tag := c.tag
                   step := some c.step
                   what := .capture
                   result := .captureAborted
                   state := some .closed
                   uptime := s.clock.uptime })

/-- The learned rise a measurement leaves (R89, R90): none of the skip conditions holds and Δ is at most
200, when the old value moves a quarter of the way toward Δ, truncated toward zero. -/
def riseTaken (s : State) (a : Armed) : Nat :=
  match a.vPre, (if s.me.frame.noRef = true ∨ s.me.frame.vtLoss = true then none
      else some s.me.frame.vAvg) with
  | some p, some q =>
    if a.converted = false ∧ a.voided = none ∧ (s.stepRec a.step).state = some a.target
        ∧ (s.stepRec a.step).position = some (if a.kind = .closeOp then .atClosed else .atOpen)
        ∧ max p q - min p q ≤ 200 then
      (((s.stepRec a.step).learnedRise : Int)
        + (((max p q - min p q : Nat) : Int) - (s.stepRec a.step).learnedRise).tdiv 4).toNat
    else (s.stepRec a.step).learnedRise
  | _, _ => (s.stepRec a.step).learnedRise

/-- The RINIT that the SETs waiting for this arrival give a step, the last one taken standing; a value of
the loaded image is not among them (R113, R197, R202). -/
def setRinit (s : State) (k : StepId) : Option Nat :=
  (s.set.pendingValues.reverse.find? (fun p => p.id = .step .rinit k && !p.loaded)).map (·.value)

/-- What applied settings do to running records at an arrival. A step whose in_service becomes no loses its
WAITING CLOSE and its selection, each with CANCELLED (STEP_CHANGED); another entry stays (R73, R174). A SET
of RINIT loads the learned rise; where the settle end of the same arrival measures that step, the order that
the operand gives decides which of the two is taken first (R90, R113). An active monitor that is disabled,
or whose source or phase changes, sets both change flags (R132). The tag 0 of a record whose entry has none
is the model's choice (log entry 25). -/
def settingsTakeEffect : Prop :=
  ∀ (i : FrameInput) (s : State), s.clock.held = none →
    ∃ t, exec (.frameArrival i) s = .next t
      ∧ (∀ k, s.YardSound → s.inService k = true → t.inService k = false →
          (∀ e ∈ t.oq.entries, ¬(e.step = k ∧ e.kind = .closeOp ∧ e.status = .waiting))
            ∧ ((s.stepRec k).state = some .ready → (t.stepRec k).state = some .ready)
            ∧ t.selectedBy k = none
            ∧ (∀ e, s.entryOf k = some e → e.kind ≠ .closeOp ∨ e.status = .inFlight →
                (t.entryOf k).isSome = true)
            ∧ (∀ f e, s.oq.entries = [f, e] ∨ s.oq.entries = [e, f] → f.status = .inFlight →
                e.status = .waiting → e.kind = .closeOp → e.step = k → s.upu.capture = none →
                (∀ q, s.slot q = none) → ∀ p, e.originator = portOriginator p →
                ((t.outcomes p).getLast?.map (·.2)) =
                  some { tag := e.tag.getD 0
                         step := some k
                         what := .closeOp
                         result := .cancelled .stepChanged
                         state := some .ready
                         uptime := s.clock.uptime })
            ∧ (∀ f x p, s.oq.entries = [f] → f.status = .inFlight → s.upu.capture = none →
                s.slot p = some x → x.step = k →
                t.slot p = none
                  ∧ ((t.outcomes p).getLast?.map (·.2)) =
                    some { tag := x.tag
                           step := some k
                           what := .select
                           result := .cancelled .stepChanged
                           state := some .ready
                           uptime := s.clock.uptime }))
      ∧ (∀ k,
          (s.cu.settle ≠ 1 ∨ (∀ a, s.cu.armed = some a → a.step ≠ k)
              ∨ (i.riseFirst = true ∧ setRinit s k ≠ none) →
            (t.stepRec k).learnedRise = (setRinit s k).getD (s.stepRec k).learnedRise)
          ∧ ∀ a r, s.QueueSound → s.inFlight ≠ none → s.cu.settle = 1 → s.cu.armed = some a →
              a.step = k → i.riseFirst = false ∨ setRinit s k = none →
              r = (setRinit s k).getD (s.stepRec k).learnedRise → r ≤ 200 →
              (t.stepRec k).learnedRise =
                riseTaken
                  (({ t with ss := s.ss }).modStep k (fun x => { x with learnedRise := r })) a)
      ∧ ∀ m, (s.monitor m).active = true → s.set.settings.enabled m = true →
          t.set.settings.enabled m = false
            ∨ t.set.settings.source m ≠ s.set.settings.source m
            ∨ t.set.settings.phase m ≠ s.set.settings.phase m →
          ∀ p, (t.portState p).changeFlag = true

/-- A frame arrival makes every pending value the value in force, the last one taken standing, and leaves
none pending; the first arrival after LOADING is the loaded application (R197, R203). It publishes one
frame: the number rises by one with wrap, NO_REF stands for a missing reference or a free start, the
window's last measurement is applied clamped, OFF_FREQ when the clamp moved it, the aggregates are those of
the three phases, SETTLING is whether the count ran, the next reference is the first phase at 200 mpu, and
the last valid average is taken from a frame without NO_REF and VT_LOSS (R27, R30, R31, R41, R42, R43, R44,
R45). The phases carry the quantities of their channels' samples, and a step its phasor, its CLIP and, when
it is CLOSED, the U of that phasor by the compensation and the settings in force, else 0 (R36 to R40, R138,
R139). The CU, the AVC, the HMU and the UPU take the frame, on what the applied settings leave of an
in_service, a learned rise and a monitor (R73, R113, R132, R133, R174; R44, R81, R95, R126, R131, R140,
R155). It holds for every order of the parts (log entry 3); that the count moves to the due instant is log
entry 2. -/
def Obligations.ArrivalAppliesAndPublishes : Prop :=
  blocksTakeTheFrame
    ∧ settingsTakeEffect
    ∧ (∀ (i : FrameInput) (s : State), s.clock.held = none →
     ∃ t, exec (.frameArrival i) s = .next t
       ∧ t.set.pendingValues = []
       ∧ (∀ x, t.set.settings.get x =
           ((s.set.pendingValues.reverse.find? (fun p => p.id = x)).map (·.value)).getD
             (s.set.settings.get x))
       ∧ (s.set.startup = .running → t.set.loadedAt ≠ none)
       ∧ (s.set.startup = .loading → t.set.loadedAt = s.set.loadedAt)
       ∧ (t.set.copy0, t.set.copy1, t.set.current1, t.set.save) =
           (s.set.copy0, s.set.copy1, s.set.current1, s.set.save))
    ∧ ∀ (i : FrameInput) (s : State) (m : Sampling), s.clock.held = none → s.me.sampling = some m →
        ∃ t f, exec (.frameArrival i) s = .next t ∧ t.me.frame = f
          ∧ f.number = (s.me.counter + 1) % 4294967296 ∧ t.me.counter = f.number
          ∧ f.reference = s.me.reference
          ∧ f.noRef = (s.me.reference.isNone || m.freeStarted)
          ∧ (∀ p x, s.me.reference = some p → s.me.measurement = some x →
              t.me.period = max (periodLow s.me.fsel) (min (periodHigh s.me.fsel) x)
                ∧ f.offFreq = decide (x < periodLow s.me.fsel ∨ periodHigh s.me.fsel < x))
          ∧ (s.me.reference = none ∨ s.me.measurement = none →
              t.me.period = s.me.period ∧ f.offFreq = false)
          ∧ f.vAvg = (f.a.v + f.b.v + f.c.v) / 3
          ∧ f.vMax = max f.a.v (max f.b.v f.c.v) ∧ f.vMin = min f.a.v (min f.b.v f.c.v)
          ∧ (f.a.clip, f.b.clip, f.c.clip) = (clipped i.va, clipped i.vb, clipped i.vc)
          ∧ f.a = phaseFrame (t.y .vnom) i.va ∧ f.b = phaseFrame (t.y .vnom) i.vb
          ∧ f.c = phaseFrame (t.y .vnom) i.vc
          ∧ (∀ k : StepId,
              (f.neutrals[k].pre, f.neutrals[k].pim, f.neutrals[k].clip) =
                  ((corrRe i.neutrals[k] 1).tdiv 4096, (corrIm i.neutrals[k] 1).tdiv 4096,
                    clipped i.neutrals[k])
                ∧ ((s.stepRec k).state ≠ some .closed → f.neutrals[k].u = 0)
                ∧ (s.QueueSound → (s.stepRec k).state = some .closed →
                    (t.stepRec k).state = some .closed →
                    f.neutrals[k].u = (unbalanceAt { t with ss := s.ss } k).2.2))
          ∧ f.vtLoss =
              decide (t.y .vdead ≤ f.vMax ∧ t.y .vspread < f.vMax - f.vMin)
          ∧ f.settling = decide (0 < s.cu.settle)
          ∧ t.me.reference =
              (if 200 ≤ f.a.v then some .a else if 200 ≤ f.b.v then some .b
               else if 200 ≤ f.c.v then some .c else none)
          ∧ t.me.lastValidAvg =
              (if f.noRef = true ∨ f.vtLoss = true then s.me.lastValidAvg else some f.vAvg)
          ∧ t.me.sampling = none ∧ t.me.measurement = none
          ∧ t.me.lastArrival = m.start + 31 * m.period / 32
          ∧ t.clock = { s.clock with now := max s.clock.now (m.start + 31 * m.period / 32) }

/-- The quantities of a phase follow from its correlations by R36 to R39, and those of a neutral channel by
R40 and R138, with a stored compensation and without one: truncations toward zero, saturations and the
LOW_SIGNAL and CLIP rules. isqrt of a number is
the largest integer whose square does not exceed it (00_scope, Arithmetic). -/
def Obligations.FrameQuantitiesFollowTheCorrelations : Prop :=
  (∀ x : Nat, isqrt x * isqrt x ≤ x ∧ x < (isqrt x + 1) * (isqrt x + 1))
    ∧ (∀ (x : Channel) (h : Nat), magnitude x h =
          min 32767 (Nat.sqrt (corrRe x h ^ 2 + corrIm x h ^ 2).toNat / 4096))
        ∧ (∀ (vnom : Nat) (x : Channel), 0 < vnom →
            (phaseFrame vnom x).v = min 1999 ((magnitude x 1 * 2000 + 16 * vnom) / (32 * vnom))
              ∧ (phaseFrame vnom x).lowSignal = decide (magnitude x 1 < 16 * vnom / 10)
              ∧ ((phaseFrame vnom x).lowSignal = true →
                  (phaseFrame vnom x).h3 = 0 ∧ (phaseFrame vnom x).h5 = 0
                    ∧ (phaseFrame vnom x).h7 = 0 ∧ (phaseFrame vnom x).h11 = 0
                    ∧ (phaseFrame vnom x).h13 = 0 ∧ (phaseFrame vnom x).di = 0)
              ∧ ((phaseFrame vnom x).lowSignal = false →
                  (phaseFrame vnom x).h3 = min 9999 (magnitude x 3 * 10000 / magnitude x 1)
                    ∧ (phaseFrame vnom x).h5 = min 9999 (magnitude x 5 * 10000 / magnitude x 1)
                    ∧ (phaseFrame vnom x).h7 = min 9999 (magnitude x 7 * 10000 / magnitude x 1)
                    ∧ (phaseFrame vnom x).h11 = min 9999 (magnitude x 11 * 10000 / magnitude x 1)
                    ∧ (phaseFrame vnom x).h13 = min 9999 (magnitude x 13 * 10000 / magnitude x 1))
              ∧ (phaseFrame vnom x).di =
                  min 9999 (Nat.sqrt ((phaseFrame vnom x).h3 ^ 2 + (phaseFrame vnom x).h5 ^ 2
                    + (phaseFrame vnom x).h7 ^ 2 + (phaseFrame vnom x).h11 ^ 2
                    + (phaseFrame vnom x).h13 ^ 2)))
        ∧ ∀ (s : State) (k : StepId) (x : Channel) (vAvg : Nat),
            (s.neutralFrame k x vAvg).pre = (corrRe x 1).tdiv 4096
              ∧ (s.neutralFrame k x vAvg).pim = (corrIm x 1).tdiv 4096
              ∧ ((s.stepRec k).state ≠ some .closed → (s.neutralFrame k x vAvg).u = 0)
              ∧ ((s.stepRec k).state = some .closed → clipped x = true →
                  (s.neutralFrame k x vAvg).u = 9999)
              ∧ ((s.stepRec k).state = some .closed → clipped x = false →
                  (s.stepRec k).compensation = none →
                  (s.neutralFrame k x vAvg).u =
                    min 9999
                      (Nat.sqrt
                          (((corrRe x 1).tdiv 4096) ^ 2 + ((corrIm x 1).tdiv 4096) ^ 2).toNat
                        * 10000 / (16 * s.set.settings.s .irated k)))
              ∧ ∀ c : Compensation, (s.stepRec k).state = some .closed → clipped x = false →
                  (s.stepRec k).compensation = some c →
                  (s.neutralFrame k x vAvg).u =
                    min 9999
                      (Nat.sqrt
                          (((corrRe x 1).tdiv 4096 - (c.cre * vAvg).tdiv c.vcap) ^ 2
                            + ((corrIm x 1).tdiv 4096 - (c.cim * vAvg).tdiv c.vcap) ^ 2).toNat
                        * 10000 / (16 * s.set.settings.s .irated k))

/-- The coefficients are C(m) = round(4096 cos(2πm/32)): the first nine are those of the table, the others
follow by the two symmetries, S(m) = C((m + 24) mod 32), and c_11(3) = 4017 and s_11(3) = 799 (R34). -/
def Obligations.CoefficientsAreRoundedCosines : Prop :=
  (∀ m : Nat, m < 32 → |4096 * Real.cos (2 * Real.pi * m / 32) - (cosAt m : ℝ)| < 1 / 2)
    ∧ (List.range 9).map cosAt = [4096, 4017, 3784, 3406, 2896, 2276, 1567, 799, 0]
    ∧ (∀ m : Nat, m ≤ 8 → cosAt (16 - m) = -cosAt m)
    ∧ (∀ m : Nat, 1 ≤ m → m ≤ 16 → cosAt (32 - m) = cosAt m)
    ∧ (∀ m : Nat, m < 32 → sinAt m = cosAt ((m + 24) % 32))
    ∧ (∀ (x : Channel) (h : Nat),
        corrRe x h =
            (List.finRange 32).foldl
              (fun (a : Int) (n : Fin 32) => a + (x[n]).toInt * cosAt (h * n.val % 32)) 0
          ∧ corrIm x h =
            -(List.finRange 32).foldl
              (fun (a : Int) (n : Fin 32) => a + (x[n]).toInt * sinAt (h * n.val % 32)) 0)
    ∧ cosAt (11 * 3 % 32) = 4017 ∧ sinAt (11 * 3 % 32) = 799

/-! ## Events of a frame arrival -/

/-- The settle end takes the armed measurement: the count is 0, the measurement is disarmed, the step's
learned rise is what R90 gives and the last rise result records it; other steps keep theirs. With nothing
armed the last result stays (R81, R89, R90, R91). That the row is this event alone is log entry 13. -/
def Obligations.SettleEndTakesTheMeasurement : Prop :=
  ∀ s : State, s.clock.held = none → s.cu.settle = 1 →
    ∃ t, exec .settleEnd s = .next t ∧ t.cu.settle = 0 ∧ t.cu.armed = none
      ∧ (s.inFlight ≠ none ∨ s.oq.entries = [] → s.onlyIn t [.cu, .ss]
          ∧ ∀ k, { t.stepRec k with learnedRise := (s.stepRec k).learnedRise } = s.stepRec k)
      ∧ (s.cu.armed = none → t.cu.lastRise = s.cu.lastRise
          ∧ ∀ k, (t.stepRec k).learnedRise = (s.stepRec k).learnedRise)
      ∧ ∀ a, s.cu.armed = some a → (s.stepRec a.step).learnedRise ≤ 200 →
          (t.stepRec a.step).learnedRise = riseTaken s a
            ∧ (∀ k, k ≠ a.step → (t.stepRec k).learnedRise = (s.stepRec k).learnedRise)
            ∧ ∃ r, t.cu.lastRise = some r ∧ r.step = a.step ∧ r.kind = a.kind ∧ r.vPre = a.vPre
                ∧ r.before = (s.stepRec a.step).learnedRise ∧ r.after = riseTaken s a
                ∧ r.frame = s.me.frame.number
                ∧ (a.converted = true → r.skipped = some .converted)
                ∧ (∀ v, a.converted = false → a.voided = some v → r.skipped = some v)

/-- The dead frame that brings run_count to NDEAD makes the line DEAD, sets both flags, posts an OPEN of
every step and keeps the answers, each the one that its posting alone would have received, their count of
ACCEPTED and the decision; the live frame that does so
makes it LIVE. Each sets run_count to 0 (R96, R97, R98, R116). That the row is this event alone is log entry
13. -/
def Obligations.LineStateChangesAtNdead : Prop :=
  ∀ s : State, s.clock.held = none →
    (s.avc.line = .live → s.me.frame.noRef = true ∨ s.me.frame.vMax < s.y .vdead →
        s.y .ndead ≤ s.avc.runCount + 1 →
        ∃ t r, exec .deadLineEntry s = .next t ∧ t.avc.line = .dead ∧ t.avc.runCount = 0
          ∧ (∀ p, (t.portState p).changeFlag = true)
          ∧ t.avc.lastOpenAll = some r ∧ r.frame = s.me.frame.number
          ∧ r.uptime = s.clock.uptime ∧ r.answers.length = 8
          ∧ (s.QueueSound → r.answers = allSteps.map (fun k =>
              (s.post { kind := .openOp, step := k, originator := .avc, tag := none
                        fast := true }).2))
          ∧ r.count = r.answers.countP (fun a => a = .accepted)
          ∧ t.avc.lastDecision =
              some { decision := .openAllPosted r.count, frame := s.me.frame.number }
          ∧ (s.YardSound → ∀ k, (s.stepRec k).state = some .closed → (t.entryOf k).isSome = true)
          ∧ (s.YardSound → s.inFlight ≠ none → t.ss = s.ss)
          ∧ s.onlyIn t [.ss, .oq, .cu, .avc, .hmu, .upu, .au, .pi, .os])
      ∧ (s.avc.line = .dead → s.me.frame.noRef = false → s.y .vdead + 50 ≤ s.me.frame.vMax →
          s.y .ndead ≤ s.avc.runCount + 1 →
          ∃ t, exec .lineLiveReturn s = .next t ∧ t.avc.line = .live ∧ t.avc.runCount = 0
            ∧ (∀ p, (t.portState p).changeFlag = true)
            ∧ { t.avc with line := s.avc.line, runCount := s.avc.runCount } = s.avc
            ∧ (s.inFlight ≠ none ∨ s.oq.entries = [] → s.onlyIn t [.avc, .pi])
            ∧ s.onlyIn t [.ss, .oq, .cu, .avc, .hmu, .upu, .au, .pi, .os])

/-- A step meets every condition of a close candidate (R84, R105). -/
def fitToClose (s : State) (k : StepId) : Bool :=
  decide (s.inService k = true ∧ (s.stepRec k).manualHold = false ∧ (s.stepRec k).harmonicHold = 0
    ∧ (s.stepRec k).closeHistory.length < s.y .nops ∧ s.entryOf k = none ∧ s.selectedBy k = none)

/-- An attempt ends with this decision and changes nothing else (R115). -/
def decides (s t : State) (d : Decision) : Prop :=
  t = { s with
        avc := { s.avc with lastDecision := some { decision := d, frame := s.me.frame.number } } }

/-- An attempt posts an operation of the AVC, which is admitted; both integrators become 0 (R104, R108,
R110). -/
def postsFor (s t : State) (kind : OpKind) (k : StepId) (d : Decision) : Prop :=
  t.avc = { s.avc with
            dLow := 0
            dHigh := 0
            lastDecision := some { decision := d, frame := s.me.frame.number } }
    ∧ (∃ e, t.entryOf k = some e ∧ e.kind = kind ∧ e.originator = .avc ∧ e.tag = none
        ∧ e.fast = false)
    ∧ (s.inFlight ≠ none → s.onlyIn t [.oq, .avc])
    ∧ s.onlyIn t [.ss, .oq, .cu, .avc, .upu, .au, .pi, .os]

/-- The frame whose overvoltage count reaches NOV makes a fast open: OV_cnt becomes 0, the first step of the
Closed Order without an entry gets a fast OPEN of the AVC, and the last decision is FAST with that step, or
NO_CANDIDATE; the integrators stay. A SETTLING frame holds the count and brings no fast open, however low
NOV stands; any other frame below NOV counts on or resets (R82, R111, R112, R115, R118). The integrators are
set to 0, held, or updated, and an attempt follows at TCLOSE or TOPEN (R100 to R104). A close attempt takes
the first step of the Ready Order that is in service, without manual hold, harmonic hold, entry or
selection, and within the rate window; an open attempt the first of the Closed Order without an entry. With
no such step it ends NO_CANDIDATE; with a prediction beyond the limit PREDICT_WITHHELD; a close with a block
BLOCKED, with the first cause of R107; else the operation is posted, and both integrators become 0 (R105 to
R110, R115). That the row FAST_OPEN is this event alone is log entry 13. -/
def Obligations.AvcChoosesItsSteps : Prop :=
  (∀ s : State, s.clock.held = none → s.y .oven ≠ 0 → s.me.frame.settling = false →
     s.y .vov ≤ s.me.frame.vMax → s.y .nov ≤ s.avc.ovCnt + 1 → 1 ≤ s.y .nov →
     ∃ t, exec .fastOpen s = .next t ∧ t.avc.ovCnt = 0
       ∧ t.avc.dLow = s.avc.dLow ∧ t.avc.dHigh = s.avc.dHigh
       ∧ (s.ss.closedOrder.find? (fun k => (s.entryOf k).isNone) = none →
           t.avc.lastDecision = some { decision := .fastNoCandidate, frame := s.me.frame.number }
             ∧ s.onlyIn t [.avc])
       ∧ ∀ k, s.ss.closedOrder.find? (fun k => (s.entryOf k).isNone) = some k →
           t.avc.lastDecision = some { decision := .fastPosted k, frame := s.me.frame.number }
             ∧ (s.OrdersSound → ∃ e, t.entryOf k = some e ∧ e.kind = .openOp
                 ∧ e.originator = .avc ∧ e.fast = true)
             ∧ (s.inFlight ≠ none → s.onlyIn t [.oq, .avc])
             ∧ s.onlyIn t [.ss, .oq, .cu, .avc, .hmu, .upu, .au, .pi, .os])
    ∧ (∀ s : State,
        (s.clock.held = none → s.y .oven ≠ 0 → s.me.frame.settling = true →
            exec .fastOpen s = .next s ∧ s.fastStage = s)
          ∧ (s.y .oven = 0 → s.fastStage = { s with avc := { s.avc with ovCnt := 0 } })
          ∧ (s.y .oven ≠ 0 → s.me.frame.settling = false →
              (s.y .vov ≤ s.me.frame.vMax → s.avc.ovCnt + 1 < s.y .nov →
                  s.fastStage = { s with avc := { s.avc with ovCnt := s.avc.ovCnt + 1 } })
                ∧ (s.me.frame.vMax < s.y .vov →
                    s.fastStage = { s with avc := { s.avc with ovCnt := 0 } })))
    ∧ (∀ (s : State) (fast : Bool),
        (s.au.auto = false ∨ s.avc.line = .dead ∨ s.me.frame.noRef = true ∨ s.me.frame.vtLoss = true →
            s.integratorStage fast = { s with avc := { s.avc with dLow := 0, dHigh := 0 } })
          ∧ (s.au.auto = true → s.avc.line = .live → s.me.frame.noRef = false →
              s.me.frame.vtLoss = false →
              (s.me.frame.settling = true → s.integratorStage fast = s)
                ∧ (s.me.frame.settling = false → s.SettingsSound → ∀ u,
                    u = { s with avc := { s.avc with dLow := lowAfter s, dHigh := highAfter s } } →
                    (s.y .tclose ≤ lowAfter s → s.integratorStage fast = u.closeAttempt)
                      ∧ (lowAfter s < s.y .tclose → s.y .topen ≤ highAfter s →
                          s.integratorStage fast = if fast then u else u.openAttempt)
                      ∧ (lowAfter s < s.y .tclose → highAfter s < s.y .topen →
                          s.integratorStage fast = u))))
    ∧ (∀ s : State,
        (s.ss.readyOrder.find? (fitToClose s) = none →
            decides s s.closeAttempt (.noCandidate .closeOp))
          ∧ ∀ (k : StepId) (v : Int), s.OrdersSound → s.ss.readyOrder.find? (fitToClose s) = some k →
            v = (s.me.frame.vAvg : Int) + (s.stepRec k).learnedRise →
            ((s.y .vset : Int) + s.y .bw - s.y .pm < v →
                decides s s.closeAttempt (.predictWithheld .closeOp k v))
              ∧ (v ≤ (s.y .vset : Int) + s.y .bw - s.y .pm →
                  (s.harmonicBlock = true → decides s s.closeAttempt (.blocked k v .harmonic))
                    ∧ (s.harmonicBlock = false →
                        (s.y .vov ≤ s.me.frame.vMax →
                            decides s s.closeAttempt (.blocked k v .overvoltage))
                          ∧ (s.me.frame.vMax < s.y .vov →
                              (s.bkt = true → decides s s.closeAttempt (.blocked k v .backupTrip))
                                ∧ (s.bkt = false →
                                    (s.tripRecordBlock = true →
                                        decides s s.closeAttempt (.blocked k v .tripRecord))
                                      ∧ (s.tripRecordBlock = false → s.avc.line = .live →
                                          postsFor s s.closeAttempt .closeOp k
                                            (.closePosted k v)))))))
    ∧ ∀ s : State,
        (s.ss.closedOrder.find? (fun k => (s.entryOf k).isNone) = none →
            decides s s.openAttempt (.noCandidate .openOp))
          ∧ ∀ (k : StepId) (v : Int), s.OrdersSound → s.SettingsSound →
            s.ss.closedOrder.find? (fun k => (s.entryOf k).isNone) = some k →
            v = (s.me.frame.vAvg : Int) - (s.stepRec k).learnedRise →
            (v < (s.y .vset : Int) - s.y .bw + s.y .pm →
                decides s s.openAttempt (.predictWithheld .openOp k v))
              ∧ ((s.y .vset : Int) - s.y .bw + s.y .pm ≤ v →
                  postsFor s s.openAttempt .openOp k (.openPosted k v))

/-- An exceeding frame at which an inactive monitor's accumulator reaches P activates it: the count rises by
one, both flags are set, and a DETUNE monitor names its target or NONE_AVAILABLE. A frame that is not
exceeding and runs the accumulator of an active monitor to 0 clears it (R123, R124, R125, R129). That the
row is this event alone is log entry 13. -/
def Obligations.MonitorsActivateAndClear : Prop :=
  ∀ (m : MonitorId) (s : State) (v : Nat), s.clock.held = none →
    s.set.settings.enabled m = true → s.me.frame.settling = false → s.me.frame.noRef = false →
    s.me.frame.offFreq = false → s.comparedValue m = some v →
    (s.set.settings.m .threshold m < v → (s.monitor m).active = false →
        s.pickup m ≤ min ((s.monitor m).accumulator + 1) (2 * s.pickup m) →
        ∃ t, exec (.monitorActivation m) s = .next t
          ∧ (t.monitor m).active = true
          ∧ (t.monitor m).accumulator = min ((s.monitor m).accumulator + 1) (2 * s.pickup m)
          ∧ (t.monitor m).assertCount = min 65535 ((s.monitor m).assertCount + 1)
          ∧ (∀ p, (t.portState p).changeFlag = true)
          ∧ (s.set.settings.action m = .alarm →
              (t.monitor m).lastDetune = (s.monitor m).lastDetune
                ∧ (∀ j, j ≠ m → t.monitor j = s.monitor j) ∧ s.onlyIn t [.hmu, .pi])
          ∧ (s.set.settings.action m = .blockClose → t.harmonicBlock = true
              ∧ (s.inFlight ≠ none ∨ s.oq.entries = [] → s.onlyIn t [.hmu, .pi]))
          ∧ (s.set.settings.action m = .detune →
              (s.ss.closedOrder.reverse.find? (fun k => (s.entryOf k).isNone) = none →
                  (t.monitor m).lastDetune =
                    some (.noneAvailable s.clock.uptime s.me.frame.number))
                ∧ ∀ k, s.ss.closedOrder.reverse.find? (fun k => (s.entryOf k).isNone) = some k →
                    (t.monitor m).lastDetune =
                        some (.target k s.clock.uptime s.me.frame.number none)
                      ∧ (s.OrdersSound → ∃ e, t.entryOf k = some e ∧ e.kind = .openOp
                          ∧ e.originator = .harmonic)
                      ∧ (s.inFlight ≠ none → s.onlyIn t [.hmu, .pi, .oq])))
      ∧ (v ≤ s.set.settings.m .threshold m → (s.monitor m).active = true →
          (s.monitor m).accumulator ≤ 1 →
          ∃ t, exec (.monitorClearing m) s = .next t
            ∧ t.monitor m = { s.monitor m with active := false, accumulator := 0 }
            ∧ (∀ p, (t.portState p).changeFlag = true)
            ∧ (∀ j, j ≠ m → t.monitor j = s.monitor j)
            ∧ (s.inFlight ≠ none ∨ s.oq.entries = [] → s.onlyIn t [.hmu, .pi]))

/-- A protection trip enters the Trip Record: it fills an empty one with this, which sets both change flags,
and is counted in a held one (R145). -/
def entersTripRecord (s t : State) (r : TripRecord) : Prop :=
  match s.upu.tripRecord with
  | none => t.upu.tripRecord = some r ∧ ∀ p, (t.portState p).changeFlag = true
  | some old => t.upu.tripRecord = some { old with further := min 255 (old.further + 1) }

/-- The Trip Record that an unbalance trip decision of a step fills (R145). -/
def unbalanceRecord (s : State) (k : StepId) : TripRecord :=
  { cause := .unbalance
    step := some k
    uptime := s.clock.uptime
    frame := s.me.frame.number
    u := some s.me.frame.neutrals[k].u
    dre := some (s.stepRec k).dre
    dim := some (s.stepRec k).dim
    vAvg := s.me.frame.vAvg
    di := max s.me.frame.a.di (max s.me.frame.b.di s.me.frame.c.di)
    further := 0 }

/-- At a frame that does not hold the stages, a CLOSED step whose U stands at UALM or more for the TALM-th
time gets its alarm flag and both change flags; nothing is opened. One whose U stands at UTRIP or more for
the TTRIP-th time makes a trip decision: its count is 0, a TRIP stands for it, and the Trip Record is filled
or counts it (R140, R141, R142, R145). That the row is this event alone is log entry 13. A step that a
detune of the same frame has just dispatched, CLOSED without an entry when the frame was published, gets the
TRIP that the frame brings as a TRIP mark on its OPEN, and the Trip Record is entered; any other step that
is not CLOSED is passed over (R58, R131, R140; log entry 33). -/
def Obligations.UnbalanceStagesAlarmAndTrip : Prop :=
  (∀ (k : StepId) (s : State), s.clock.held = none → s.me.frame.settling = false →
    s.me.frame.noRef = false → (s.stepRec k).state = some .closed →
    (s.set.settings.s .ualm k ≤ s.me.frame.neutrals[k].u → (s.stepRec k).alarmFlag = false →
        s.set.settings.s .talm k ≤ (s.stepRec k).alarmCount + 1 →
        ∃ t, exec (.unbalanceAlarm k) s = .next t
          ∧ t.stepRec k =
              { s.stepRec k with alarmCount := s.set.settings.s .talm k, alarmFlag := true }
          ∧ (∀ j, j ≠ k → t.stepRec j = s.stepRec j)
          ∧ (∀ p, (t.portState p).changeFlag = true) ∧ t.alm = true
          ∧ s.onlyIn t [.ss, .pi])
      ∧ (s.YardSound → s.set.settings.s .utrip k ≤ s.me.frame.neutrals[k].u →
          s.set.settings.s .ttrip k ≤ (s.stepRec k).tripCount + 1 →
          ∃ t, exec (.unbalanceTripDecision k) s = .next t
            ∧ (t.stepRec k).tripCount = 0
            ∧ (∃ e, t.entryOf k = some e ∧ e.kind = .tripOp)
            ∧ (s.inFlight = none → s.oldestWaiting .tripOp = none →
                (t.stepRec k).state = some .opening)
            ∧ (s.inFlight ≠ none → t.stepRec k = { s.stepRec k with tripCount := 0 }
                ∧ ∀ j, j ≠ k → t.stepRec j = s.stepRec j)
            ∧ s.onlyIn t [.ss, .oq, .cu, .avc, .hmu, .upu, .au, .pi, .os]
            ∧ entersTripRecord s t (unbalanceRecord s k)))
    ∧ ∀ (k : StepId) (s base : State), (s.stepRec k).state ≠ some .closed →
        ((base.stepRec k).state ≠ some .closed ∨ base.entryOf k ≠ none
            ∨ (∀ e, s.inFlight = some e →
                e.step ≠ k ∨ e.kind ≠ .openOp ∨ e.originator ≠ .harmonic)
            ∨ s.me.frame.neutrals[k].u < s.set.settings.s .utrip k
            ∨ (base.stepRec k).tripCount + 1 < s.set.settings.s .ttrip k →
            s.stages base k = s)
          ∧ ∀ e, s.QueueSound → (base.stepRec k).state = some .closed → base.entryOf k = none →
            s.inFlight = some e → e.step = k → e.kind = .openOp → e.originator = .harmonic →
            e.mark = none → s.set.settings.s .utrip k ≤ s.me.frame.neutrals[k].u →
            s.set.settings.s .ttrip k ≤ (base.stepRec k).tripCount + 1 →
            (s.stages base k).entryOf k =
                some { e with mark := some { kind := .tripOp, originator := .unbalance, tag := none
                                             fast := false } }
              ∧ (s.stages base k).stepRec k = { s.stepRec k with tripCount := 0 }
              ∧ (∀ j, j ≠ k → (s.stages base k).stepRec j = s.stepRec j
                  ∧ (s.stages base k).entryOf j = s.entryOf j)
              ∧ entersTripRecord s (s.stages base k) (unbalanceRecord s k)
              ∧ s.onlyIn (s.stages base k) [.ss, .oq, .upu, .pi]

/-- CAPTURE_INHERENT from Port A starts the engine with empty sums and is answered ACCEPTED; it is refused
BUSY during a SAVE or a running capture, then WRONG_STATE for a step that is not CLOSED, then BUSY while the
yard settles (R154). The sixteenth frame gives the step its compensation, the sums of Pre and Pim over 16
truncated toward zero and the average voltage over 16 at no less than 500, starts its stages again, leaves
the engine idle and posts CAPTURED at the tail of Port A's list (R155). That the row is this event alone is
log entry 13. -/
def Obligations.CaptureTakesSixteenFrames : Prop :=
  (∀ (h : Header) (b : Byte) (k : StepId) (s u : State),
     s.serves → h.port = .a → names b k → u = s.judged h →
     ∃ t, exec (.captureInherent h b) s = .next t
       ∧ (if u.set.save ≠ none ∨ u.upu.capture ≠ none then
           u.answered t h { code := .busy, payload := [] } ∧ u.onlyIn t [.pi]
         else if (u.stepRec k).state ≠ some .closed then
           u.answered t h { code := .wrongState, payload := [] } ∧ u.onlyIn t [.pi]
         else if u.cu.settle ≠ 0 then
           u.answered t h { code := .busy, payload := [] } ∧ u.onlyIn t [.pi]
         else
           u.answered t h { code := .accepted, payload := [] }
             ∧ t.upu =
                 { u.upu with
                   capture := some
                     { step := k, tag := h.tag, count := 0, sumRe := 0, sumIm := 0, sumV := 0 } }
             ∧ u.onlyIn t [.pi, .upu]))
    ∧ ∀ (s : State) (c : Capture), s.clock.held = none → s.upu.capture = some c → 15 ≤ c.count →
        s.me.frame.noRef = false → s.me.frame.settling = false →
        s.me.frame.neutrals[c.step].clip = false →
        ∃ t, exec .captureComplete s = .next t
          ∧ t.stepRec c.step =
              { s.stepRec c.step with
                compensation := some
                  { cre := (c.sumRe + s.me.frame.neutrals[c.step].pre).tdiv 16
                    cim := (c.sumIm + s.me.frame.neutrals[c.step].pim).tdiv 16
                    vcap := max 500 ((c.sumV + s.me.frame.vAvg) / 16) }
                alarmCount := 0
                tripCount := 0
                alarmFlag := false }
          ∧ (∀ j, j ≠ c.step → t.stepRec j = s.stepRec j)
          ∧ t.upu = { s.upu with capture := none }
          ∧ ((t.outcomes .a).getLast?.map (·.2)) =
              some { tag := c.tag
                     step := some c.step
                     what := .capture
                     result := .captured
                     state := (s.stepRec c.step).state
                     uptime := s.clock.uptime }
          ∧ ((s.stepRec c.step).alarmFlag = true → ∀ p, (t.portState p).changeFlag = true)
          ∧ t.outcomes .b = s.outcomes .b ∧ s.onlyIn t [.ss, .upu, .os, .pi]

/-! ## Events of an elapsed second -/

/-- At an elapsed second the uptime rises by one with wrap; discharge time counts down in DISCHARGING,
LOCKOUT and OUT, and a DISCHARGING step that reaches 0 enters READY; harmonic holds count down while no
DETUNE monitor is active; closes older than WHOURS hours leave the close histories; expired selections end;
and a supervision timer above 1 counts down. This holds for every order of the second's parts (R14, R78,
R83, R86, R164, R173; log entries 2 and 4). That the uptime wraps at 2^32, that the age of a close is taken
modulo 2^32 and that an expiry time is compared with the uptime as a plain number is the model's choice (log
entry 11). -/
def Obligations.ElapsedSecondCountsDown : Prop :=
  ∀ (parts : List SecondPart) (s : State), s.YardSound → s.clock.held = none →
    ∃ t, exec (.elapsedSecond parts) s = .next t
      ∧ t.clock.uptime = (s.clock.uptime + 1) % 4294967296
      ∧ t.clock.nextSecond = s.clock.nextSecond + 1000000
      ∧ t.clock.now = max s.clock.now s.clock.nextSecond
      ∧ (∀ k, (t.stepRec k).discharge =
          if (s.stepRec k).state = some .discharging ∨ (s.stepRec k).state = some .lockout
              ∨ (s.stepRec k).state = some .out then (s.stepRec k).discharge - 1
          else (s.stepRec k).discharge)
      ∧ (∀ k, (s.stepRec k).state = some .discharging →
          (t.stepRec k).state =
            some (if (s.stepRec k).discharge ≤ 1 then .ready else .discharging))
      ∧ (∀ k, (t.stepRec k).harmonicHold =
          if s.detuneActive then (s.stepRec k).harmonicHold else (s.stepRec k).harmonicHold - 1)
      ∧ (∀ p x, s.slot p = some x → x.expiry ≤ (s.clock.uptime + 1) % 4294967296 →
          t.slot p = none)
      ∧ (∀ n, s.au.remaining = some n → 1 < n → t.au.remaining = some (n - 1)
          ∧ t.au.supervision = s.au.supervision)
      ∧ (s.au.remaining = none → t.au.remaining = none)
      ∧ (∀ k, ((t.stepRec k).position, (t.stepRec k).manualHold, (t.stepRec k).closeCount,
            (t.stepRec k).learnedRise, (t.stepRec k).compensation) =
          ((s.stepRec k).position, (s.stepRec k).manualHold, (s.stepRec k).closeCount,
            (s.stepRec k).learnedRise, (s.stepRec k).compensation))
      ∧ (∀ k, (t.stepRec k).closeHistory = (s.stepRec k).closeHistory.dropWhile (fun x =>
          3600 * s.y .whours < ((s.clock.uptime + 1) % 4294967296 + 4294967296 - x) % 4294967296))
      ∧ s.onlyIn t [.clock, .ss, .oq, .cu, .avc, .hmu, .upu, .au, .pi, .os]

/-- The discharge end puts a DISCHARGING step in READY at the tail of the Ready Order with no discharge time
and both flags set; the end of a harmonic hold leaves 0 and changes nothing else (R14, R86). A WAITING CLOSE
older than TSTALE leaves the list at a second, and no other entry does, and with sound coils and an
operation in flight no step changes; a port whose entry was the only one gets STALE (R71). A selection whose
expiry time is reached ends with SELECT_EXPIRED at the tail of its port's list (R173, R174). That each row
is its event alone is log entry 13; that the age of an entry is taken modulo 2^32 and that an expiry time is
compared with the uptime as a plain number is the model's choice (log entry 11), and so is the tag 0 of a
record whose entry has none (log entry 25). -/
def Obligations.CountdownsAndAgesEnd : Prop :=
  (∀ (k : StepId) (s : State), s.YardSound → s.clock.held = none →
     ((s.stepRec k).state = some .discharging → (s.stepRec k).discharge ≤ 1 →
         ∃ t, exec (.dischargeEnd k) s = .next t
           ∧ t.stepRec k =
               { s.stepRec k with
                 state := some .ready
                 discharge := 0
                 lockoutCause := none
                 failureCause := none
                 closedWhileOut := false }
           ∧ (∀ j, j ≠ k → t.stepRec j = s.stepRec j)
           ∧ t.ss.readyOrder = s.ss.readyOrder ++ [k] ∧ t.ss.closedOrder = s.ss.closedOrder
           ∧ (∀ p, (t.portState p).changeFlag = true) ∧ s.onlyIn t [.ss, .cu, .pi])
       ∧ ((s.stepRec k).harmonicHold = 1 → s.detuneActive = false →
           ∃ t, exec (.harmonicHoldEnd k) s = .next t
             ∧ t.stepRec k = { s.stepRec k with harmonicHold := 0 }
             ∧ (∀ j, j ≠ k → t.stepRec j = s.stepRec j)
             ∧ t.ss.readyOrder = s.ss.readyOrder ∧ t.ss.closedOrder = s.ss.closedOrder
             ∧ s.onlyIn t [.ss]))
    ∧ (∀ s : State, s.QueueSound → s.clock.held = none →
          ∃ t, exec .stale s = .next t
            ∧ t.oq.entries.map (fun e => (e.step, e.kind, e.originator, e.tag, e.admittedAt)) =
                (s.oq.entries.filter (fun e =>
                  !(decide (e.status = .waiting) && decide (e.kind = .closeOp)
                    && decide (s.y .tstale
                        < (s.clock.uptime + 4294967296 - e.admittedAt) % 4294967296)))).map
                  (fun e => (e.step, e.kind, e.originator, e.tag, e.admittedAt))
            ∧ (s.CoilsSound → s.inFlight ≠ none → t.ss = s.ss)
            ∧ s.onlyIn t [.ss, .oq, .cu, .avc, .hmu, .upu, .au, .pi, .os]
            ∧ (∀ e, s.oq.entries = [e] → e.status = .waiting → e.kind = .closeOp →
                s.y .tstale < (s.clock.uptime + 4294967296 - e.admittedAt) % 4294967296 →
                ∀ p, e.originator = portOriginator p →
                  ((t.outcomes p).getLast?.map (·.2)) =
                    some { tag := e.tag.getD 0
                           step := some e.step
                           what := .closeOp
                           result := .stale
                           state := (s.stepRec e.step).state
                           uptime := s.clock.uptime }))
        ∧ ∀ (p : Port) (x : Selection) (s : State), s.clock.held = none → s.slot p = some x →
            x.expiry ≤ s.clock.uptime →
            ∃ t, exec (.selectExpired p) s = .next t ∧ t.slot p = none
              ∧ (∀ q, q ≠ p → t.slot q = s.slot q ∧ t.outcomes q = s.outcomes q)
              ∧ ((t.outcomes p).getLast?.map (·.2)) =
                  some { tag := x.tag
                         step := some x.step
                         what := .select
                         result := .selectExpired
                         state := (s.stepRec x.step).state
                         uptime := s.clock.uptime }
              ∧ (∀ q, (t.portState q).changeFlag = (s.portState q).changeFlag)
              ∧ s.onlyIn t [.au, .os, .pi]

/-- The supervision timer's expiry makes OK LATE, with the timer at TSUP and both flags set, and LATE LOST:
the timer stops, Port B's selection and WAITING CLOSEs go, AUTO is on, Port B's records are discarded and
counted as lost, and both flags are set (R165, R166, R188). In a sound yard with an operation in flight its
list is then empty and no step changes. That the row is this event alone is log entry 13. -/
def Obligations.SupervisionExpiresToLateThenLost : Prop :=
  ∀ (s : State) (n : Nat), s.clock.held = none → s.au.remaining = some n → n ≤ 1 →
    (s.au.supervision = .ok →
        ∃ t, exec .supervisionTimerExpiry s = .next t
          ∧ t.au = { s.au with supervision := .late, remaining := some (s.y .tsup) }
          ∧ (∀ p, (t.portState p).changeFlag = true) ∧ t.alm = true ∧ s.onlyIn t [.au, .pi])
      ∧ (s.au.supervision = .late →
          ∃ t, exec .supervisionTimerExpiry s = .next t
            ∧ t.au.supervision = .lost ∧ t.au.remaining = none ∧ t.au.auto = true
            ∧ t.au.key = s.au.key ∧ (∀ p, t.slot p = none)
            ∧ (s.au.key = some .remote → t.holder = none)
            ∧ (∀ e ∈ t.oq.entries, ¬(e.status = .waiting ∧ e.kind = .closeOp
                ∧ e.originator = .portB))
            ∧ min 255 ((s.portState .b).lost + (s.outcomes .b).length) ≤ (t.portState .b).lost
            ∧ (s.YardSound → s.inFlight ≠ none → t.outcomes .b = [] ∧ t.ss = s.ss)
            ∧ s.onlyIn t [.ss, .oq, .cu, .avc, .hmu, .upu, .au, .pi, .os]
            ∧ ∀ p, (t.portState p).changeFlag = true)

/-! ## Start-up -/

/-- The state that derivation gives a step (R204). -/
def derivedState (s : State) (k : StepId) : StepState :=
  if s.inService k = false then .out
  else match (s.stepRec k).position with
    | some .atOpen => .discharging
    | some .atClosed => .closed
    | _ => .failed

/-- The answer that the posting of an AVC OPEN for a step receives at the end of derivation, whether after
the external trip's parts or not (R52, R56, R58, R204). -/
def derivedAnswer (afterTrip : Bool) : StepState → PostAnswer
  | .closed => if afterTrip then .pending else .accepted
  | .discharging => if afterTrip then .wrongState else .done
  | _ => .wrongState

/-- The entry of a derived CLOSED step when the last parts of derivation are over: kind, originator, status
and mark. `head` says that it is the first such step, which is dispatched at once. A TRIP that comes after
the OPEN ALL marks the dispatched OPEN and upgrades the others (R55, R58, R204). -/
def derivedEntry (openAllFirst dead trip head : Bool) :
    OpKind × Originator × EntryStatus × Option Mark :=
  let status := if head then EntryStatus.inFlight else .waiting
  if trip = false then (.openOp, .avc, status, none)
  else if dead = true ∧ openAllFirst = true ∧ head = true then
    (.openOp, .avc, status,
      some { kind := .tripOp, originator := .external, tag := none, fast := false })
  else (.tripOp, .external, status, none)

/-- What follows at the end of derivation on a DEAD line, with the external trip standing asserted, or both,
in either order (R97, R149, R150, R204). -/
def endOfDerivation : Prop :=
  ∀ (first : Bool) (s : State) (at0 : Nat) (dead trip : Bool) (closed : List StepId), s.YardSound →
    s.clock.held = none → s.set.loadedAt = some at0 → s.set.derived = false →
    dead = decide (s.avc.line = .dead) → trip = decide (s.ss.tripIn.accepted = some true) →
    closed = allSteps.filter (fun k => decide (derivedState s k = .closed)) →
    ∃ t, exec (.stepDerivation first) s = .next t ∧ t.set = { s.set with derived := true }
      ∧ t.avc.line = s.avc.line ∧ t.upu.tripRecord = s.upu.tripRecord
      ∧ (dead = false → t.avc.lastOpenAll = s.avc.lastOpenAll)
      ∧ (dead = true → ∃ r, t.avc.lastOpenAll = some r ∧ r.frame = s.me.frame.number
          ∧ r.uptime = s.clock.uptime
          ∧ r.answers = allSteps.map (fun k =>
              derivedAnswer (trip && !first) (derivedState s k))
          ∧ r.count = r.answers.countP (fun a => a = .accepted)
          ∧ t.avc.lastDecision =
              some { decision := .openAllPosted r.count, frame := s.me.frame.number })
      ∧ (∀ k, derivedState s k = .discharging →
          (t.stepRec k).state = some (if trip then .lockout else .discharging)
            ∧ (t.stepRec k).lockoutCause = (if trip then some .external else none)
            ∧ (t.stepRec k).discharge = s.y .tdis)
      ∧ (∀ k, derivedState s k = .out ∨ derivedState s k = .failed →
          (t.stepRec k).state = some (derivedState s k))
      ∧ (trip = true → (∃ k, derivedState s k = .failed) → t.bkt = true)
      ∧ (∀ k, derivedState s k = .closed → dead = true ∨ trip = true →
          ∃ e, t.entryOf k = some e
            ∧ (trip = true → e.kind = .tripOp ∨ (e.mark.map (·.kind)) = some .tripOp))
      ∧ (s.cu.settle = 0 → dead = true ∨ trip = true →
          t.oq.entries.map (fun e => (e.step, e.kind, e.originator, e.status, e.mark)) =
              closed.map (fun k =>
                (k, derivedEntry first dead trip (decide (closed.head? = some k))))
            ∧ (∀ k, derivedState s k = .closed →
                (t.stepRec k).state =
                  some (if closed.head? = some k then .opening else .closed))
            ∧ (dead = true → trip = true → first = true → 2 ≤ closed.length →
                (t.avc.lastResult.map (fun r => (some r.step, r.kind, r.result))) =
                  some (closed.getLast?, .openOp, .superseded)))
      ∧ s.onlyIn t [.clock, .ss, .oq, .cu, .avc, .upu, .os, .pi, .set]

/-- Step derivation gives every step a state from its in_service and its position, with TDIS for every open
step, and joins the closed ones to the Closed Order in step-number order, the Ready Order being empty. It
takes place once, at the latest 1000 ms after the loaded application (R203, R204). On a DEAD line the AVC's
OPEN ALL follows, and where the external trip stands asserted the postings and lockouts of its edge, without
a second entry in the Trip Record, in the order that the operand gives (R97, R149, R150, R204). That the
count moves to the due instant is log entry 2. -/
def Obligations.DerivationGivesEveryStepAState : Prop :=
  endOfDerivation
    ∧ ∀ (first : Bool) (s : State) (at0 : Nat), s.YardSound → s.clock.held = none →
    s.set.loadedAt = some at0 → s.set.derived = false → s.avc.line = .live →
    s.ss.tripIn.accepted ≠ some true →
    ∃ t, exec (.stepDerivation first) s = .next t ∧ t.set = { s.set with derived := true }
      ∧ (∀ k,
          (t.stepRec k).state = some (derivedState s k)
            ∧ (t.stepRec k).discharge =
              (match (s.stepRec k).position with
               | some .atOpen => s.y .tdis
               | some .atClosed => if s.inService k then 0 else (s.stepRec k).discharge
               | _ => (s.stepRec k).discharge)
            ∧ (t.stepRec k).failureCause =
              (if s.inService k = true ∧ (s.stepRec k).position ≠ some .atOpen
                  ∧ (s.stepRec k).position ≠ some .atClosed then some .contactInvalid else none)
            ∧ (t.stepRec k).closedWhileOut =
              decide (s.inService k = false ∧ (s.stepRec k).position = some .atClosed))
      ∧ t.ss.readyOrder = []
      ∧ t.ss.closedOrder = allSteps.filter (fun k =>
          decide (s.inService k = true ∧ (s.stepRec k).position = some .atClosed))
      ∧ (∀ p, (t.portState p).changeFlag = true ∧ t.notice p = true)
      ∧ t.clock =
          { s.clock with
            now := if (∀ k, (s.stepRec k).position ≠ none) then s.clock.now
              else max s.clock.now (at0 + 1000000) }
      ∧ s.onlyIn t [.clock, .ss, .cu, .set, .pi]

/-! ## Postings against a pending entry -/

/-- A result is given to the originator of an operation: the tail of a port's list, or the AVC's last result
(R75, R114). The tag is the posting's; that a missing one is 0 is log entry 25. -/
def givesResult (s t : State) (o : Originator) (tag : Option Byte) (k : StepId) (what : OutcomeWhat)
    (r : OutcomeResult) : Prop :=
  (∀ p, o = portOriginator p → ∃ st,
      ((t.outcomes p).getLast?.map (·.2)) =
        some { tag := tag.getD 0, step := some k, what := what, result := r, state := st
               uptime := s.clock.uptime })
    ∧ (o = .avc → ∃ x, t.avc.lastResult = some x ∧ x.step = k ∧ x.result = r
        ∧ x.uptime = s.clock.uptime)

/-- What an assertion edge of the external trip keeps, and what a frame that comes together with it does: a
trip decision that finds the edge's TRIP in flight leaves the entry and enters the Trip Record (R58, R145,
R150). The record of the edge and the U are log entry 35. -/
def edgeMeetsTheFrame : Prop :=
  (∀ s : State, s.clock.held = none → s.ss.tripIn.raw = true → s.ss.tripIn.accepted ≠ some true →
    ∃ t, exec .externalTripAssertion s = .next t
      ∧ ∃ g, t.upu.edge = some g ∧ g.instant = t.clock.now
        ∧ ∀ (k : StepId) (n : Nat),
            (k, n) ∈ g.counts ↔ (s.stepRec k).state = some .closed ∧ n = (s.stepRec k).tripCount)
    ∧ (∀ s base : State, (s.upuFrame base).upu.edge = none)
    ∧ (∀ (s base : State) (k : StepId),
        (∀ g, s.upu.edge = some g →
            g.instant ≠ s.clock.now ∨ g.counts.find? (fun x => x.1 = k) = none)
          ∨ (s.stepRec k).state ≠ some .opening
          ∨ (∀ e, s.inFlight = some e → e.step ≠ k ∨ e.kind ≠ .tripOp)
          ∨ (unbalanceAt s k).2.2 < s.set.settings.s .utrip k →
        s.stepFrame base k = s.stages base k)
    ∧ ∀ (s base : State) (k : StepId) (g : TripEdge) (n : Nat) (e : Entry), s.QueueSound →
        s.upu.edge = some g → g.instant = s.clock.now →
        g.counts.find? (fun x => x.1 = k) = some (k, n) →
        (s.stepRec k).state = some .opening → s.inFlight = some e → e.step = k → e.kind = .tripOp →
        s.set.settings.s .utrip k ≤ (unbalanceAt s k).2.2 →
        (n + 1 < s.set.settings.s .ttrip k → s.stepFrame base k = s.stages base k)
          ∧ (s.set.settings.s .ttrip k ≤ n + 1 →
              (s.stepFrame base k).oq = s.oq
                ∧ (s.stepFrame base k).stepRec k = { s.stepRec k with tripCount := 0 }
                ∧ (∀ j, j ≠ k → (s.stepFrame base k).stepRec j = s.stepRec j)
                ∧ entersTripRecord s (s.stepFrame base k)
                    { unbalanceRecord s k with
                      u := some (unbalanceAt s k).2.2
                      dre := some (unbalanceAt s k).1
                      dim := some (unbalanceAt s k).2.1 }
                ∧ s.onlyIn (s.stepFrame base k) [.ss, .upu, .pi])

/-- A TRIP for a step with no pending entry is admitted for a CLOSED step; puts a READY or DISCHARGING step
in LOCKOUT with its originator's cause and its discharge time, DONE; is DONE for a LOCKOUT step; and refused
WRONG_STATE for an OUT, FAILED or absent one, asserting BKT for a FAILED step whose position is not OPEN
(R50, R53). A WAITING CLOSE is removed by an OPEN or a TRIP with CANCELLED; the OPEN changes no step, and
the TRIP puts the step in LOCKOUT (R54). A WAITING OPEN is upgraded in place by a TRIP, with SUPERSEDED
(R55); a WAITING TRIP stays (R56). An IN_FLIGHT CLOSE takes the mark of an OPEN or a TRIP, and a TRIP
replaces an OPEN mark with SUPERSEDED (R57). An IN_FLIGHT OPEN takes the mark of a TRIP, and an IN_FLIGHT
TRIP stays (R58). The other postings are refused PENDING or CONFLICT and change nothing (R54 to R58). An
assertion edge of the external trip keeps what it found; a frame of the same instant that brings a trip
decision to a step that was CLOSED at the edge, and whose TRIP is in flight already, posts a TRIP that
leaves the entry as it is, and the decision enters the Trip Record; every other step has its stages (R58,
R150). How the edge is kept, and the U such a step is judged on, are the model's choice (log entry 35). -/
def Obligations.PostingsMeetThePendingEntry : Prop :=
  edgeMeetsTheFrame
    ∧ (∀ (s : State) (p : Posting), (s.stepRec p.step).state = none → s.post p = (s, .wrongState))
    ∧ (∀ (s : State) (p : Posting), p.kind = .tripOp → s.entryOf p.step = none →
        ((s.stepRec p.step).state = some .closed →
            (s.post p).2 = .accepted
              ∧ (s.post p).1.oq =
                  { s.oq with
                    entries := s.oq.entries ++
                      [{ kind := .tripOp
                         step := p.step
                         originator := p.originator
                         tag := p.tag
                         admittedAt := s.clock.uptime
                         status := .waiting
                         mark := none
                         fast := p.fast }] }
              ∧ s.onlyIn (s.post p).1 [.oq])
          ∧ ((s.stepRec p.step).state = some .ready ∨ (s.stepRec p.step).state = some .discharging →
              (s.post p).2 = .done
                ∧ ((s.post p).1.stepRec p.step).state = some .lockout
                ∧ ((s.post p).1.stepRec p.step).lockoutCause = some (lockoutCauseOf p.originator)
                ∧ ((s.post p).1.stepRec p.step).discharge = (s.stepRec p.step).discharge
                ∧ (∀ j, j ≠ p.step → (s.post p).1.stepRec j = s.stepRec j)
                ∧ s.onlyIn (s.post p).1 [.ss, .cu, .au, .pi, .os])
          ∧ ((s.stepRec p.step).state = some .lockout → s.post p = (s, .done))
          ∧ ((s.stepRec p.step).state = some .out → s.post p = (s, .wrongState))
          ∧ ((s.stepRec p.step).state = some .failed →
              (s.post p).2 = .wrongState
                ∧ ((s.stepRec p.step).position = some .atOpen → (s.post p).1 = s)
                ∧ ((s.stepRec p.step).position ≠ some .atOpen →
                    (s.post p).1.bkt = true ∧ (s.post p).1.ss.steps = s.ss.steps
                      ∧ s.onlyIn (s.post p).1 [.ss, .upu, .pi]
                      ∧ (s.bkt = false → (s.post p).1.upu.backup =
                          some { step := p.step, reason := .failedStep, originator := p.originator
                                 uptime := s.clock.uptime }))))
    ∧ ∀ (s : State) (p : Posting) (e : Entry), (s.stepRec p.step).state ≠ none →
        s.entryOf p.step = some e →
        (e.status = .waiting → e.kind = .closeOp →
            (p.kind = .openOp →
                (s.post p).2 = .done
                  ∧ (s.post p).1.oq =
                      { s.oq with entries := s.oq.entries.filter (fun x => x.step ≠ p.step) }
                  ∧ givesResult s (s.post p).1 e.originator e.tag e.step .closeOp
                      (.cancelled .openedByRequest)
                  ∧ (s.post p).1.ss.steps = s.ss.steps
                  ∧ s.onlyIn (s.post p).1 [.ss, .oq, .os, .pi, .avc, .hmu, .upu]
                  ∧ (s.QueueSound → s.CoilsSound → (s.post p).1.ss = s.ss))
              ∧ (p.kind = .tripOp →
                  (s.post p).2 = .done
                    ∧ (s.post p).1.oq =
                        { s.oq with entries := s.oq.entries.filter (fun x => x.step ≠ p.step) }
                    ∧ ((s.post p).1.stepRec p.step).state = some .lockout
                    ∧ ((s.post p).1.stepRec p.step).lockoutCause = some (lockoutCauseOf p.originator)
                    ∧ (∀ j, j ≠ p.step → (s.post p).1.stepRec j = s.stepRec j)
                    ∧ givesResult s (s.post p).1 e.originator e.tag e.step .closeOp
                        (.cancelled .lockout)
                    ∧ s.onlyIn (s.post p).1 [.ss, .oq, .cu, .au, .os, .pi, .avc, .hmu, .upu])
              ∧ (p.kind = .closeOp → s.post p = (s, .pending)))
          ∧ (e.status = .waiting → e.kind = .openOp →
              (p.kind = .tripOp →
                  (s.post p).2 = .accepted
                    ∧ (s.post p).1.oq =
                        { s.oq with
                          entries := s.oq.entries.map (fun x =>
                            if x.step = p.step then
                              { x with
                                kind := .tripOp
                                originator := p.originator
                                tag := p.tag
                                fast := p.fast }
                            else x) }
                    ∧ givesResult s (s.post p).1 e.originator e.tag e.step .openOp .superseded
                    ∧ s.onlyIn (s.post p).1 [.oq, .os, .pi, .avc, .hmu, .upu])
                ∧ (p.kind = .openOp → s.post p = (s, .pending))
                ∧ (p.kind = .closeOp → s.post p = (s, .conflict)))
          ∧ (e.status = .waiting → e.kind = .tripOp →
              s.post p =
                (s, match p.kind with
                  | .tripOp => .accepted
                  | .openOp => .pending
                  | .closeOp => .conflict))
          ∧ (e.status = .inFlight → e.kind = .closeOp →
              (p.kind = .closeOp → s.post p = (s, .pending))
                ∧ (p.kind = .openOp → e.mark ≠ none → s.post p = (s, .pending))
                ∧ (∀ m, p.kind = .tripOp → e.mark = some m → m.kind = .tripOp →
                    s.post p = (s, .accepted))
                ∧ (p.kind = .openOp ∨ p.kind = .tripOp → e.mark = none →
                    (s.post p).2 = .accepted ∧ (s.post p).1.oq = (s.setMark p).oq
                      ∧ s.onlyIn (s.post p).1 [.oq])
                ∧ ∀ m, p.kind = .tripOp → e.mark = some m → m.kind = .openOp →
                    (s.post p).2 = .accepted ∧ (s.post p).1.oq = (s.setMark p).oq
                      ∧ givesResult s (s.post p).1 m.originator m.tag p.step .openOp .superseded
                      ∧ s.onlyIn (s.post p).1 [.oq, .os, .pi, .avc, .hmu, .upu])
          ∧ (e.status = .inFlight → e.kind ≠ .closeOp →
              (p.kind = .closeOp → s.post p = (s, .conflict))
                ∧ (p.kind = .openOp → s.post p = (s, .pending))
                ∧ (p.kind = .tripOp → e.kind = .openOp → e.mark = none →
                    (s.post p).2 = .accepted ∧ (s.post p).1.oq = (s.setMark p).oq
                      ∧ s.onlyIn (s.post p).1 [.oq])
                ∧ (p.kind = .tripOp → e.kind = .tripOp ∨ e.mark ≠ none →
                    s.post p = (s, .accepted)))
          ∧ (s.setMark p).oq =
              { s.oq with
                entries := s.oq.entries.map (fun x =>
                  if x.step = p.step then
                    { x with
                      mark := some { kind := p.kind, originator := p.originator, tag := p.tag
                                     fast := p.fast } }
                  else x) }
end

