-- ==== Sys2Proof/Laws/State.lean ====
section
/-!
SUPPORT. One lemma per field for each plain update of the state, true by computation, so that no proof
unfolds a record update; and what a read gives after a write.
-/
namespace Sys2Proof.Machine

/-! ## until -/

@[simp] theorem State.until_me (s : State) (t : Nat) : (s.until t).me = s.me := rfl
@[simp] theorem State.until_ss (s : State) (t : Nat) : (s.until t).ss = s.ss := rfl
@[simp] theorem State.until_oq (s : State) (t : Nat) : (s.until t).oq = s.oq := rfl
@[simp] theorem State.until_cu (s : State) (t : Nat) : (s.until t).cu = s.cu := rfl
@[simp] theorem State.until_avc (s : State) (t : Nat) : (s.until t).avc = s.avc := rfl
@[simp] theorem State.until_hmu (s : State) (t : Nat) : (s.until t).hmu = s.hmu := rfl
@[simp] theorem State.until_upu (s : State) (t : Nat) : (s.until t).upu = s.upu := rfl
@[simp] theorem State.until_au (s : State) (t : Nat) : (s.until t).au = s.au := rfl
@[simp] theorem State.until_pi (s : State) (t : Nat) : (s.until t).pi = s.pi := rfl
@[simp] theorem State.until_os (s : State) (t : Nat) : (s.until t).os = s.os := rfl
@[simp] theorem State.until_set (s : State) (t : Nat) : (s.until t).set = s.set := rfl
@[simp] theorem State.until_pending (s : State) (t : Nat) : (s.until t).pending = s.pending := rfl
@[simp] theorem State.until_free (s : State) (t : Nat) : (s.until t).free = s.free := rfl

/-! ## pass -/

@[simp] theorem State.pass_me (s : State) (t : Nat) : (s.pass t).me = s.me := rfl
@[simp] theorem State.pass_ss (s : State) (t : Nat) : (s.pass t).ss = s.ss := rfl
@[simp] theorem State.pass_oq (s : State) (t : Nat) : (s.pass t).oq = s.oq := rfl
@[simp] theorem State.pass_cu (s : State) (t : Nat) : (s.pass t).cu = s.cu := rfl
@[simp] theorem State.pass_avc (s : State) (t : Nat) : (s.pass t).avc = s.avc := rfl
@[simp] theorem State.pass_hmu (s : State) (t : Nat) : (s.pass t).hmu = s.hmu := rfl
@[simp] theorem State.pass_upu (s : State) (t : Nat) : (s.pass t).upu = s.upu := rfl
@[simp] theorem State.pass_au (s : State) (t : Nat) : (s.pass t).au = s.au := rfl
@[simp] theorem State.pass_pi (s : State) (t : Nat) : (s.pass t).pi = s.pi := rfl
@[simp] theorem State.pass_os (s : State) (t : Nat) : (s.pass t).os = s.os := rfl
@[simp] theorem State.pass_set (s : State) (t : Nat) : (s.pass t).set = s.set := rfl
@[simp] theorem State.pass_pending (s : State) (t : Nat) : (s.pass t).pending = s.pending := rfl
@[simp] theorem State.pass_free (s : State) (t : Nat) : (s.pass t).free = s.free := rfl

/-! ## setStep -/

@[simp] theorem State.setStep_clock (s : State) (k : StepId) (r : StepRecord) : (s.setStep k r).clock = s.clock := rfl
@[simp] theorem State.setStep_me (s : State) (k : StepId) (r : StepRecord) : (s.setStep k r).me = s.me := rfl
@[simp] theorem State.setStep_oq (s : State) (k : StepId) (r : StepRecord) : (s.setStep k r).oq = s.oq := rfl
@[simp] theorem State.setStep_cu (s : State) (k : StepId) (r : StepRecord) : (s.setStep k r).cu = s.cu := rfl
@[simp] theorem State.setStep_avc (s : State) (k : StepId) (r : StepRecord) : (s.setStep k r).avc = s.avc := rfl
@[simp] theorem State.setStep_hmu (s : State) (k : StepId) (r : StepRecord) : (s.setStep k r).hmu = s.hmu := rfl
@[simp] theorem State.setStep_upu (s : State) (k : StepId) (r : StepRecord) : (s.setStep k r).upu = s.upu := rfl
@[simp] theorem State.setStep_au (s : State) (k : StepId) (r : StepRecord) : (s.setStep k r).au = s.au := rfl
@[simp] theorem State.setStep_pi (s : State) (k : StepId) (r : StepRecord) : (s.setStep k r).pi = s.pi := rfl
@[simp] theorem State.setStep_os (s : State) (k : StepId) (r : StepRecord) : (s.setStep k r).os = s.os := rfl
@[simp] theorem State.setStep_set (s : State) (k : StepId) (r : StepRecord) : (s.setStep k r).set = s.set := rfl
@[simp] theorem State.setStep_pending (s : State) (k : StepId) (r : StepRecord) : (s.setStep k r).pending = s.pending := rfl
@[simp] theorem State.setStep_free (s : State) (k : StepId) (r : StepRecord) : (s.setStep k r).free = s.free := rfl

/-! ## modStep -/

@[simp] theorem State.modStep_clock (s : State) (k : StepId) (f : StepRecord → StepRecord) : (s.modStep k f).clock = s.clock := rfl
@[simp] theorem State.modStep_me (s : State) (k : StepId) (f : StepRecord → StepRecord) : (s.modStep k f).me = s.me := rfl
@[simp] theorem State.modStep_oq (s : State) (k : StepId) (f : StepRecord → StepRecord) : (s.modStep k f).oq = s.oq := rfl
@[simp] theorem State.modStep_cu (s : State) (k : StepId) (f : StepRecord → StepRecord) : (s.modStep k f).cu = s.cu := rfl
@[simp] theorem State.modStep_avc (s : State) (k : StepId) (f : StepRecord → StepRecord) : (s.modStep k f).avc = s.avc := rfl
@[simp] theorem State.modStep_hmu (s : State) (k : StepId) (f : StepRecord → StepRecord) : (s.modStep k f).hmu = s.hmu := rfl
@[simp] theorem State.modStep_upu (s : State) (k : StepId) (f : StepRecord → StepRecord) : (s.modStep k f).upu = s.upu := rfl
@[simp] theorem State.modStep_au (s : State) (k : StepId) (f : StepRecord → StepRecord) : (s.modStep k f).au = s.au := rfl
@[simp] theorem State.modStep_pi (s : State) (k : StepId) (f : StepRecord → StepRecord) : (s.modStep k f).pi = s.pi := rfl
@[simp] theorem State.modStep_os (s : State) (k : StepId) (f : StepRecord → StepRecord) : (s.modStep k f).os = s.os := rfl
@[simp] theorem State.modStep_set (s : State) (k : StepId) (f : StepRecord → StepRecord) : (s.modStep k f).set = s.set := rfl
@[simp] theorem State.modStep_pending (s : State) (k : StepId) (f : StepRecord → StepRecord) : (s.modStep k f).pending = s.pending := rfl
@[simp] theorem State.modStep_free (s : State) (k : StepId) (f : StepRecord → StepRecord) : (s.modStep k f).free = s.free := rfl

/-! ## setSlot -/

@[simp] theorem State.setSlot_clock (s : State) (p : Port) (v : Option Selection) : (s.setSlot p v).clock = s.clock := by cases p <;> rfl
@[simp] theorem State.setSlot_me (s : State) (p : Port) (v : Option Selection) : (s.setSlot p v).me = s.me := by cases p <;> rfl
@[simp] theorem State.setSlot_ss (s : State) (p : Port) (v : Option Selection) : (s.setSlot p v).ss = s.ss := by cases p <;> rfl
@[simp] theorem State.setSlot_oq (s : State) (p : Port) (v : Option Selection) : (s.setSlot p v).oq = s.oq := by cases p <;> rfl
@[simp] theorem State.setSlot_cu (s : State) (p : Port) (v : Option Selection) : (s.setSlot p v).cu = s.cu := by cases p <;> rfl
@[simp] theorem State.setSlot_avc (s : State) (p : Port) (v : Option Selection) : (s.setSlot p v).avc = s.avc := by cases p <;> rfl
@[simp] theorem State.setSlot_hmu (s : State) (p : Port) (v : Option Selection) : (s.setSlot p v).hmu = s.hmu := by cases p <;> rfl
@[simp] theorem State.setSlot_upu (s : State) (p : Port) (v : Option Selection) : (s.setSlot p v).upu = s.upu := by cases p <;> rfl
@[simp] theorem State.setSlot_pi (s : State) (p : Port) (v : Option Selection) : (s.setSlot p v).pi = s.pi := by cases p <;> rfl
@[simp] theorem State.setSlot_os (s : State) (p : Port) (v : Option Selection) : (s.setSlot p v).os = s.os := by cases p <;> rfl
@[simp] theorem State.setSlot_set (s : State) (p : Port) (v : Option Selection) : (s.setSlot p v).set = s.set := by cases p <;> rfl
@[simp] theorem State.setSlot_pending (s : State) (p : Port) (v : Option Selection) : (s.setSlot p v).pending = s.pending := by cases p <;> rfl
@[simp] theorem State.setSlot_free (s : State) (p : Port) (v : Option Selection) : (s.setSlot p v).free = s.free := by cases p <;> rfl

/-! ## setPort -/

@[simp] theorem State.setPort_clock (s : State) (p : Port) (v : PortState) : (s.setPort p v).clock = s.clock := by cases p <;> rfl
@[simp] theorem State.setPort_me (s : State) (p : Port) (v : PortState) : (s.setPort p v).me = s.me := by cases p <;> rfl
@[simp] theorem State.setPort_ss (s : State) (p : Port) (v : PortState) : (s.setPort p v).ss = s.ss := by cases p <;> rfl
@[simp] theorem State.setPort_oq (s : State) (p : Port) (v : PortState) : (s.setPort p v).oq = s.oq := by cases p <;> rfl
@[simp] theorem State.setPort_cu (s : State) (p : Port) (v : PortState) : (s.setPort p v).cu = s.cu := by cases p <;> rfl
@[simp] theorem State.setPort_avc (s : State) (p : Port) (v : PortState) : (s.setPort p v).avc = s.avc := by cases p <;> rfl
@[simp] theorem State.setPort_hmu (s : State) (p : Port) (v : PortState) : (s.setPort p v).hmu = s.hmu := by cases p <;> rfl
@[simp] theorem State.setPort_upu (s : State) (p : Port) (v : PortState) : (s.setPort p v).upu = s.upu := by cases p <;> rfl
@[simp] theorem State.setPort_au (s : State) (p : Port) (v : PortState) : (s.setPort p v).au = s.au := by cases p <;> rfl
@[simp] theorem State.setPort_os (s : State) (p : Port) (v : PortState) : (s.setPort p v).os = s.os := by cases p <;> rfl
@[simp] theorem State.setPort_set (s : State) (p : Port) (v : PortState) : (s.setPort p v).set = s.set := by cases p <;> rfl
@[simp] theorem State.setPort_pending (s : State) (p : Port) (v : PortState) : (s.setPort p v).pending = s.pending := by cases p <;> rfl
@[simp] theorem State.setPort_free (s : State) (p : Port) (v : PortState) : (s.setPort p v).free = s.free := by cases p <;> rfl

/-! ## setOutcomes -/

@[simp] theorem State.setOutcomes_clock (s : State) (p : Port) (l : List (Slot × OutcomeRecord)) : (s.setOutcomes p l).clock = s.clock := by cases p <;> rfl
@[simp] theorem State.setOutcomes_me (s : State) (p : Port) (l : List (Slot × OutcomeRecord)) : (s.setOutcomes p l).me = s.me := by cases p <;> rfl
@[simp] theorem State.setOutcomes_ss (s : State) (p : Port) (l : List (Slot × OutcomeRecord)) : (s.setOutcomes p l).ss = s.ss := by cases p <;> rfl
@[simp] theorem State.setOutcomes_oq (s : State) (p : Port) (l : List (Slot × OutcomeRecord)) : (s.setOutcomes p l).oq = s.oq := by cases p <;> rfl
@[simp] theorem State.setOutcomes_cu (s : State) (p : Port) (l : List (Slot × OutcomeRecord)) : (s.setOutcomes p l).cu = s.cu := by cases p <;> rfl
@[simp] theorem State.setOutcomes_avc (s : State) (p : Port) (l : List (Slot × OutcomeRecord)) : (s.setOutcomes p l).avc = s.avc := by cases p <;> rfl
@[simp] theorem State.setOutcomes_hmu (s : State) (p : Port) (l : List (Slot × OutcomeRecord)) : (s.setOutcomes p l).hmu = s.hmu := by cases p <;> rfl
@[simp] theorem State.setOutcomes_upu (s : State) (p : Port) (l : List (Slot × OutcomeRecord)) : (s.setOutcomes p l).upu = s.upu := by cases p <;> rfl
@[simp] theorem State.setOutcomes_au (s : State) (p : Port) (l : List (Slot × OutcomeRecord)) : (s.setOutcomes p l).au = s.au := by cases p <;> rfl
@[simp] theorem State.setOutcomes_pi (s : State) (p : Port) (l : List (Slot × OutcomeRecord)) : (s.setOutcomes p l).pi = s.pi := by cases p <;> rfl
@[simp] theorem State.setOutcomes_set (s : State) (p : Port) (l : List (Slot × OutcomeRecord)) : (s.setOutcomes p l).set = s.set := by cases p <;> rfl
@[simp] theorem State.setOutcomes_pending (s : State) (p : Port) (l : List (Slot × OutcomeRecord)) : (s.setOutcomes p l).pending = s.pending := by cases p <;> rfl
@[simp] theorem State.setOutcomes_free (s : State) (p : Port) (l : List (Slot × OutcomeRecord)) : (s.setOutcomes p l).free = s.free := by cases p <;> rfl

/-! ## setDetector -/

@[simp] theorem State.setDetector_clock (s : State) (p : Phase) (d : Detector) : (s.setDetector p d).clock = s.clock := by cases p <;> rfl
@[simp] theorem State.setDetector_ss (s : State) (p : Phase) (d : Detector) : (s.setDetector p d).ss = s.ss := by cases p <;> rfl
@[simp] theorem State.setDetector_oq (s : State) (p : Phase) (d : Detector) : (s.setDetector p d).oq = s.oq := by cases p <;> rfl
@[simp] theorem State.setDetector_cu (s : State) (p : Phase) (d : Detector) : (s.setDetector p d).cu = s.cu := by cases p <;> rfl
@[simp] theorem State.setDetector_avc (s : State) (p : Phase) (d : Detector) : (s.setDetector p d).avc = s.avc := by cases p <;> rfl
@[simp] theorem State.setDetector_hmu (s : State) (p : Phase) (d : Detector) : (s.setDetector p d).hmu = s.hmu := by cases p <;> rfl
@[simp] theorem State.setDetector_upu (s : State) (p : Phase) (d : Detector) : (s.setDetector p d).upu = s.upu := by cases p <;> rfl
@[simp] theorem State.setDetector_au (s : State) (p : Phase) (d : Detector) : (s.setDetector p d).au = s.au := by cases p <;> rfl
@[simp] theorem State.setDetector_pi (s : State) (p : Phase) (d : Detector) : (s.setDetector p d).pi = s.pi := by cases p <;> rfl
@[simp] theorem State.setDetector_os (s : State) (p : Phase) (d : Detector) : (s.setDetector p d).os = s.os := by cases p <;> rfl
@[simp] theorem State.setDetector_set (s : State) (p : Phase) (d : Detector) : (s.setDetector p d).set = s.set := by cases p <;> rfl
@[simp] theorem State.setDetector_pending (s : State) (p : Phase) (d : Detector) : (s.setDetector p d).pending = s.pending := by cases p <;> rfl
@[simp] theorem State.setDetector_free (s : State) (p : Phase) (d : Detector) : (s.setDetector p d).free = s.free := by cases p <;> rfl

/-! ## setMonitor -/

@[simp] theorem State.setMonitor_clock (s : State) (m : MonitorId) (v : Monitor) : (s.setMonitor m v).clock = s.clock := rfl
@[simp] theorem State.setMonitor_me (s : State) (m : MonitorId) (v : Monitor) : (s.setMonitor m v).me = s.me := rfl
@[simp] theorem State.setMonitor_ss (s : State) (m : MonitorId) (v : Monitor) : (s.setMonitor m v).ss = s.ss := rfl
@[simp] theorem State.setMonitor_oq (s : State) (m : MonitorId) (v : Monitor) : (s.setMonitor m v).oq = s.oq := rfl
@[simp] theorem State.setMonitor_cu (s : State) (m : MonitorId) (v : Monitor) : (s.setMonitor m v).cu = s.cu := rfl
@[simp] theorem State.setMonitor_avc (s : State) (m : MonitorId) (v : Monitor) : (s.setMonitor m v).avc = s.avc := rfl
@[simp] theorem State.setMonitor_upu (s : State) (m : MonitorId) (v : Monitor) : (s.setMonitor m v).upu = s.upu := rfl
@[simp] theorem State.setMonitor_au (s : State) (m : MonitorId) (v : Monitor) : (s.setMonitor m v).au = s.au := rfl
@[simp] theorem State.setMonitor_pi (s : State) (m : MonitorId) (v : Monitor) : (s.setMonitor m v).pi = s.pi := rfl
@[simp] theorem State.setMonitor_os (s : State) (m : MonitorId) (v : Monitor) : (s.setMonitor m v).os = s.os := rfl
@[simp] theorem State.setMonitor_set (s : State) (m : MonitorId) (v : Monitor) : (s.setMonitor m v).set = s.set := rfl
@[simp] theorem State.setMonitor_pending (s : State) (m : MonitorId) (v : Monitor) : (s.setMonitor m v).pending = s.pending := rfl
@[simp] theorem State.setMonitor_free (s : State) (m : MonitorId) (v : Monitor) : (s.setMonitor m v).free = s.free := rfl

/-! ## setFlags -/

@[simp] theorem State.setFlags_clock (s : State) : (s.setFlags).clock = s.clock := rfl
@[simp] theorem State.setFlags_me (s : State) : (s.setFlags).me = s.me := rfl
@[simp] theorem State.setFlags_ss (s : State) : (s.setFlags).ss = s.ss := rfl
@[simp] theorem State.setFlags_oq (s : State) : (s.setFlags).oq = s.oq := rfl
@[simp] theorem State.setFlags_cu (s : State) : (s.setFlags).cu = s.cu := rfl
@[simp] theorem State.setFlags_avc (s : State) : (s.setFlags).avc = s.avc := rfl
@[simp] theorem State.setFlags_hmu (s : State) : (s.setFlags).hmu = s.hmu := rfl
@[simp] theorem State.setFlags_upu (s : State) : (s.setFlags).upu = s.upu := rfl
@[simp] theorem State.setFlags_au (s : State) : (s.setFlags).au = s.au := rfl
@[simp] theorem State.setFlags_os (s : State) : (s.setFlags).os = s.os := rfl
@[simp] theorem State.setFlags_set (s : State) : (s.setFlags).set = s.set := rfl
@[simp] theorem State.setFlags_pending (s : State) : (s.setFlags).pending = s.pending := rfl
@[simp] theorem State.setFlags_free (s : State) : (s.setFlags).free = s.free := rfl

/-! ## setFlagsIf -/

@[simp] theorem State.setFlagsIf_clock (s : State) (c : Bool) : (s.setFlagsIf c).clock = s.clock := by cases c <;> rfl
@[simp] theorem State.setFlagsIf_me (s : State) (c : Bool) : (s.setFlagsIf c).me = s.me := by cases c <;> rfl
@[simp] theorem State.setFlagsIf_ss (s : State) (c : Bool) : (s.setFlagsIf c).ss = s.ss := by cases c <;> rfl
@[simp] theorem State.setFlagsIf_oq (s : State) (c : Bool) : (s.setFlagsIf c).oq = s.oq := by cases c <;> rfl
@[simp] theorem State.setFlagsIf_cu (s : State) (c : Bool) : (s.setFlagsIf c).cu = s.cu := by cases c <;> rfl
@[simp] theorem State.setFlagsIf_avc (s : State) (c : Bool) : (s.setFlagsIf c).avc = s.avc := by cases c <;> rfl
@[simp] theorem State.setFlagsIf_hmu (s : State) (c : Bool) : (s.setFlagsIf c).hmu = s.hmu := by cases c <;> rfl
@[simp] theorem State.setFlagsIf_upu (s : State) (c : Bool) : (s.setFlagsIf c).upu = s.upu := by cases c <;> rfl
@[simp] theorem State.setFlagsIf_au (s : State) (c : Bool) : (s.setFlagsIf c).au = s.au := by cases c <;> rfl
@[simp] theorem State.setFlagsIf_os (s : State) (c : Bool) : (s.setFlagsIf c).os = s.os := by cases c <;> rfl
@[simp] theorem State.setFlagsIf_set (s : State) (c : Bool) : (s.setFlagsIf c).set = s.set := by cases c <;> rfl
@[simp] theorem State.setFlagsIf_pending (s : State) (c : Bool) : (s.setFlagsIf c).pending = s.pending := by cases c <;> rfl
@[simp] theorem State.setFlagsIf_free (s : State) (c : Bool) : (s.setFlagsIf c).free = s.free := by cases c <;> rfl

/-! ## modEntry -/

@[simp] theorem State.modEntry_clock (s : State) (k : StepId) (f : Entry → Entry) : (s.modEntry k f).clock = s.clock := rfl
@[simp] theorem State.modEntry_me (s : State) (k : StepId) (f : Entry → Entry) : (s.modEntry k f).me = s.me := rfl
@[simp] theorem State.modEntry_ss (s : State) (k : StepId) (f : Entry → Entry) : (s.modEntry k f).ss = s.ss := rfl
@[simp] theorem State.modEntry_cu (s : State) (k : StepId) (f : Entry → Entry) : (s.modEntry k f).cu = s.cu := rfl
@[simp] theorem State.modEntry_avc (s : State) (k : StepId) (f : Entry → Entry) : (s.modEntry k f).avc = s.avc := rfl
@[simp] theorem State.modEntry_hmu (s : State) (k : StepId) (f : Entry → Entry) : (s.modEntry k f).hmu = s.hmu := rfl
@[simp] theorem State.modEntry_upu (s : State) (k : StepId) (f : Entry → Entry) : (s.modEntry k f).upu = s.upu := rfl
@[simp] theorem State.modEntry_au (s : State) (k : StepId) (f : Entry → Entry) : (s.modEntry k f).au = s.au := rfl
@[simp] theorem State.modEntry_pi (s : State) (k : StepId) (f : Entry → Entry) : (s.modEntry k f).pi = s.pi := rfl
@[simp] theorem State.modEntry_os (s : State) (k : StepId) (f : Entry → Entry) : (s.modEntry k f).os = s.os := rfl
@[simp] theorem State.modEntry_set (s : State) (k : StepId) (f : Entry → Entry) : (s.modEntry k f).set = s.set := rfl
@[simp] theorem State.modEntry_pending (s : State) (k : StepId) (f : Entry → Entry) : (s.modEntry k f).pending = s.pending := rfl
@[simp] theorem State.modEntry_free (s : State) (k : StepId) (f : Entry → Entry) : (s.modEntry k f).free = s.free := rfl

/-! ## admitNew -/

@[simp] theorem State.admitNew_clock (s : State) (p : Posting) : (s.admitNew p).clock = s.clock := rfl
@[simp] theorem State.admitNew_me (s : State) (p : Posting) : (s.admitNew p).me = s.me := rfl
@[simp] theorem State.admitNew_ss (s : State) (p : Posting) : (s.admitNew p).ss = s.ss := rfl
@[simp] theorem State.admitNew_cu (s : State) (p : Posting) : (s.admitNew p).cu = s.cu := rfl
@[simp] theorem State.admitNew_avc (s : State) (p : Posting) : (s.admitNew p).avc = s.avc := rfl
@[simp] theorem State.admitNew_hmu (s : State) (p : Posting) : (s.admitNew p).hmu = s.hmu := rfl
@[simp] theorem State.admitNew_upu (s : State) (p : Posting) : (s.admitNew p).upu = s.upu := rfl
@[simp] theorem State.admitNew_au (s : State) (p : Posting) : (s.admitNew p).au = s.au := rfl
@[simp] theorem State.admitNew_pi (s : State) (p : Posting) : (s.admitNew p).pi = s.pi := rfl
@[simp] theorem State.admitNew_os (s : State) (p : Posting) : (s.admitNew p).os = s.os := rfl
@[simp] theorem State.admitNew_set (s : State) (p : Posting) : (s.admitNew p).set = s.set := rfl
@[simp] theorem State.admitNew_pending (s : State) (p : Posting) : (s.admitNew p).pending = s.pending := rfl
@[simp] theorem State.admitNew_free (s : State) (p : Posting) : (s.admitNew p).free = s.free := rfl

/-! ## startOperate -/

@[simp] theorem State.startOperate_clock (s : State) : (s.startOperate).clock = s.clock := rfl
@[simp] theorem State.startOperate_me (s : State) : (s.startOperate).me = s.me := rfl
@[simp] theorem State.startOperate_ss (s : State) : (s.startOperate).ss = s.ss := rfl
@[simp] theorem State.startOperate_cu (s : State) : (s.startOperate).cu = s.cu := rfl
@[simp] theorem State.startOperate_avc (s : State) : (s.startOperate).avc = s.avc := rfl
@[simp] theorem State.startOperate_hmu (s : State) : (s.startOperate).hmu = s.hmu := rfl
@[simp] theorem State.startOperate_upu (s : State) : (s.startOperate).upu = s.upu := rfl
@[simp] theorem State.startOperate_au (s : State) : (s.startOperate).au = s.au := rfl
@[simp] theorem State.startOperate_pi (s : State) : (s.startOperate).pi = s.pi := rfl
@[simp] theorem State.startOperate_os (s : State) : (s.startOperate).os = s.os := rfl
@[simp] theorem State.startOperate_set (s : State) : (s.startOperate).set = s.set := rfl
@[simp] theorem State.startOperate_pending (s : State) : (s.startOperate).pending = s.pending := rfl
@[simp] theorem State.startOperate_free (s : State) : (s.startOperate).free = s.free := rfl

/-! ## stopOperate -/

@[simp] theorem State.stopOperate_clock (s : State) : (s.stopOperate).clock = s.clock := rfl
@[simp] theorem State.stopOperate_me (s : State) : (s.stopOperate).me = s.me := rfl
@[simp] theorem State.stopOperate_ss (s : State) : (s.stopOperate).ss = s.ss := rfl
@[simp] theorem State.stopOperate_cu (s : State) : (s.stopOperate).cu = s.cu := rfl
@[simp] theorem State.stopOperate_avc (s : State) : (s.stopOperate).avc = s.avc := rfl
@[simp] theorem State.stopOperate_hmu (s : State) : (s.stopOperate).hmu = s.hmu := rfl
@[simp] theorem State.stopOperate_upu (s : State) : (s.stopOperate).upu = s.upu := rfl
@[simp] theorem State.stopOperate_au (s : State) : (s.stopOperate).au = s.au := rfl
@[simp] theorem State.stopOperate_pi (s : State) : (s.stopOperate).pi = s.pi := rfl
@[simp] theorem State.stopOperate_os (s : State) : (s.stopOperate).os = s.os := rfl
@[simp] theorem State.stopOperate_set (s : State) : (s.stopOperate).set = s.set := rfl
@[simp] theorem State.stopOperate_pending (s : State) : (s.stopOperate).pending = s.pending := rfl
@[simp] theorem State.stopOperate_free (s : State) : (s.stopOperate).free = s.free := rfl

/-! ## recordRise -/

@[simp] theorem State.recordRise_clock (s : State) (a : Armed) (v : Option Nat) (n : Nat) (c : Option SkipCause) : (s.recordRise a v n c).clock = s.clock := rfl
@[simp] theorem State.recordRise_me (s : State) (a : Armed) (v : Option Nat) (n : Nat) (c : Option SkipCause) : (s.recordRise a v n c).me = s.me := rfl
@[simp] theorem State.recordRise_ss (s : State) (a : Armed) (v : Option Nat) (n : Nat) (c : Option SkipCause) : (s.recordRise a v n c).ss = s.ss := rfl
@[simp] theorem State.recordRise_oq (s : State) (a : Armed) (v : Option Nat) (n : Nat) (c : Option SkipCause) : (s.recordRise a v n c).oq = s.oq := rfl
@[simp] theorem State.recordRise_avc (s : State) (a : Armed) (v : Option Nat) (n : Nat) (c : Option SkipCause) : (s.recordRise a v n c).avc = s.avc := rfl
@[simp] theorem State.recordRise_hmu (s : State) (a : Armed) (v : Option Nat) (n : Nat) (c : Option SkipCause) : (s.recordRise a v n c).hmu = s.hmu := rfl
@[simp] theorem State.recordRise_upu (s : State) (a : Armed) (v : Option Nat) (n : Nat) (c : Option SkipCause) : (s.recordRise a v n c).upu = s.upu := rfl
@[simp] theorem State.recordRise_au (s : State) (a : Armed) (v : Option Nat) (n : Nat) (c : Option SkipCause) : (s.recordRise a v n c).au = s.au := rfl
@[simp] theorem State.recordRise_pi (s : State) (a : Armed) (v : Option Nat) (n : Nat) (c : Option SkipCause) : (s.recordRise a v n c).pi = s.pi := rfl
@[simp] theorem State.recordRise_os (s : State) (a : Armed) (v : Option Nat) (n : Nat) (c : Option SkipCause) : (s.recordRise a v n c).os = s.os := rfl
@[simp] theorem State.recordRise_set (s : State) (a : Armed) (v : Option Nat) (n : Nat) (c : Option SkipCause) : (s.recordRise a v n c).set = s.set := rfl
@[simp] theorem State.recordRise_pending (s : State) (a : Armed) (v : Option Nat) (n : Nat) (c : Option SkipCause) : (s.recordRise a v n c).pending = s.pending := rfl
@[simp] theorem State.recordRise_free (s : State) (a : Armed) (v : Option Nat) (n : Nat) (c : Option SkipCause) : (s.recordRise a v n c).free = s.free := rfl

/-! ## arm -/

@[simp] theorem State.arm_clock (s : State) (k : StepId) (o : OpKind) (t : StepState) (c : Bool) : (s.arm k o t c).clock = s.clock := rfl
@[simp] theorem State.arm_me (s : State) (k : StepId) (o : OpKind) (t : StepState) (c : Bool) : (s.arm k o t c).me = s.me := rfl
@[simp] theorem State.arm_ss (s : State) (k : StepId) (o : OpKind) (t : StepState) (c : Bool) : (s.arm k o t c).ss = s.ss := rfl
@[simp] theorem State.arm_oq (s : State) (k : StepId) (o : OpKind) (t : StepState) (c : Bool) : (s.arm k o t c).oq = s.oq := rfl
@[simp] theorem State.arm_avc (s : State) (k : StepId) (o : OpKind) (t : StepState) (c : Bool) : (s.arm k o t c).avc = s.avc := rfl
@[simp] theorem State.arm_hmu (s : State) (k : StepId) (o : OpKind) (t : StepState) (c : Bool) : (s.arm k o t c).hmu = s.hmu := rfl
@[simp] theorem State.arm_upu (s : State) (k : StepId) (o : OpKind) (t : StepState) (c : Bool) : (s.arm k o t c).upu = s.upu := rfl
@[simp] theorem State.arm_au (s : State) (k : StepId) (o : OpKind) (t : StepState) (c : Bool) : (s.arm k o t c).au = s.au := rfl
@[simp] theorem State.arm_pi (s : State) (k : StepId) (o : OpKind) (t : StepState) (c : Bool) : (s.arm k o t c).pi = s.pi := rfl
@[simp] theorem State.arm_os (s : State) (k : StepId) (o : OpKind) (t : StepState) (c : Bool) : (s.arm k o t c).os = s.os := rfl
@[simp] theorem State.arm_set (s : State) (k : StepId) (o : OpKind) (t : StepState) (c : Bool) : (s.arm k o t c).set = s.set := rfl
@[simp] theorem State.arm_pending (s : State) (k : StepId) (o : OpKind) (t : StepState) (c : Bool) : (s.arm k o t c).pending = s.pending := rfl
@[simp] theorem State.arm_free (s : State) (k : StepId) (o : OpKind) (t : StepState) (c : Bool) : (s.arm k o t c).free = s.free := rfl

/-! ## writeState -/

@[simp] theorem State.writeState_clock (s : State) (k : StepId) (n : StepState) (l : Option LockoutCause) (f : Option FailureCause) : (s.writeState k n l f).clock = s.clock := rfl
@[simp] theorem State.writeState_me (s : State) (k : StepId) (n : StepState) (l : Option LockoutCause) (f : Option FailureCause) : (s.writeState k n l f).me = s.me := rfl
@[simp] theorem State.writeState_oq (s : State) (k : StepId) (n : StepState) (l : Option LockoutCause) (f : Option FailureCause) : (s.writeState k n l f).oq = s.oq := rfl
@[simp] theorem State.writeState_cu (s : State) (k : StepId) (n : StepState) (l : Option LockoutCause) (f : Option FailureCause) : (s.writeState k n l f).cu = s.cu := rfl
@[simp] theorem State.writeState_avc (s : State) (k : StepId) (n : StepState) (l : Option LockoutCause) (f : Option FailureCause) : (s.writeState k n l f).avc = s.avc := rfl
@[simp] theorem State.writeState_hmu (s : State) (k : StepId) (n : StepState) (l : Option LockoutCause) (f : Option FailureCause) : (s.writeState k n l f).hmu = s.hmu := rfl
@[simp] theorem State.writeState_upu (s : State) (k : StepId) (n : StepState) (l : Option LockoutCause) (f : Option FailureCause) : (s.writeState k n l f).upu = s.upu := rfl
@[simp] theorem State.writeState_au (s : State) (k : StepId) (n : StepState) (l : Option LockoutCause) (f : Option FailureCause) : (s.writeState k n l f).au = s.au := rfl
@[simp] theorem State.writeState_pi (s : State) (k : StepId) (n : StepState) (l : Option LockoutCause) (f : Option FailureCause) : (s.writeState k n l f).pi = s.pi := rfl
@[simp] theorem State.writeState_os (s : State) (k : StepId) (n : StepState) (l : Option LockoutCause) (f : Option FailureCause) : (s.writeState k n l f).os = s.os := rfl
@[simp] theorem State.writeState_set (s : State) (k : StepId) (n : StepState) (l : Option LockoutCause) (f : Option FailureCause) : (s.writeState k n l f).set = s.set := rfl
@[simp] theorem State.writeState_pending (s : State) (k : StepId) (n : StepState) (l : Option LockoutCause) (f : Option FailureCause) : (s.writeState k n l f).pending = s.pending := rfl
@[simp] theorem State.writeState_free (s : State) (k : StepId) (n : StepState) (l : Option LockoutCause) (f : Option FailureCause) : (s.writeState k n l f).free = s.free := rfl

/-! ## rotate -/

@[simp] theorem State.rotate_clock (s : State) (k : StepId) (n : StepState) : (s.rotate k n).clock = s.clock := rfl
@[simp] theorem State.rotate_me (s : State) (k : StepId) (n : StepState) : (s.rotate k n).me = s.me := rfl
@[simp] theorem State.rotate_oq (s : State) (k : StepId) (n : StepState) : (s.rotate k n).oq = s.oq := rfl
@[simp] theorem State.rotate_cu (s : State) (k : StepId) (n : StepState) : (s.rotate k n).cu = s.cu := rfl
@[simp] theorem State.rotate_avc (s : State) (k : StepId) (n : StepState) : (s.rotate k n).avc = s.avc := rfl
@[simp] theorem State.rotate_hmu (s : State) (k : StepId) (n : StepState) : (s.rotate k n).hmu = s.hmu := rfl
@[simp] theorem State.rotate_upu (s : State) (k : StepId) (n : StepState) : (s.rotate k n).upu = s.upu := rfl
@[simp] theorem State.rotate_au (s : State) (k : StepId) (n : StepState) : (s.rotate k n).au = s.au := rfl
@[simp] theorem State.rotate_pi (s : State) (k : StepId) (n : StepState) : (s.rotate k n).pi = s.pi := rfl
@[simp] theorem State.rotate_os (s : State) (k : StepId) (n : StepState) : (s.rotate k n).os = s.os := rfl
@[simp] theorem State.rotate_set (s : State) (k : StepId) (n : StepState) : (s.rotate k n).set = s.set := rfl
@[simp] theorem State.rotate_pending (s : State) (k : StepId) (n : StepState) : (s.rotate k n).pending = s.pending := rfl
@[simp] theorem State.rotate_free (s : State) (k : StepId) (n : StepState) : (s.rotate k n).free = s.free := rfl

/-! ## countClose -/

@[simp] theorem State.countClose_clock (s : State) (k : StepId) : (s.countClose k).clock = s.clock := rfl
@[simp] theorem State.countClose_me (s : State) (k : StepId) : (s.countClose k).me = s.me := rfl
@[simp] theorem State.countClose_oq (s : State) (k : StepId) : (s.countClose k).oq = s.oq := rfl
@[simp] theorem State.countClose_cu (s : State) (k : StepId) : (s.countClose k).cu = s.cu := rfl
@[simp] theorem State.countClose_avc (s : State) (k : StepId) : (s.countClose k).avc = s.avc := rfl
@[simp] theorem State.countClose_hmu (s : State) (k : StepId) : (s.countClose k).hmu = s.hmu := rfl
@[simp] theorem State.countClose_upu (s : State) (k : StepId) : (s.countClose k).upu = s.upu := rfl
@[simp] theorem State.countClose_au (s : State) (k : StepId) : (s.countClose k).au = s.au := rfl
@[simp] theorem State.countClose_pi (s : State) (k : StepId) : (s.countClose k).pi = s.pi := rfl
@[simp] theorem State.countClose_os (s : State) (k : StepId) : (s.countClose k).os = s.os := rfl
@[simp] theorem State.countClose_set (s : State) (k : StepId) : (s.countClose k).set = s.set := rfl
@[simp] theorem State.countClose_pending (s : State) (k : StepId) : (s.countClose k).pending = s.pending := rfl
@[simp] theorem State.countClose_free (s : State) (k : StepId) : (s.countClose k).free = s.free := rfl

/-! ## loadDischarge -/

@[simp] theorem State.loadDischarge_clock (s : State) (k : StepId) : (s.loadDischarge k).clock = s.clock := rfl
@[simp] theorem State.loadDischarge_me (s : State) (k : StepId) : (s.loadDischarge k).me = s.me := rfl
@[simp] theorem State.loadDischarge_oq (s : State) (k : StepId) : (s.loadDischarge k).oq = s.oq := rfl
@[simp] theorem State.loadDischarge_cu (s : State) (k : StepId) : (s.loadDischarge k).cu = s.cu := rfl
@[simp] theorem State.loadDischarge_avc (s : State) (k : StepId) : (s.loadDischarge k).avc = s.avc := rfl
@[simp] theorem State.loadDischarge_hmu (s : State) (k : StepId) : (s.loadDischarge k).hmu = s.hmu := rfl
@[simp] theorem State.loadDischarge_upu (s : State) (k : StepId) : (s.loadDischarge k).upu = s.upu := rfl
@[simp] theorem State.loadDischarge_au (s : State) (k : StepId) : (s.loadDischarge k).au = s.au := rfl
@[simp] theorem State.loadDischarge_pi (s : State) (k : StepId) : (s.loadDischarge k).pi = s.pi := rfl
@[simp] theorem State.loadDischarge_os (s : State) (k : StepId) : (s.loadDischarge k).os = s.os := rfl
@[simp] theorem State.loadDischarge_set (s : State) (k : StepId) : (s.loadDischarge k).set = s.set := rfl
@[simp] theorem State.loadDischarge_pending (s : State) (k : StepId) : (s.loadDischarge k).pending = s.pending := rfl
@[simp] theorem State.loadDischarge_free (s : State) (k : StepId) : (s.loadDischarge k).free = s.free := rfl

/-! ## recordPosition -/

@[simp] theorem State.recordPosition_clock (s : State) (k : StepId) (p : Position) : (s.recordPosition k p).clock = s.clock := rfl
@[simp] theorem State.recordPosition_me (s : State) (k : StepId) (p : Position) : (s.recordPosition k p).me = s.me := rfl
@[simp] theorem State.recordPosition_oq (s : State) (k : StepId) (p : Position) : (s.recordPosition k p).oq = s.oq := rfl
@[simp] theorem State.recordPosition_cu (s : State) (k : StepId) (p : Position) : (s.recordPosition k p).cu = s.cu := rfl
@[simp] theorem State.recordPosition_avc (s : State) (k : StepId) (p : Position) : (s.recordPosition k p).avc = s.avc := rfl
@[simp] theorem State.recordPosition_hmu (s : State) (k : StepId) (p : Position) : (s.recordPosition k p).hmu = s.hmu := rfl
@[simp] theorem State.recordPosition_upu (s : State) (k : StepId) (p : Position) : (s.recordPosition k p).upu = s.upu := rfl
@[simp] theorem State.recordPosition_au (s : State) (k : StepId) (p : Position) : (s.recordPosition k p).au = s.au := rfl
@[simp] theorem State.recordPosition_pi (s : State) (k : StepId) (p : Position) : (s.recordPosition k p).pi = s.pi := rfl
@[simp] theorem State.recordPosition_os (s : State) (k : StepId) (p : Position) : (s.recordPosition k p).os = s.os := rfl
@[simp] theorem State.recordPosition_set (s : State) (k : StepId) (p : Position) : (s.recordPosition k p).set = s.set := rfl
@[simp] theorem State.recordPosition_pending (s : State) (k : StepId) (p : Position) : (s.recordPosition k p).pending = s.pending := rfl
@[simp] theorem State.recordPosition_free (s : State) (k : StepId) (p : Position) : (s.recordPosition k p).free = s.free := rfl

/-! ## setRun -/

@[simp] theorem State.setRun_clock (s : State) (n : Nat) : (s.setRun n).clock = s.clock := rfl
@[simp] theorem State.setRun_me (s : State) (n : Nat) : (s.setRun n).me = s.me := rfl
@[simp] theorem State.setRun_ss (s : State) (n : Nat) : (s.setRun n).ss = s.ss := rfl
@[simp] theorem State.setRun_oq (s : State) (n : Nat) : (s.setRun n).oq = s.oq := rfl
@[simp] theorem State.setRun_cu (s : State) (n : Nat) : (s.setRun n).cu = s.cu := rfl
@[simp] theorem State.setRun_hmu (s : State) (n : Nat) : (s.setRun n).hmu = s.hmu := rfl
@[simp] theorem State.setRun_upu (s : State) (n : Nat) : (s.setRun n).upu = s.upu := rfl
@[simp] theorem State.setRun_au (s : State) (n : Nat) : (s.setRun n).au = s.au := rfl
@[simp] theorem State.setRun_pi (s : State) (n : Nat) : (s.setRun n).pi = s.pi := rfl
@[simp] theorem State.setRun_os (s : State) (n : Nat) : (s.setRun n).os = s.os := rfl
@[simp] theorem State.setRun_set (s : State) (n : Nat) : (s.setRun n).set = s.set := rfl
@[simp] theorem State.setRun_pending (s : State) (n : Nat) : (s.setRun n).pending = s.pending := rfl
@[simp] theorem State.setRun_free (s : State) (n : Nat) : (s.setRun n).free = s.free := rfl

/-! ## setOv -/

@[simp] theorem State.setOv_clock (s : State) (n : Nat) : (s.setOv n).clock = s.clock := rfl
@[simp] theorem State.setOv_me (s : State) (n : Nat) : (s.setOv n).me = s.me := rfl
@[simp] theorem State.setOv_ss (s : State) (n : Nat) : (s.setOv n).ss = s.ss := rfl
@[simp] theorem State.setOv_oq (s : State) (n : Nat) : (s.setOv n).oq = s.oq := rfl
@[simp] theorem State.setOv_cu (s : State) (n : Nat) : (s.setOv n).cu = s.cu := rfl
@[simp] theorem State.setOv_hmu (s : State) (n : Nat) : (s.setOv n).hmu = s.hmu := rfl
@[simp] theorem State.setOv_upu (s : State) (n : Nat) : (s.setOv n).upu = s.upu := rfl
@[simp] theorem State.setOv_au (s : State) (n : Nat) : (s.setOv n).au = s.au := rfl
@[simp] theorem State.setOv_pi (s : State) (n : Nat) : (s.setOv n).pi = s.pi := rfl
@[simp] theorem State.setOv_os (s : State) (n : Nat) : (s.setOv n).os = s.os := rfl
@[simp] theorem State.setOv_set (s : State) (n : Nat) : (s.setOv n).set = s.set := rfl
@[simp] theorem State.setOv_pending (s : State) (n : Nat) : (s.setOv n).pending = s.pending := rfl
@[simp] theorem State.setOv_free (s : State) (n : Nat) : (s.setOv n).free = s.free := rfl

/-! ## setD -/

@[simp] theorem State.setD_clock (s : State) (a b : Nat) : (s.setD a b).clock = s.clock := rfl
@[simp] theorem State.setD_me (s : State) (a b : Nat) : (s.setD a b).me = s.me := rfl
@[simp] theorem State.setD_ss (s : State) (a b : Nat) : (s.setD a b).ss = s.ss := rfl
@[simp] theorem State.setD_oq (s : State) (a b : Nat) : (s.setD a b).oq = s.oq := rfl
@[simp] theorem State.setD_cu (s : State) (a b : Nat) : (s.setD a b).cu = s.cu := rfl
@[simp] theorem State.setD_hmu (s : State) (a b : Nat) : (s.setD a b).hmu = s.hmu := rfl
@[simp] theorem State.setD_upu (s : State) (a b : Nat) : (s.setD a b).upu = s.upu := rfl
@[simp] theorem State.setD_au (s : State) (a b : Nat) : (s.setD a b).au = s.au := rfl
@[simp] theorem State.setD_pi (s : State) (a b : Nat) : (s.setD a b).pi = s.pi := rfl
@[simp] theorem State.setD_os (s : State) (a b : Nat) : (s.setD a b).os = s.os := rfl
@[simp] theorem State.setD_set (s : State) (a b : Nat) : (s.setD a b).set = s.set := rfl
@[simp] theorem State.setD_pending (s : State) (a b : Nat) : (s.setD a b).pending = s.pending := rfl
@[simp] theorem State.setD_free (s : State) (a b : Nat) : (s.setD a b).free = s.free := rfl

/-! ## decide -/

@[simp] theorem State.setDecision_clock (s : State) (d : Decision) : (s.setDecision d).clock = s.clock := rfl
@[simp] theorem State.setDecision_me (s : State) (d : Decision) : (s.setDecision d).me = s.me := rfl
@[simp] theorem State.setDecision_ss (s : State) (d : Decision) : (s.setDecision d).ss = s.ss := rfl
@[simp] theorem State.setDecision_oq (s : State) (d : Decision) : (s.setDecision d).oq = s.oq := rfl
@[simp] theorem State.setDecision_cu (s : State) (d : Decision) : (s.setDecision d).cu = s.cu := rfl
@[simp] theorem State.setDecision_hmu (s : State) (d : Decision) : (s.setDecision d).hmu = s.hmu := rfl
@[simp] theorem State.setDecision_upu (s : State) (d : Decision) : (s.setDecision d).upu = s.upu := rfl
@[simp] theorem State.setDecision_au (s : State) (d : Decision) : (s.setDecision d).au = s.au := rfl
@[simp] theorem State.setDecision_pi (s : State) (d : Decision) : (s.setDecision d).pi = s.pi := rfl
@[simp] theorem State.setDecision_os (s : State) (d : Decision) : (s.setDecision d).os = s.os := rfl
@[simp] theorem State.setDecision_set (s : State) (d : Decision) : (s.setDecision d).set = s.set := rfl
@[simp] theorem State.setDecision_pending (s : State) (d : Decision) : (s.setDecision d).pending = s.pending := rfl
@[simp] theorem State.setDecision_free (s : State) (d : Decision) : (s.setDecision d).free = s.free := rfl

/-! ## setAccumulator -/

@[simp] theorem State.setAccumulator_clock (s : State) (m : MonitorId) (n : Nat) : (s.setAccumulator m n).clock = s.clock := rfl
@[simp] theorem State.setAccumulator_me (s : State) (m : MonitorId) (n : Nat) : (s.setAccumulator m n).me = s.me := rfl
@[simp] theorem State.setAccumulator_ss (s : State) (m : MonitorId) (n : Nat) : (s.setAccumulator m n).ss = s.ss := rfl
@[simp] theorem State.setAccumulator_oq (s : State) (m : MonitorId) (n : Nat) : (s.setAccumulator m n).oq = s.oq := rfl
@[simp] theorem State.setAccumulator_cu (s : State) (m : MonitorId) (n : Nat) : (s.setAccumulator m n).cu = s.cu := rfl
@[simp] theorem State.setAccumulator_avc (s : State) (m : MonitorId) (n : Nat) : (s.setAccumulator m n).avc = s.avc := rfl
@[simp] theorem State.setAccumulator_upu (s : State) (m : MonitorId) (n : Nat) : (s.setAccumulator m n).upu = s.upu := rfl
@[simp] theorem State.setAccumulator_au (s : State) (m : MonitorId) (n : Nat) : (s.setAccumulator m n).au = s.au := rfl
@[simp] theorem State.setAccumulator_pi (s : State) (m : MonitorId) (n : Nat) : (s.setAccumulator m n).pi = s.pi := rfl
@[simp] theorem State.setAccumulator_os (s : State) (m : MonitorId) (n : Nat) : (s.setAccumulator m n).os = s.os := rfl
@[simp] theorem State.setAccumulator_set (s : State) (m : MonitorId) (n : Nat) : (s.setAccumulator m n).set = s.set := rfl
@[simp] theorem State.setAccumulator_pending (s : State) (m : MonitorId) (n : Nat) : (s.setAccumulator m n).pending = s.pending := rfl
@[simp] theorem State.setAccumulator_free (s : State) (m : MonitorId) (n : Nat) : (s.setAccumulator m n).free = s.free := rfl

/-! ## setDetune -/

@[simp] theorem State.setDetune_clock (s : State) (m : MonitorId) (d : LastDetune) : (s.setDetune m d).clock = s.clock := rfl
@[simp] theorem State.setDetune_me (s : State) (m : MonitorId) (d : LastDetune) : (s.setDetune m d).me = s.me := rfl
@[simp] theorem State.setDetune_ss (s : State) (m : MonitorId) (d : LastDetune) : (s.setDetune m d).ss = s.ss := rfl
@[simp] theorem State.setDetune_oq (s : State) (m : MonitorId) (d : LastDetune) : (s.setDetune m d).oq = s.oq := rfl
@[simp] theorem State.setDetune_cu (s : State) (m : MonitorId) (d : LastDetune) : (s.setDetune m d).cu = s.cu := rfl
@[simp] theorem State.setDetune_avc (s : State) (m : MonitorId) (d : LastDetune) : (s.setDetune m d).avc = s.avc := rfl
@[simp] theorem State.setDetune_upu (s : State) (m : MonitorId) (d : LastDetune) : (s.setDetune m d).upu = s.upu := rfl
@[simp] theorem State.setDetune_au (s : State) (m : MonitorId) (d : LastDetune) : (s.setDetune m d).au = s.au := rfl
@[simp] theorem State.setDetune_pi (s : State) (m : MonitorId) (d : LastDetune) : (s.setDetune m d).pi = s.pi := rfl
@[simp] theorem State.setDetune_os (s : State) (m : MonitorId) (d : LastDetune) : (s.setDetune m d).os = s.os := rfl
@[simp] theorem State.setDetune_set (s : State) (m : MonitorId) (d : LastDetune) : (s.setDetune m d).set = s.set := rfl
@[simp] theorem State.setDetune_pending (s : State) (m : MonitorId) (d : LastDetune) : (s.setDetune m d).pending = s.pending := rfl
@[simp] theorem State.setDetune_free (s : State) (m : MonitorId) (d : LastDetune) : (s.setDetune m d).free = s.free := rfl

/-! ## setCapture -/

@[simp] theorem State.setCapture_clock (s : State) (c : Option Capture) : (s.setCapture c).clock = s.clock := rfl
@[simp] theorem State.setCapture_me (s : State) (c : Option Capture) : (s.setCapture c).me = s.me := rfl
@[simp] theorem State.setCapture_ss (s : State) (c : Option Capture) : (s.setCapture c).ss = s.ss := rfl
@[simp] theorem State.setCapture_oq (s : State) (c : Option Capture) : (s.setCapture c).oq = s.oq := rfl
@[simp] theorem State.setCapture_cu (s : State) (c : Option Capture) : (s.setCapture c).cu = s.cu := rfl
@[simp] theorem State.setCapture_avc (s : State) (c : Option Capture) : (s.setCapture c).avc = s.avc := rfl
@[simp] theorem State.setCapture_hmu (s : State) (c : Option Capture) : (s.setCapture c).hmu = s.hmu := rfl
@[simp] theorem State.setCapture_au (s : State) (c : Option Capture) : (s.setCapture c).au = s.au := rfl
@[simp] theorem State.setCapture_pi (s : State) (c : Option Capture) : (s.setCapture c).pi = s.pi := rfl
@[simp] theorem State.setCapture_os (s : State) (c : Option Capture) : (s.setCapture c).os = s.os := rfl
@[simp] theorem State.setCapture_set (s : State) (c : Option Capture) : (s.setCapture c).set = s.set := rfl
@[simp] theorem State.setCapture_pending (s : State) (c : Option Capture) : (s.setCapture c).pending = s.pending := rfl
@[simp] theorem State.setCapture_free (s : State) (c : Option Capture) : (s.setCapture c).free = s.free := rfl

/-! ## setEdge -/

@[simp] theorem State.setEdge_clock (s : State) (g : Option TripEdge) : (s.setEdge g).clock = s.clock := rfl
@[simp] theorem State.setEdge_me (s : State) (g : Option TripEdge) : (s.setEdge g).me = s.me := rfl
@[simp] theorem State.setEdge_ss (s : State) (g : Option TripEdge) : (s.setEdge g).ss = s.ss := rfl
@[simp] theorem State.setEdge_oq (s : State) (g : Option TripEdge) : (s.setEdge g).oq = s.oq := rfl
@[simp] theorem State.setEdge_cu (s : State) (g : Option TripEdge) : (s.setEdge g).cu = s.cu := rfl
@[simp] theorem State.setEdge_avc (s : State) (g : Option TripEdge) : (s.setEdge g).avc = s.avc := rfl
@[simp] theorem State.setEdge_hmu (s : State) (g : Option TripEdge) : (s.setEdge g).hmu = s.hmu := rfl
@[simp] theorem State.setEdge_au (s : State) (g : Option TripEdge) : (s.setEdge g).au = s.au := rfl
@[simp] theorem State.setEdge_pi (s : State) (g : Option TripEdge) : (s.setEdge g).pi = s.pi := rfl
@[simp] theorem State.setEdge_os (s : State) (g : Option TripEdge) : (s.setEdge g).os = s.os := rfl
@[simp] theorem State.setEdge_set (s : State) (g : Option TripEdge) : (s.setEdge g).set = s.set := rfl
@[simp] theorem State.setEdge_pending (s : State) (g : Option TripEdge) : (s.setEdge g).pending = s.pending := rfl
@[simp] theorem State.setEdge_free (s : State) (g : Option TripEdge) : (s.setEdge g).free = s.free := rfl
@[simp] theorem State.setEdge_edge (s : State) (g : Option TripEdge) : (s.setEdge g).upu.edge = g := rfl
@[simp] theorem State.setEdge_tripRecord (s : State) (g : Option TripEdge) : (s.setEdge g).upu.tripRecord = s.upu.tripRecord := rfl
@[simp] theorem State.setEdge_backup (s : State) (g : Option TripEdge) : (s.setEdge g).upu.backup = s.upu.backup := rfl
@[simp] theorem State.setEdge_capture (s : State) (g : Option TripEdge) : (s.setEdge g).upu.capture = s.upu.capture := rfl
@[simp] theorem State.setEdge_lastTrip (s : State) (g : Option TripEdge) : (s.setEdge g).upu.lastTrip = s.upu.lastTrip := rfl

/-! ## setAuto -/

@[simp] theorem State.setAuto_clock (s : State) (b : Bool) : (s.setAuto b).clock = s.clock := rfl
@[simp] theorem State.setAuto_me (s : State) (b : Bool) : (s.setAuto b).me = s.me := rfl
@[simp] theorem State.setAuto_ss (s : State) (b : Bool) : (s.setAuto b).ss = s.ss := rfl
@[simp] theorem State.setAuto_oq (s : State) (b : Bool) : (s.setAuto b).oq = s.oq := rfl
@[simp] theorem State.setAuto_cu (s : State) (b : Bool) : (s.setAuto b).cu = s.cu := rfl
@[simp] theorem State.setAuto_avc (s : State) (b : Bool) : (s.setAuto b).avc = s.avc := rfl
@[simp] theorem State.setAuto_hmu (s : State) (b : Bool) : (s.setAuto b).hmu = s.hmu := rfl
@[simp] theorem State.setAuto_upu (s : State) (b : Bool) : (s.setAuto b).upu = s.upu := rfl
@[simp] theorem State.setAuto_pi (s : State) (b : Bool) : (s.setAuto b).pi = s.pi := rfl
@[simp] theorem State.setAuto_os (s : State) (b : Bool) : (s.setAuto b).os = s.os := rfl
@[simp] theorem State.setAuto_set (s : State) (b : Bool) : (s.setAuto b).set = s.set := rfl
@[simp] theorem State.setAuto_pending (s : State) (b : Bool) : (s.setAuto b).pending = s.pending := rfl
@[simp] theorem State.setAuto_free (s : State) (b : Bool) : (s.setAuto b).free = s.free := rfl

/-! ## setKey -/

@[simp] theorem State.setKey_clock (s : State) (k : KeyPos) : (s.setKey k).clock = s.clock := rfl
@[simp] theorem State.setKey_me (s : State) (k : KeyPos) : (s.setKey k).me = s.me := rfl
@[simp] theorem State.setKey_ss (s : State) (k : KeyPos) : (s.setKey k).ss = s.ss := rfl
@[simp] theorem State.setKey_oq (s : State) (k : KeyPos) : (s.setKey k).oq = s.oq := rfl
@[simp] theorem State.setKey_cu (s : State) (k : KeyPos) : (s.setKey k).cu = s.cu := rfl
@[simp] theorem State.setKey_avc (s : State) (k : KeyPos) : (s.setKey k).avc = s.avc := rfl
@[simp] theorem State.setKey_hmu (s : State) (k : KeyPos) : (s.setKey k).hmu = s.hmu := rfl
@[simp] theorem State.setKey_upu (s : State) (k : KeyPos) : (s.setKey k).upu = s.upu := rfl
@[simp] theorem State.setKey_pi (s : State) (k : KeyPos) : (s.setKey k).pi = s.pi := rfl
@[simp] theorem State.setKey_os (s : State) (k : KeyPos) : (s.setKey k).os = s.os := rfl
@[simp] theorem State.setKey_set (s : State) (k : KeyPos) : (s.setKey k).set = s.set := rfl
@[simp] theorem State.setKey_pending (s : State) (k : KeyPos) : (s.setKey k).pending = s.pending := rfl
@[simp] theorem State.setKey_free (s : State) (k : KeyPos) : (s.setKey k).free = s.free := rfl

/-! ## A read after a write -/

/-- The Step Record just written is read back. -/
@[simp] theorem State.stepRec_setStep_same (s : State) (k : StepId) (r : StepRecord) :
    (s.setStep k r).stepRec k = r := by
  simp [State.stepRec, State.setStep]

/-- Every other Step Record reads as before. -/
@[simp] theorem State.stepRec_setStep_ne (s : State) (j k : StepId) (r : StepRecord) (h : j ≠ k) :
    (s.setStep k r).stepRec j = s.stepRec j := by
  have h' : k.val ≠ j.val := fun e => h (Fin.ext e.symm)
  simp [State.stepRec, State.setStep, h']

/-- A changed Step Record is read back. -/
@[simp] theorem State.stepRec_modStep_same (s : State) (k : StepId) (f : StepRecord → StepRecord) :
    (s.modStep k f).stepRec k = f (s.stepRec k) := by
  simp [State.modStep]

/-- A change of one Step Record leaves the others. -/
@[simp] theorem State.stepRec_modStep_ne (s : State) (j k : StepId) (f : StepRecord → StepRecord)
    (h : j ≠ k) : (s.modStep k f).stepRec j = s.stepRec j := by
  simp [State.modStep, h]

/-- Writing a Step Record leaves the rotation orders. -/
@[simp] theorem State.setStep_orders (s : State) (k : StepId) (r : StepRecord) :
    (s.setStep k r).ss.readyOrder = s.ss.readyOrder
      ∧ (s.setStep k r).ss.closedOrder = s.ss.closedOrder := ⟨rfl, rfl⟩

/-- A monitor just written is read back. -/
@[simp] theorem State.monitor_setMonitor_same (s : State) (m : MonitorId) (v : Monitor) :
    (s.setMonitor m v).monitor m = v := by
  simp [State.monitor, State.setMonitor]

/-- Every other monitor reads as before. -/
@[simp] theorem State.monitor_setMonitor_ne (s : State) (j m : MonitorId) (v : Monitor) (h : j ≠ m) :
    (s.setMonitor m v).monitor j = s.monitor j := by
  have h' : m.val ≠ j.val := fun e => h (Fin.ext e.symm)
  simp [State.monitor, State.setMonitor, h']

/-- A slot just written is read back, and the other port's slot reads as before. -/
@[simp] theorem State.slot_setSlot (s : State) (p q : Port) (v : Option Selection) :
    (s.setSlot p v).slot q = if q = p then v else s.slot q := by
  cases p <;> cases q <;> rfl

/-- A port just written is read back, and the other port reads as before. -/
@[simp] theorem State.portState_setPort (s : State) (p q : Port) (v : PortState) :
    (s.setPort p v).portState q = if q = p then v else s.portState q := by
  cases p <;> cases q <;> rfl

/-- A list of outcomes just written is read back, and the other port's reads as before. -/
@[simp] theorem State.outcomes_setOutcomes (s : State) (p q : Port)
    (l : List (Slot × OutcomeRecord)) :
    (s.setOutcomes p l).outcomes q = if q = p then l else s.outcomes q := by
  cases p <;> cases q <;> rfl

/-- A detector just written is read back, and the others read as before. -/
@[simp] theorem State.detector_setDetector (s : State) (p q : Phase) (d : Detector) :
    (s.setDetector p d).detector q = if q = p then d else s.detector q := by
  cases p <;> cases q <;> rfl

end Sys2Proof.Machine
end

