-- ==== Sys2Proof/Laws/Switching.lean ====
section
/-!
SUPPORT. What the shared operations of switching leave alone, said once for each: the clock, the
Measurement Engine, the settings, the queue of commands and the free counter. The lemmas of larger
operations are chains of these.
-/
namespace Sys2Proof.Machine

/-- The blocks that no switching operation writes are the same in both states. -/
structure State.Keeps (s t : State) : Prop where
  /-- the clock -/
  clock : t.clock = s.clock
  /-- the Measurement Engine -/
  me : t.me = s.me
  /-- settings and store -/
  set : t.set = s.set
  /-- the commands that wait -/
  pending : t.pending = s.pending
  /-- the free counter -/
  free : t.free = s.free

/-- Keeping is reflexive. -/
theorem State.Keeps.refl (s : State) : s.Keeps s := ⟨rfl, rfl, rfl, rfl, rfl⟩

/-- Keeping is transitive. -/
theorem State.Keeps.trans {s t u : State} (h : s.Keeps t) (g : t.Keeps u) : s.Keeps u :=
  ⟨g.clock.trans h.clock, g.me.trans h.me, g.set.trans h.set, g.pending.trans h.pending,
    g.free.trans h.free⟩

/-- A fold of operations that keep, keeps. -/
theorem State.Keeps.foldl {α : Type} (f : State → α → State) (h : ∀ (t : State) (a : α), t.Keeps (f t a))
    (l : List α) (s : State) : s.Keeps (l.foldl f s) := by
  induction l generalizing s with
  | nil => exact .refl s
  | cons a l ih => exact (h s a).trans (ih (f s a))

/-- A choice of two operations that keep, keeps. -/
theorem State.Keeps.ite {s t u : State} (c : Prop) [Decidable c] (h : s.Keeps t) (g : s.Keeps u) :
    s.Keeps (if c then t else u) := by
  split
  · exact h
  · exact g

/-! ## Plain updates -/

theorem State.modStep_keeps (s : State) (k : StepId) (f : StepRecord → StepRecord) :
    s.Keeps (s.modStep k f) := ⟨rfl, rfl, rfl, rfl, rfl⟩

theorem State.setPort_keeps (s : State) (p : Port) (v : PortState) : s.Keeps (s.setPort p v) := by
  constructor <;> simp

theorem State.setSlot_keeps (s : State) (p : Port) (v : Option Selection) :
    s.Keeps (s.setSlot p v) := by
  constructor <;> simp

theorem State.setOutcomes_keeps (s : State) (p : Port) (l : List (Slot × OutcomeRecord)) :
    s.Keeps (s.setOutcomes p l) := by
  constructor <;> simp

theorem State.setMonitor_keeps (s : State) (m : MonitorId) (v : Monitor) :
    s.Keeps (s.setMonitor m v) := ⟨rfl, rfl, rfl, rfl, rfl⟩

theorem State.setFlags_keeps (s : State) : s.Keeps s.setFlags := ⟨rfl, rfl, rfl, rfl, rfl⟩

theorem State.setFlagsIf_keeps (s : State) (c : Bool) : s.Keeps (s.setFlagsIf c) := by
  constructor <;> simp

theorem State.modEntry_keeps (s : State) (k : StepId) (f : Entry → Entry) :
    s.Keeps (s.modEntry k f) := ⟨rfl, rfl, rfl, rfl, rfl⟩

/-! ## Outcomes and results -/

theorem State.addLost_keeps (s : State) (p : Port) (n : Nat) : s.Keeps (s.addLost p n) :=
  s.setPort_keeps p _

/-- Inserting an Outcome Record (R186) writes the Outcome Store and a lost-outcome counter. -/
theorem State.insertOutcome_keeps (s : State) (p : Port) (r : OutcomeRecord) :
    s.Keeps (s.insertOutcome p r) := by
  unfold State.insertOutcome
  refine .ite _ (s.setOutcomes_keeps p _) (.ite _ (s.setOutcomes_keeps p _) ?_)
  split
  · exact .refl s
  · exact (s.setOutcomes_keeps p _).trans (State.addLost_keeps _ p 1)

theorem State.discardB_keeps (s : State) : s.Keeps s.discardB :=
  (s.setOutcomes_keeps .b []).trans (State.addLost_keeps _ .b _)

theorem State.detuneResult_keeps (s : State) (k : StepId) (r : OutcomeResult) :
    s.Keeps (s.detuneResult k r) := by
  unfold State.detuneResult
  split
  · exact .refl s
  · exact s.setMonitor_keeps _ _

/-- Giving a result (R75) writes the records of its originator. -/
theorem State.giveResult_keeps (s : State) (o : Originator) (tag : Option Byte) (k : StepId)
    (kind : OpKind) (fast : Bool) (r : OutcomeResult) :
    s.Keeps (s.giveResult o tag k kind fast r) := by
  cases o with
  | portA => exact s.insertOutcome_keeps _ _
  | portB => exact s.insertOutcome_keeps _ _
  | avc => exact ⟨rfl, rfl, rfl, rfl, rfl⟩
  | harmonic => exact s.detuneResult_keeps k r
  | unbalance => exact ⟨rfl, rfl, rfl, rfl, rfl⟩
  | external => exact ⟨rfl, rfl, rfl, rfl, rfl⟩

theorem State.entryResult_keeps (s : State) (e : Entry) (r : OutcomeResult) :
    s.Keeps (s.entryResult e r) := s.giveResult_keeps _ _ _ _ _ _

theorem State.markResult_keeps (s : State) (k : StepId) (m : Mark) (r : OutcomeResult) :
    s.Keeps (s.markResult k m r) := s.giveResult_keeps _ _ _ _ _ _

theorem State.markResultOpt_keeps (s : State) (k : StepId) (m : Option Mark) (r : OutcomeResult) :
    s.Keeps (s.markResultOpt k m r) := by
  cases m with
  | none => exact .refl s
  | some m => exact s.markResult_keeps k m r

/-! ## Coils, the backup trip, settle starts -/

theorem State.coilsOff_keeps (s : State) (k : StepId) : s.Keeps (s.coilsOff k) := by
  unfold State.coilsOff
  split
  · exact .refl s
  · exact .ite _ ⟨rfl, rfl, rfl, rfl, rfl⟩ (.refl s)

theorem State.closeCoilOff_keeps (s : State) : s.Keeps s.closeCoilOff := by
  unfold State.closeCoilOff
  split
  · exact .refl s
  · exact .ite _ ⟨rfl, rfl, rfl, rfl, rfl⟩ (.refl s)

theorem State.assertBkt_keeps (s : State) (k : StepId) (b : BackupReason) (o : Originator) :
    s.Keeps (s.assertBkt k b o) := by
  unfold State.assertBkt
  refine .ite _ (.refl s) (State.Keeps.trans (t := State.setFlags _) ?_ (State.closeCoilOff_keeps _))
  exact ⟨rfl, rfl, rfl, rfl, rfl⟩

theorem State.abortCapture_keeps (s : State) : s.Keeps s.abortCapture := by
  unfold State.abortCapture
  split
  · exact .refl s
  · exact State.Keeps.trans (by constructor <;> rfl) (State.insertOutcome_keeps _ _ _)

theorem State.settleStart_keeps (s : State) : s.Keeps s.settleStart :=
  State.Keeps.trans (by constructor <;> rfl) (State.abortCapture_keeps _)

/-! ## A step's change of state -/

theorem State.dropEntry_keeps (s : State) (k : StepId) : s.Keeps (s.dropEntry k) :=
  State.Keeps.trans (by constructor <;> rfl) (State.coilsOff_keeps _ k)

theorem State.fitEntry_keeps (s : State) (k : StepId) : s.Keeps (s.fitEntry k) := by
  unfold State.fitEntry
  split
  · exact .refl s
  · have h := fun e r => (s.dropEntry_keeps k).trans (State.entryResult_keeps _ e r)
    refine .ite _ (.refl s) ?_
    split
    · exact .ite _ (.refl s) (h _ _)
    · exact .ite _ (.refl s) (h _ _)
    · exact .ite _ (.refl s)
        (.ite _ ((h _ _).trans (State.assertBkt_keeps _ _ _ _)) (h _ _))

theorem State.endSelection_keeps (s : State) (p : Port) (r : OutcomeResult) :
    s.Keeps (s.endSelection p r) := by
  unfold State.endSelection
  split
  · exact .refl s
  · exact (s.setSlot_keeps p none).trans (State.insertOutcome_keeps _ _ _)

theorem State.endSelectionOf_keeps (s : State) (k : StepId) (r : OutcomeResult) :
    s.Keeps (s.endSelectionOf k r) := by
  unfold State.endSelectionOf
  split
  · exact .refl s
  · exact s.endSelection_keeps _ r

theorem State.leaveReady_keeps (s : State) (k : StepId) : s.Keeps (s.leaveReady k) :=
  .ite _ (.refl s) (s.endSelectionOf_keeps k _)

theorem State.voidOther_keeps (s : State) (k : StepId) : s.Keeps (s.voidOther k) := by
  unfold State.voidOther
  split
  · exact .refl s
  · exact .ite _ (.refl s) ⟨rfl, rfl, rfl, rfl, rfl⟩

theorem State.leaveClosed_keeps (s : State) (k : StepId) (o : Option StepState) :
    s.Keeps (s.leaveClosed k o) := by
  unfold State.leaveClosed
  refine .ite _ ?_ (.refl s)
  have h := fun c f => (s.setFlagsIf_keeps c).trans (State.modStep_keeps _ k f)
  exact .ite _ ((h _ _).trans (State.abortCapture_keeps _)) (h _ _)

/-- A step's change of state (R3) keeps the clock, the ME, the settings and the command queue. -/
theorem State.enter_keeps (s : State) (k : StepId) (n : StepState) (l : Option LockoutCause)
    (f : Option FailureCause) : s.Keeps (s.enter k n l f) := by
  have h1 : s.Keeps (((s.writeState k n l f).rotate k n).setFlags) := ⟨rfl, rfl, rfl, rfl, rfl⟩
  have h2 := (h1.trans (State.coilsOff_keeps _ k)).trans (State.fitEntry_keeps _ k)
  have h3 := h2.trans (State.leaveReady_keeps _ k)
  exact (h3.trans (State.voidOther_keeps _ k)).trans (State.leaveClosed_keeps _ k _)

/-! ## Admission and dispatch -/

/-- A posting (R50 to R58) keeps what no switching operation writes. -/
theorem State.post_keeps (s : State) (p : Posting) : s.Keeps (s.post p).1 := by
  have hd := fun e r => (s.dropEntry_keeps p.step).trans (State.entryResult_keeps _ e r)
  unfold State.post
  split
  · exact .refl s
  · split
    · split
      · unfold State.postClose
        dsimp only
        repeat' split
        all_goals first | exact .refl s | exact ⟨rfl, rfl, rfl, rfl, rfl⟩
      · unfold State.postOpen
        split <;> first | exact .refl s | exact ⟨rfl, rfl, rfl, rfl, rfl⟩
      · unfold State.postTrip
        split
        · exact ⟨rfl, rfl, rfl, rfl, rfl⟩
        · exact s.enter_keeps _ _ _ _
        · exact s.enter_keeps _ _ _ _
        · exact .refl s
        · split
          · exact .refl s
          · exact s.assertBkt_keeps _ _ _
        · exact .refl s
    · split
      · unfold State.postOnWaitingClose
        split
        · exact hd _ _
        · exact ((s.dropEntry_keeps _).trans (State.enter_keeps _ _ _ _ _)).trans
            (State.entryResult_keeps _ _ _)
        · exact .refl s
      · unfold State.postOnWaitingOpen
        split
        · exact (s.modEntry_keeps _ _).trans (State.entryResult_keeps _ _ _)
        · exact .refl s
        · exact .refl s
      · unfold State.postOnWaitingTrip
        split <;> exact .refl s
      · unfold State.postOnFlightClose
        split
        · exact .refl s
        · split
          · exact s.modEntry_keeps _ _
          · exact .refl s
        · split
          · exact s.modEntry_keeps _ _
          · split
            · exact .refl s
            · exact (s.modEntry_keeps _ _).trans (State.markResult_keeps _ _ _ _)
      · unfold State.postOnFlightOpen
        split
        · exact .refl s
        · exact .refl s
        · split
          · exact s.modEntry_keeps _ _
          · exact .refl s

theorem State.askPulse_keeps (s : State) (k : StepId) (o : OpKind) : s.Keeps (s.askPulse k o) := by
  unfold State.askPulse
  exact .ite _ (s.coilsOff_keeps k)
    (.ite _ (s.coilsOff_keeps k) ⟨rfl, rfl, rfl, rfl, rfl⟩)

/-- Dispatch (R62) keeps what no switching operation writes. -/
theorem State.dispatchEntry_keeps (s : State) (e : Entry) : s.Keeps (s.dispatchEntry e) := by
  have h1 := (s.modEntry_keeps e.step (fun x => { x with status := .inFlight })).trans
    (State.enter_keeps (s.takeEntry e) e.step (movingState e.kind) none none)
  have h2 := h1.trans (State.Keeps.trans (by constructor <;> rfl) (State.askPulse_keeps
    (((s.takeEntry e).enter e.step (movingState e.kind) none none).startFlight) e.step e.kind))
  exact h2.trans ⟨rfl, rfl, rfl, rfl, rfl⟩

/-- An examination of dispatch (R60) keeps what no switching operation writes. -/
theorem State.examine_keeps (s : State) : s.Keeps s.examine := by
  unfold State.examine
  split
  · exact .refl s
  · split
    · exact .refl s
    · exact s.dispatchEntry_keeps _

theorem State.examineIfLeft_keeps (s b : State) : s.Keeps (s.examineIfLeft b) :=
  .ite _ (.refl s) s.examine_keeps

/-- An admission event (R50) keeps what no switching operation writes. -/
theorem State.admitOne_keeps (s : State) (p : Posting) : s.Keeps (s.admitOne p).1 :=
  (s.post_keeps p).trans (State.examine_keeps _)

/-- An ALL expansion (R59) keeps what no switching operation writes. -/
theorem expandOne_keeps (o : Originator) (tag : Option Byte) (fast : Bool) (l : List StepId)
    (acc : State × List PostAnswer) : acc.1.Keeps (l.foldl (expandOne o tag fast) acc).1 := by
  induction l generalizing acc with
  | nil => exact .refl acc.1
  | cons k l ih =>
    rw [List.foldl_cons]
    exact (acc.1.post_keeps (openPosting o tag fast k)).trans (ih (expandOne o tag fast acc k))

/-- An OPEN ALL (R59) keeps what no switching operation writes. -/
theorem State.admitAll_keeps (s : State) (o : Originator) (tag : Option Byte) (fast : Bool) :
    s.Keeps (s.admitAll o tag fast).1 := by
  have h : s.Keeps (s.expandAll o tag fast).1 := expandOne_keeps o tag fast allSteps (s, [])
  simp only [State.admitAll]
  exact h.trans (State.examine_keeps _)

end Sys2Proof.Machine
end

