-- ==== Sys2Proof/Laws/Inputs.lean ====
section
/-!
SUPPORT. What the inputs' operations do, said once for each: a debouncer that is replaced, a contact that is
accepted alone or with its pair (R4, R5), the count of fast overvoltage at a frame that holds it (R111),
the stages of a step that is not CLOSED (R131, R140), and what an external trip edge keeps for a frame
(R150).
-/
namespace Sys2Proof.Machine

/-! ## Debouncers -/

/-- A debouncer after one is replaced. -/
theorem State.setDebouncer_debouncer (s : State) (i j : DiscreteInput) (d : Debouncer) :
    (s.setDebouncer i d).debouncer j = if j = i then d else s.debouncer j := by
  cases i with
  | contact k c =>
    cases j with
    | contact l x =>
      by_cases h : l = k
      · subst h
        cases c <;> cases x <;> simp [State.setDebouncer, State.debouncer]
      · cases c <;> cases x <;> simp [State.setDebouncer, State.debouncer, h]
    | key => cases c <;> rfl
    | externalTrip => cases c <;> rfl
  | key =>
    cases j with
    | contact l x => cases x <;> rfl
    | key => rfl
    | externalTrip => rfl
  | externalTrip =>
    cases j with
    | contact l x => cases x <;> rfl
    | key => rfl
    | externalTrip => rfl

/-- Replacing a debouncer keeps every block but the Step Supervisor's. -/
theorem State.setDebouncer_keeps (s : State) (i : DiscreteInput) (d : Debouncer) :
    s.Keeps (s.setDebouncer i d) := by
  cases i with
  | contact k c => cases c <;> exact ⟨rfl, rfl, rfl, rfl, rfl⟩
  | key => exact ⟨rfl, rfl, rfl, rfl, rfl⟩
  | externalTrip => exact ⟨rfl, rfl, rfl, rfl, rfl⟩

/-- A debouncer is not touched by the time that passes. -/
@[simp] theorem State.until_debouncer (s : State) (t : Nat) (i : DiscreteInput) :
    (s.until t).debouncer i = s.debouncer i := by
  rcases i with ⟨k, c⟩ | _ | _
  · cases c <;> rfl
  · rfl
  · rfl

/-- A debouncer after a raw value is accepted. -/
theorem State.takeRaw_debouncer (s : State) (i j : DiscreteInput) :
    (s.takeRaw i).debouncer j =
      if j = i then { s.debouncer i with accepted := some (s.debouncer i).raw } else s.debouncer j :=
  s.setDebouncer_debouncer i j _

/-- A debouncer after the value of an input is accepted at the end of its window. -/
theorem State.accept_debouncer (s : State) (i j : DiscreteInput) :
    (s.accept i).debouncer j =
      if j = i then { s.debouncer i with accepted := some (s.debouncer i).raw } else s.debouncer j := by
  simp [State.accept, State.takeRaw_debouncer]

/-- Accepting a value moves the clock to the end of the window. -/
theorem State.accept_clock (s : State) (i : DiscreteInput) :
    (s.accept i).clock = (s.until (s.windowEnd (s.debouncer i))).clock :=
  (State.setDebouncer_keeps _ i _).clock

/-- The other contact of a step is another contact. -/
theorem otherContact_ne (c : Contact) : otherContact c ≠ c := by cases c <;> decide

/-- What a contact's acceptance does to the two debouncers of its step: its own raw value is accepted, and
the other's when both fall at one instant (R4, R5). -/
theorem State.acceptPair_debouncer (s : State) (k : StepId) (c : Contact) (i : DiscreteInput) :
    (s.acceptPair k c).debouncer i =
      if i = .contact k c ∨ (i = .contact k (otherContact c) ∧ s.acceptedTogether k c = true) then
        { s.debouncer i with accepted := some (s.debouncer i).raw }
      else s.debouncer i := by
  have ne := otherContact_ne c
  unfold State.acceptPair
  by_cases h : s.acceptedTogether k c = true
  · by_cases h1 : i = .contact k c
    · subst h1; simp [h, State.takeRaw_debouncer, State.accept_debouncer, ne.symm]
    · by_cases h2 : i = .contact k (otherContact c)
      · subst h2; simp [h, State.takeRaw_debouncer, State.accept_debouncer, ne]
      · simp [h, h1, h2, State.takeRaw_debouncer, State.accept_debouncer]
  · by_cases h1 : i = .contact k c
    · subst h1; simp [h, State.accept_debouncer]
    · simp [h, h1, State.accept_debouncer]

/-- A contact's acceptance moves the clock to the end of its window, with its pair or without. -/
theorem State.acceptPair_clock (s : State) (k : StepId) (c : Contact) :
    (s.acceptPair k c).clock = (s.until (s.windowEnd (s.debouncer (.contact k c)))).clock := by
  unfold State.acceptPair
  split
  · exact (State.setDebouncer_keeps _ _ _).clock.trans (s.accept_clock _)
  · exact s.accept_clock _

/-! ## Frames -/

/-- A frame flagged SETTLING brings no fast open (R82, R118). -/
theorem State.fastDue_settling (s : State) (h : s.me.frame.settling = true) : s.fastDue = false := by
  simp [State.fastDue, State.ovRises, h]

/-- A fast open is due exactly at a frame that raises the count to NOV or more (R111, R112, R118). -/
theorem State.fastDue_iff (s : State) :
    s.fastDue = true ↔
      s.y .oven ≠ 0 ∧ s.me.frame.settling = false ∧ s.y .vov ≤ s.me.frame.vMax
        ∧ s.y .nov ≤ s.avc.ovCnt + 1 := by
  by_cases h0 : s.y .oven = 0
  · simp [State.fastDue, State.ovRises, h0]
  · by_cases h1 : s.me.frame.settling = true
    · simp [State.fastDue, State.ovRises, h1]
    · by_cases h2 : s.y .vov ≤ s.me.frame.vMax
      · simp [State.fastDue, State.ovRises, State.ovAfter, h0, h1, h2]
      · simp [State.fastDue, State.ovRises, h2]

/-- The stages of a step that is not CLOSED do nothing, or make the trip decision of one that a detune of
the same frame has dispatched (R131, R140). -/
theorem State.stages_of_not_closed (s base : State) (k : StepId) (h : (s.stepRec k).state ≠ some .closed) :
    s.stages base k =
      if s.detunedSince base k = true ∧ s.tripDue base k = true then s.tripDecision k else s := by
  simp [State.stages, State.stagesOfOther, h]

/-- A step at a frame has its stages alone, but for one whose TRIP the edge of this instant has had
dispatched (R140, R150). -/
theorem State.stepFrame_of_not_due (s base : State) (k : StepId) (h : s.furtherDue k = false) :
    s.stepFrame base k = s.stages base k := by
  simp [State.stepFrame, h]

/-- A step that is not OPENING has its stages alone (R140, R150). -/
theorem State.stepFrame_of_not_opening (s base : State) (k : StepId)
    (h : (s.stepRec k).state ≠ some .opening) : s.stepFrame base k = s.stages base k := by
  apply s.stepFrame_of_not_due
  unfold State.furtherDue
  split <;> simp [State.tripInFlight, h]

/-- A frame that comes together with no edge brings no decision of R150. -/
theorem State.furtherDue_of_edgeCount (s : State) (k : StepId) (h : s.edgeCount k = none) :
    s.furtherDue k = false := by
  simp [State.furtherDue, h]

/-- What an edge finds: the trip count of every CLOSED step (R150). -/
theorem State.mem_noteEdge (s : State) (k : StepId) (n : Nat) :
    (∃ g, s.noteEdge.upu.edge = some g ∧ g.instant = s.clock.now ∧ (k, n) ∈ g.counts) ↔
      (s.stepRec k).state = some .closed ∧ n = (s.stepRec k).tripCount := by
  have all : k ∈ allSteps := by revert k; decide
  constructor
  · rintro ⟨g, hg, -, hm⟩
    simp only [State.noteEdge, State.setEdge_edge, Option.some.injEq] at hg
    subst hg
    simp only [List.mem_map, List.mem_filter, decide_eq_true_eq, Prod.mk.injEq] at hm
    obtain ⟨j, ⟨-, hs⟩, rfl, rfl⟩ := hm
    exact ⟨hs, rfl⟩
  · rintro ⟨hs, rfl⟩
    refine ⟨_, rfl, rfl, ?_⟩
    simp [all, hs]

end Sys2Proof.Machine
end

