-- ==== Sys2Proof/Laws/Ports.lean ====
section
/-!
SUPPORT. The ports and the store, said once: the lengths of what goes out (9.9, R176, R178), where an
Outcome Record goes (R186), what a request does at its port (R179), and a setting read after it is written.
-/
namespace Sys2Proof.Machine

/-! ## Bytes -/

/-- A number sent as `w` bytes has `w` of them (9.9). -/
@[simp] theorem be_length (w n : Nat) : (be w n).length = w := by
  induction w generalizing n with
  | zero => rfl
  | succ w ih => simp [be, ih]

/-- A window's line has as many bytes as the window (R176). -/
@[simp] theorem exactly_length (n : Nat) (l : List Byte) : (exactly n l).length = n := by
  simp [exactly]

/-- A response is its payload and four bytes (R178). -/
@[simp] theorem responseBytes_length (tag : Byte) (a : Answer) :
    (responseBytes tag a).length = a.payload.length + 4 := by
  simp [responseBytes]

/-! ## Outcome Store -/

/-- An Outcome Record takes a shared slot, a slot of the port's reserve, or the slot of the port's oldest
record, which is counted as lost; with no slot of the port's to take, which no sound store shows, nothing
changes (R186). -/
theorem State.insertOutcome_cases (s : State) (p : Port) (r : OutcomeRecord) :
    (s.sharedUsed < 10 ∧ s.insertOutcome p r = s.setOutcomes p (s.outcomes p ++ [(.shared, r)]))
      ∨ (10 ≤ s.sharedUsed ∧ s.reserveUsed p < 3
          ∧ s.insertOutcome p r = s.setOutcomes p (s.outcomes p ++ [(.reserve, r)]))
      ∨ (10 ≤ s.sharedUsed ∧ 3 ≤ s.reserveUsed p ∧ ∃ slot old rest,
          s.outcomes p = (slot, old) :: rest
            ∧ s.insertOutcome p r = (s.setOutcomes p (rest ++ [(slot, r)])).addLost p 1) := by
  unfold State.insertOutcome
  split
  · exact .inl ⟨‹_›, rfl⟩
  · rename_i h
    split
    · exact .inr (.inl ⟨by omega, ‹_›, rfl⟩)
    · rename_i g
      have g' : 3 ≤ s.reserveUsed p := by omega
      refine .inr (.inr ⟨by omega, g', ?_⟩)
      split
      · rename_i e
        simp [State.reserveUsed, e] at g'
      · rename_i slot old rest e
        exact ⟨slot, old, rest, e, rfl⟩

/-! ## Requests -/

/-- A command that needs a controller out of reset does nothing while one is held (R201). -/
theorem State.unlessHeld_held (s : State) (f : State → State) (h : s.clock.held ≠ none) :
    s.unlessHeld f = s := by
  cases g : s.clock.held with
  | none => exact absurd g h
  | some r => simp [State.unlessHeld, g]

/-- Out of reset the command has its effect. -/
theorem State.unlessHeld_free (s : State) (f : State → State) (h : s.clock.held = none) :
    s.unlessHeld f = f s := by
  simp [State.unlessHeld, h]

/-- A change of supervision (R164) keeps the clock, the measurement, the settings and the queue. -/
theorem State.setSupervision_keeps (s : State) (v : Supervision) (n : Option Nat) :
    s.Keeps (s.setSupervision v n) := by
  unfold State.setSupervision
  constructor <;> simp

/-- The state a request is judged on keeps the clock, the measurement, the settings and the queue. -/
theorem State.judged_keeps (s : State) (h : Header) : s.Keeps (s.judged h) := by
  have c : s.Keeps (s.clockOut h.port h.window) := State.setPort_keeps _ _ _
  unfold State.judged State.superviseGood
  split
  · exact c.trans (State.setSupervision_keeps _ _ _)
  · exact c

/-- A good frame of a controller that serves is judged on `judged`, and answered (R179). -/
theorem State.request_serves (s : State) (h : Header) (permitted : Bool) (judge : Judge)
    (g : s.serves) (p : permitted = true) :
    s.request h permitted judge =
      (judge (s.judged h)).1.respond h.port h.tag (judge (s.judged h)).2 := by
  have k : (s.judged h).set = s.set := (s.judged_keeps h).set
  rw [State.request, State.unlessHeld_free s _ g.1]
  have n : ((s.clockOut h.port h.window).superviseGood h.port).set.startup ≠ .loading := by
    have e : ((s.clockOut h.port h.window).superviseGood h.port).set = s.set := k
    rw [e, g.2]
    decide
  simp only [if_neg n, p, if_false, Bool.true_eq_false]
  rfl

/-- During LOADING a good frame is answered BUSY (R179, R202). -/
theorem State.request_loading (s : State) (h : Header) (permitted : Bool) (judge : Judge)
    (g : s.clock.held = none) (l : s.set.startup = .loading) :
    s.request h permitted judge = (s.judged h).respond h.port h.tag (.plain .busy) := by
  have k : (s.judged h).set = s.set := (s.judged_keeps h).set
  rw [State.request, State.unlessHeld_free s _ g]
  have n : ((s.clockOut h.port h.window).superviseGood h.port).set.startup = .loading := by
    have e : ((s.clockOut h.port h.window).superviseGood h.port).set = s.set := k
    rw [e, l]
  simp only [if_pos n]
  rfl

/-- A response fills the frame buffer of its port and changes no other part of any port (R178). -/
theorem State.respond_portState (s : State) (p q : Port) (tag : Byte) (a : Answer) :
    (s.respond p tag a).portState q =
      if q = p then { s.portState p with buffer := some (responseBytes tag a) } else s.portState q := by
  cases p <;> cases q <;> rfl

/-! ## Settings -/

/-- A setting reads as it was last written, and every other setting as before. -/
theorem Settings.get_put (c : Settings) (i j : SettingId) (v : Nat) :
    (c.put i v).get j = if j = i then v else c.get j := by
  cases i with
  | yard y =>
    cases j with
    | yard y' => cases y <;> cases y' <;> simp [Settings.get, Settings.put, YardSetting.idx]
    | step f k => simp [Settings.get, Settings.put]
    | monitor f m => simp [Settings.get, Settings.put]
  | step f k =>
    cases j with
    | yard y => simp [Settings.get, Settings.put]
    | step f' k' =>
      by_cases h : k' = k
      · subst h
        cases f <;> cases f' <;> simp [Settings.get, Settings.put, StepSetting.idx]
      · have n : k.val ≠ k'.val := fun e => h (Fin.ext e.symm)
        simp [Settings.get, Settings.put, n, h]
    | monitor f m => simp [Settings.get, Settings.put]
  | monitor f m =>
    cases j with
    | yard y => simp [Settings.get, Settings.put]
    | step f' k' => simp [Settings.get, Settings.put]
    | monitor f' m' =>
      by_cases h : m' = m
      · subst h
        cases f <;> cases f' <;> simp [Settings.get, Settings.put, MonitorSetting.idx]
      · have n : m.val ≠ m'.val := fun e => h (Fin.ext e.symm)
        simp [Settings.get, Settings.put, n, h]

end Sys2Proof.Machine
end

