-- ==== Sys2Proof/Laws/Steps.lean ====
section
/-!
SUPPORT. What each shared operation does to the Step Table and the rotation orders: most leave them, and
a change of state (R3) writes exactly one record and moves exactly one step.
-/
namespace Sys2Proof.Machine

/-- The Step Table, the rotation orders, the latches and the yard's inputs are the same. -/
structure State.SameTable (s t : State) : Prop where
  /-- the Step Records -/
  steps : t.ss.steps = s.ss.steps
  /-- the Ready Order -/
  ready : t.ss.readyOrder = s.ss.readyOrder
  /-- the Closed Order -/
  closed : t.ss.closedOrder = s.ss.closedOrder
  /-- the closed-while-charged set -/
  charged : t.ss.closedWhileCharged = s.ss.closedWhileCharged
  /-- the unexpected-open set -/
  opened : t.ss.unexpectedOpen = s.ss.unexpectedOpen
  /-- the key's debouncer -/
  key : t.ss.keyIn = s.ss.keyIn
  /-- the external trip's debouncer -/
  trip : t.ss.tripIn = s.ss.tripIn

/-- Sameness is reflexive. -/
theorem State.SameTable.refl (s : State) : s.SameTable s := ⟨rfl, rfl, rfl, rfl, rfl, rfl, rfl⟩

/-- Sameness is transitive. -/
theorem State.SameTable.trans {s t u : State} (h : s.SameTable t) (g : t.SameTable u) :
    s.SameTable u :=
  ⟨g.steps.trans h.steps, g.ready.trans h.ready, g.closed.trans h.closed, g.charged.trans h.charged,
    g.opened.trans h.opened, g.key.trans h.key, g.trip.trans h.trip⟩

/-- A state whose Step Supervisor is the same has the same table. -/
theorem State.SameTable.of_ss {s t : State} (h : t.ss = s.ss) : s.SameTable t := by
  constructor <;> rw [h]

/-- Every Step Record reads the same. -/
theorem State.SameTable.stepRec {s t : State} (h : s.SameTable t) (k : StepId) :
    t.stepRec k = s.stepRec k := by
  simp [State.stepRec, h.steps]

/-! ## Operations that leave the table -/

theorem State.addLost_ss (s : State) (p : Port) (n : Nat) : (s.addLost p n).ss = s.ss := by
  simp [State.addLost]

/-- An Outcome Record's insertion (R186) leaves the Step Supervisor. -/
@[simp] theorem State.insertOutcome_ss (s : State) (p : Port) (r : OutcomeRecord) :
    (s.insertOutcome p r).ss = s.ss := by
  unfold State.insertOutcome
  repeat' split
  all_goals simp [State.addLost]

@[simp] theorem State.detuneResult_ss (s : State) (k : StepId) (r : OutcomeResult) :
    (s.detuneResult k r).ss = s.ss := by
  unfold State.detuneResult
  split <;> simp

/-- Giving a result (R75) leaves the Step Supervisor. -/
@[simp] theorem State.giveResult_ss (s : State) (o : Originator) (tag : Option Byte) (k : StepId)
    (kind : OpKind) (fast : Bool) (r : OutcomeResult) :
    (s.giveResult o tag k kind fast r).ss = s.ss := by
  cases o <;> simp [State.giveResult]

@[simp] theorem State.entryResult_ss (s : State) (e : Entry) (r : OutcomeResult) :
    (s.entryResult e r).ss = s.ss := by
  simp [State.entryResult]

@[simp] theorem State.markResult_ss (s : State) (k : StepId) (m : Mark) (r : OutcomeResult) :
    (s.markResult k m r).ss = s.ss := by
  simp [State.markResult]

@[simp] theorem State.abortCapture_ss (s : State) : s.abortCapture.ss = s.ss := by
  unfold State.abortCapture
  split <;> simp

@[simp] theorem State.settleStart_ss (s : State) : s.settleStart.ss = s.ss := by
  simp [State.settleStart]

/-- The end of a selection (R174) leaves the Step Supervisor. -/
@[simp] theorem State.endSelection_ss (s : State) (p : Port) (r : OutcomeResult) :
    (s.endSelection p r).ss = s.ss := by
  unfold State.endSelection
  split <;> simp

@[simp] theorem State.endSelectionOf_ss (s : State) (k : StepId) (r : OutcomeResult) :
    (s.endSelectionOf k r).ss = s.ss := by
  unfold State.endSelectionOf
  split <;> simp

@[simp] theorem State.leaveReady_ss (s : State) (k : StepId) : (s.leaveReady k).ss = s.ss := by
  unfold State.leaveReady
  split <;> simp

@[simp] theorem State.voidOther_ss (s : State) (k : StepId) : (s.voidOther k).ss = s.ss := by
  unfold State.voidOther
  split
  · rfl
  · split <;> rfl

/-- De-energising a step's coils writes the pulse only (R21). -/
theorem State.coilsOff_table (s : State) (k : StepId) : s.SameTable (s.coilsOff k) := by
  unfold State.coilsOff
  split
  · exact .refl s
  · split
    · exact ⟨rfl, rfl, rfl, rfl, rfl, rfl, rfl⟩
    · exact .refl s

theorem State.closeCoilOff_table (s : State) : s.SameTable s.closeCoilOff := by
  unfold State.closeCoilOff
  split
  · exact .refl s
  · split
    · exact ⟨rfl, rfl, rfl, rfl, rfl, rfl, rfl⟩
    · exact .refl s

/-- Asserting BKT leaves the table (R151). -/
theorem State.assertBkt_table (s : State) (k : StepId) (b : BackupReason) (o : Originator) :
    s.SameTable (s.assertBkt k b o) := by
  unfold State.assertBkt
  split
  · exact .refl s
  · exact State.SameTable.trans (by exact .of_ss rfl) (State.closeCoilOff_table _)

theorem State.dropEntry_table (s : State) (k : StepId) : s.SameTable (s.dropEntry k) :=
  State.SameTable.trans (by exact .of_ss rfl) (State.coilsOff_table _ k)

/-- The removal of an entry that no longer fits leaves the table (R72). -/
theorem State.fitEntry_table (s : State) (k : StepId) : s.SameTable (s.fitEntry k) := by
  have h := fun (e : Entry) r => (s.dropEntry_table k).trans
    (.of_ss (State.entryResult_ss (s.dropEntry k) e r))
  unfold State.fitEntry
  split
  · exact .refl s
  · split
    · exact .refl s
    · split
      · split
        · exact .refl s
        · exact h _ _
      · split
        · exact .refl s
        · exact h _ _
      · split
        · exact .refl s
        · split
          · exact (h _ _).trans (State.assertBkt_table _ _ _ _)
          · exact h _ _

theorem State.askPulse_table (s : State) (k : StepId) (o : OpKind) :
    s.SameTable (s.askPulse k o) := by
  unfold State.askPulse
  split
  · exact s.coilsOff_table k
  · split
    · exact s.coilsOff_table k
    · exact ⟨rfl, rfl, rfl, rfl, rfl, rfl, rfl⟩

/-! ## A change of state (R3) -/

/-- The record a change of state writes before its step has left CLOSED (R2, R12, R13, R79). -/
def enteredRecord (r : StepRecord) (n : StepState) (l : Option LockoutCause)
    (f : Option FailureCause) : StepRecord :=
  { r with
    state := some n
    lockoutCause := l
    failureCause := f
    closedWhileOut := decide (n = .out) && decide (r.position = some .atClosed)
    discharge := if n = .closed then 0 else r.discharge
    faultTimer := if n = .ready ∨ n = .discharging ∨ n = .closed then r.faultTimer else none }

/-- The record with its unbalance stages started again (R143). -/
def stagesCleared (r : StepRecord) : StepRecord :=
  { r with alarmCount := 0, tripCount := 0, alarmFlag := false }

/-- The record after a change of state: the stages of a step that leaves CLOSED are cleared (R143). -/
def recordAfter (r : StepRecord) (n : StepState) (l : Option LockoutCause) (f : Option FailureCause) :
    StepRecord :=
  if r.state = some .closed ∧ n ≠ .closed then stagesCleared (enteredRecord r n l f)
  else enteredRecord r n l f

/-- The parts of a change of state before the step's stages are looked at leave what `writeState` and
`rotate` have written. -/
theorem State.enterParts_table (s : State) (k : StepId) (n : StepState) (l : Option LockoutCause)
    (f : Option FailureCause) :
    ((s.writeState k n l f).rotate k n).SameTable
      ((((((s.writeState k n l f).rotate k n).setFlags).coilsOff k).fitEntry k).leaveReady k
        |>.voidOther k) := by
  have h1 : ((s.writeState k n l f).rotate k n).SameTable
      (((s.writeState k n l f).rotate k n).setFlags) := .of_ss rfl
  have h2 := (h1.trans (State.coilsOff_table _ k)).trans (State.fitEntry_table _ k)
  exact h2.trans (.of_ss (by simp))

/-- The stages of another step are not touched when a step leaves CLOSED. -/
theorem State.leaveClosed_table (s : State) (k : StepId) (o : Option StepState) :
    (s.leaveClosed k o).ss.readyOrder = s.ss.readyOrder
      ∧ (s.leaveClosed k o).ss.closedOrder = s.ss.closedOrder
      ∧ (∀ j, (s.leaveClosed k o).stepRec j =
          if j = k ∧ o = some .closed ∧ (s.stepRec k).state ≠ some .closed then
            stagesCleared (s.stepRec k)
          else s.stepRec j) := by
  unfold State.leaveClosed
  by_cases c : o = some .closed ∧ (s.stepRec k).state ≠ some .closed
  · rw [if_pos c]
    have hs : ∀ t : State, t.ss = s.ss → ∀ j, (t.modStep k stagesCleared).stepRec j =
        if j = k then stagesCleared (s.stepRec k) else s.stepRec j := by
      intro t ht j
      have e : t.stepRec = s.stepRec := by
        funext i
        simp [State.stepRec, ht]
      by_cases hj : j = k
      · subst hj
        simp [e]
      · simp [hj, e]
    have ht := State.setFlagsIf_ss s (s.stepRec k).alarmFlag
    have e := hs (s.setFlagsIf (s.stepRec k).alarmFlag) ht
    have en : ∀ j, ((s.setFlagsIf (s.stepRec k).alarmFlag).modStep k stagesCleared).stepRec j =
        if j = k ∧ o = some .closed ∧ (s.stepRec k).state ≠ some .closed then
          stagesCleared (s.stepRec k) else s.stepRec j := by
      intro j
      rw [e j]
      by_cases hj : j = k
      · rw [if_pos hj, if_pos ⟨hj, c⟩]
      · rw [if_neg hj, if_neg (fun h => hj h.1)]
    dsimp only
    split
    · refine ⟨?_, ?_, fun j => ?_⟩
      · rw [State.abortCapture_ss]
        simp [State.modStep, State.setStep]
      · rw [State.abortCapture_ss]
        simp [State.modStep, State.setStep]
      · have g : ∀ t : State, t.abortCapture.stepRec j = t.stepRec j := fun t => by
          simp [State.stepRec]
        rw [g]
        exact en j
    · refine ⟨?_, ?_, fun j => ?_⟩
      · simp [State.modStep, State.setStep]
      · simp [State.modStep, State.setStep]
      · exact en j
  · rw [if_neg c]
    refine ⟨rfl, rfl, fun j => ?_⟩
    rw [if_neg (fun h => c h.2)]

/-- A change of state writes the record of its step and no other, and moves its step to the tail of the
order that matches the new state (R2, R3, R7). -/
theorem State.enter_spec (s : State) (k : StepId) (n : StepState) (l : Option LockoutCause)
    (f : Option FailureCause) :
    (∀ j, (s.enter k n l f).stepRec j =
        if j = k then recordAfter (s.stepRec k) n l f else s.stepRec j)
      ∧ (s.enter k n l f).ss.readyOrder =
          s.ss.readyOrder.filter (· ≠ k) ++ (if n = .ready then [k] else [])
      ∧ (s.enter k n l f).ss.closedOrder =
          s.ss.closedOrder.filter (· ≠ k) ++ (if n = .closed then [k] else []) := by
  have hp := s.enterParts_table k n l f
  have hl := State.leaveClosed_table ((((((s.writeState k n l f).rotate k n).setFlags).coilsOff
    k).fitEntry k).leaveReady k |>.voidOther k) k (s.stepRec k).state
  have hw : ∀ j, ((s.writeState k n l f).rotate k n).stepRec j =
      if j = k then enteredRecord (s.stepRec k) n l f else s.stepRec j := by
    intro j
    have e : ((s.writeState k n l f).rotate k n).stepRec j = (s.writeState k n l f).stepRec j := rfl
    rw [e]
    by_cases hj : j = k
    · subst hj
      simp [State.writeState, enteredRecord]
    · simp [State.writeState, hj]
  refine ⟨fun j => ?_, hl.1.trans hp.ready, hl.2.1.trans hp.closed⟩
  refine (hl.2.2 j).trans ?_
  rw [hp.stepRec, hp.stepRec, hw, hw]
  by_cases hj : j = k
  · subst hj
    simp [recordAfter, enteredRecord]
  · simp [hj]

/-- The state after a change of state. -/
theorem State.enter_state (s : State) (k : StepId) (n : StepState) (l : Option LockoutCause)
    (f : Option FailureCause) : ((s.enter k n l f).stepRec k).state = some n := by
  rw [(s.enter_spec k n l f).1 k, if_pos rfl]
  unfold recordAfter
  split <;> rfl

/-- A change of state leaves every other Step Record. -/
theorem State.enter_stepRec_ne (s : State) (j k : StepId) (n : StepState) (l : Option LockoutCause)
    (f : Option FailureCause) (h : j ≠ k) : (s.enter k n l f).stepRec j = s.stepRec j := by
  rw [(s.enter_spec k n l f).1 j, if_neg h]

end Sys2Proof.Machine
end

