-- ==== Sys2Proof/Laws/Queue.lean ====
section
/-!
SUPPORT. What the shared operations do to the Operation Queue: most leave it, a change of state (R3)
removes the WAITING entry that no longer fits at most, a posting (R50) admits, removes or changes one
entry, and an examination (R60) dispatches the chosen entry or does nothing.
-/
namespace Sys2Proof.Machine

/-! ## Operations that leave the queue -/

@[simp] theorem State.addLost_oq (s : State) (p : Port) (n : Nat) : (s.addLost p n).oq = s.oq := by
  simp [State.addLost]

/-- An Outcome Record's insertion (R186) leaves the queue. -/
@[simp] theorem State.insertOutcome_oq (s : State) (p : Port) (r : OutcomeRecord) :
    (s.insertOutcome p r).oq = s.oq := by
  unfold State.insertOutcome
  repeat' split
  all_goals simp

@[simp] theorem State.detuneResult_oq (s : State) (k : StepId) (r : OutcomeResult) :
    (s.detuneResult k r).oq = s.oq := by
  unfold State.detuneResult
  split <;> simp

/-- A result (R75) leaves the queue. -/
@[simp] theorem State.giveResult_oq (s : State) (o : Originator) (tag : Option Byte) (k : StepId)
    (kind : OpKind) (fast : Bool) (r : OutcomeResult) :
    (s.giveResult o tag k kind fast r).oq = s.oq := by
  cases o <;> simp [State.giveResult]

@[simp] theorem State.entryResult_oq (s : State) (e : Entry) (r : OutcomeResult) :
    (s.entryResult e r).oq = s.oq := by
  simp [State.entryResult]

@[simp] theorem State.markResult_oq (s : State) (k : StepId) (m : Mark) (r : OutcomeResult) :
    (s.markResult k m r).oq = s.oq := by
  simp [State.markResult]

@[simp] theorem State.markResultOpt_oq (s : State) (k : StepId) (m : Option Mark)
    (r : OutcomeResult) : (s.markResultOpt k m r).oq = s.oq := by
  cases m <;> simp [State.markResultOpt]

@[simp] theorem State.coilsOff_oq (s : State) (k : StepId) : (s.coilsOff k).oq = s.oq := by
  unfold State.coilsOff
  split
  · rfl
  · split <;> rfl

@[simp] theorem State.closeCoilOff_oq (s : State) : s.closeCoilOff.oq = s.oq := by
  unfold State.closeCoilOff
  split
  · rfl
  · split <;> rfl

@[simp] theorem State.assertBkt_oq (s : State) (k : StepId) (b : BackupReason) (o : Originator) :
    (s.assertBkt k b o).oq = s.oq := by
  unfold State.assertBkt
  split
  · rfl
  · exact State.closeCoilOff_oq _

@[simp] theorem State.abortCapture_oq (s : State) : s.abortCapture.oq = s.oq := by
  unfold State.abortCapture
  split <;> simp

@[simp] theorem State.settleStart_oq (s : State) : s.settleStart.oq = s.oq := by
  simp [State.settleStart]

@[simp] theorem State.endSelection_oq (s : State) (p : Port) (r : OutcomeResult) :
    (s.endSelection p r).oq = s.oq := by
  unfold State.endSelection
  split <;> simp

@[simp] theorem State.endSelectionOf_oq (s : State) (k : StepId) (r : OutcomeResult) :
    (s.endSelectionOf k r).oq = s.oq := by
  unfold State.endSelectionOf
  split <;> simp

@[simp] theorem State.leaveReady_oq (s : State) (k : StepId) : (s.leaveReady k).oq = s.oq := by
  unfold State.leaveReady
  split <;> simp

@[simp] theorem State.voidOther_oq (s : State) (k : StepId) : (s.voidOther k).oq = s.oq := by
  unfold State.voidOther
  split
  · rfl
  · split <;> rfl

@[simp] theorem State.leaveClosed_oq (s : State) (k : StepId) (o : Option StepState) :
    (s.leaveClosed k o).oq = s.oq := by
  unfold State.leaveClosed
  split
  · dsimp only
    split <;> simp
  · rfl

/-- A pulse that is asked for (R21) leaves the queue. -/
@[simp] theorem State.askPulse_oq (s : State) (k : StepId) (o : OpKind) :
    (s.askPulse k o).oq = s.oq := by
  unfold State.askPulse
  repeat' split
  all_goals simp

/-! ## Entries that leave -/

/-- The step's entry leaves, and nothing else of the queue changes (R48). -/
theorem State.dropEntry_oq (s : State) (k : StepId) :
    (s.dropEntry k).oq = { s.oq with entries := s.oq.entries.filter (fun e => e.step ≠ k) } := by
  simp [State.dropEntry]

/-- An entry that no longer fits leaves the list, or the queue stays as it is (R72). -/
theorem State.fitEntry_oq (s : State) (k : StepId) :
    (s.fitEntry k).oq = s.oq
      ∨ (s.fitEntry k).oq = { s.oq with entries := s.oq.entries.filter (fun e => e.step ≠ k) } := by
  unfold State.fitEntry
  repeat' split
  all_goals first
    | exact .inl rfl
    | exact .inr (by simp [State.dropEntry])

/-- An entry in flight stays (R72). -/
theorem State.fitEntry_inFlight (s : State) (k : StepId) (e : Entry) (h : s.entryOf k = some e)
    (i : e.status = .inFlight) : s.fitEntry k = s := by
  simp [State.fitEntry, h, i]

/-- A step without an entry has none to remove. -/
theorem State.fitEntry_none (s : State) (k : StepId) (h : s.entryOf k = none) : s.fitEntry k = s := by
  simp [State.fitEntry, h]

/-- The entry of a step is read from the queue alone. -/
theorem State.entryOf_congr {s t : State} (h : t.oq = s.oq) (k : StepId) : t.entryOf k = s.entryOf k := by
  simp [State.entryOf, h]

/-- A change of state leaves the queue, but for the entry of its step that no longer fits (R3). -/
theorem State.enter_oq (s : State) (k : StepId) (n : StepState) (l : Option LockoutCause)
    (f : Option FailureCause) :
    (s.enter k n l f).oq = s.oq
      ∨ (s.enter k n l f).oq =
          { s.oq with entries := s.oq.entries.filter (fun e => e.step ≠ k) } := by
  have h := State.fitEntry_oq ((((s.writeState k n l f).rotate k n).setFlags).coilsOff k) k
  simpa [State.enter] using h

/-- A change of state of a step whose entry is in flight leaves the queue (R3, R72). -/
theorem State.enter_oq_inFlight (s : State) (k : StepId) (n : StepState) (l : Option LockoutCause)
    (f : Option FailureCause) (e : Entry) (h : s.entryOf k = some e) (i : e.status = .inFlight) :
    (s.enter k n l f).oq = s.oq := by
  have g : ((((s.writeState k n l f).rotate k n).setFlags).coilsOff k).entryOf k = some e :=
    (State.entryOf_congr (by simp) k).trans h
  simp [State.enter, State.fitEntry_inFlight _ k e g i]

/-- A change of state of a step without an entry leaves the queue (R3). -/
theorem State.enter_oq_none (s : State) (k : StepId) (n : StepState) (l : Option LockoutCause)
    (f : Option FailureCause) (h : s.entryOf k = none) : (s.enter k n l f).oq = s.oq := by
  have g : ((((s.writeState k n l f).rotate k n).setFlags).coilsOff k).entryOf k = none :=
    (State.entryOf_congr (by simp) k).trans h
  simp [State.enter, State.fitEntry_none _ k g]

/-! ## Postings (R50 to R58) -/

/-- What a posting can do to the entries: nothing, one new entry at the tail, the step's entry removed,
or the step's entry changed in place. -/
inductive EntriesMove (p : Posting) (now : Nat) (l l' : List Entry) : Prop where
  | same (h : l' = l)
  | added (h : l' = l ++
      [{ kind := p.kind, step := p.step, originator := p.originator, tag := p.tag, admittedAt := now
         status := .waiting, mark := none, fast := p.fast }])
  | removed (h : l' = l.filter (fun e => e.step ≠ p.step))
  | changed (f : Entry → Entry) (h : l' = l.map (fun e => if e.step = p.step then f e else e))

/-- Two removals of one step's entry are one. -/
theorem filter_step_twice (l : List Entry) (k : StepId) :
    (l.filter (fun e => e.step ≠ k)).filter (fun e => e.step ≠ k) = l.filter (fun e => e.step ≠ k) := by
  simp [List.filter_filter]

/-- A posting admits, removes or changes one entry at most, and leaves the operate timer, the retry count
and V_pre (R50 to R58). -/
theorem State.post_oq (s : State) (p : Posting) :
    EntriesMove p s.clock.uptime s.oq.entries (s.post p).1.oq.entries
      ∧ { (s.post p).1.oq with entries := s.oq.entries } = s.oq := by
  have enter := fun (n : StepState) (l : Option LockoutCause) (f : Option FailureCause) =>
    s.enter_oq p.step n l f
  unfold State.post
  split
  · exact ⟨.same rfl, rfl⟩
  · split
    · split
      · unfold State.postClose
        dsimp only
        repeat' split
        all_goals first
          | exact ⟨.same rfl, rfl⟩
          | exact ⟨.added rfl, rfl⟩
      · unfold State.postOpen
        repeat' split
        all_goals first
          | exact ⟨.same rfl, rfl⟩
          | exact ⟨.added rfl, rfl⟩
      · unfold State.postTrip
        repeat' split
        all_goals first
          | exact ⟨.same rfl, rfl⟩
          | exact ⟨.added rfl, rfl⟩
          | (rcases enter .lockout (some (lockoutCauseOf p.originator)) none with h | h <;> rw [h]
             · exact ⟨.same rfl, rfl⟩
             · exact ⟨.removed rfl, rfl⟩)
          | (rw [State.assertBkt_oq]; exact ⟨.same rfl, rfl⟩)
    · split
      · unfold State.postOnWaitingClose
        split
        · rw [State.entryResult_oq, State.dropEntry_oq]
          exact ⟨.removed rfl, rfl⟩
        · rw [State.entryResult_oq]
          rcases (s.dropEntry p.step).enter_oq p.step .lockout
            (some (lockoutCauseOf p.originator)) none with h | h
          · rw [h, State.dropEntry_oq]
            exact ⟨.removed rfl, rfl⟩
          · rw [h, State.dropEntry_oq]
            exact ⟨.removed (filter_step_twice _ _), rfl⟩
        · exact ⟨.same rfl, rfl⟩
      · unfold State.postOnWaitingOpen
        split
        · rw [State.entryResult_oq]
          exact ⟨.changed _ rfl, rfl⟩
        · exact ⟨.same rfl, rfl⟩
        · exact ⟨.same rfl, rfl⟩
      · unfold State.postOnWaitingTrip
        split <;> exact ⟨.same rfl, rfl⟩
      · unfold State.postOnFlightClose
        repeat' split
        all_goals first
          | exact ⟨.same rfl, rfl⟩
          | exact ⟨.changed _ rfl, rfl⟩
          | (rw [State.markResult_oq]; exact ⟨.changed _ rfl, rfl⟩)
      · unfold State.postOnFlightOpen
        repeat' split
        all_goals first
          | exact ⟨.same rfl, rfl⟩
          | exact ⟨.changed _ rfl, rfl⟩

/-! ## Dispatch (R60 to R62) -/

/-- The chosen entry waits in the list (R61). -/
theorem State.chooseEntry_waits (s : State) (e : Entry) (h : s.chooseEntry = some e) :
    e ∈ s.oq.entries ∧ e.status = .waiting := by
  have one : ∀ k, s.oldestWaiting k = some e → e ∈ s.oq.entries ∧ e.status = .waiting := by
    intro k h
    have p := List.find?_some h
    have m := List.mem_of_find?_eq_some h
    simp only [Bool.decide_and, Bool.and_eq_true, decide_eq_true_eq] at p
    exact ⟨m, p.1⟩
  unfold State.chooseEntry at h
  split at h
  · rename_i h'
    exact one _ (h' ▸ h)
  · split at h
    · cases h
    · split at h
      · rename_i h'
        exact one _ (h' ▸ h)
      · split at h
        · cases h
        · exact one _ h

/-- An examination dispatches the chosen entry when nothing is in flight, and else does nothing (R60). -/
theorem State.examine_cases (s : State) :
    s.examine = s
      ∨ ∃ e, s.inFlight = none ∧ s.chooseEntry = some e ∧ s.examine = s.dispatchEntry e := by
  unfold State.examine
  split
  · exact .inl rfl
  · rename_i h
    split
    · exact .inl rfl
    · rename_i e h'
      exact .inr ⟨e, h, h', rfl⟩

/-- With an entry in flight an examination does nothing (R60). -/
theorem State.examine_inFlight (s : State) (h : s.inFlight ≠ none) : s.examine = s := by
  rcases s.examine_cases with e | ⟨e, n, -, -⟩
  · exact e
  · exact absurd n h

/-- With no entry an examination does nothing (R60). -/
theorem State.examine_empty (s : State) (h : s.oq.entries = []) : s.examine = s := by
  rcases s.examine_cases with e | ⟨e, -, c, -⟩
  · exact e
  · have m := (s.chooseEntry_waits e c).1
    rw [h] at m
    cases m

/-- An admission event changes the queue as its posting does, when an entry is in flight (R50, R60). -/
theorem State.admitOne_inFlight (s : State) (p : Posting) (h : (s.post p).1.inFlight ≠ none) :
    (s.admitOne p).1 = (s.post p).1 := by
  simp [State.admitOne, State.examine_inFlight _ h]

/-! ## Completion, failure and removal (R64 to R74) -/

/-- The end of an armed measurement (R87) keeps. -/
theorem State.endArmed_keeps (s : State) : s.Keeps s.endArmed := by
  unfold State.endArmed
  split
  · exact .refl s
  · exact ⟨rfl, rfl, rfl, rfl, rfl⟩

/-- The holds a completion leaves keep (R68, R168). -/
theorem State.manualHoldAfter_keeps (s : State) (e : Entry) : s.Keeps (s.manualHoldAfter e) := by
  unfold State.manualHoldAfter
  split
  · exact State.modStep_keeps _ _ _
  · exact State.modStep_keeps _ _ _
  · exact .refl s

theorem State.harmonicHoldAfter_keeps (s : State) (e : Entry) : s.Keeps (s.harmonicHoldAfter e) := by
  unfold State.harmonicHoldAfter
  split
  · exact State.modStep_keeps _ _ _
  · exact .refl s

theorem State.stopOperate_keeps (s : State) : s.Keeps s.stopOperate := ⟨rfl, rfl, rfl, rfl, rfl⟩

theorem State.arm_keeps (s : State) (k : StepId) (o : OpKind) (n : StepState) (c : Bool) :
    s.Keeps (s.arm k o n c) := ⟨rfl, rfl, rfl, rfl, rfl⟩

theorem State.convert_keeps (s : State) (k : StepId) (m : Mark) : s.Keeps (s.convert k m) :=
  State.Keeps.trans (by exact ⟨rfl, rfl, rfl, rfl, rfl⟩) (State.coilsOff_keeps _ k)

theorem State.countClose_keeps (s : State) (k : StepId) : s.Keeps (s.countClose k) :=
  State.modStep_keeps _ _ _

theorem State.loadDischarge_keeps (s : State) (k : StepId) : s.Keeps (s.loadDischarge k) :=
  State.modStep_keeps _ _ _

/-- A completed CLOSE leaves the clock, the measurement, the settings and the queue of commands (R65,
R66). -/
theorem State.completeClose_keeps (s : State) (e : Entry) : s.Keeps (s.completeClose e) := by
  have a := ((s.endArmed_keeps.trans (State.stopOperate_keeps _)).trans
    (State.enter_keeps _ e.step .closed none none)).trans (State.countClose_keeps _ e.step)
  have b := a.trans (State.entryResult_keeps _ e .done)
  unfold State.completeClose
  dsimp only
  split
  · exact ((((b.trans (State.dropEntry_keeps _ _)).trans (State.settleStart_keeps _)).trans
      (State.arm_keeps _ _ _ _ _)).trans (State.manualHoldAfter_keeps _ _)).trans
      (State.examine_keeps _)
  · exact ((((b.trans (State.convert_keeps _ _ _)).trans (State.settleStart_keeps _)).trans
      (State.arm_keeps _ _ _ _ _)).trans (State.manualHoldAfter_keeps _ _)).trans
      (State.examine_keeps _)

/-- A completed OPEN or TRIP leaves the clock, the measurement, the settings and the queue of commands
(R67). -/
theorem State.completeOpen_keeps (s : State) (e : Entry) : s.Keeps (s.completeOpen e) := by
  have a := ((s.endArmed_keeps.trans (State.stopOperate_keeps _)).trans
    (State.dropEntry_keeps _ e.step)).trans (State.loadDischarge_keeps _ e.step)
  have b := ((a.trans (State.enter_keeps _ e.step (openEndState e) (openEndCause e) none)).trans
    (State.entryResult_keeps _ e .done)).trans (State.markResultOpt_keeps _ e.step (tripMark e) .done)
  exact ((((b.trans (State.settleStart_keeps _)).trans (State.arm_keeps _ _ _ _ _)).trans
    (State.harmonicHoldAfter_keeps _ _)).trans (State.manualHoldAfter_keeps _ _)).trans
    (State.examine_keeps _)

/-- A failed CLOSE leaves them too (R69). -/
theorem State.failClose_keeps (s : State) (e : Entry) : s.Keeps (s.failClose e) := by
  have a := ((((s.stopOperate_keeps.trans (State.dropEntry_keeps _ e.step)).trans
    (State.enter_keeps _ e.step .failed none (some .closeTimeout))).trans
    (State.entryResult_keeps _ e .switchFailed)).trans
    (State.markResultOpt_keeps _ e.step e.mark .switchFailed))
  unfold State.failClose
  dsimp only
  split
  · exact (a.trans (State.settleStart_keeps _)).trans (State.examine_keeps _)
  · exact ((a.trans (State.assertBkt_keeps _ _ _ _)).trans (State.settleStart_keeps _)).trans
      (State.examine_keeps _)

/-- A failed OPEN or TRIP leaves them too (R70). -/
theorem State.failOpen_keeps (s : State) (e : Entry) : s.Keeps (s.failOpen e) := by
  have a := ((((s.stopOperate_keeps.trans (State.dropEntry_keeps _ e.step)).trans
    (State.enter_keeps _ e.step .failed none (some .openTimeout))).trans
    (State.entryResult_keeps _ e .switchFailed)).trans
    (State.markResultOpt_keeps _ e.step (tripMark e) .switchFailed))
  unfold State.failOpen
  dsimp only
  split
  · exact (a.trans (State.settleStart_keeps _)).trans (State.examine_keeps _)
  · exact ((a.trans (State.assertBkt_keeps _ _ _ _)).trans (State.settleStart_keeps _)).trans
      (State.examine_keeps _)

/-- Removals of waiting entries leave them too (R71, R73, R74). -/
theorem State.removeEach_keeps (s : State) (l : List Entry) (r : OutcomeResult) :
    s.Keeps (s.removeEach l r) := by
  unfold State.removeEach
  induction l generalizing s with
  | nil => exact .refl s
  | cons e l ih =>
    exact ((State.dropEntry_keeps s e.step).trans (State.entryResult_keeps _ e r)).trans (ih _)

/-- Removals of waiting entries leave the Step Table and the rotation orders (R71, R73, R74). -/
theorem State.removeEach_table (s : State) (l : List Entry) (r : OutcomeResult) :
    s.SameTable (s.removeEach l r) := by
  unfold State.removeEach
  induction l generalizing s with
  | nil => exact .refl s
  | cons e l ih =>
    exact ((State.dropEntry_table s e.step).trans (.of_ss (State.entryResult_ss _ e r))).trans (ih _)

/-- The entries that removals leave are those of steps without a removed entry (R71, R73, R74). -/
theorem State.removeEach_entries (s : State) (l : List Entry) (r : OutcomeResult) :
    (s.removeEach l r).oq.entries = s.oq.entries.filter (fun e => l.all (fun x => e.step ≠ x.step)) := by
  unfold State.removeEach
  induction l generalizing s with
  | nil => simp
  | cons x l ih =>
    rw [List.foldl_cons, ih, State.entryResult_oq, State.dropEntry_oq]
    simp [List.filter_filter, Bool.and_comm]

end Sys2Proof.Machine
end

