-- ==== Sys2Proof/Tests/Slice0.lean ====
section
/-!
SUPPORT. The model's own tests: the WellFormed smoke tests, the manual's worked figures, single steps, and
for each statement with hypotheses a witness that meets them.
-/
namespace Sys2Proof.Tests

set_option Elab.async false

open Sys2Proof.Machine

/-! ## States to start from -/

/-- A Port A window of eight bytes with tag 5. -/
def hA : Header := { port := .a, tag := 5, window := 8 }

/-- A Port B window of eight bytes with tag 9. -/
def hB : Header := { port := .b, tag := 9, window := 8 }

/-- A step's record with a state and a position. -/
def put (k : StepId) (st : StepState) (p : Position) (s : State) : State :=
  s.modStep k (fun r => { r with state := some st, position := some p })

/-- A running yard with nothing pending: S1 and S7 CLOSED, S2 and S8 READY, S3 DISCHARGING with one second
left, S4 in LOCKOUT, S5 FAILED with its switch open, S6 OUT; the key at LOCAL. -/
def yard : State :=
  let s := { State.reset with
    ss := { State.reset.ss with readyOrder := [1, 7], closedOrder := [0, 6] }
    au := { State.reset.au with key := some .loc }
    set :=
      { State.reset.set with startup := .running, derived := true, loadedAt := some 60000 } }
  let t := put 0 .closed .atClosed (put 1 .ready .atOpen (put 2 .discharging .atOpen
    (put 3 .lockout .atOpen (put 4 .failed .atOpen (put 5 .out .atOpen (put 6 .closed .atClosed
      (put 7 .ready .atOpen s)))))))
  (t.modStep 2 (fun r => { r with discharge := 1 })).modStep 3
    (fun r => { r with lockoutCause := some .unbalance, discharge := 2 })

/-- An entry of the queue. -/
def entry (kind : OpKind) (k : StepId) (o : Originator) (st : EntryStatus) (m : Option Mark) : Entry :=
  { kind := kind, step := k, originator := o, tag := none, admittedAt := 0, status := st, mark := m
    fast := false }

/-- A state with a queue. -/
def queue (l : List Entry) (s : State) : State := { s with oq := { s.oq with entries := l } }

/-- A state whose settle period runs. -/
def settling (s : State) : State := { s with cu := { s.cu with settle := 3 } }

/-- S2 CLOSING, its CLOSE in flight for Port A with an operate timer, with a mark or without. -/
def closing (m : Option Mark) : State :=
  let s := put 1 .closing .travel (queue [entry .closeOp 1 .portA .inFlight m] yard)
  { s with
    oq := { s.oq with operate := some { since := 0, length := 500 } }
    ss := { s.ss with readyOrder := [7] } }

/-- S1 OPENING, its OPEN or TRIP in flight with an operate timer. -/
def opening (kind : OpKind) (o : Originator) (m : Option Mark) : State :=
  let s := put 0 .opening .travel (queue [entry kind 0 o .inFlight m] yard)
  { s with
    oq := { s.oq with operate := some { since := 0, length := 500 } }
    ss := { s.ss with closedOrder := [6] } }

/-- A TRIP mark of the unbalance stages. -/
def tripMarkU : Mark := { kind := .tripOp, originator := .unbalance, tag := none, fast := false }

/-- An OPEN mark of Port B. -/
def openMarkB : Mark := { kind := .openOp, originator := .portB, tag := some 4, fast := false }

/-- A step whose closed contact is about to be accepted, so that its position becomes CLOSED. -/
def towardClosed (k : StepId) (s : State) : State :=
  s.modStep k (fun r =>
    { r with
      position := some .travel
      closedContact := { raw := true, since := 0, accepted := some false }
      openContact := { raw := false, since := 0, accepted := some false } })

/-- A step whose open contact is about to be accepted, so that its position becomes OPEN. -/
def towardOpen (k : StepId) (s : State) : State :=
  s.modStep k (fun r =>
    { r with
      position := some .travel
      closedContact := { raw := false, since := 0, accepted := some false }
      openContact := { raw := true, since := 0, accepted := some false } })

/-- The key at REMOTE with the supervision timer running. -/
def remote (s : State) : State :=
  { s with au := { s.au with key := some .remote, remaining := some 60 } }

/-- Port A has selected S2. -/
def picked : State :=
  { yard with au := { yard.au with slotA := some { step := 1, tag := 7, expiry := 10 } } }

/-- The line taken as dead. -/
def dead (s : State) : State := { s with avc := { s.avc with line := .dead } }

/-- M2, made a BLOCK_CLOSE monitor, is active. -/
def blocking (s : State) : State :=
  let c := s.set.settings.put (.monitor .action 1) 2
  ({ s with set := { s.set with settings := c } }).setMonitor 1
    { s.monitor 1 with active := true, accumulator := 1 }

/-- A latest frame with the flags clear. -/
def framed (f : Frame → Frame) (s : State) : State :=
  { s with me := { s.me with frame := f { s.me.frame with noRef := false } } }

/-- A setting in force. -/
def withSetting (i : SettingId) (v : Nat) (s : State) : State :=
  { s with set := { s.set with settings := s.set.settings.put i v } }

/-- BKT is asserted. -/
def backedUp (s : State) : State :=
  { s with
    upu :=
      { s.upu with
        backup := some { step := 4, reason := .openTimeout, originator := .unbalance, uptime := 0 } } }

/-- The Trip Record is held. -/
def tripHeld (s : State) : State :=
  { s with
    upu :=
      { s.upu with
        tripRecord := some
          { cause := .external, step := none, uptime := 0, frame := 0, u := none, dre := none
            dim := none, vAvg := 0, di := 0, further := 0 } } }

/-- A copy of the image that a SAVE could have written. -/
def goodCopy (seq : Nat) : Image :=
  imageBuild seq .default (Vector.replicate 8 { compensation := none, learnedRise := 9, closeCount := 2 })

/-- The yard's invariants hold where no coil is driven and no slot is filled. -/
theorem sound_of {s : State} (h : s.OrdersSound ∧ s.QueueSound ∧ s.ss.pulse = none
    ∧ s.au.slotA = none ∧ s.au.slotB = none) : s.YardSound := by
  refine ⟨h.1, h.2.1, ?_, ?_, ?_⟩
  · simp [State.CoilsSound, h.2.2.1]
  · intro x hx; simp [State.slot, h.2.2.2.1] at hx
  · intro x hx; simp [State.slot, h.2.2.2.2] at hx

/-- What `exec` leaves, for the single-step tests. -/
def after (c : Instr) (s : State) : State :=
  match exec c s with
  | .next t => t
  | .fault _ => s
  | .refused _ => s

/-! ## WellFormed smoke tests: one ill-formed term for each check -/

theorem test_short_window_refused : (Instr.status { hA with window := 3 }).wellFormed = false := by
  decide

theorem test_short_step_window_refused :
    (Instr.openStep { hA with window := 4 } 1).wellFormed = false := by decide

theorem test_short_get_window_refused :
    (Instr.getSetting { hA with window := 5 } 1 0).wellFormed = false := by decide

theorem test_short_set_window_refused :
    (Instr.setSetting { hA with window := 7 } 1 0 900).wellFormed = false := by decide

theorem test_good_frame_is_no_bad_frame :
    (Instr.badFrame .a [0x00, 0x01, 0x05, 0x0E]).wellFormed = false := by decide +kernel

theorem test_known_code_is_no_unknown_request :
    (Instr.unknownRequest hA 0x01 []).wellFormed = false := by decide

theorem test_long_unknown_payload_refused :
    (Instr.unknownRequest { hA with window := 90 } 0x77 (List.replicate 61 0)).wellFormed = false := by
  decide

theorem test_repeated_second_part_refused :
    (Instr.elapsedSecond [.stale, .stale]).wellFormed = false := by decide

theorem test_repeated_frame_part_refused :
    (Instr.frameArrival
      { va := Vector.replicate 32 0, vb := Vector.replicate 32 0, vc := Vector.replicate 32 0
        neutrals := Vector.replicate 8 (Vector.replicate 32 0), parts := [.avc, .avc]
        riseFirst := false }).wellFormed = false := by decide

theorem test_wide_image_refused :
    (Instr.saveComplete { imageBlank with seq := 65536 }).wellFormed = false := by decide +kernel

/-! ## Windows written out from R177, R181 and 9.9 -/

/-- The worked frame of 9.2: STATUS with tag 5 is the bytes 00 01 05 0E. -/
theorem test_status_window :
    decodeWindow .a [0x00, 0x01, 0x05, 0x0E] = .status { port := .a, tag := 5, window := 4 } := by
  decide +kernel

theorem test_status_window_written :
    encodeWindow (.status { port := .a, tag := 5, window := 6 })
      = some (.a, [0x00, 0x01, 0x05, 0x0E, 0x00, 0x00]) := by decide +kernel

theorem test_wrong_check_is_bad_frame :
    decodeWindow .b [0x00, 0x01, 0x05, 0x0F] = .badFrame .b [0x00, 0x01, 0x05, 0x0F] := by
  decide +kernel

theorem test_open_window :
    decodeWindow .b ([0x01, 0x10, 0x22, 0x0F] ++ [crc8 [0x01, 0x10, 0x22, 0x0F]])
      = .openStep { port := .b, tag := 0x22, window := 5 } 0x0F := by decide +kernel

theorem test_set_window :
    decodeWindow .a ([0x04, 0x20, 0x01, 0x13, 0x00, 0x27, 0x10]
        ++ [crc8 [0x04, 0x20, 0x01, 0x13, 0x00, 0x27, 0x10]])
      = .setSetting { port := .a, tag := 1, window := 8 } 0x13 0x00 10000 := by decide +kernel

/-! ## The manual's worked figures -/

/-- 9.2: the CRC-8 register after 00 01 05. -/
theorem test_crc8 : crc8 [0x00, 0x01] = 0x07 ∧ crc8 [0x00, 0x01, 0x05] = 0x0E := by decide +kernel

/-- 2.10: the phase voltages, the fifth harmonic and the distortion index of VA. -/
theorem test_phase_figures :
    phaseVoltage 1150 19200 = 1043 ∧ phaseVoltage 1150 19000 = 1033 ∧ phaseVoltage 1150 19150 = 1041
      ∧ harmonicRatio 1150 19200 231 = 120 ∧ harmonicRatio 1150 19200 750 = 390
      ∧ distortion 120 390 85 30 20 = 418 ∧ averageOf 1043 1033 1041 = 1039 := by decide +kernel

/-- 2.3 (R33) and 2.10: the frequency at 20,080 µs, and the instants of sets 1 and 31; 625 µs between two
sets at 20,000 µs. -/
theorem test_period_figures :
    (let f : Sampling := { start := 0, period := 20080, freeStarted := false }
     centihertz 20080 = 4980 ∧ f.instant 0 = 0 ∧ f.instant 1 = 627 ∧ f.instant 31 = 19452
      ∧ f.arrival = 19452)
      ∧ (List.range 32).all (fun n =>
          ({ start := 40, period := 20000, freeStarted := false } : Sampling).instant n = 40 + 625 * n)
        = true := by decide

/-- 2.10: a neutral phasor truncates toward zero. -/
theorem test_neutral_figures : (-1000000 : Int).tdiv 4096 = -244 ∧ (5000 : Int).tdiv 4096 = 1 := by
  decide

/-- 7.3: the compensated unbalance of S3 at two voltages, and without compensation. -/
theorem test_unbalance_figures :
    (let c := some ({ cre := 300, cim := -100, vcap := 1000 } : Compensation)
     unbalanceOf 800 (diffRe c 410 1039) (diffIm c (-120) 1039) false = 78
      ∧ unbalanceOf 800 (diffRe c 410 1043) (diffIm c (-120) 1043) false = 77)
      ∧ unbalanceOf 800 410 (-120) false = 333 := by decide +kernel

/-- 4.5: the table of learned rises under R90. -/
theorem test_rise_figures :
    riseUpdate 15 23 = 17 ∧ riseUpdate 15 10 = 14 ∧ riseUpdate 15 18 = 15 ∧ riseUpdate 15 0 = 12
      ∧ riseUpdate 17 30 = 20 ∧ riseUpdate 200 200 = 200 := by decide

/-- R196: with BW 10 and HYS 8 in force a SET of HYS 15 holds 10, and a SET of BW 5 after it holds 10. -/
theorem test_cross_clamp :
    (let s := withSetting (.yard .hys) 8 (withSetting (.yard .bw) 10 yard)
     let t := s.hold (.yard .hys) (s.clamp (.yard .hys) 15)
     t.upcoming (.yard .hys) = 10 ∧ t.clamp (.yard .bw) 5 = 10) := by decide +kernel

/-! ## Single steps -/

theorem test_keepalive_answer :
    ((after (.keepalive hA) yard).portState .a).buffer.map (·.take 3) = some [0x00, 0x02, 0x05] := by
  decide +kernel

theorem test_open_dispatches_in_the_same_event :
    ((after (.openStep hA 1) yard).stepRec 0).state = some .opening
      ∧ (after (.openStep hA 1) yard).coilOn 0 .openCoil = true := by decide +kernel

theorem test_select_then_operate :
    ((after (.operate hA 2) (after (.select hA 2) yard)).stepRec 1).state = some .closing := by
  decide +kernel

theorem test_close_completes :
    ((after (.contactDebounceAccept 1 .closedContact) (towardClosed 1 (closing none))).stepRec 1).state
      = some .closed := by decide +kernel

theorem test_trip_locks_out :
    ((after (.contactDebounceAccept 0 .openContact)
      (towardOpen 0 (opening .tripOp .unbalance none))).stepRec 0).lockoutCause
      = some .unbalance := by decide +kernel

theorem test_discharge_ends_at_the_second :
    (after (.elapsedSecond []) yard).ss.readyOrder = [1, 7, 2] := by decide +kernel

theorem test_default_loading_alarms :
    (after .loadingEnd State.reset).alm = true
      ∧ (after .loadingEnd State.reset).set.current1 = some true := by decide +kernel

theorem test_reserved_slots_hold_a_ports_own_records :
    (let r : OutcomeRecord := yard.outcomeOf 0 0 .openOp .done
     let full := { yard with os := { a := List.replicate 10 (.shared, r), b := [] } }
     ((List.range 4).foldl (fun (t : State) _ => t.insertOutcome .b r) full).outcomes .b
      = List.replicate 3 (.reserve, r)) := by decide +kernel

/-- Both contacts of a step about to be accepted, their windows since two instants. -/
def contactPair (k : StepId) (c o : Bool × Bool) (sinceC sinceO : Nat) (s : State) : State :=
  s.modStep k (fun r =>
    { r with
      closedContact := { raw := c.2, since := sinceC, accepted := some c.1 }
      openContact := { raw := o.2, since := sinceO, accepted := some o.1 }
      position := positionOf (some c.1) (some o.1) })

/-- R5: a CLOSED step in TRAVEL whose contacts are both made at one instant goes to INVALID and stays CLOSED,
whichever contact is taken first; the other has then nothing to accept. -/
theorem test_contacts_at_one_instant :
    (let s := contactPair 0 (false, true) (false, true) 50 50 yard
     let t := after (.contactDebounceAccept 0 .openContact) s
     (t.stepRec 0).position = some .invalid ∧ (t.stepRec 0).state = some .closed
      ∧ t.ss.unexpectedOpen = [] ∧ after (.contactDebounceAccept 0 .closedContact) t = t
      ∧ after (.contactDebounceAccept 0 .closedContact) s = t) := by decide +kernel

/-- R5, R9: with the open contact accepted a microsecond earlier the step has been OPEN. -/
theorem test_contacts_at_two_instants :
    ((after (.contactDebounceAccept 0 .openContact)
      (contactPair 0 (false, true) (false, true) 51 50 yard)).stepRec 0).state
      = some .discharging := by decide +kernel

/-- R82, R118: a NOV lowered below the held count brings no fast open at a SETTLING frame, and one at the
next frame that raises the count. -/
theorem test_settling_frame_holds_the_overvoltage_count :
    (let s := framed (fun f => { f with vMax := 1100, settling := true })
       (withSetting (.yard .nov) 3 { yard with avc := { yard.avc with ovCnt := 7 } })
     let t := framed (fun f => { f with settling := false }) s
     s.fastStage = s ∧ after .fastOpen s = s ∧ t.fastStage.avc.ovCnt = 0
      ∧ (t.fastStage.stepRec 0).state = some .opening) := by decide +kernel

/-- 9.9: STATUS bytes 24 to 31, 32 to 40 and 62 of the yard with BKT asserted. -/
theorem test_status_places :
    (let l := (backedUp yard).statusPayload .a
     (l.drop 24).take 8 = [5, 3, 2, 7, 8, 1, 5, 3] ∧ (l.drop 32).take 9 = [2, 2, 8, 0, 0, 0, 0, 0, 0]
      ∧ l[62]? = some 8 ∧ (l.drop 67).take 7 = [5, 2, 5, 0, 0, 0, 0]) := by decide +kernel

/-! ## Witnesses: concrete states and operands that meet the hypotheses of the statements -/

theorem yard_sound : yard.YardSound := sound_of (by decide +kernel)

theorem closing_sound (m : Option Mark) (h : m = none ∨ m = some tripMarkU ∨ m = some openMarkB) :
    (closing m).YardSound := by
  rcases h with rfl | rfl | rfl <;> exact sound_of (by decide +kernel)

theorem picked_sound : picked.SelectionsSound := by
  constructor
  · intro x hx
    simp only [State.slot, picked, Option.some.injEq] at hx
    subst hx
    decide +kernel
  · intro x hx
    simp [State.slot, picked, yard, put, State.modStep, State.setStep, State.reset, State.afterReset]
      at hx

/-- StepRunsFrontCommand: a waiting command, an empty queue with the controller running, and one with a
reset held. -/
theorem witness_step :
    ({ yard with pending := [.keepalive hA] } : State).pending = Instr.keepalive hA :: []
      ∧ yard.pending = [] ∧ yard.clock.held = none
      ∧ (after .pinReset yard).pending = [] ∧ (after .pinReset yard).clock.held ≠ none := by
  decide +kernel

/-- HeldResetStopsTheController and ReleaseLeavesAfterReset. -/
theorem witness_held :
    (after .pinReset yard).clock.held ≠ none ∧ (Instr.dispatch).worksInReset = false
      ∧ (after .pinReset yard).clock.held = some { power := false, pin := true }
      ∧ (after .powerOnReset (after .pinReset yard)).clock.held
          = some { power := true, pin := true } := by decide +kernel

/-- The statements of what every step keeps: a sound state whose step is an elapsed second. -/
theorem witness_steps_keep :
    ∃ s t : State, s.YardSound ∧ s.StoreSound ∧ s.SettingsSound ∧ s.MonitorsSound ∧ s.DischargeSound
      ∧ s.PeriodSound ∧ s.CountsSound ∧ step s = .next t :=
  ⟨{ yard with pending := [.elapsedSecond []] }, _, sound_of (by decide +kernel), by decide +kernel,
    by decide +kernel, by decide +kernel, by decide +kernel, by decide +kernel, by decide +kernel, rfl⟩

/-- KeepaliveActsOnSupervision: a Port B frame at REMOTE, and a Port A frame. -/
theorem witness_keepalive :
    (remote yard).serves ∧ (hB.port = .b ∧ (remote yard).au.key = some .remote) ∧ yard.serves
      ∧ ¬(hA.port = .b ∧ yard.au.key = some .remote) := by decide +kernel

/-- RequestsAreScreenedInOrder: each of the four rows. -/
theorem witness_screened :
    ((Instr.status hA).header = some hA ∧ State.reset.clock.held = none
        ∧ State.reset.set.startup = .loading)
      ∧ ((Instr.unknownRequest hA 0x77 []).header = some hA ∧ yard.clock.held = none
        ∧ yard.set.startup = .running)
      ∧ ((Instr.save hB).header = some hB ∧ (Instr.save hB).portAOnly = true ∧ hB.port = .b)
      ∧ ((Instr.stepQuery hB 9).header = some hB ∧ (Instr.stepQuery hB 9).portAOnly = false
        ∧ (Instr.stepQuery hB 9).fieldOut = true)
      ∧ ((Instr.takeOut hA 0).header = some hA ∧ hA.port = .a ∧ (Instr.takeOut hA 0).fieldOut = true)
      ∧ (Instr.openStep hA 15).fieldOut = false ∧ (Instr.openStep hA 14).fieldOut = true := by
  decide +kernel

/-- UnservedFramesAreAnswered. -/
theorem witness_unserved :
    yard.clock.held = none ∧ goodFrame [0x3D] = false ∧ yard.serves ∧ payloadSize 0x77 = none := by
  decide +kernel

/-- WindowsReadBackAsTheirCommands: a request, an unknown request and a bad frame. -/
theorem witness_windows :
    (Instr.setSetting hA 0x10 0 1000).wellFormed = true
      ∧ (encodeWindow (.setSetting hA 0x10 0 1000)).isSome = true
      ∧ (Instr.unknownRequest hA 0x30 [1]).wellFormed = true
      ∧ (encodeWindow (.unknownRequest hA 0x30 [1])).isSome = true
      ∧ (Instr.badFrame .b []).wellFormed = true
      ∧ (encodeWindow (.badFrame .b [])).isSome = true := by decide +kernel

/-- QueriesReportAndChangeNothing and StatusAndOutcomeReadTakeWhatTheyReport. -/
theorem witness_queries :
    yard.serves ∧ names 1 0 ∧ names 8 7 ∧ SettingId.yard .vset ∈ allSettingIds
      ∧ (SettingId.yard .vset).number = (0x10 : Byte).toNat
      ∧ (SettingId.yard .vset).index = (0 : Byte).toNat := by decide +kernel

/-- OpenIsJudgedByTheStepsState: each kind of state, and the queue's invariant. -/
theorem witness_open_judged :
    (openPosting .portA none false 0).kind = .openOp ∧ yard.QueueSound
      ∧ (yard.entryOf 0 = none ∧ (yard.stepRec 0).state = some .closed)
      ∧ (yard.entryOf 1 = none ∧ (yard.stepRec 1).state = some .ready)
      ∧ (yard.entryOf 2 = none ∧ (yard.stepRec 2).state = some .discharging)
      ∧ (yard.entryOf 3 = none ∧ (yard.stepRec 3).state = some .lockout)
      ∧ (yard.entryOf 4 = none ∧ (yard.stepRec 4).state = some .failed)
      ∧ (yard.entryOf 5 = none ∧ (yard.stepRec 5).state = some .out) := by decide +kernel

/-- OpenRequestIsAdmitted: while the yard settles, and with nothing in the way. -/
theorem witness_open_request :
    ((settling yard).serves ∧ names 1 0 ∧ (((settling yard).judged hA).stepRec 0).state = some .closed
        ∧ ((settling yard).judged hA).entryOf 0 = none ∧ ((settling yard).judged hA).heldBack)
      ∧ ((yard.judged hA).stepRec 0).state = some .closed ∧ (yard.judged hA).entryOf 0 = none
      ∧ (yard.judged hA).inFlight = none ∧ (yard.judged hA).cu.settle = 0
      ∧ (∀ e ∈ (yard.judged hA).oq.entries, e.status = .waiting → e.kind = .closeOp)
      ∧ ((yard.judged hA).stepRec 0).position ≠ some .atOpen := by decide +kernel

/-- OpenAllIsAnsweredStepByStep. -/
theorem witness_open_all :
    (closing none).serves ∧ ((closing none).judged hA).QueueSound
      ∧ ((closing none).judged hA).CoilsSound ∧ ((closing none).judged hA).heldBack :=
  ⟨by decide +kernel, by decide +kernel, trivial, by decide +kernel⟩

/-- SelectFillsItsSlot: a SELECT that is accepted and one that is not. -/
theorem witness_select :
    (yard.serves ∧ names 2 1 ∧ (yard.judged hA).holder = some hA.port
      ∧ (yard.judged hA).au.auto = false ∧ ((yard.judged hA).stepRec 1).state = some .ready
      ∧ (yard.judged hA).inService 1 = true ∧ (yard.judged hA).entryOf 1 = none
      ∧ (yard.judged hA).slot hA.port = none ∧ (yard.judged hA).avc.line = .live
      ∧ (yard.judged hA).harmonicBlock = false
      ∧ (yard.judged hA).me.frame.vMax < (yard.judged hA).y .vov
      ∧ (yard.judged hA).bkt = false ∧ (yard.judged hA).tripRecordBlock = false)
      ∧ names 1 0 ∧ ((yard.judged hA).stepRec 0).state ≠ some .ready := by decide +kernel

/-- The answer to a SELECT of a step from Port A: its code, and the first byte that follows the tag. -/
def selectAnswer (k : StepId) (s : State) : Option (List Byte) :=
  (after (.select hA (byte (k.val + 1))) s).pi.a.buffer.map (fun l => (l.drop 1).take 1 ++ (l.drop 3).take 1)

/-- R170: the codes of SELECT's refusals, from NOT_HOLDER to DEAD_LINE. -/
theorem test_select_refusals :
    [selectAnswer 1 (remote yard), selectAnswer 1 { yard with au := { yard.au with auto := true } },
        selectAnswer 5 yard, selectAnswer 1 (queue [entry .closeOp 1 .avc .waiting none] (settling yard)),
        selectAnswer 7 picked, selectAnswer 1 (dead (backedUp yard))].map (·.map (·.take 1))
      = [9, 10, 13, 15, 12, 18].map (fun n => some [n]) := by decide +kernel

/-- R170: the cause that BLOCKED carries is the first block that holds. -/
theorem test_select_blocks :
    [selectAnswer 1 (blocking (backedUp yard)),
        selectAnswer 1 (backedUp (framed (fun f => { f with vMax := 1100 }) yard)),
        selectAnswer 1 (tripHeld (backedUp yard)), selectAnswer 1 (tripHeld yard)]
      = [1, 2, 3, 4].map (fun n => some [17, n]) := by decide +kernel

/-- OperateConsumesTheSelection: admitted, refused for a dead line, for a harmonic block, under BKT and under
the Trip Record, and a step that is not selected. -/
theorem witness_operate :
    ((settling picked).serves ∧ names 2 1
        ∧ (((settling picked).judged hA).slot hA.port).map (·.step) = some 1
        ∧ (((settling picked).judged hA).stepRec 1).state = some .ready
        ∧ ((settling picked).judged hA).inService 1 = true
        ∧ ((settling picked).judged hA).entryOf 1 = none
        ∧ ((settling picked).judged hA).avc.line = .live
        ∧ ((settling picked).judged hA).harmonicBlock = false
        ∧ ((settling picked).judged hA).bkt = false
        ∧ ((settling picked).judged hA).tripRecordBlock = false
        ∧ ((settling picked).judged hA).heldBack)
      ∧ ((dead (settling picked)).judged hA).avc.line = .dead
      ∧ ((dead (settling picked)).judged hA).heldBack
      ∧ ((blocking (settling picked)).judged hA).harmonicBlock = true
      ∧ ((blocking (settling picked)).judged hA).heldBack
      ∧ (((blocking (settling picked)).judged hA).slot hA.port).map (·.step) = some 1
      ∧ (((backedUp (settling picked)).judged hA).harmonicBlock = false
        ∧ ((backedUp (settling picked)).judged hA).bkt = true
        ∧ ((backedUp (settling picked)).judged hA).heldBack)
      ∧ (((tripHeld (settling picked)).judged hA).bkt = false
        ∧ ((tripHeld (settling picked)).judged hA).tripRecordBlock = true
        ∧ ((tripHeld (settling picked)).judged hA).heldBack)
      ∧ ((yard.judged hA).slot hA.port).map (·.step) ≠ some 1 := by decide +kernel

/-- CancelEmptiesItsSlot. -/
theorem witness_cancel :
    picked.serves ∧ 8 < (15 : Byte).toNat ∧ names 2 1
      ∧ ((picked.judged hB).slot hB.port).map (·.step) ≠ some 1
      ∧ ((picked.judged hA).slot hA.port).map (·.step) = some 1 := by decide +kernel

/-- AutoAndReleaseHoldFollowTheHolder: from the holder with a selection to cancel, and from the other
port. -/
theorem witness_auto :
    picked.serves ∧ (picked.judged hB).holder ≠ some hB.port
      ∧ (picked.judged hA).holder = some hA.port ∧ (1 : Byte) ≠ 0
      ∧ (picked.judged hA).au.auto = false ∧ ((picked.judged hA).slot .a).isSome = true
      ∧ (1 ≤ (2 : Byte).toNat ∧ (2 : Byte).toNat ≤ 8) ∧ (15 : Byte).toNat = 15 := by decide +kernel

/-- SetHoldsTheClampedValue: taken, refused to a Port B that is not the holder, and refused during a
SAVE. -/
theorem witness_set :
    (yard.serves ∧ SettingId.yard .bw ∈ allSettingIds
      ∧ (SettingId.yard .bw).number = (0x11 : Byte).toNat
      ∧ (SettingId.yard .bw).index = (0 : Byte).toNat ∧ hA.port = .a
      ∧ (yard.judged hA).set.save = none ∧ (yard.judged hA).SettingsSound)
      ∧ (yard.judged hB).holder ≠ some .b
      ∧ (({ yard with set := { yard.set with
            save := some { image := imageBlank, tag := 1, target1 := false } } } : State).judged
          hA).set.save ≠ none := by decide +kernel

/-- SaveStoresASnapshot: no SAVE in flight, one in flight, and its two ends. -/
theorem witness_save :
    yard.serves ∧ hA.port = .a ∧ yard.set.save = none ∧ (yard.judged hA).SettingsSound
      ∧ (let f : SaveInFlight := { image := imageBlank, tag := 1, target1 := true }
         ({ yard with set := { yard.set with save := some f } } : State).set.save = some f
          ∧ ({ yard with set := { yard.set with save := some f } } : State).clock.held = none
          ∧ imageBlank = f.image ∧ { imageBlank with seq := 1 } ≠ f.image) := by decide +kernel

theorem good_copy_valid (n : Nat) : imageValid (goodCopy n) = true := by
  have h : (goodCopy n).settings.inRange = true := by
    simp only [goodCopy, imageBuild]; decide +kernel
  simp only [imageValid, h, Bool.true_and, decide_eq_true_eq]
  simp only [goodCopy, imageBuild]

/-- LoadingTakesAValidCopy: one valid copy, a successor, two copies of which neither succeeds the other, and
none valid. -/
theorem witness_loading :
    State.reset.clock.held = none ∧ State.reset.set.startup = .loading
      ∧ imageValid State.reset.set.copy0 = false ∧ imageValid State.reset.set.copy1 = false
      ∧ imageValid (goodCopy 8) = true ∧ imageValid imageBlank = false
      ∧ (goodCopy 8).seq = ((goodCopy 7).seq + 1) % 65536
      ∧ (goodCopy 9).seq ≠ ((goodCopy 7).seq + 1) % 65536 :=
  ⟨by decide +kernel, by decide +kernel, by decide +kernel, by decide +kernel, good_copy_valid 8,
    by decide +kernel, by decide, by decide⟩

/-- CaptureTakesSixteenFrames: a capture that starts, one that is refused while the yard settles, and a
capture at its sixteenth frame. -/
theorem witness_capture :
    (yard.serves ∧ hA.port = .a ∧ names 1 0 ∧ (yard.judged hA).set.save = none
      ∧ (yard.judged hA).upu.capture = none ∧ ((yard.judged hA).stepRec 0).state = some .closed
      ∧ (yard.judged hA).cu.settle = 0 ∧ ((settling yard).judged hA).cu.settle ≠ 0)
      ∧ (let c : Capture := { step := 0, tag := 5, count := 15, sumRe := 0, sumIm := 0, sumV := 0 }
         let s := framed id (yard.setCapture (some c))
         s.clock.held = none ∧ s.upu.capture = some c ∧ 15 ≤ c.count ∧ s.me.frame.noRef = false
          ∧ s.me.frame.settling = false ∧ s.me.frame.neutrals[c.step].clip = false) := by
  decide +kernel

/-- ResetLockoutReleasesTheStep, ResetStepAndReturnFollowThePosition and TakeOutMovesTheStepOut: each
row, and the block that keeps a released step open. -/
theorem witness_maintenance :
    yard.YardSound ∧ (backedUp yard).YardSound
      ∧ (yard.serves ∧ hA.port = .a ∧ names 4 3 ∧ ((yard.judged hA).stepRec 3).state = some .lockout
        ∧ ((yard.judged hA).stepRec 3).position = some .atOpen ∧ ((backedUp yard).judged hA).bkt = true
        ∧ names 5 4 ∧ ((yard.judged hA).stepRec 4).state = some .failed
        ∧ ((yard.judged hA).stepRec 4).position = some .atOpen
        ∧ names 6 5 ∧ ((yard.judged hA).stepRec 5).state = some .out
        ∧ ((yard.judged hA).stepRec 5).position = some .atOpen
        ∧ names 2 1 ∧ ((yard.judged hA).stepRec 1).state = some .ready
        ∧ (yard.judged hA).entryOf 1 = none) :=
  ⟨yard_sound, sound_of (by decide +kernel), by decide +kernel⟩

/-- ProtectionRecordsAreCleared: nothing waiting, and a WAITING CLOSE that only the ended block held. -/
theorem witness_protection :
    (yard.serves ∧ hA.port = .a ∧ (yard.judged hA).oq.entries = [])
      ∧ (let s := queue [entry .closeOp 1 .avc .waiting none] (tripHeld yard)
         let u := s.judged hA
         u.tripRecordBlock = true ∧ u.inFlight = none ∧ u.cu.settle = 0 ∧ u.avc.line = .live
          ∧ u.harmonicBlock = false ∧ u.overvoltageBlock = false ∧ u.bkt = false
          ∧ u.oldestWaiting .tripOp = none ∧ u.oldestWaiting .openOp = none
          ∧ u.oldestWaiting .closeOp = some (entry .closeOp 1 .avc .waiting none))
      ∧ (let s := queue [entry .closeOp 1 .avc .waiting none] (backedUp yard)
         let u := s.judged hA
         u.bkt = true ∧ u.inFlight = none ∧ u.cu.settle = 0 ∧ u.avc.line = .live
          ∧ u.harmonicBlock = false ∧ u.overvoltageBlock = false ∧ u.tripRecordBlock = false
          ∧ u.oldestWaiting .tripOp = none ∧ u.oldestWaiting .openOp = none
          ∧ u.oldestWaiting .closeOp = some (entry .closeOp 1 .avc .waiting none)) := by
  decide +kernel

/-- ClearCountersClearsTheCounts, with an active monitor. -/
theorem witness_counters :
    (blocking yard).serves ∧ hA.port = .a
      ∧ (after (.clearCounters hA) (blocking yard)).monitorActive 1 = true := by decide +kernel

/-- RawChangeRestartsTheWindow: a change inside the window, one of a level that has stood as the accepted one,
one that finds an acceptance due, the same level again, and a reset held. -/
theorem witness_raw :
    yard.clock.held = none ∧ (yard.debouncer .key).raw ≠ true
      ∧ yard.clock.now + 19999 < (yard.debouncer .key).since + yard.y .debounce * 1000
      ∧ (yard.debouncer .key).raw = false ∧ (after .pinReset yard).clock.held ≠ none
      ∧ (let d := yard.setDebouncer .key { raw := false, since := 0, accepted := some false }
         d.clock.held = none ∧ (d.debouncer .key).raw ≠ true
          ∧ (d.debouncer .key).accepted = some (d.debouncer .key).raw
          ∧ ¬d.clock.now + 20000 < (d.debouncer .key).since + d.y .debounce * 1000)
      ∧ (yard.debouncer .key).since + yard.y .debounce * 1000 ≤ yard.clock.now + 20000
      ∧ (yard.debouncer .key).accepted ≠ some (yard.debouncer .key).raw := by
  decide +kernel

/-- R4: a level that has stood as the accepted one for long changes, and the window starts at the change. -/
theorem test_raw_change_after_a_long_stand :
    (after (.rawInputChange .key true 90000)
        (yard.setDebouncer .key { raw := false, since := 0, accepted := some false })).debouncer .key
      = { raw := true, since := yard.clock.now + 90000, accepted := some false } := by decide +kernel

/-- AcceptedContactGivesThePosition: a change into TRAVEL of a CLOSED step, no position yet, and two contacts
accepted at one instant and at two. -/
theorem witness_contact :
    (let s := yard.modStep 0 (fun r =>
        { r with
          closedContact := { raw := false, since := 0, accepted := some true }
          openContact := { raw := false, since := 0, accepted := some false } })
     s.clock.held = none
      ∧ (s.debouncer (.contact 0 .closedContact)).accepted
          ≠ some (s.debouncer (.contact 0 .closedContact)).raw
      ∧ positionAfter s 0 .closedContact = some .travel
      ∧ (s.stepRec 0).position ≠ some .travel ∧ (s.stepRec 0).state = some .closed)
      ∧ (let s := State.reset.setDebouncer (.contact 0 .openContact)
           { raw := false, since := 1, accepted := none }
         s.clock.held = none
        ∧ (s.debouncer (.contact 0 .closedContact)).accepted
          ≠ some (s.debouncer (.contact 0 .closedContact)).raw
        ∧ positionAfter s 0 .closedContact = none)
      ∧ positionAfter (contactPair 0 (false, true) (false, true) 50 50 yard) 0 .openContact
          = some .invalid
      ∧ positionAfter (contactPair 0 (false, true) (false, true) 51 50 yard) 0 .openContact
          = some .atOpen := by decide +kernel

theorem towardOpen_yard_sound : (towardOpen 0 yard).YardSound := sound_of (by decide +kernel)

/-- UnexpectedMovesChangeTheState: with no entry and with a WAITING TRIP, and from READY and
DISCHARGING. -/
theorem witness_unexpected :
    (towardOpen 0 yard).YardSound
      ∧ (towardOpen 0 (queue [entry .tripOp 0 .external .waiting none] (settling yard))).YardSound
      ∧ (towardClosed 1 yard).YardSound ∧ (towardClosed 2 yard).YardSound
      ∧ reaches (towardOpen 0 yard) 0 .openContact .atOpen
      ∧ reaches (towardOpen 0 (queue [entry .tripOp 0 .external .waiting none] (settling yard))) 0
          .openContact .atOpen
      ∧ ((towardOpen 0 yard).stepRec 0).state = some .closed
      ∧ reaches (towardClosed 1 yard) 1 .closedContact .atClosed
      ∧ ((towardClosed 1 yard).stepRec 1).state = some .ready
      ∧ reaches (towardClosed 2 yard) 2 .closedContact .atClosed
      ∧ ((towardClosed 2 yard).stepRec 2).state = some .discharging
      ∧ reaches (towardClosed 5 yard) 5 .closedContact .atClosed
      ∧ ((towardClosed 5 yard).stepRec 5).state = some .out
      ∧ reaches (towardOpen 4 yard) 4 .openContact .atOpen
      ∧ ((towardOpen 4 yard).stepRec 4).state = some .failed :=
  ⟨towardOpen_yard_sound, sound_of (by decide +kernel), sound_of (by decide +kernel),
    sound_of (by decide +kernel), by unfold reaches; decide +kernel, by unfold reaches; decide +kernel,
    by decide +kernel, by unfold reaches; decide +kernel, by decide +kernel,
    by unfold reaches; decide +kernel, by decide +kernel, by unfold reaches; decide +kernel,
    by decide +kernel, by unfold reaches; decide +kernel, by decide +kernel⟩

/-- R12: an OUT step that has been CLOSED loads its discharge time when it opens, and one that has not does
not. -/
theorem test_out_step_that_was_closed :
    (let s := after (.contactDebounceAccept 5 .closedContact) (towardClosed 5 yard)
     let t := after (.contactDebounceAccept 5 .openContact) (towardOpen 5 s)
     (s.stepRec 5).closedWhileOut = true ∧ (s.stepRec 5).discharge = 0
      ∧ (t.stepRec 5).state = some .out ∧ (t.stepRec 5).closedWhileOut = false
      ∧ (t.stepRec 5).discharge = 300)
      ∧ ((after (.contactDebounceAccept 5 .openContact) (towardOpen 5 yard)).stepRec 5).discharge = 0 := by
  decide +kernel

/-- LockedOutStepIsTrippedAgain: with an operation in flight and with none. -/
theorem witness_locked_out :
    (towardClosed 3 yard).YardSound ∧ (towardClosed 3 (closing none)).YardSound
      ∧ reaches (towardClosed 3 yard) 3 .closedContact .atClosed
      ∧ reaches (towardClosed 3 (closing none)) 3 .closedContact .atClosed
      ∧ (((towardClosed 3 yard).stepRec 3).state = some .lockout
        ∧ ((towardClosed 3 yard).stepRec 3).lockoutCause = some .unbalance
        ∧ ((towardClosed 3 yard).stepRec 3).discharge ≠ 0
        ∧ (towardClosed 3 yard).inFlight = none
        ∧ (towardClosed 3 yard).oldestWaiting .tripOp = none
        ∧ (towardClosed 3 (closing none)).inFlight ≠ none
        ∧ ((towardClosed 3 (closing none)).stepRec 3).state = some .lockout) :=
  ⟨sound_of (by decide +kernel), sound_of (by decide +kernel), by unfold reaches; decide +kernel,
    by unfold reaches; decide +kernel, by decide +kernel⟩

/-- CloseCompletesAtClosed: without a mark, with a mark TRIP and with a mark OPEN. -/
theorem witness_close_completes :
    (∀ m, m = none ∨ m = some tripMarkU ∨ m = some openMarkB →
      (towardClosed 1 (closing m)).YardSound ∧ (towardClosed 1 (closing m)).SettingsSound
        ∧ reaches (towardClosed 1 (closing m)) 1 .closedContact .atClosed
        ∧ (towardClosed 1 (closing m)).inFlight = some (entry .closeOp 1 .portA .inFlight m)
        ∧ (towardClosed 1 (closing m)).oldestWaiting .tripOp = none)
      ∧ originatorPort .portA = some .a := by
  refine ⟨?_, rfl⟩
  intro m h
  rcases h with rfl | rfl | rfl <;>
    exact ⟨sound_of (by decide +kernel), by decide +kernel, by unfold reaches; decide +kernel,
      by decide +kernel, by decide +kernel⟩

/-- OpenCompletesAtOpen: an OPEN, an OPEN with a mark TRIP, a HARMONIC OPEN and a TRIP. -/
theorem witness_open_completes :
    ∀ x, x = (OpKind.openOp, Originator.portA, (none : Option Mark))
        ∨ x = (.openOp, .avc, some tripMarkU) ∨ x = (.openOp, .harmonic, none)
        ∨ x = (.tripOp, .unbalance, none) →
      (towardOpen 0 (opening x.1 x.2.1 x.2.2)).YardSound
        ∧ reaches (towardOpen 0 (opening x.1 x.2.1 x.2.2)) 0 .openContact .atOpen
        ∧ (towardOpen 0 (opening x.1 x.2.1 x.2.2)).inFlight
            = some (entry x.1 0 x.2.1 .inFlight x.2.2) := by
  intro x h
  rcases h with rfl | rfl | rfl | rfl <;>
    exact ⟨sound_of (by decide +kernel), by unfold reaches; decide +kernel, by decide +kernel⟩

/-- KeyValuesMoveTheAuthority: the first value, and a later one with a selection to drop. -/
theorem witness_key :
    (State.reset.clock.held = none ∧ State.reset.ss.keyIn.accepted ≠ some State.reset.ss.keyIn.raw
      ∧ State.reset.au.key = none)
      ∧ (let s := after (.rawInputChange .key true 5) picked
         s.clock.held = none ∧ s.ss.keyIn.accepted ≠ some s.ss.keyIn.raw ∧ s.au.key ≠ none
          ∧ s.holder = some .a ∧ (s.slot .a).isSome = true)
      ∧ (let s := after (.rawInputChange .key true 5) (closing none)
         s.clock.held = none ∧ s.ss.keyIn.accepted ≠ some s.ss.keyIn.raw ∧ s.au.key ≠ none
          ∧ s.QueueSound ∧ s.inFlight ≠ none) := by decide +kernel

/-- The yard with the external trip's raw level asserted. -/
def tripping (s : State) : State :=
  { s with ss := { s.ss with tripIn := { raw := true, since := 0, accepted := some false } } }

/-- ExternalTripReachesEveryStep: with the Trip Record empty and held, a FAILED step whose switch is not
open, and the de-assertion edge. -/
theorem witness_external :
    (tripping (put 4 .failed .travel yard)).YardSound
      ∧ ((tripping (put 4 .failed .travel yard)).clock.held = none
        ∧ (tripping (put 4 .failed .travel yard)).ss.tripIn.raw = true
        ∧ (tripping (put 4 .failed .travel yard)).ss.tripIn.accepted ≠ some true
        ∧ (tripping (put 4 .failed .travel yard)).upu.tripRecord = none
        ∧ (tripping (tripHeld yard)).upu.tripRecord.isSome = true
        ∧ ((tripping yard).stepRec 1).state = some .ready ∧ (tripping yard).entryOf 1 = none
        ∧ ((tripping yard).stepRec 0).state = some .closed
        ∧ yard.ss.tripIn.raw = false ∧ yard.ss.tripIn.accepted ≠ some false) :=
  ⟨sound_of (by decide +kernel), by decide +kernel⟩

/-- S1 OPENING by an OPEN of Port B, and a CLOSE of S2 waiting for Port A or for the AVC. -/
def closeWaits (o : Originator) : State :=
  let s := opening .openOp .portB none
  queue (s.oq.entries ++ [entry .closeOp 1 o .waiting none]) s

/-- ExternalTripReachesEveryStep: a READY step whose CLOSE waits behind an operation in flight. -/
theorem witness_external_close (o : Originator) (h : o = .portA ∨ o = .avc) :
    (tripping (closeWaits o)).YardSound ∧ (tripping (closeWaits o)).heldBack
      ∧ (tripping (closeWaits o)).entryOf 1 = some (entry .closeOp 1 o .waiting none)
      ∧ (tripping (closeWaits o)).oq.entries
          = [entry .openOp 0 .portB .inFlight none, entry .closeOp 1 o .waiting none]
      ∧ (∀ q, (tripping (closeWaits o)).slot q = none)
      ∧ (tripping (closeWaits o)).clock.held = none := by
  rcases h with rfl | rfl <;>
    exact ⟨sound_of (by decide +kernel), by decide +kernel, by decide +kernel, by decide +kernel,
      fun q => by cases q <;> rfl, by decide +kernel⟩

/-- FaultTimerFailsAndPulseEndStartsNothing: with a WAITING TRIP and without, and a running pulse. -/
theorem witness_fault :
    (let s := yard.modStep 0 (fun r => { r with faultTimer := some { since := 0, length := 500 } })
     let t := queue [entry .tripOp 0 .unbalance .waiting none] (settling s)
     s.YardSound ∧ t.YardSound ∧ s.clock.held = none
      ∧ (s.stepRec 0).faultTimer = some { since := 0, length := 500 } ∧ s.entryOf 0 = none
      ∧ t.entryOf 0 = some (entry .tripOp 0 .unbalance .waiting none))
      ∧ (after (.openStep hA 1) yard).clock.held = none
      ∧ (after (.openStep hA 1) yard).ss.pulse.isSome = true := by
  refine ⟨⟨sound_of (by decide +kernel), sound_of (by decide +kernel), ?_⟩, ?_⟩ <;> decide +kernel

/-- OperateTimeoutsRetryOrFail: a CLOSE with a TRIP mark and without, and an OPEN with a retry left and with
none. -/
theorem witness_timeouts :
    ((closing none).YardSound ∧ (closing (some tripMarkU)).YardSound
      ∧ (opening .openOp .avc none).YardSound)
      ∧ (closing none).inFlight = some (entry .closeOp 1 .portA .inFlight none)
      ∧ (closing none).clock.held = none ∧ (closing none).oq.operate.isSome = true
      ∧ (opening .openOp .avc none).inFlight = some (entry .openOp 0 .avc .inFlight none)
      ∧ (opening .openOp .avc none).oq.operate.isSome = true
      ∧ (opening .openOp .avc none).oq.retryCount < (opening .openOp .avc none).y .nretry
      ∧ ¬(withSetting (.yard .nretry) 0 (opening .openOp .avc none)).oq.retryCount
          < (withSetting (.yard .nretry) 0 (opening .openOp .avc none)).y .nretry :=
  ⟨⟨closing_sound none (.inl rfl), closing_sound _ (.inr (.inl rfl)), sound_of (by decide +kernel)⟩,
    by decide +kernel⟩

/-- DispatchChoosesByKindBeforeAge: an entry in flight, a waiting TRIP while the yard settles, a waiting
OPEN, a waiting CLOSE, and nothing to choose. -/
theorem witness_dispatch :
    (closing none).clock.held = none ∧ (closing none).inFlight ≠ none
      ∧ (queue [entry .tripOp 0 .unbalance .waiting none] (settling yard)).oldestWaiting .tripOp
          = some (entry .tripOp 0 .unbalance .waiting none)
      ∧ (let s := queue [entry .closeOp 1 .avc .waiting none, entry .openOp 0 .avc .waiting none] yard
         s.inFlight = none ∧ s.oldestWaiting .tripOp = none ∧ s.cu.settle = 0
          ∧ s.oldestWaiting .openOp = some (entry .openOp 0 .avc .waiting none))
      ∧ (let s := queue [entry .closeOp 1 .avc .waiting none] yard
         s.oldestWaiting .tripOp = none ∧ s.cu.settle = 0 ∧ s.oldestWaiting .openOp = none
          ∧ s.avc.line = .live ∧ s.harmonicBlock = false ∧ s.me.frame.vMax < s.y .vov
          ∧ s.bkt = false ∧ s.tripRecordBlock = false
          ∧ s.oldestWaiting .closeOp = some (entry .closeOp 1 .avc .waiting none))
      ∧ (settling yard).oldestWaiting .tripOp = none ∧ (settling yard).cu.settle ≠ 0 := by
  decide +kernel

/-- The yard between two frames, with VA as the reference and a start point ahead. -/
def between : State :=
  { yard with
    clock := { yard.clock with now := 30000 }
    me :=
      { yard.me with
        sampling := none
        reference := some .a
        lastArrival := 19375
        detA := { armed := true, stamp := some 10000, recent := [20000] } } }

/-- CrossingsTimeTheFrames: an armed detector of the reference phase with an earlier stamp, one that is not
armed, and a frame's start with a reference and without. -/
theorem witness_crossings :
    between.clock.held = none ∧ (between.detector .a).armed = true ∧ between.me.reference = some .a
      ∧ (between.detector .a).stamp = some 10000
      ∧ between.clock.now + 80 - 10000 ≤ 2 * nominalPeriod between.me.fsel
      ∧ 2 * nominalPeriod between.me.fsel < between.clock.now + 20001 - 10000
      ∧ (between.detector .b).armed = false ∧ between.me.sampling = none
      ∧ ({ yard with me := { yard.me with sampling := none } } : State).me.reference = none
      ∧ startsAfter between .a = [20000] := by decide +kernel

/-- FramesReportTheFrequency and ArrivalAppliesAndPublishes: a frame being sampled, with a measurement and
a pending value. -/
theorem witness_arrival :
    yard.clock.held = none
      ∧ yard.me.sampling = some { start := 0, period := 20000, freeStarted := false }
      ∧ (yard.hold (.yard .vset) 1010).set.pendingValues ≠ [] ∧ yard.set.startup = .running
      ∧ State.reset.set.startup = .loading
      ∧ (let s := { yard with me := { yard.me with reference := some .b, measurement := some 21001 } }
         s.me.reference = some .b ∧ s.me.measurement = some 21001
          ∧ periodHigh s.me.fsel < 21001) := by decide +kernel

/-- A frame arrival of eleven silent channels, with the parts in the order AVC, HMU, UPU, CU. -/
def silent : Instr :=
  .frameArrival
    { va := Vector.replicate 32 0, vb := Vector.replicate 32 0, vc := Vector.replicate 32 0
      neutrals := Vector.replicate 8 (Vector.replicate 32 0), parts := [], riseFirst := false }

/-- A running capture of S7 that has taken frames. -/
def capturing (n : Nat) (s : State) : State :=
  { s with
    upu :=
      { s.upu with
        capture := some { step := 6, tag := 3, count := n, sumRe := 0, sumIm := 0, sumV := 0 } } }

/-- The phase A reference, so that a frame is not flagged NO_REF. -/
def referred (s : State) : State := { s with me := { s.me with reference := some .a } }

/-- ArrivalAppliesAndPublishes: the blocks take the frame with an operation in flight, in which every CLOSED
step stays; a monitor; a capture that counts and one that a NO_REF frame aborts. -/
theorem witness_blocks :
    (let s := capturing 3 (closing none)
     s.clock.held = none ∧ s.QueueSound ∧ s.inFlight ≠ none ∧ s.SettingsSound
      ∧ (s.stepRec 6).state = some .closed ∧ ((after silent s).stepRec 6).state = some .closed
      ∧ s.oq.entries = [entry .closeOp 1 .portA .inFlight none]
      ∧ (entry .closeOp 1 .portA .inFlight none).status = .inFlight
      ∧ (after silent s).me.frame.noRef = true ∧ s.upu.capture.isSome = true)
      ∧ (blocking yard).MonitorsSound ∧ (blocking yard).set.pendingValues = [] := by decide +kernel

/-- R81, R96, R155: a frame on a dead bus counts the settle period and the run down, and holds the capture at
SETTLING; without a settle period it is the sixteenth frame of the capture. -/
theorem test_frame_is_taken_by_every_block :
    (let s := after silent (settling (referred (capturing 15 yard)))
     let t := after silent (referred (capturing 15 yard))
     s.cu.settle = 2 ∧ s.avc.runCount = 1 ∧ (s.upu.capture.map (·.count)) = some 15
      ∧ t.upu.capture = none
      ∧ (t.stepRec 6).compensation = some { cre := 0, cim := 0, vcap := 500 }) := by decide +kernel

/-- The yard with an in_service of S2 that becomes no at the next arrival. -/
def leaving (s : State) : State := s.hold (.step .inService 1) 0

/-- S1 OPENING and S2 selected by Port A, its in_service about to become no. -/
def leavingPicked : State :=
  let s := leaving (opening .openOp .portB none)
  { s with au := { s.au with slotA := some { step := 1, tag := 7, expiry := 10 } } }

theorem leavingPicked_sound : leavingPicked.YardSound := by
  refine ⟨by decide +kernel, by decide +kernel, ?_, ?_, ?_⟩
  · have h : leavingPicked.ss.pulse = none := by decide +kernel
    simp [State.CoilsSound, h]
  · intro x hx
    have h : leavingPicked.slot .a = some { step := 1, tag := 7, expiry := 10 } := by decide +kernel
    rw [h] at hx
    cases hx
    decide +kernel
  · intro x hx
    have h : leavingPicked.slot .b = none := by decide +kernel
    rw [h] at hx
    cases hx

/-- ArrivalAppliesAndPublishes: an in_service that becomes no with a WAITING CLOSE, or a selection, behind an
operation in flight. -/
theorem witness_in_service :
    ((leaving (closeWaits .portA)).YardSound ∧ leavingPicked.YardSound)
      ∧ (let s := leaving (closeWaits .portA)
         s.clock.held = none ∧ s.inService 1 = true ∧ (after silent s).inService 1 = false
          ∧ s.oq.entries = [entry .openOp 0 .portB .inFlight none, entry .closeOp 1 .portA .waiting none]
          ∧ s.upu.capture = none ∧ s.slot .a = none ∧ s.slot .b = none)
      ∧ (let s := leavingPicked
         s.clock.held = none ∧ s.inService 1 = true ∧ (after silent s).inService 1 = false
          ∧ s.oq.entries = [entry .openOp 0 .portB .inFlight none] ∧ s.upu.capture = none
          ∧ (s.slot .a).map (·.step) = some 1)
      ∧ (let s := leaving (closing none)
         s.inService 1 = true ∧ (after silent s).inService 1 = false
          ∧ s.entryOf 1 = some (entry .closeOp 1 .portA .inFlight none)) :=
  ⟨⟨sound_of (by decide +kernel), leavingPicked_sound⟩, by decide +kernel⟩

/-- S7's rise is measured at the next arrival, with an RINIT of 50 held for it and S1 OPENING. -/
def rising : State :=
  let s := (opening .openOp .portB none).hold (.step .rinit 6) 50
  { s with
    cu :=
      { settle := 1
        armed := some { step := 6, kind := .closeOp, target := .closed, vPre := some 961
                        converted := false, voided := none }
        lastRise := none } }

/-- ArrivalAppliesAndPublishes: an RINIT held for a step, and for the step that the same arrival measures. -/
theorem witness_rinit :
    rising.clock.held = none ∧ rising.QueueSound ∧ rising.inFlight ≠ none ∧ rising.cu.settle = 1
      ∧ (rising.cu.armed.map (·.step)) = some 6 ∧ setRinit rising 6 = some 50 ∧ 50 ≤ 200
      ∧ setRinit yard 6 = none ∧ yard.cu.settle ≠ 1 := by decide +kernel

/-- A monitor that is active, with a setting held. -/
def monitorWith (i : SettingId) (v : Nat) : State := (blocking yard).hold i v

/-- ArrivalAppliesAndPublishes: an active monitor that is disabled, or whose source or phase changes. -/
theorem witness_monitor_settings :
    ∀ x ∈ [(MonitorSetting.enable, 0), (.source, 3), (.phase, 2)],
      (let s := monitorWith (.monitor x.1 1) x.2
       let t := after silent s
       s.clock.held = none ∧ (s.monitor 1).active = true ∧ s.set.settings.enabled 1 = true
        ∧ (t.set.settings.enabled 1 = false
            ∨ t.set.settings.source 1 ≠ s.set.settings.source 1
            ∨ t.set.settings.phase 1 ≠ s.set.settings.phase 1)) := by decide +kernel

/-- R73, R174: the WAITING CLOSE and the selection end with CANCELLED (STEP_CHANGED); R132: the monitor starts
again and is not active. -/
theorem test_applied_settings_take_effect :
    ((after silent (leaving (closeWaits .portA))).oq.entries.map (·.step)) = [0]
      ∧ ((after silent (leaving (closeWaits .portA))).outcomes .a).map (·.2.result)
          = [.cancelled .stepChanged]
      ∧ (after silent leavingPicked).au.slotA = none
      ∧ ((after silent leavingPicked).outcomes .a).map (·.2.result) = [.cancelled .stepChanged]
      ∧ ((after silent (monitorWith (.monitor .enable 1) 0)).monitor 1).active = false
      ∧ ((after silent rising).stepRec 6).learnedRise = 50 := by decide +kernel

/-- FrameQuantitiesFollowTheCorrelations: a CLOSED step with compensation and a channel that is not
clipped, and one that is. -/
theorem witness_quantities :
    (yard.stepRec 0).state = some .closed ∧ (yard.stepRec 0).compensation = none
      ∧ clipped (Vector.replicate 32 (5 : BitVec 12)) = false
      ∧ clipped (Vector.replicate 32 (2047 : BitVec 12)) = true
      ∧ ((yard.modStep 0 (fun r =>
          { r with compensation := some { cre := 300, cim := -100, vcap := 1000 } })).stepRec
          0).compensation = some { cre := 300, cim := -100, vcap := 1000 }
      ∧ (yard.stepRec 1).state ≠ some .closed ∧ 0 < 1150
      ∧ (phaseFrame 1150 (Vector.replicate 32 0)).lowSignal = true
      ∧ lowSignalAt 1150 1840 = false := by decide +kernel

/-- SettleEndTakesTheMeasurement: a measurement that is applied, one that was converted, one that was
voided, and nothing armed. -/
theorem witness_settle :
    (let a : Armed :=
       { step := 0, kind := .closeOp, target := .closed, vPre := some 961, converted := false
         voided := none }
     let s := framed (fun f => { f with vAvg := 984 })
       { yard with cu := { settle := 1, armed := some a, lastRise := none } }
     s.clock.held = none ∧ s.cu.settle = 1 ∧ s.cu.armed = some a
      ∧ (s.stepRec a.step).learnedRise ≤ 200 ∧ riseTaken s a = 17
      ∧ ({ a with converted := true } : Armed).converted = true
      ∧ ({ a with voided := some .otherStepChanged } : Armed).voided = some .otherStepChanged)
      ∧ ({ yard with cu := { yard.cu with settle := 1 } } : State).cu.armed = none := by
  decide +kernel

/-- LineStateChangesAtNdead: the sixtieth dead frame, and the sixtieth live one. -/
theorem witness_line :
    (let s := { yard with avc := { yard.avc with runCount := 59 } }
     s.YardSound ∧ s.clock.held = none ∧ s.avc.line = .live ∧ s.me.frame.noRef = true
      ∧ s.y .ndead ≤ s.avc.runCount + 1)
      ∧ (let s := framed (fun f => { f with vMax := 350 })
           (dead { yard with avc := { yard.avc with runCount := 59 } })
         s.avc.line = .dead ∧ s.me.frame.noRef = false ∧ s.y .vdead + 50 ≤ s.me.frame.vMax
          ∧ s.y .ndead ≤ s.avc.runCount + 1) :=
  ⟨⟨sound_of (by decide +kernel), by decide +kernel⟩, by decide +kernel⟩

/-- The yard under AUTO at a frame with an average and a highest voltage. -/
def automatic (vAvg vMax : Nat) (s : State) : State :=
  framed (fun f => { f with vAvg := vAvg, vMax := vMax })
    { s with au := { s.au with auto := true } }

/-- AvcChoosesItsSteps: a fast open with a step to open and with none, and each row of the count. -/
theorem witness_fast :
    (let s := framed (fun f => { f with vMax := 1100 })
       { yard with avc := { yard.avc with ovCnt := 29 } }
     s.clock.held = none ∧ s.y .oven ≠ 0 ∧ s.me.frame.settling = false
      ∧ s.y .vov ≤ s.me.frame.vMax ∧ s.y .nov ≤ s.avc.ovCnt + 1 ∧ 1 ≤ s.y .nov ∧ s.OrdersSound
      ∧ s.ss.closedOrder.find? (fun k => (s.entryOf k).isNone) = some 0
      ∧ (State.reset.ss.closedOrder.find? (fun k => (State.reset.entryOf k).isNone) = none)
      ∧ (framed (fun f => { f with settling := true }) s).me.frame.settling = true
      ∧ (withSetting (.yard .oven) 0 s).y .oven = 0
      ∧ ({ s with avc := { s.avc with ovCnt := 28 } } : State).avc.ovCnt + 1 < s.y .nov
      ∧ yard.me.frame.vMax < yard.y .vov) := by decide +kernel

/-- AvcChoosesItsSteps: the integrators reset, held, below both thresholds, and at each of them. -/
theorem witness_integrators :
    yard.au.auto = false
      ∧ (let s := automatic 979 1000 yard
         s.au.auto = true ∧ s.avc.line = .live ∧ s.me.frame.noRef = false ∧ s.me.frame.vtLoss = false
          ∧ s.me.frame.settling = false ∧ s.SettingsSound ∧ lowAfter s < s.y .tclose
          ∧ highAfter s < s.y .topen
          ∧ s.y .tclose ≤ lowAfter { s with avc := { s.avc with dLow := 5999 } })
      ∧ (let s := automatic 1021 1030 { yard with avc := { yard.avc with dHigh := 5999 } }
         lowAfter s < s.y .tclose ∧ s.y .topen ≤ highAfter s)
      ∧ (framed (fun f => { f with settling := true }) (automatic 979 1000 yard)).me.frame.settling
          = true := by decide +kernel

/-- AvcChoosesItsSteps: a close attempt without a candidate, withheld, posted, and BLOCKED by each cause. -/
theorem witness_close_attempt :
    State.reset.ss.readyOrder.find? (fitToClose State.reset) = none
      ∧ (let s := automatic 1000 1099 yard
         s.OrdersSound ∧ s.ss.readyOrder.find? (fitToClose s) = some 1
          ∧ (s.me.frame.vAvg : Int) + (s.stepRec 1).learnedRise = s.y .vset + s.y .bw - s.y .pm
          ∧ s.harmonicBlock = false ∧ s.me.frame.vMax < s.y .vov ∧ s.bkt = false
          ∧ s.tripRecordBlock = false ∧ s.avc.line = .live)
      ∧ (let s := automatic 1001 1099 yard
         s.ss.readyOrder.find? (fitToClose s) = some 1
          ∧ (s.y .vset : Int) + s.y .bw - s.y .pm < s.me.frame.vAvg + (s.stepRec 1).learnedRise)
      ∧ (blocking (automatic 1000 1099 yard)).harmonicBlock = true
      ∧ (blocking (automatic 1000 1099 yard)).ss.readyOrder.find?
          (fitToClose (blocking (automatic 1000 1099 yard))) = some 1
      ∧ (automatic 1000 1100 yard).y .vov ≤ (automatic 1000 1100 yard).me.frame.vMax
      ∧ (backedUp (automatic 1000 1099 yard)).bkt = true
      ∧ (tripHeld (automatic 1000 1099 yard)).tripRecordBlock = true := by decide +kernel

/-- AvcChoosesItsSteps: an open attempt without a candidate, withheld and posted. -/
theorem witness_open_attempt :
    State.reset.ss.closedOrder.find? (fun k => (State.reset.entryOf k).isNone) = none
      ∧ (let s := automatic 1000 1030 yard
         s.OrdersSound ∧ s.SettingsSound
          ∧ s.ss.closedOrder.find? (fun k => (s.entryOf k).isNone) = some 0
          ∧ (s.y .vset : Int) - s.y .bw + s.y .pm
              ≤ (s.me.frame.vAvg : Int) - (s.stepRec 0).learnedRise)
      ∧ (let s := automatic 999 1030 yard
         (s.me.frame.vAvg : Int) - (s.stepRec 0).learnedRise
          < (s.y .vset : Int) - s.y .bw + s.y .pm) := by decide +kernel

/-- A frame with a fifth harmonic of 5.01 % on every phase. -/
def distorted (h5 : Nat) (s : State) : State :=
  framed (fun f =>
    { f with
      a := { f.a with h5 := h5 }, b := { f.b with h5 := h5 }, c := { f.c with h5 := h5 } }) s

/-- MonitorsActivateAndClear: M2 at its pickup, with each action, and M2 about to clear. -/
theorem witness_monitors :
    (let s := distorted 501 (yard.setAccumulator 1 299)
     s.clock.held = none ∧ s.set.settings.enabled 1 = true ∧ s.me.frame.settling = false
      ∧ s.me.frame.noRef = false ∧ s.me.frame.offFreq = false ∧ s.comparedValue 1 = some 501
      ∧ s.set.settings.m .threshold 1 < 501 ∧ (s.monitor 1).active = false
      ∧ s.pickup 1 ≤ min ((s.monitor 1).accumulator + 1) (2 * s.pickup 1)
      ∧ s.set.settings.action 1 = .detune ∧ s.OrdersSound
      ∧ s.ss.closedOrder.reverse.find? (fun k => (s.entryOf k).isNone) = some 6
      ∧ (withSetting (.monitor .action 1) 1 s).set.settings.action 1 = .alarm
      ∧ (withSetting (.monitor .action 1) 2 s).set.settings.action 1 = .blockClose)
      ∧ (let s := distorted 500 (blocking yard)
         s.comparedValue 1 = some 500 ∧ 500 ≤ s.set.settings.m .threshold 1
          ∧ (s.monitor 1).active = true ∧ (s.monitor 1).accumulator ≤ 1) := by decide +kernel

/-- The yard at a frame whose U of S1 stands at a value. -/
def unbalanced (u : Nat) (s : State) : State :=
  framed (fun f => { f with neutrals := f.neutrals.set 0 { f.neutrals[0] with u := u } }) s

/-- UnbalanceStagesAlarmAndTrip: the alarm's last counting frame, and the trip's. -/
theorem witness_unbalance :
    (let s := unbalanced 50 (yard.modStep 0 (fun r => { r with alarmCount := 299 }))
     s.clock.held = none ∧ s.me.frame.settling = false ∧ s.me.frame.noRef = false
      ∧ (s.stepRec 0).state = some .closed
      ∧ s.set.settings.s .ualm 0 ≤ s.me.frame.neutrals[(0 : StepId)].u
      ∧ (s.stepRec 0).alarmFlag = false
      ∧ s.set.settings.s .talm 0 ≤ (s.stepRec 0).alarmCount + 1)
      ∧ (let s := unbalanced 150 (yard.modStep 0 (fun r => { r with tripCount := 29 }))
         s.YardSound ∧ s.set.settings.s .utrip 0 ≤ s.me.frame.neutrals[(0 : StepId)].u
          ∧ s.set.settings.s .ttrip 0 ≤ (s.stepRec 0).tripCount + 1 ∧ s.inFlight = none
          ∧ s.oldestWaiting .tripOp = none ∧ s.upu.tripRecord = none) :=
  ⟨by decide +kernel, sound_of (by decide +kernel), by decide +kernel⟩

/-- S1 OPENING by a detune whose OPEN is in flight, at a frame whose U of S1 stands at a value. -/
def detuned (u : Nat) : State := unbalanced u (opening .openOp .harmonic none)

/-- The yard with a trip count of S1, before the detune. -/
def tripCounted (n : Nat) : State := yard.modStep 0 (fun r => { r with tripCount := n })

/-- UnbalanceStagesAlarmAndTrip: a step that a detune of the same frame has dispatched, at its trip's last
counting frame and before it, and one that was not CLOSED when the frame was published. -/
theorem witness_detuned :
    ((detuned 150).stepRec 0).state ≠ some .closed ∧ (detuned 150).QueueSound
      ∧ ((tripCounted 29).stepRec 0).state = some .closed ∧ (tripCounted 29).entryOf 0 = none
      ∧ (detuned 150).inFlight = some (entry .openOp 0 .harmonic .inFlight none)
      ∧ (detuned 150).set.settings.s .utrip 0 ≤ (detuned 150).me.frame.neutrals[(0 : StepId)].u
      ∧ (detuned 150).set.settings.s .ttrip 0 ≤ ((tripCounted 29).stepRec 0).tripCount + 1
      ∧ ((tripCounted 28).stepRec 0).tripCount + 1 < (detuned 150).set.settings.s .ttrip 0
      ∧ ((detuned 150).stepRec 0).state ≠ some .closed := by decide +kernel

/-- R131: the detune is dispatched before the UPU takes the frame; the step ends in LOCKOUT, and the
harmonic hold is loaded. -/
theorem test_detune_before_the_trip_ends_in_lockout :
    (let s := (detuned 150).framePart (tripCounted 29) .upu
     let t := after (.contactDebounceAccept 0 .openContact) (towardOpen 0 s)
     s.upu.tripRecord.isSome = true ∧ (t.stepRec 0).state = some .lockout
      ∧ (t.stepRec 0).lockoutCause = some .unbalance ∧ (t.stepRec 0).harmonicHold = 1800) := by
  decide +kernel

/-- R140: without the trip's last counting frame the step is passed over. -/
theorem test_detuned_step_is_passed_over :
    (detuned 150).framePart (tripCounted 28) .upu = detuned 150 := by decide +kernel

/-- ElapsedSecondCountsDown: a selection that ends, a timer above 1, a step that reaches READY. -/
theorem witness_second :
    yard.YardSound ∧ yard.clock.held = none ∧ (yard.stepRec 2).state = some .discharging
      ∧ (yard.stepRec 2).discharge ≤ 1 ∧ (remote yard).au.remaining = some 60 ∧ 1 < 60
      ∧ yard.au.remaining = none :=
  ⟨yard_sound, by decide +kernel⟩

/-- CountdownsAndAgesEnd: each of its five events. -/
theorem witness_ends :
    (yard.YardSound ∧ yard.clock.held = none ∧ (yard.stepRec 2).state = some .discharging
        ∧ (yard.stepRec 2).discharge ≤ 1)
      ∧ (let s := yard.modStep 1 (fun r => { r with harmonicHold := 1 })
         s.YardSound ∧ (s.stepRec 1).harmonicHold = 1 ∧ s.detuneActive = false)
      ∧ (let s := queue [entry .closeOp 1 .portA .waiting none]
           { yard with clock := { yard.clock with uptime := 31 } }
         s.QueueSound ∧ s.y .tstale < (s.clock.uptime + 4294967296 - 0) % 4294967296
          ∧ Originator.portA = portOriginator .a)
      ∧ ((opening .openOp .avc none).QueueSound ∧ (opening .openOp .avc none).inFlight ≠ none)
      ∧ (opening .openOp .avc none).CoilsSound
      ∧ (let s := { picked with clock := { picked.clock with uptime := 10 } }
         s.clock.held = none ∧ s.slot .a = some { step := 1, tag := 7, expiry := 10 }
          ∧ 10 ≤ s.clock.uptime) :=
  ⟨⟨yard_sound, by decide +kernel⟩, ⟨sound_of (by decide +kernel), by decide +kernel⟩,
    by decide +kernel, by decide +kernel, trivial, by decide +kernel⟩

/-- SupervisionExpiresToLateThenLost: the timer at 1 in OK and in LATE. -/
theorem witness_supervision :
    (let s := { remote yard with au := { (remote yard).au with remaining := some 1 } }
     s.clock.held = none ∧ s.au.remaining = some 1 ∧ s.au.supervision = .ok)
      ∧ (let s := { remote (closing none) with
           au := { (remote (closing none)).au with remaining := some 1, supervision := .late } }
         s.au.supervision = .late ∧ s.au.key = some .remote ∧ s.inFlight ≠ none
          ∧ s.YardSound) :=
  ⟨by decide +kernel, by decide +kernel, by decide +kernel, by decide +kernel,
    sound_of (by decide +kernel)⟩

/-- DerivationGivesEveryStepAState: every position known, and none known. -/
theorem witness_derivation :
    (let s := { State.reset with
       set := { State.reset.set with startup := .running, loadedAt := some 60000 } }
     s.YardSound ∧ s.clock.held = none ∧ s.set.loadedAt = some 60000 ∧ s.set.derived = false
      ∧ s.avc.line = .live ∧ s.ss.tripIn.accepted ≠ some true) :=
  ⟨sound_of (by decide +kernel), by decide +kernel⟩

/-- The loaded application past, no step derived: S1, S2 and S7 at CLOSED, S3 at OPEN, S4 in TRAVEL, S5 out of
service at CLOSED, the others at OPEN; the line and the external trip as said. -/
def underived (line : LineState) (trip : Bool) : State :=
  let s := { State.reset with
    set :=
      { State.reset.set with
        startup := .running
        loadedAt := some 60000
        settings := State.reset.set.settings.put (.step .inService 4) 0 }
    avc := { State.reset.avc with line := line }
    cu := { State.reset.cu with settle := 0 }
    ss := { State.reset.ss with tripIn := { raw := trip, since := 0, accepted := some trip } } }
  let at' (k : StepId) (p : Position) (s : State) := s.modStep k (fun r => { r with position := some p })
  at' 0 .atClosed (at' 1 .atClosed (at' 2 .atOpen (at' 3 .travel (at' 4 .atClosed (at' 5 .atOpen
    (at' 6 .atClosed (at' 7 .atOpen s)))))))

theorem underived_sound (line : LineState) (trip : Bool) : (underived line trip).YardSound :=
  sound_of (by cases line <;> cases trip <;> decide +kernel)

/-- DerivationGivesEveryStepAState: a DEAD line, a standing external trip, and both. -/
theorem witness_end_of_derivation (line : LineState) (trip : Bool) :
    (underived line trip).YardSound ∧ (underived line trip).clock.held = none
      ∧ (underived line trip).set.loadedAt = some 60000 ∧ (underived line trip).set.derived = false
      ∧ (underived line trip).avc.line = line ∧ (underived line trip).ss.tripIn.accepted = some trip
      ∧ (underived line trip).cu.settle = 0
      ∧ allSteps.map (derivedState (underived line trip))
          = [.closed, .closed, .discharging, .failed, .out, .discharging, .closed, .discharging] :=
  ⟨underived_sound line trip, by cases line <;> cases trip <;> decide +kernel⟩

/-- R204: on a DEAD line with the trip standing, the operand decides whether the OPEN ALL is answered
ACCEPTED, and the first step's OPEN marked, or PENDING behind the TRIPs. -/
theorem test_derivation_takes_both_orders :
    [true, false].map (fun first =>
        let t := after (.stepDerivation first) (underived .dead true)
        (t.oq.entries.map (fun e => (e.step.val, e.kind, e.mark.isSome)),
          t.avc.lastOpenAll.map (·.count), t.bkt, (t.stepRec 2).state))
      = [([(0, .openOp, true), (1, .tripOp, false), (6, .tripOp, false)], some 3, true, some .lockout),
        ([(0, .tripOp, false), (1, .tripOp, false), (6, .tripOp, false)], some 0, true, some .lockout)] := by
  decide +kernel

/-- PostingsMeetThePendingEntry: a step with no state, and a TRIP for a step of each state. -/
theorem witness_trip_postings :
    (State.reset.stepRec 0).state = none ∧ (externalTrip 0).kind = .tripOp
      ∧ (∀ k, yard.entryOf k = none)
      ∧ allSteps.map (fun k => (yard.stepRec k).state)
          = [some .closed, some .ready, some .discharging, some .lockout, some .failed, some .out,
            some .closed, some .ready]
      ∧ (yard.stepRec 4).position = some .atOpen
      ∧ ((put 4 .failed .travel yard).stepRec 4).position ≠ some .atOpen ∧ yard.bkt = false := by
  decide +kernel

/-- PostingsMeetThePendingEntry: an entry of each kind, waiting and in flight, with a mark and without. -/
theorem witness_pending_entries :
    (let s := queue [entry .closeOp 1 .portA .waiting none, entry .openOp 0 .avc .waiting none,
       entry .tripOp 6 .unbalance .waiting none] yard
     s.entryOf 1 = some (entry .closeOp 1 .portA .waiting none)
      ∧ s.entryOf 0 = some (entry .openOp 0 .avc .waiting none)
      ∧ s.entryOf 6 = some (entry .tripOp 6 .unbalance .waiting none)
      ∧ (s.stepRec 1).state ≠ none ∧ (s.stepRec 0).state ≠ none ∧ (s.stepRec 6).state ≠ none
      ∧ s.QueueSound ∧ s.ss.pulse = none)
      ∧ (∀ m ∈ [none, some tripMarkU, some openMarkB],
          (closing m).entryOf 1 = some (entry .closeOp 1 .portA .inFlight m)
            ∧ ((closing m).stepRec 1).state ≠ none)
      ∧ (opening .openOp .portB none).entryOf 0 = some (entry .openOp 0 .portB .inFlight none)
      ∧ (opening .openOp .portB (some tripMarkU)).entryOf 0
          = some (entry .openOp 0 .portB .inFlight (some tripMarkU))
      ∧ (opening .tripOp .unbalance none).entryOf 0 = some (entry .tripOp 0 .unbalance .inFlight none)
      ∧ tripMarkU.kind = .tripOp ∧ openMarkB.kind = .openOp ∧ Originator.portA = portOriginator .a := by
  decide +kernel

/-- The yard with the external trip's raw level asserted and a trip count of S1, at a frame whose neutral
phasor of S1 gives a U of floor(200 * 10000 / 12800) = 156, above the default UTRIP of 150 (R138). -/
def edgeComes (n : Nat) : State :=
  tripping (framed (fun f => { f with neutrals := f.neutrals.set 0 { f.neutrals[0] with pre := 200 } })
    (tripCounted n))

/-- S1 as the edge of this instant has left it, its TRIP in flight, with the count the edge found. -/
def edgeTaken (n : Nat) : State := after .externalTripAssertion (edgeComes n)

/-- PostingsMeetThePendingEntry: an edge, and a frame of the same instant at the trip's last counting frame
and before it. -/
theorem witness_edge_meets_the_frame :
    (edgeComes 29).clock.held = none ∧ (edgeComes 29).ss.tripIn.raw = true
      ∧ (edgeComes 29).ss.tripIn.accepted ≠ some true
      ∧ ∀ n ∈ [28, 29],
          (edgeTaken n).QueueSound
            ∧ (edgeTaken n).upu.edge
                = some { instant := (edgeTaken n).clock.now, counts := [(0, n), (6, 0)] }
            ∧ ((edgeTaken n).stepRec 0).state = some .opening
            ∧ (edgeTaken n).inFlight = some (entry .tripOp 0 .external .inFlight none)
            ∧ (edgeTaken n).set.settings.s .utrip 0 = 150 ∧ (edgeTaken n).set.settings.s .ttrip 0 = 30
            ∧ (edgeTaken n).uNow 0 = 156 := by decide +kernel

/-- R150: the decision that finds the edge's TRIP in flight is a further trip, and the step ends in LOCKOUT
with the cause of the TRIP that reached its entry first. -/
theorem test_edge_before_the_decision_counts_a_further_trip :
    (let s := (edgeTaken 29).framePart (edgeTaken 29) .upu
     let t := after (.contactDebounceAccept 0 .openContact) (towardOpen 0 s)
     (s.upu.tripRecord.map (fun r => (r.cause, r.further))) = some (.external, 1)
      ∧ s.upu.edge = none ∧ (t.stepRec 0).state = some .lockout
      ∧ (t.stepRec 0).lockoutCause = some .external) := by decide +kernel

/-- R140, R150: without the last counting frame, or with the frame at a later instant, there is none. -/
theorem test_edge_without_a_decision_counts_none :
    (((edgeTaken 28).framePart yard .upu).upu.tripRecord.map (·.further)) = some 0
      ∧ ((((edgeTaken 29).pass 1).framePart yard .upu).upu.tripRecord.map (·.further)) = some 0 := by
  decide +kernel

end Sys2Proof.Tests
end

section
/-!
SUPPORT and PROOF. Two states that differ in some blocks only; a step at rest, which has no entry, no
energised coil and no selection, and what its change of state does (R3); RESET_LOCKOUT (R18).
-/
namespace Sys2Proof.Machine

/-! ## Blocks -/

/-- The blocks two states may differ in add up along a chain of states. -/
theorem State.onlyIn_trans {s t u : State} {l : List Block} (h : s.onlyIn t l) (g : t.onlyIn u l) :
    s.onlyIn u l := by
  intro b hb
  have hst := h b hb
  have htu := g b hb
  cases b <;> exact Eq.trans htu hst

/-- A longer list of blocks says less. -/
theorem State.onlyIn_mono {s t : State} {l m : List Block} (h : s.onlyIn t l) (sub : l ⊆ m) :
    s.onlyIn t m :=
  fun b hb => h b (fun hl => hb (sub hl))

/-! ## Requests from Port A -/

/-- The state a request of Port A is judged on is sound when the state it meets is: its window writes the
port alone (R164, R176). -/
theorem State.judged_yardSound {s : State} {h : Header} (a : h.port = .a) (y : s.YardSound) :
    (s.judged h).YardSound := by
  obtain ⟨port, tag, window⟩ := h
  subst a
  exact y

/-- A step field that names a step has the request judged for that step (R182). -/
theorem withStep_names {b : Byte} {k : StepId} (n : names b k) (judge : StepId → Judge) :
    withStep b judge = judge k := by
  have field : stepField b = some k := by
    unfold stepField
    rw [dif_pos (by omega)]
    exact congrArg some (Fin.ext (by simp [n]))
  funext s
  simp [withStep, field]

/-- A response writes its port and nothing else of any block (R178). -/
theorem State.respond_onlyIn (s : State) (p : Port) (tag : Byte) (a : Answer) :
    s.onlyIn (s.respond p tag a) [.pi] := by
  intro b hb
  cases b <;> simp_all [State.sameBlock, State.respond]

/-- A response after effects that have given the ports the values they have in `w` answers from `w`
(R178). -/
theorem State.respond_answered {v w : State} (pi : v.pi = w.pi) (h : Header) (a : Answer) :
    w.answered (v.respond h.port h.tag a) h a := by
  obtain ⟨port, tag, window⟩ := h
  cases port <;> simp [State.answered, State.respond, State.setPort, State.portState, pi]

/-- A response leaves the Step Supervisor. -/
@[simp] theorem State.respond_ss (s : State) (p : Port) (tag : Byte) (a : Answer) :
    (s.respond p tag a).ss = s.ss := s.respond_onlyIn p tag a .ss (by decide)

/-- A response leaves the Cooldown Unit. -/
@[simp] theorem State.respond_cu (s : State) (p : Port) (tag : Byte) (a : Answer) :
    (s.respond p tag a).cu = s.cu := s.respond_onlyIn p tag a .cu (by decide)

/-- A response leaves every Step Record. -/
@[simp] theorem State.respond_stepRec (s : State) (p : Port) (tag : Byte) (a : Answer) (k : StepId) :
    (s.respond p tag a).stepRec k = s.stepRec k := by
  simp [State.stepRec]

/-! ## A step at rest -/

/-- Nothing of the yard is under way for the step: it has no entry (R48), neither of its coils is energised
(R21), and no port has selected it (R170). -/
structure State.AtRest (s : State) (k : StepId) : Prop where
  /-- no entry of the Operation Queue -/
  entry : s.entryOf k = none
  /-- no coil pulse -/
  pulse : ∀ p, s.ss.pulse = some p → p.step ≠ k
  /-- no selection -/
  selection : s.selectedBy k = none

/-- An entry's step is in READY, CLOSED, CLOSING or OPENING (R48). -/
theorem Entry.stepState_cases (e : Entry) :
    e.stepState = .ready ∨ e.stepState = .closed ∨ e.stepState = .closing ∨ e.stepState = .opening := by
  unfold Entry.stepState
  split <;> simp

/-- In a sound yard a step with an entry is in READY, CLOSED, CLOSING or OPENING, so a step in another state
has none (R48). -/
theorem State.QueueSound.entryOf_none {s : State} (q : s.QueueSound) {k : StepId} {n : StepState}
    (st : (s.stepRec k).state = some n)
    (hn : n = .out ∨ n = .discharging ∨ n = .lockout ∨ n = .failed) : s.entryOf k = none := by
  obtain ⟨-, -, fits, -⟩ := q
  refine List.find?_eq_none.mpr fun e he ek => ?_
  have ek : e.step = k := by simpa using ek
  obtain rfl : n = e.stepState := by
    rw [← Option.some_inj, ← st, ← ek, (fits e he).1]
  rcases e.stepState_cases with c | c | c | c <;> simp [c] at hn

/-- In a sound yard no port has selected a step that is not READY (R170). -/
theorem State.SelectionsSound.selectedBy_none {s : State} (sel : s.SelectionsSound) {k : StepId}
    (st : (s.stepRec k).state ≠ some .ready) : s.selectedBy k = none := by
  obtain ⟨slotA, slotB⟩ := sel
  have free : ∀ p, s.slotSound p → ((s.slot p).map (·.step)) ≠ some k := by
    intro p sound filled
    obtain ⟨x, hx, rfl⟩ := Option.map_eq_some_iff.mp filled
    obtain ⟨-, -, ready, -⟩ := sound x hx
    exact st ready
  exact (if_neg (free .a slotA)).trans (if_neg (free .b slotB))

/-- In a sound yard the coil that is energised is that of a step with an entry (R21). -/
theorem State.CoilsSound.pulse_step_ne {s : State} (c : s.CoilsSound) {k : StepId}
    (noEntry : s.entryOf k = none) (p : Pulse) (hp : s.ss.pulse = some p) : p.step ≠ k := by
  simp only [State.CoilsSound, hp] at c
  obtain ⟨⟨e, flight, estep, -⟩, -⟩ := c
  have absent := List.find?_eq_none.mp noEntry e (List.mem_of_find?_eq_some flight)
  simpa [estep] using absent

/-- In a sound yard a step that is neither READY nor CLOSED nor moving is at rest. -/
theorem State.YardSound.atRest {s : State} (y : s.YardSound) {k : StepId} {n : StepState}
    (st : (s.stepRec k).state = some n)
    (hn : n = .out ∨ n = .discharging ∨ n = .lockout ∨ n = .failed) : s.AtRest k := by
  obtain ⟨-, queue, coils, selections⟩ := y
  have noEntry := queue.entryOf_none st hn
  refine ⟨noEntry, coils.pulse_step_ne noEntry, selections.selectedBy_none ?_⟩
  rw [st]
  rintro ⟨⟩
  simp at hn

/-! ## The change of state of a step at rest (R3) -/

/-- A step at rest has no coil to de-energise. -/
theorem State.AtRest.coilsOff {s : State} {k : StepId} (r : s.AtRest k) : s.coilsOff k = s := by
  unfold State.coilsOff
  split
  · rfl
  · rename_i p hp
    rw [if_neg (r.pulse p hp)]

/-- A step at rest has no selection to cancel. -/
theorem State.AtRest.leaveReady {s : State} {k : StepId} (r : s.AtRest k) : s.leaveReady k = s := by
  simp [State.leaveReady, State.endSelectionOf, r.selection]

/-- A step that was not CLOSED does not leave CLOSED. -/
theorem State.leaveClosed_of_ne (s : State) (k : StepId) {old : Option StepState}
    (h : old ≠ some .closed) : s.leaveClosed k old = s := by
  simp [State.leaveClosed, h]

/-- The change of state of a step at rest that was not CLOSED writes its record, moves it between the
rotation orders, sets both change flags and voids the rise measurement of another step (R3, R88). -/
theorem State.AtRest.enter {s : State} {k : StepId} (r : s.AtRest k)
    (h : (s.stepRec k).state ≠ some .closed) (n : StepState) (l : Option LockoutCause)
    (f : Option FailureCause) :
    s.enter k n l f = (((s.writeState k n l f).rotate k n).setFlags).voidOther k := by
  have written : (((s.writeState k n l f).rotate k n).setFlags).AtRest k :=
    ⟨r.entry, r.pulse, r.selection⟩
  rw [State.enter, written.coilsOff, State.fitEntry_none _ k written.entry, written.leaveReady,
    State.leaveClosed_of_ne _ k h]

/-- Voiding another step's measurement (R88) writes the armed measurement and nothing else. -/
theorem State.voidOther_spec (s : State) (k : StepId) :
    s.onlyIn (s.voidOther k) [.cu] ∧ { (s.voidOther k).cu with armed := s.cu.armed } = s.cu := by
  have same : s.onlyIn s [.cu] := fun b _ => by cases b <;> rfl
  unfold State.voidOther
  split
  · exact ⟨same, rfl⟩
  · split
    · exact ⟨same, rfl⟩
    · exact ⟨fun b hb => by cases b <;> simp_all [State.sameBlock], rfl⟩

/-- What the change of state of a step at rest that was not CLOSED leaves unchanged, and the change flags it
sets (R3). -/
theorem State.AtRest.enter_frame {s : State} {k : StepId} (r : s.AtRest k)
    (h : (s.stepRec k).state ≠ some .closed) (n : StepState) (l : Option LockoutCause)
    (f : Option FailureCause) :
    s.onlyIn (s.enter k n l f) [.pi, .ss, .cu] ∧ (s.enter k n l f).pi = s.setFlags.pi
      ∧ { (s.enter k n l f).cu with armed := s.cu.armed } = s.cu := by
  rw [r.enter h]
  obtain ⟨void, armed⟩ := State.voidOther_spec (((s.writeState k n l f).rotate k n).setFlags) k
  have written : s.onlyIn ((s.writeState k n l f).rotate k n).setFlags [.pi, .ss] :=
    fun b hb => by cases b <;> simp_all [State.sameBlock]
  exact ⟨State.onlyIn_trans (State.onlyIn_mono written (by decide))
      (State.onlyIn_mono void (by decide)), void .pi (by decide), armed⟩

/-! ## A CLOSE that meets a block -/

/-- While BKT is asserted or the trip-record block stands, a CLOSE of a step without an entry is refused
(R51, R146, R152). -/
theorem State.postClose_refused {s : State} (block : s.bkt = true ∨ s.tripRecordBlock = true)
    (p : Posting) : (s.postClose p).2 ≠ .accepted := by
  unfold State.postClose
  dsimp only
  split_ifs with _ _ _ _ _ noBkt noTripRecord <;> try simp
  case neg => exact block.elim noBkt noTripRecord

/-- While BKT is asserted or the trip-record block stands no CLOSE is admitted, since a CLOSE of a step with
an entry never is (R54 to R58). -/
theorem State.post_close_refused {s : State} (block : s.bkt = true ∨ s.tripRecordBlock = true)
    {p : Posting} (close : p.kind = .closeOp) : (s.post p).2 ≠ .accepted := by
  unfold State.post
  split
  · simp
  · split
    · rw [close]
      exact State.postClose_refused block p
    · split <;> simp [State.postOnWaitingClose, State.postOnWaitingOpen, State.postOnWaitingTrip,
        State.postOnFlightClose, State.postOnFlightOpen, close]

/-! ## RESET_LOCKOUT (R18) -/

/-- What RESET_LOCKOUT does at a controller that serves: its judgement and the response. -/
theorem exec_resetLockout {h : Header} {b : Byte} {k : StepId} {s : State} (serves : s.serves)
    (a : h.port = .a) (n : names b k) :
    exec (.resetLockout h b) s =
      .next ((judgeResetLockout k (s.judged h)).1.respond h.port h.tag
        (judgeResetLockout k (s.judged h)).2) := by
  have permitted : fromA h = true := by simp [fromA, a]
  rw [← withStep_names n judgeResetLockout, ← s.request_serves h (fromA h) _ serves permitted]
  rfl

/-- The record of a step that is released from LOCKOUT (R18). -/
theorem recordAfter_release {r : StepRecord} (lockout : r.state = some .lockout) :
    recordAfter r (availableState r.discharge) none none =
      { r with
        state := some (if 0 < r.discharge then .discharging else .ready)
        lockoutCause := none
        failureCause := none
        closedWhileOut := false } := by
  by_cases d : 0 < r.discharge <;>
    simp [recordAfter, enteredRecord, availableState, lockout, d]

/-- A rotation order that holds exactly the steps in one state is not shortened when a step in another state
leaves it (R7). -/
theorem filter_order_of_state_ne {s : State} {l : List StepId} {m : StepState} {k : StepId}
    (order : ∀ j : StepId, j ∈ l ↔ (s.stepRec j).state = some m) (h : (s.stepRec k).state ≠ some m) :
    l.filter (· ≠ k) = l := by
  refine List.filter_eq_self.mpr fun j hj => ?_
  have ne : j ≠ k := fun e => h (e ▸ (order j).mp hj)
  simpa using ne

/-- A step released from LOCKOUT joins the tail of the Ready Order when no discharge time is left, and the
Closed Order stays (R7, R18). -/
theorem State.OrdersSound.release {u : State} (o : u.OrdersSound) {k : StepId}
    (lockout : (u.stepRec k).state = some .lockout) (d : Nat) :
    (u.enter k (availableState d) none none).ss.readyOrder =
        u.ss.readyOrder ++ (if 0 < d then [] else [k])
      ∧ (u.enter k (availableState d) none none).ss.closedOrder = u.ss.closedOrder := by
  obtain ⟨-, -, ready, closed⟩ := o
  obtain ⟨-, newReady, newClosed⟩ := u.enter_spec k (availableState d) none none
  rw [newReady, newClosed, filter_order_of_state_ne ready (by simp [lockout]),
    filter_order_of_state_ne closed (by simp [lockout])]
  by_cases h : 0 < d <;> simp [availableState, h]

/-- Settles O29: outside LOCKOUT with position OPEN the request is refused with a response alone; a released
step was at rest, so its change of state touches no entry, coil, selection or protection record, and the
blocks those records keep standing refuse its CLOSE. -/
theorem resetLockoutReleasesTheStep : Obligations.ResetLockoutReleasesTheStep := by
  intro h b k s u serves a n sound hu
  refine ⟨_, exec_resetLockout serves a n, ?_⟩
  have yard : u.YardSound := hu ▸ State.judged_yardSound a sound
  rw [← hu, judgeResetLockout]
  split
  case isFalse => exact ⟨State.respond_answered rfl h _, u.respond_onlyIn _ _ _⟩
  case isTrue released =>
    obtain ⟨lockout, -⟩ := released
    have rest : u.AtRest k := yard.atRest lockout (by simp)
    obtain ⟨orders, -⟩ := yard
    have notClosed : (u.stepRec k).state ≠ some .closed := by simp [lockout]
    obtain ⟨only, flags, armed⟩ :=
      rest.enter_frame notClosed (availableState (u.stepRec k).discharge) none none
    obtain ⟨records, -, -⟩ := u.enter_spec k (availableState (u.stepRec k).discharge) none none
    obtain ⟨ready, closed⟩ := orders.release lockout (u.stepRec k).discharge
    dsimp only [doneWith]
    generalize u.enter k (availableState (u.stepRec k).discharge) none none = v at *
    have only' : u.onlyIn (v.respond h.port h.tag (.plain .done)) [.pi, .ss, .cu] :=
      State.onlyIn_trans only (State.onlyIn_mono (v.respond_onlyIn _ _ _) (by decide))
    have upu : (v.respond h.port h.tag (.plain .done)).upu = u.upu := only' .upu (by decide)
    have settings : (v.respond h.port h.tag (.plain .done)).set = u.set := only' .set (by decide)
    refine ⟨?_, ?_, ?_, ?_, ?_, only', ?_, ?_⟩
    · exact State.respond_answered flags h _
    · rw [State.respond_stepRec, records k, if_pos rfl, recordAfter_release lockout]
    · intro j hj
      rw [State.respond_stepRec, records j, if_neg hj]
    · rw [State.respond_ss, ready]
    · rw [State.respond_ss, closed]
    · rw [State.respond_cu, armed]
    · intro block o tag
      refine State.post_close_refused ?_ rfl
      rw [State.bkt, State.tripRecordBlock, State.y, upu, settings]
      exact block

end Sys2Proof.Machine
end

section
/-!
SUPPORT and PROOF. What the arrival of a frame does to the Measurement Engine: the application of settings
and the blocks that take the frame keep it (R44, R197), so that the frame's publication alone writes it; the
period applied and the frequency a frame reports (R30, R32).
-/
namespace Sys2Proof.Machine

/-! ## The Cooldown Unit and the AVC at a frame -/

/-- Taking the armed measurement (R89) writes the Cooldown Unit and a learned rise. -/
theorem State.takeMeasurement_keeps (s : State) : s.Keeps s.takeMeasurement := by
  unfold State.takeMeasurement
  split
  · exact .refl s
  · exact ⟨rfl, rfl, rfl, rfl, rfl⟩

/-- The Cooldown Unit's part of a frame (R81) keeps. -/
theorem State.cuFrame_keeps (s : State) : s.Keeps s.cuFrame :=
  .ite _ (.refl s) (.ite _
    (State.Keeps.trans (by exact ⟨rfl, rfl, rfl, rfl, rfl⟩) (State.takeMeasurement_keeps _))
    ⟨rfl, rfl, rfl, rfl, rfl⟩)

theorem State.setDecision_keeps (s : State) (d : Decision) : s.Keeps (s.setDecision d) :=
  ⟨rfl, rfl, rfl, rfl, rfl⟩

theorem State.setRun_keeps (s : State) (n : Nat) : s.Keeps (s.setRun n) := ⟨rfl, rfl, rfl, rfl, rfl⟩

theorem State.setOv_keeps (s : State) (n : Nat) : s.Keeps (s.setOv n) := ⟨rfl, rfl, rfl, rfl, rfl⟩

theorem State.setD_keeps (s : State) (lo hi : Nat) : s.Keeps (s.setD lo hi) :=
  ⟨rfl, rfl, rfl, rfl, rfl⟩

/-- A change of the line state (R97, R98) keeps, with the examination it calls for. -/
theorem State.setLine_keeps (s : State) (l : LineState) : s.Keeps (s.setLine l) :=
  State.Keeps.trans (by exact ⟨rfl, rfl, rfl, rfl, rfl⟩) (State.examine_keeps _)

/-- The dead-line OPEN ALL (R97) keeps. -/
theorem State.deadOpenAll_keeps (s : State) : s.Keeps s.deadOpenAll := by
  have posted := s.admitAll_keeps .avc none true
  unfold State.deadOpenAll
  generalize s.admitAll .avc none true = r at posted
  exact posted.trans (by exact ⟨rfl, rfl, rfl, rfl, rfl⟩)

/-- Stage 1 of a frame, the line state (R96 to R98), keeps. -/
theorem State.lineStage_keeps (s : State) : s.Keeps s.lineStage := by
  unfold State.lineStage
  split
  · exact .ite _ (.ite _ ((s.setLine_keeps _).trans (State.deadOpenAll_keeps _)) (s.setRun_keeps _))
      (s.setRun_keeps _)
  · exact .ite _ (.ite _ (s.setLine_keeps _) (s.setRun_keeps _)) (s.setRun_keeps _)

/-- Stage 2 of a frame, fast overvoltage (R111, R112), keeps. -/
theorem State.fastStage_keeps (s : State) : s.Keeps s.fastStage := by
  refine .ite _ ?_ (s.setOv_keeps _)
  unfold State.fastOpening
  split
  · exact (s.setOv_keeps 0).trans (State.setDecision_keeps _ _)
  · exact ((s.setOv_keeps 0).trans (State.admitOne_keeps _ _)).trans (State.setDecision_keeps _ _)

/-- The posting of an attempt (R104, R108, R110) keeps. -/
theorem State.attemptPost_keeps (s : State) (p : Posting) (d : Decision) :
    s.Keeps (s.attemptPost p d) := by
  have posted := s.admitOne_keeps p
  exact State.Keeps.trans (.ite _ (posted.trans (State.setD_keeps _ 0 0)) posted)
    (State.setDecision_keeps _ d)

/-- A close attempt (R105 to R108) keeps. -/
theorem State.closeAttempt_keeps (s : State) : s.Keeps s.closeAttempt := by
  unfold State.closeAttempt
  split
  · exact s.setDecision_keeps _
  · refine .ite _ (s.setDecision_keeps _) ?_
    split
    · exact s.setDecision_keeps _
    · exact s.attemptPost_keeps _ _

/-- An open attempt (R109, R110) keeps. -/
theorem State.openAttempt_keeps (s : State) : s.Keeps s.openAttempt := by
  unfold State.openAttempt
  split
  · exact s.setDecision_keeps _
  · exact .ite _ (s.setDecision_keeps _) (s.attemptPost_keeps _ _)

/-- Stage 3 of a frame, the integrators and the attempts (R100 to R110), keeps. -/
theorem State.integratorStage_keeps (s : State) (fast : Bool) : s.Keeps (s.integratorStage fast) := by
  have counted := s.setD_keeps s.dLowAfter s.dHighAfter
  exact .ite _ (s.setD_keeps 0 0) (.ite _ (.refl s) (.ite _
    (counted.trans (State.closeAttempt_keeps _))
    (.ite _ (.ite _ counted (counted.trans (State.openAttempt_keeps _))) counted)))

/-- The AVC's part of a frame (R95) keeps. -/
theorem State.avcFrame_keeps (s : State) : s.Keeps s.avcFrame :=
  (s.lineStage_keeps.trans (State.fastStage_keeps _)).trans (State.integratorStage_keeps _ _)

/-! ## The HMU at a frame -/

theorem State.examineIfBlockMoved_keeps (s b : State) : s.Keeps (s.examineIfBlockMoved b) :=
  .ite _ (.refl s) s.examine_keeps

/-- A monitor's activation (R124, R128, R129) keeps, with the detune it posts. -/
theorem State.activate_keeps (s : State) (m : MonitorId) : s.Keeps (s.activate m) := by
  unfold State.activate
  dsimp only
  split
  · exact ⟨rfl, rfl, rfl, rfl, rfl⟩
  · exact State.Keeps.trans (by exact ⟨rfl, rfl, rfl, rfl, rfl⟩) (State.examineIfBlockMoved_keeps _ _)
  · unfold State.detune
    split
    · exact ⟨rfl, rfl, rfl, rfl, rfl⟩
    · exact State.Keeps.trans (by exact ⟨rfl, rfl, rfl, rfl, rfl⟩) (State.admitOne_keeps _ _)

theorem State.clearMonitor_keeps (s : State) (m : MonitorId) : s.Keeps (s.clearMonitor m) :=
  State.Keeps.trans (by exact ⟨rfl, rfl, rfl, rfl, rfl⟩) (State.examineIfBlockMoved_keeps _ _)

/-- One monitor's part of a frame (R122 to R125) keeps. -/
theorem State.monitorFrame_keeps (s : State) (m : MonitorId) : s.Keeps (s.monitorFrame m) := by
  have counted : s.Keeps (s.setAccumulator m (s.accumulatorAfter m)) := s.setMonitor_keeps m _
  refine .ite _ (.refl s) (.ite _ (.refl s) ?_)
  exact .ite _ (.ite _ (counted.trans (State.activate_keeps _ m)) counted)
    (.ite _ (counted.trans (State.clearMonitor_keeps _ m)) counted)

/-- The HMU's part of a frame (R131) keeps. -/
theorem State.hmuFrame_keeps (s : State) : s.Keeps s.hmuFrame :=
  (State.Keeps.foldl _ (fun t m => t.monitorFrame_keeps m) _ s).trans
    (State.Keeps.foldl _ (fun t m => .ite _ (t.setMonitor_keeps m _) (.refl t)) _ _)

/-! ## The UPU at a frame -/

/-- A protection trip that enters the Trip Record (R145) keeps. -/
theorem State.enterTripRecord_keeps (s : State) (c : LockoutCause) (k : Option StepId) (u : Option Nat)
    (re im : Option Int) : s.Keeps (s.enterTripRecord c k u re im) := by
  unfold State.enterTripRecord
  split
  · exact State.Keeps.trans (by exact ⟨rfl, rfl, rfl, rfl, rfl⟩) (State.examine_keeps _)
  · exact ⟨rfl, rfl, rfl, rfl, rfl⟩

theorem State.setTripCount_keeps (s : State) (k : StepId) (n : Nat) : s.Keeps (s.setTripCount k n) :=
  s.modStep_keeps k _

/-- The alarm stage (R141) keeps. -/
theorem State.alarmStage_keeps (s : State) (k : StepId) : s.Keeps (s.alarmStage k) := by
  have written : ∀ r c, s.Keeps ((s.setStep k r).setFlagsIf c) := fun r c =>
    State.Keeps.trans (by exact ⟨rfl, rfl, rfl, rfl, rfl⟩) (State.setFlagsIf_keeps _ c)
  exact .ite _ (written _ _) (.ite _ (.refl s) (written _ _))

/-- An unbalance trip decision (R142, R145) keeps. -/
theorem State.decideTrip_keeps (s : State) (k : StepId) (u : Nat) (re im : Int) :
    s.Keeps (s.decideTrip k u re im) :=
  ((s.setTripCount_keeps k 0).trans (State.admitOne_keeps _ _)).trans
    (State.enterTripRecord_keeps _ _ _ _ _ _)

/-- The trip stage (R142) keeps. -/
theorem State.tripStage_keeps (s : State) (k : StepId) : s.Keeps (s.tripStage k) :=
  .ite _ (.ite _ (s.decideTrip_keeps k _ _ _) (s.setTripCount_keeps k _))
    (.ite _ (.refl s) (s.setTripCount_keeps k 0))

/-- A step's stages (R140) keep. -/
theorem State.stages_keeps (s base : State) (k : StepId) : s.Keeps (s.stages base k) :=
  .ite _ ((s.alarmStage_keeps k).trans (State.tripStage_keeps _ k))
    (.ite _ (s.decideTrip_keeps k _ _ _) (.refl s))

/-- A step's part of a frame (R140, R150) keeps. -/
theorem State.stepFrame_keeps (s base : State) (k : StepId) : s.Keeps (s.stepFrame base k) :=
  .ite _ (s.decideTrip_keeps k _ _ _) (s.stages_keeps base k)

/-- The end of a capture (R155) keeps. -/
theorem State.completeCapture_keeps (s : State) (c : Capture) : s.Keeps (s.completeCapture c) :=
  (((s.modStep_keeps c.step _).trans (State.setFlagsIf_keeps _ _)).trans
    (State.insertOutcome_keeps _ _ _)).trans ⟨rfl, rfl, rfl, rfl, rfl⟩

/-- The capture engine's part of a frame (R155) keeps. -/
theorem State.captureFrame_keeps (s : State) : s.Keeps s.captureFrame := by
  unfold State.captureFrame
  split
  · exact .refl s
  · exact .ite _ s.abortCapture_keeps (.ite _ (.refl s)
      (.ite _ (s.completeCapture_keeps _) ⟨rfl, rfl, rfl, rfl, rfl⟩))

/-- The UPU's part of a frame (R140) keeps. -/
theorem State.upuFrame_keeps (s base : State) : s.Keeps (s.upuFrame base) := by
  have staged := State.Keeps.foldl _ (fun t k => t.stepFrame_keeps base k) allSteps s
  exact (State.Keeps.ite _ (.refl s) staged).trans
    (State.Keeps.trans (by exact ⟨rfl, rfl, rfl, rfl, rfl⟩) (State.captureFrame_keeps _))

/-! ## Step derivation at a frame (R203, R204) -/

/-- The postings and lockouts of an external trip edge (R149) keep. -/
theorem State.externalParts_keeps (s : State) : s.Keeps s.externalParts := by
  have posts : s.Keeps s.externalPosts :=
    .foldl _ (fun t k => .ite _ (t.admitOne_keeps _) (.refl t)) _ s
  have locks : s.externalPosts.Keeps s.externalPosts.lockOutOpen :=
    .foldl _ (fun t k => .ite _ (t.enter_keeps k _ _ _) (.refl t)) _ _
  exact (posts.trans locks).trans (State.examineIfLeft_keeps _ _)

/-- Deriving one step (R204) keeps. -/
theorem State.deriveStep_keeps (s : State) (k : StepId) : s.Keeps (s.deriveStep k) := by
  have loaded := fun n => (s.loadDischarge_keeps k).trans (State.enter_keeps _ k n none none)
  unfold State.deriveStep
  split
  · exact loaded _
  · exact s.enter_keeps k _ _ _
  · exact loaded _
  · exact s.enter_keeps k _ _ _
  · exact s.enter_keeps k _ _ _

theorem State.derivedOpenAll_keeps (s : State) : s.Keeps s.derivedOpenAll :=
  .ite _ s.deadOpenAll_keeps (.refl s)

theorem State.derivedTrip_keeps (s : State) : s.Keeps s.derivedTrip :=
  .ite _ s.externalParts_keeps (.refl s)

/-- Giving every step a state, with what follows in either order (R204), leaves the Measurement Engine. -/
theorem State.deriveAll_me (s : State) (first : Bool) : (s.deriveAll first).me = s.me := by
  have derived := (State.Keeps.foldl _ State.deriveStep_keeps allSteps
    { s with set := { s.set with derived := true } }).trans (State.examine_keeps _)
  have ends : ∀ t : State,
      t.Keeps (if first then t.derivedOpenAll.derivedTrip else t.derivedTrip.derivedOpenAll) := fun t =>
    .ite _ (t.derivedOpenAll_keeps.trans (State.derivedTrip_keeps _))
      (t.derivedTrip_keeps.trans (State.derivedOpenAll_keeps _))
  exact (derived.trans (ends _)).me

/-- Derivation (R203, R204) writes the clock and the settings' own record, and leaves the Measurement
Engine. -/
theorem State.derivation_me (s : State) (first : Bool) : (s.derivation first).me = s.me := by
  unfold State.derivation
  split
  · rfl
  · split_ifs
    · rfl
    · exact s.deriveAll_me first
    · exact State.deriveAll_me _ first

/-! ## The blocks take the frame (R44) -/

/-- No part of an arrival writes the Measurement Engine (R44). -/
theorem State.framePart_me (s base : State) (p : FramePart) : (s.framePart base p).me = s.me := by
  cases p with
  | avc => exact s.avcFrame_keeps.me
  | hmu => exact s.hmuFrame_keeps.me
  | upu => exact (s.upuFrame_keeps base).me
  | cu => exact s.cuFrame_keeps.me
  | sx => exact s.examine_keeps.me
  | derive first =>
    simp only [State.framePart]
    split
    · exact s.derivation_me first
    · rfl

/-- The learned rises that an applied RINIT gives (R113) keep. -/
theorem State.loadRises_keeps (s : State) (l : List (StepId × Nat)) : s.Keeps (s.loadRises l) := by
  unfold State.loadRises
  exact .foldl _ (fun t x => t.modStep_keeps x.1 _) l s

/-- The blocks that take a frame leave the Measurement Engine (R44). -/
theorem State.takeFrame_me (s : State) (i : FrameInput) (rises : List (StepId × Nat)) :
    (s.takeFrame i rises).me = s.me := by
  have parts : ∀ (l : List FramePart) (t : State), (l.foldl (fun t p => t.framePart s p) t).me = t.me := by
    intro l
    induction l with
    | nil => exact fun _ => rfl
    | cons p l ih => exact fun t => (ih _).trans (t.framePart_me s p)
  have start : s.Keeps ((if i.riseFirst then s.cuFrame else s).loadRises rises) :=
    (State.Keeps.ite _ s.cuFrame_keeps (.refl s)).trans (State.loadRises_keeps _ _)
  exact ((State.examine_keeps _).me.trans (parts _ _)).trans start.me

/-! ## The application of settings (R197) -/

/-- What applied settings do to a running monitor (R132, R133) keeps. -/
theorem State.applyMonitor_keeps (s : State) (old : Settings) (m : MonitorId) :
    s.Keeps (s.applyMonitor old m) := by
  have restart : s.Keeps (s.restartMonitor m) :=
    (s.setMonitor_keeps m _).trans (State.setFlagsIf_keeps _ _)
  exact .ite _ (s.setMonitor_keeps m _) (.ite _ restart (.ite _ restart (s.setMonitor_keeps m _)))

/-- What an applied change of in_service does (R73, R174) keeps. -/
theorem State.applyInService_keeps (s : State) (old : Settings) (k : StepId) :
    s.Keeps (s.applyInService old k) :=
  .ite _ ((s.removeEach_keeps _ _).trans (State.endSelectionOf_keeps _ _ _)) (.refl s)

/-- What applied settings do to the running records keeps. -/
theorem State.applyEffects_keeps (s : State) (old : Settings) : s.Keeps (s.applyEffects old) :=
  ((State.Keeps.foldl _ (fun t m => t.applyMonitor_keeps old m) _ s).trans
    (State.Keeps.foldl _ (fun t k => t.modStep_keeps k _) _ _)).trans
    (State.Keeps.foldl _ (fun t k => t.applyInService_keeps old k) _ _)

/-- An application of settings leaves the Measurement Engine (R197). -/
@[simp] theorem State.applySettings_me (s : State) : s.applySettings.me = s.me := by
  have effects := s.putSettings.applyEffects_keeps s.set.settings
  exact (State.Keeps.ite _ (effects.trans (State.examineIfLeft_keeps _ s))
    (effects.trans (State.examine_keeps _))).me

/-! ## Publication (R44) and the period applied (R30, R32) -/

/-- Publication gives the Measurement Engine the frame and its choices for the next one. -/
theorem State.publish_me (s : State) (i : FrameInput) (m : Sampling) :
    (s.publish i m).me = s.meAfter (s.frameOf i m.freeStarted) m :=
  (State.Keeps.foldl _ (fun t k => t.modStep_keeps k _) allSteps
    { s with me := s.meAfter (s.frameOf i m.freeStarted) m }).me

/-- The start of a frame leaves all but the sampling. -/
theorem State.startFrame_me (s : State) : ∃ x, s.startFrame.me = { s.me with sampling := x } := by
  unfold State.startFrame
  split
  · exact ⟨s.me.sampling, rfl⟩
  · exact ⟨_, rfl⟩

/-- A clamp that changes a measurement gives one of the limits (R30). -/
theorem clampPeriod_of_ne {f : Fsel} {m : Nat} (h : clampPeriod f m ≠ m) :
    clampPeriod f m = periodLow f ∨ clampPeriod f m = periodHigh f := by
  unfold clampPeriod at *
  omega

/-- Where the clamp changed the value, the period applied is one of the limits (R30). -/
theorem State.periodAfter_of_offFreqNow {s : State} (h : s.offFreqNow = true) :
    s.periodAfter = periodLow s.me.fsel ∨ s.periodAfter = periodHigh s.me.fsel := by
  unfold State.offFreqNow at h
  unfold State.periodAfter
  split at h
  · exact clampPeriod_of_ne (of_decide_eq_true h)
  · cases h

/-- Without a reference or without a measurement the period is held (R30). -/
theorem State.periodAfter_held {s : State} (h : s.me.reference = none ∨ s.me.measurement = none) :
    s.periodAfter = s.me.period := by
  unfold State.periodAfter
  split
  case h_1 reference measurement => simp [reference, measurement] at h
  case h_2 => rfl

/-- What an arrival leaves in the Measurement Engine: the period applied, and a frame that reports its
frequency and whether the clamp changed it (R30, R32, R44). -/
theorem State.frameArrives_me (s : State) (i : FrameInput) :
    (s.frameArrives i).me.period = s.periodAfter
      ∧ (s.frameArrives i).me.frame.frequency = centihertz s.periodAfter
      ∧ (s.frameArrives i).me.frame.offFreq = s.offFreqNow := by
  obtain ⟨x, started⟩ := s.startFrame_me
  simp only [State.frameArrives, State.takeFrame_me, State.publish_me, State.meAfter, State.frameOf,
    State.periodAfter, State.offFreqNow, State.applySettings_me, State.until_me, started, and_self]

/-- Settles O46: the publication writes the frame's frequency and the period from one value, and nothing that
follows in the arrival writes the Measurement Engine. -/
theorem framesReportTheFrequency : Obligations.FramesReportTheFrequency := by
  refine ⟨fun i s running => ?_, by decide, by decide⟩
  obtain ⟨period, frequency, offFreq⟩ := s.frameArrives_me i
  refine ⟨s.frameArrives i, ?_, ?_, ?_, ?_⟩
  · exact congrArg Host.Outcome.next (s.unlessHeld_free _ running)
  · rw [frequency, period, centihertz]
  · rw [offFreq, period]
    exact State.periodAfter_of_offFreqNow
  · rw [period]
    exact State.periodAfter_held

end Sys2Proof.Machine
end

section
/-!
SUPPORT and PROOF. The table of coefficients (R34) against the cosine: the symmetries of the table and of
4096 cos(2πm/32), and the half angle, which gives bounds of a coefficient from bounds of the one at twice its
index.
-/
namespace Sys2Proof.Machine

/-! ## The table and the sums over it -/

/-- The table is odd about index 8. -/
theorem cosAt_sixteen_sub {m : Nat} (h : m ≤ 16) : cosAt (16 - m) = -cosAt m := by
  revert m
  decide

/-- The table is even about index 16. -/
theorem cosAt_thirtyTwo_sub {m : Nat} (pos : 1 ≤ m) (h : m ≤ 16) : cosAt (32 - m) = cosAt m := by
  revert m
  decide

/-- The samples of a channel with their set numbers. -/
theorem Channel.zipIdx_eq (x : Channel) :
    x.toList.zipIdx = (List.finRange 32).map (fun n => (x[n], n.val)) := by
  refine List.ext_getElem (by simp) fun n _ _ => ?_
  simp

/-- A correlation is the sum over the 32 sets in order (R35). -/
theorem correlate_eq (x : Channel) (coeff : Nat → Int) (h : Nat) :
    correlate x coeff h =
      (List.finRange 32).foldl
        (fun (a : Int) (n : Fin 32) => a + (x[n]).toInt * coeff (h * n.val % 32)) 0 := by
  rw [correlate, Channel.zipIdx_eq, List.foldl_map]

/-! ## The cosine -/

/-- The coefficient of index `m` before it is rounded. -/
noncomputable def exactCoefficient (m : Nat) : ℝ := 4096 * Real.cos (2 * Real.pi * m / 32)

theorem exactCoefficient_zero : exactCoefficient 0 = 4096 := by
  simp [exactCoefficient]

theorem exactCoefficient_eight : exactCoefficient 8 = 0 := by
  have quarter : 2 * Real.pi * (8 : ℕ) / 32 = Real.pi / 2 := by push_cast; ring
  rw [exactCoefficient, quarter, Real.cos_pi_div_two, mul_zero]

/-- cos(π − x) = −cos x. -/
theorem exactCoefficient_sixteen_sub {m : Nat} (h : m ≤ 16) :
    exactCoefficient (16 - m) = -exactCoefficient m := by
  have angle : 2 * Real.pi * (16 - m : ℕ) / 32 = Real.pi - 2 * Real.pi * m / 32 := by
    push_cast [h]; ring
  rw [exactCoefficient, angle, Real.cos_pi_sub, exactCoefficient, mul_neg]

/-- cos(2π − x) = cos x. -/
theorem exactCoefficient_thirtyTwo_sub {m : Nat} (h : m ≤ 32) :
    exactCoefficient (32 - m) = exactCoefficient m := by
  have angle : 2 * Real.pi * (32 - m : ℕ) / 32 = 2 * Real.pi - 2 * Real.pi * m / 32 := by
    push_cast [h]; ring
  rw [exactCoefficient, angle, Real.cos_two_pi_sub, exactCoefficient]

/-- cos²x = (1 + cos 2x) / 2. -/
theorem exactCoefficient_sq (m : Nat) :
    exactCoefficient m ^ 2 = 2048 * (4096 + exactCoefficient (2 * m)) := by
  have angle : 2 * Real.pi * (2 * m : ℕ) / 32 = 2 * (2 * Real.pi * m / 32) := by push_cast; ring
  rw [exactCoefficient, exactCoefficient, angle, mul_pow, Real.cos_sq]
  ring

/-- The cosine is not negative in the first quarter. -/
theorem exactCoefficient_nonneg {m : Nat} (h : m ≤ 8) : 0 ≤ exactCoefficient m := by
  have le : (m : ℝ) ≤ 8 := by exact_mod_cast h
  have pos := Real.pi_pos
  refine mul_nonneg (by norm_num) (Real.cos_nonneg_of_mem_Icc ⟨?_, ?_⟩)
  · have : 0 ≤ 2 * Real.pi * m / 32 := by positivity
    linarith
  · nlinarith

/-- Bounds of the coefficient at twice an index of the first quarter give bounds of its own. -/
theorem exactCoefficient_mem_Ioo {m : Nat} (h : m ≤ 8) {lo hi a b : ℝ}
    (double : exactCoefficient (2 * m) ∈ Set.Ioo lo hi) (b0 : 0 ≤ b)
    (lower : a ^ 2 ≤ 2048 * (4096 + lo)) (upper : 2048 * (4096 + hi) ≤ b ^ 2) :
    exactCoefficient m ∈ Set.Ioo a b := by
  obtain ⟨above, below⟩ := double
  have sq := exactCoefficient_sq m
  exact ⟨lt_of_pow_lt_pow_left₀ 2 (exactCoefficient_nonneg h) (by linarith),
    lt_of_pow_lt_pow_left₀ 2 b0 (by linarith)⟩

/-- The bounds of a coefficient, mirrored about index 8. -/
theorem exactCoefficient_sixteen_sub_mem_Ioo {m : Nat} (h : m ≤ 16) {a b : ℝ}
    (bounds : exactCoefficient m ∈ Set.Ioo a b) : exactCoefficient (16 - m) ∈ Set.Ioo (-b) (-a) := by
  rw [exactCoefficient_sixteen_sub h]
  exact ⟨neg_lt_neg bounds.2, neg_lt_neg bounds.1⟩

/-! ## Rounding -/

/-- The table's value at `m` is the coefficient rounded to nearest. -/
def RoundedAt (m : Nat) : Prop := |exactCoefficient m - cosAt m| < 1 / 2

/-- Bounds less than one half from the table's value on either side. -/
theorem roundedAt_of_mem_Ioo {m : Nat} {a b : ℝ} (bounds : exactCoefficient m ∈ Set.Ioo a b) {c : Int}
    (table : cosAt m = c) (lower : c - 1 / 2 ≤ a) (upper : b ≤ c + 1 / 2) : RoundedAt m := by
  obtain ⟨above, below⟩ := bounds
  rw [RoundedAt, table, abs_lt]
  constructor <;> linarith

/-- The first nine coefficients are rounded: the half angles of π/2 give C(4), then C(2) and C(6), then
the odd ones. The bounds of C(6) are narrow since 4096 cos(6π/16) is near 1567.5. -/
theorem roundedAt_of_le_eight {m : Nat} (h : m ≤ 8) : RoundedAt m := by
  have c8 : exactCoefficient 8 ∈ Set.Ioo (-0.001 : ℝ) 0.001 := by
    rw [exactCoefficient_eight]; constructor <;> norm_num
  have c4 : exactCoefficient 4 ∈ Set.Ioo (2896.3 : ℝ) 2896.32 :=
    exactCoefficient_mem_Ioo (by norm_num) c8 (by norm_num) (by norm_num) (by norm_num)
  have c12 := exactCoefficient_sixteen_sub_mem_Ioo (by norm_num) c4
  have c2 : exactCoefficient 2 ∈ Set.Ioo (3784.2 : ℝ) 3784.3 :=
    exactCoefficient_mem_Ioo (by norm_num) c4 (by norm_num) (by norm_num) (by norm_num)
  have c6 : exactCoefficient 6 ∈ Set.Ioo (1567.4 : ℝ) 1567.49 :=
    exactCoefficient_mem_Ioo (by norm_num) c12 (by norm_num) (by norm_num) (by norm_num)
  have c14 := exactCoefficient_sixteen_sub_mem_Ioo (by norm_num) c2
  have c10 := exactCoefficient_sixteen_sub_mem_Ioo (by norm_num) c6
  have c1 : exactCoefficient 1 ∈ Set.Ioo (4017 : ℝ) 4017.5 :=
    exactCoefficient_mem_Ioo (by norm_num) c2 (by norm_num) (by norm_num) (by norm_num)
  have c3 : exactCoefficient 3 ∈ Set.Ioo (3405.5 : ℝ) 3406 :=
    exactCoefficient_mem_Ioo (by norm_num) c6 (by norm_num) (by norm_num) (by norm_num)
  have c5 : exactCoefficient 5 ∈ Set.Ioo (2275.5 : ℝ) 2276 :=
    exactCoefficient_mem_Ioo (by norm_num) c10 (by norm_num) (by norm_num) (by norm_num)
  have c7 : exactCoefficient 7 ∈ Set.Ioo (798.5 : ℝ) 799.5 :=
    exactCoefficient_mem_Ioo (by norm_num) c14 (by norm_num) (by norm_num) (by norm_num)
  interval_cases m
  · simp [RoundedAt, exactCoefficient_zero, show cosAt 0 = 4096 from rfl]
  · exact roundedAt_of_mem_Ioo c1 (c := 4017) rfl (by norm_num) (by norm_num)
  · exact roundedAt_of_mem_Ioo c2 (c := 3784) rfl (by norm_num) (by norm_num)
  · exact roundedAt_of_mem_Ioo c3 (c := 3406) rfl (by norm_num) (by norm_num)
  · exact roundedAt_of_mem_Ioo c4 (c := 2896) rfl (by norm_num) (by norm_num)
  · exact roundedAt_of_mem_Ioo c5 (c := 2276) rfl (by norm_num) (by norm_num)
  · exact roundedAt_of_mem_Ioo c6 (c := 1567) rfl (by norm_num) (by norm_num)
  · exact roundedAt_of_mem_Ioo c7 (c := 799) rfl (by norm_num) (by norm_num)
  · exact roundedAt_of_mem_Ioo c8 (c := 0) rfl (by norm_num) (by norm_num)

/-- Rounding is symmetric about index 8. -/
theorem RoundedAt.sixteen_sub {m : Nat} (h : m ≤ 16) (r : RoundedAt m) : RoundedAt (16 - m) := by
  have opposite : -exactCoefficient m - -(cosAt m : ℝ) = -(exactCoefficient m - cosAt m) := by ring
  rw [RoundedAt, exactCoefficient_sixteen_sub h, cosAt_sixteen_sub h, Int.cast_neg, opposite, abs_neg]
  exact r

/-- Rounding is symmetric about index 16. -/
theorem RoundedAt.thirtyTwo_sub {m : Nat} (pos : 1 ≤ m) (h : m ≤ 16) (r : RoundedAt m) :
    RoundedAt (32 - m) := by
  rw [RoundedAt, exactCoefficient_thirtyTwo_sub (by omega), cosAt_thirtyTwo_sub pos h]
  exact r

/-- Every value of the table is its coefficient rounded to nearest: the first quarter carries over to the
first half, and that to the whole turn. -/
theorem roundedAt {m : Nat} (h : m < 32) : RoundedAt m := by
  have half : ∀ n ≤ 16, RoundedAt n := by
    intro n hn
    by_cases quarter : n ≤ 8
    · exact roundedAt_of_le_eight quarter
    · have mirror := (roundedAt_of_le_eight (m := 16 - n) (by omega)).sixteen_sub (by omega)
      rwa [Nat.sub_sub_self hn] at mirror
  by_cases first : m ≤ 16
  · exact half m first
  · have mirror := (half (32 - m) (by omega)).thirtyTwo_sub (by omega) (by omega)
    rwa [Nat.sub_sub_self h.le] at mirror

/-- Settles O49: the rounding by half angles and symmetry, the table by evaluation, and the correlations as
sums over the table. -/
theorem coefficientsAreRoundedCosines : Obligations.CoefficientsAreRoundedCosines := by
  refine ⟨fun m h => roundedAt h, rfl, ?_, fun m => cosAt_thirtyTwo_sub, fun m _ => rfl, ?_, rfl, rfl⟩
  · exact fun m h => cosAt_sixteen_sub (by omega)
  · exact fun x h => ⟨correlate_eq x cosAt h, congrArg Neg.neg (correlate_eq x sinAt h)⟩

end Sys2Proof.Machine
end

section
/-!
SUPPORT and PROOF. An OPEN for a step with no pending entry (R52): a posting that becomes a new entry writes
the queue alone (R50), and a step that moves has its entry (R2).
-/
namespace Sys2Proof.Machine

/-- A posting that becomes a new entry writes the Operation Queue and no other block (R50). -/
theorem State.admitNew_onlyIn (s : State) (p : Posting) : s.onlyIn (s.admitNew p) [.oq] := by
  intro b hb
  cases b with
  | oq => simp at hb
  | _ => rfl

/-- An OPEN for a step with no pending entry is judged by the step's state alone, the absent state included
(R52). -/
theorem State.post_open_of_entryOf_none {s : State} {p : Posting} (kind : p.kind = .openOp)
    (entry : s.entryOf p.step = none) : s.post p = s.postOpen p := by
  by_cases absent : (s.stepRec p.step).state = none
  · simp [State.post, State.postOpen, absent]
  · simp [State.post, absent, entry, kind]

/-- In a sound queue a step with no pending entry is neither CLOSING nor OPENING: such a step's entry is in
flight (R2). -/
theorem State.QueueSound.not_moving_of_entryOf_none {s : State} (q : s.QueueSound) {k : StepId}
    (entry : s.entryOf k = none) :
    ¬((s.stepRec k).state = some .closing ∨ (s.stepRec k).state = some .opening) := by
  obtain ⟨-, -, -, moving, -⟩ := q
  intro moves
  obtain ⟨e, flight, estep⟩ := Option.map_eq_some_iff.mp (moving k moves)
  have absent := List.find?_eq_none.mp entry e (List.mem_of_find?_eq_some flight)
  exact absent (decide_eq_true estep)

/-- Settles O19: the OPEN is judged by R52's table, one clause for each state of the step, and the queue's
invariant leaves out the states that move. -/
theorem openIsJudgedByTheStepsState : Obligations.OpenIsJudgedByTheStepsState := by
  intro s p kind entry
  rw [State.post_open_of_entryOf_none kind entry]
  refine ⟨fun closed => ?_, fun atRest => ?_, fun unfit => ?_, fun q => ?_⟩
  · have admitted : s.postOpen p = (s.admitNew p, .accepted) := by simp [State.postOpen, closed]
    rw [admitted]
    exact ⟨rfl, by simp [State.admitNew, kind], s.admitNew_onlyIn p⟩
  · rcases atRest with ready | discharging
    · simp [State.postOpen, ready]
    · simp [State.postOpen, discharging]
  · rcases unfit with lockout | out | failed
    · simp [State.postOpen, lockout]
    · simp [State.postOpen, out]
    · simp [State.postOpen, failed]
  · exact not_or.mp (q.not_moving_of_entryOf_none entry)

end Sys2Proof.Machine
end

section
/-!
SUPPORT and PROOF. CLEAR_COUNTERS (R134): what it leaves of each monitor, and what the next frame counts on it
(R126).
-/
namespace Sys2Proof.Machine

/-- Cleared counters read 0 at every monitor, and the rest of its record as before (R134). -/
@[simp] theorem State.clearCounters_monitor (s : State) (m : MonitorId) :
    s.clearCounters.monitor m = { s.monitor m with assertCount := 0, activeFrames := 0 } := by
  simp [State.monitor, State.clearCounters]

/-- Clearing the counters writes the Harmonic Monitor Unit and no other block (R134). -/
theorem State.clearCounters_onlyIn (s : State) : s.onlyIn s.clearCounters [.hmu] := by
  intro b hb
  cases b with
  | hmu => simp at hb
  | _ => rfl

/-- A response leaves every monitor. -/
@[simp] theorem State.respond_monitor (s : State) (p : Port) (tag : Byte) (a : Answer) (m : MonitorId) :
    (s.respond p tag a).monitor m = s.monitor m :=
  congrArg (fun x : HmuState => x.monitors[m]) (s.respond_onlyIn p tag a .hmu (by decide))

/-- A frame raises active_frames of an active monitor by one, up to its bound, and leaves the rest of the
record (R126). -/
theorem State.countActive_monitor {s : State} {m : MonitorId} (active : s.monitorActive m = true) :
    (s.countActive m).monitor m =
      { s.monitor m with activeFrames := min 4294967295 ((s.monitor m).activeFrames + 1) } := by
  rw [State.countActive, if_pos active, State.monitor_setMonitor_same]

/-- What CLEAR_COUNTERS does at a controller that serves: its effect on the judged state and the response. -/
theorem exec_clearCounters {h : Header} {s : State} (serves : s.serves) (a : h.port = .a) :
    exec (.clearCounters h) s =
      .next ((s.judged h).clearCounters.respond h.port h.tag (.plain .done)) := by
  have permitted : fromA h = true := by simp [fromA, a]
  exact congrArg Host.Outcome.next
    (s.request_serves h (fromA h) (fun u => doneWith u.clearCounters) serves permitted)

/-- Settles O33: the response follows the clearing, which writes the monitors' two counts alone; so the next
frame's count of an active monitor starts from 0. -/
theorem clearCountersClearsTheCounts : Obligations.ClearCountersClearsTheCounts := by
  intro h s u serves a hu
  refine ⟨_, exec_clearCounters serves a, ?_⟩
  rw [← hu]
  have cleared : ∀ m, (u.clearCounters.respond h.port h.tag (.plain .done)).monitor m =
      { u.monitor m with assertCount := 0, activeFrames := 0 } := by simp
  refine ⟨?_, cleared, fun m active => ?_, ?_⟩
  · exact State.respond_answered (u.clearCounters_onlyIn .pi (by decide)) h _
  · rw [State.countActive_monitor active, cleared m]
    exact ⟨rfl, rfl⟩
  · exact State.onlyIn_trans (State.onlyIn_mono u.clearCounters_onlyIn (by decide))
      (State.onlyIn_mono (State.respond_onlyIn _ _ _ _) (by decide))

end Sys2Proof.Machine
end

section
/-!
SUPPORT and PROOF. CANCEL (R172): the Selection table across a request and the emptying of one slot, a step
field that names no step (R182), and that two ports never hold the same step (R170).
-/
namespace Sys2Proof.Machine

/-! ## The Selection table -/

/-- The frame a request is judged after writes no slot: it acts on the port and on supervision alone (R164,
R176). -/
@[simp] theorem State.judged_slot (s : State) (h : Header) (p : Port) :
    (s.judged h).slot p = s.slot p := by
  have table : (s.judged h).au.slotA = s.au.slotA ∧ (s.judged h).au.slotB = s.au.slotB := by
    unfold State.judged State.superviseGood
    split <;> simp [State.setSupervision, State.clockOut]
  cases p with
  | a => exact table.1
  | b => exact table.2

/-- A response leaves the Authority Unit. -/
@[simp] theorem State.respond_au (s : State) (p : Port) (tag : Byte) (a : Answer) :
    (s.respond p tag a).au = s.au := s.respond_onlyIn p tag a .au (by decide)

/-- A response leaves every slot. -/
@[simp] theorem State.respond_slot (s : State) (p q : Port) (tag : Byte) (a : Answer) :
    (s.respond p tag a).slot q = s.slot q := by
  cases q <;> simp [State.slot]

/-- Filling or emptying a slot writes the Authority Unit and no other block: no record (R170, R172). -/
theorem State.setSlot_onlyIn (s : State) (p : Port) (v : Option Selection) :
    s.onlyIn (s.setSlot p v) [.au] := by
  intro b hb
  cases b <;> simp_all [State.sameBlock]

/-- Filling or emptying a slot writes nothing of the Authority Unit but the slots. -/
theorem State.setSlot_au (s : State) (p : Port) (v : Option Selection) :
    { (s.setSlot p v).au with slotA := s.au.slotA, slotB := s.au.slotB } = s.au := by
  cases p <;> rfl

/-- selected_by of a step is absent exactly when neither slot holds the step (R170). -/
theorem State.selectedBy_eq_none_iff (s : State) (k : StepId) :
    s.selectedBy k = none ↔ ∀ p, (s.slot p).map (·.step) ≠ some k := by
  constructor
  · intro absent p
    rw [State.selectedBy] at absent
    split_ifs at absent with slotA slotB
    cases p with
    | a => exact slotA
    | b => exact slotB
  · intro free
    exact (if_neg (free .a)).trans (if_neg (free .b))

/-- In a sound table every filled slot is the holder's, so two ports never hold a selection together (R163,
R170). -/
theorem State.SelectionsSound.port_unique {s : State} (sel : s.SelectionsSound) {p q : Port} {k j : StepId}
    (hp : (s.slot p).map (·.step) = some k) (hq : (s.slot q).map (·.step) = some j) : p = q := by
  obtain ⟨soundA, soundB⟩ := sel
  have holds : ∀ {r : Port} {i : StepId}, (s.slot r).map (·.step) = some i → s.holder = some r := by
    intro r i hr
    obtain ⟨x, hx, -⟩ := Option.map_eq_some_iff.mp hr
    cases r with
    | a => exact (soundA x hx).1
    | b => exact (soundB x hx).1
  exact Option.some_inj.mp ((holds hp).symm.trans (holds hq))

/-- Once the slot that holds a step is emptied, no slot holds it (R172). -/
theorem State.SelectionsSound.slot_ne_of_emptied {s : State} (sel : s.SelectionsSound) {p : Port}
    {k : StepId} (hp : (s.slot p).map (·.step) = some k) (q : Port) :
    (if q = p then none else s.slot q).map (·.step) ≠ some k := by
  split
  case isTrue => simp
  case isFalse ne => exact fun hq => ne (sel.port_unique hq hp)

/-! ## CANCEL (R172) -/

/-- A step field outside 1 to 8 has the request refused BAD_STEP, whatever it asks (R182). -/
theorem withStep_badStep {b : Byte} (outside : b.toNat = 0 ∨ 8 < b.toNat) (judge : StepId → Judge)
    (s : State) : withStep b judge s = refusedWith s .badStep := by
  have field : stepField b = none := dif_neg (by omega)
  simp [withStep, field, refusedWith]

/-- CANCEL of a step is judged by whether the port's slot holds it (R172). -/
theorem judgeCancel_names {b : Byte} {k : StepId} (n : names b k) (p : Port) (s : State) :
    judgeCancel p b s =
      if (s.slot p).map (·.step) = some k then doneWith (s.setSlot p none)
      else refusedWith s .notSelected := by
  rw [judgeCancel, withStep_names n]
  simp [State.holdsSelection]

/-- What CANCEL does at a controller that serves, whoever the holder is: its judgement and the response. -/
theorem exec_cancel {h : Header} {b : Byte} {s u : State} (serves : s.serves) (hu : u = s.judged h)
    {v : State} {a : Answer} (judged : judgeCancel h.port b u = (v, a)) :
    exec (.cancel h b) s = .next (v.respond h.port h.tag a) := by
  have req := s.request_serves h true (judgeCancel h.port b) serves rfl
  rw [← hu, judged] at req
  exact congrArg Host.Outcome.next req

/-- A CANCEL that is refused changes nothing but its answer. -/
theorem exec_cancel_refused {h : Header} {b : Byte} {s u : State} (serves : s.serves)
    (hu : u = s.judged h) {c : ResultCode} (refused : judgeCancel h.port b u = refusedWith u c) :
    ∃ t, exec (.cancel h b) s = .next t ∧ u.onlyIn t [.pi]
      ∧ u.answered t h { code := c, payload := [] } :=
  ⟨_, exec_cancel serves hu refused, u.respond_onlyIn _ _ _, State.respond_answered rfl h _⟩

/-- Settles O24: both refusals leave everything but the answer; the accepted CANCEL empties its own slot, and
the other slot cannot hold the step, since a sound table has selections of the holder only. -/
theorem cancelEmptiesItsSlot : Obligations.CancelEmptiesItsSlot := by
  intro h b s u serves hu
  refine ⟨fun outside => exec_cancel_refused serves hu (withStep_badStep outside _ u),
    fun k n => ⟨fun other => ?_, fun held => ?_⟩⟩
  · exact exec_cancel_refused serves hu ((judgeCancel_names n h.port u).trans (if_neg other))
  · have done := (judgeCancel_names n h.port u).trans (if_pos held)
    refine ⟨_, exec_cancel serves hu done, State.respond_answered (by simp) h _, by simp, ?_, ?_, ?_, ?_⟩
    · intro p ne
      simp [ne]
    · rw [State.respond_au]
      exact u.setSlot_au h.port none
    · intro sel
      rw [State.selectedBy_eq_none_iff]
      intro q
      subst hu
      rw [State.judged_slot] at held
      simpa using sel.slot_ne_of_emptied held q
    · exact State.onlyIn_trans (State.onlyIn_mono (u.setSlot_onlyIn h.port none) (by decide))
        (State.onlyIn_mono (State.respond_onlyIn _ _ _ _) (by decide))

end Sys2Proof.Machine
end

section
/-!
PROOF. The queue of commands (log entry 1) and the state after reset (R201): a step is its front command, and the
state after reset is sound.
-/
namespace Sys2Proof.Machine

/-- Settles O1: by the definition of a step, out of reset and in reset. -/
theorem stepRunsFrontCommand : Obligations.StepRunsFrontCommand := by
  refine ⟨fun c rest s h => ?_, fun s h run => ?_, fun s h held => ?_⟩
  · simp [step, h]
  · simp [step, h, State.idle, State.unlessHeld, run, State.pass]
  · rw [step, h]
    exact congrArg Host.Outcome.next (s.unlessHeld_held _ held)

/-! ## After reset -/

/-- Every Step Record after reset is the one of R23, with the raw levels of its contacts. -/
@[simp] theorem State.afterReset_stepRec (f : Fsel) (c : ResetCause) (raw : RawLevels) (i j : Image)
    (k : StepId) :
    (State.afterReset f c raw i j).stepRec k = StepRecord.afterReset raw.contacts[k] := by
  simp [State.stepRec, State.afterReset]

/-- Every monitor after reset is the one of R136. -/
@[simp] theorem State.afterReset_monitor (f : Fsel) (c : ResetCause) (raw : RawLevels) (i j : Image)
    (m : MonitorId) : (State.afterReset f c raw i j).monitor m = .afterReset := by
  simp [State.monitor, State.afterReset]

/-- The nominal period lies within its own limits (R30). -/
theorem nominalPeriod_mem (f : Fsel) : periodLow f ≤ nominalPeriod f ∧ nominalPeriod f ≤ periodHigh f := by
  cases f <;> decide

/-- The defaults lie in their ranges (R194). -/
theorem Settings.default_inRange : Settings.default.inRange = true := by decide

/-- The state after reset is sound, whatever the strap, the cause, the raw levels and the image (R23, R47, R93,
R119, R136, R158, R193, R201). -/
theorem State.afterReset_sound (f : Fsel) (c : ResetCause) (raw : RawLevels) (i j : Image) :
    let r := State.afterReset f c raw i j
    r.StoreSound ∧ r.YardSound ∧ r.SettingsSound ∧ r.MonitorsSound ∧ r.DischargeSound ∧ r.PeriodSound
      ∧ r.CountsSound := by
  intro r
  have state : ∀ k, (r.stepRec k).state = none := fun k => by simp [r, StepRecord.afterReset]
  have timer : ∀ k, (r.stepRec k).faultTimer = none := fun k => by simp [r, StepRecord.afterReset]
  have history : ∀ k, (r.stepRec k).closeHistory = [] := fun k => by simp [r, StepRecord.afterReset]
  have monitor : ∀ m, r.monitor m = .afterReset := fun m => by simp [r]
  have entries : r.oq.entries = [] := rfl
  have ready : r.ss.readyOrder = [] := rfl
  have closed : r.ss.closedOrder = [] := rfl
  have slots : ∀ p, r.slot p = none := fun p => by cases p <;> rfl
  refine ⟨⟨Nat.zero_le _, Nat.zero_le _, Nat.zero_le _⟩, ⟨?_, ?_, trivial, ?_⟩, ⟨Settings.default_inRange, ?_⟩, ?_, ?_, nominalPeriod_mem f, ?_⟩
  · exact ⟨List.nodup_nil, List.nodup_nil, fun k => by simp [state, ready], fun k => by simp [state, closed]⟩
  · exact ⟨by simp [entries], by simp [entries], by simp [entries], by simp [state], by simp [timer],
      fun _ => state⟩
  · exact ⟨fun sel h => by simp [slots] at h, fun sel h => by simp [slots] at h⟩
  · exact fun p h => nomatch h
  · exact fun m => by simp [monitor, Monitor.afterReset]
  · exact fun k => by simp [state]
  · exact ⟨Nat.zero_le _, Nat.zero_le _, Nat.zero_le _, Nat.zero_le _, fun k => by simp [history],
      fun m => by simp [monitor, Monitor.afterReset]⟩

/-- Settles O5: the state after reset is one of those a release leaves. -/
theorem resetIsSound : Obligations.ResetIsSound :=
  State.afterReset_sound _ _ _ _ _

end Sys2Proof.Machine
end

section
/-!
SUPPORT. What every operation keeps sound: the bounds of the Outcome Store (R186), the rotation orders (R7), the
Selection table (R170), the settings (R194), the monitors (R120), the period (R30) and the saturating counts.
Each is kept by every shared operation on its own, so that the lemmas of larger operations are chains.
-/
namespace Sys2Proof.Machine

/-- The queue of commands is the same in both states, and what was sound is sound. -/
structure State.KeepsSound (s t : State) : Prop where
  /-- the commands that wait -/
  pending : t.pending = s.pending
  /-- the Outcome Store (R186) -/
  store : s.StoreSound → t.StoreSound
  /-- the rotation orders (R7) -/
  orders : s.OrdersSound → t.OrdersSound
  /-- the Selection table (R163, R170) -/
  selections : s.SelectionsSound → t.SelectionsSound
  /-- the settings and the pending values (R194, R195) -/
  settings : s.SettingsSound → t.SettingsSound
  /-- the monitors (R120) -/
  monitors : s.MonitorsSound → t.MonitorsSound
  /-- the period in force (R30) -/
  period : s.PeriodSound → t.PeriodSound
  /-- the saturating counts (R83, R94, R120, R189) -/
  counts : s.CountsSound → t.CountsSound

theorem State.KeepsSound.refl (s : State) : s.KeepsSound s := ⟨rfl, id, id, id, id, id, id, id⟩

theorem State.KeepsSound.trans {s t u : State} (h : s.KeepsSound t) (g : t.KeepsSound u) :
    s.KeepsSound u :=
  ⟨g.pending.trans h.pending, g.store ∘ h.store, g.orders ∘ h.orders, g.selections ∘ h.selections,
    g.settings ∘ h.settings, g.monitors ∘ h.monitors, g.period ∘ h.period, g.counts ∘ h.counts⟩

/-- A fold of operations that keep sound, keeps sound. -/
theorem State.KeepsSound.foldl {α : Type} (f : State → α → State)
    (h : ∀ (t : State) (a : α), t.KeepsSound (f t a)) (l : List α) (s : State) :
    s.KeepsSound (l.foldl f s) := by
  induction l generalizing s with
  | nil => exact .refl s
  | cons a l ih => exact (h s a).trans (ih (f s a))

/-- A choice of two operations that keep sound, keeps sound. -/
theorem State.KeepsSound.ite {s t u : State} (c : Prop) [Decidable c] (h : s.KeepsSound t)
    (g : s.KeepsSound u) : s.KeepsSound (if c then t else u) := by
  split
  · exact h
  · exact g

/-! ## One invariant at a time: what it reads -/

/-- The rotation orders are sound when they and the states of the steps are the same. -/
theorem State.OrdersSound.congr {s t : State} (ready : t.ss.readyOrder = s.ss.readyOrder)
    (closed : t.ss.closedOrder = s.ss.closedOrder)
    (state : ∀ k, (t.stepRec k).state = (s.stepRec k).state) (h : s.OrdersSound) : t.OrdersSound := by
  obtain ⟨nr, nc, r, c⟩ := h
  exact ⟨ready ▸ nr, closed ▸ nc, fun k => by rw [ready, state]; exact r k,
    fun k => by rw [closed, state]; exact c k⟩

/-- The Selection table is sound when the Authority Unit, the states of the steps and the start-up state are the
same. -/
theorem State.SelectionsSound.congr {s t : State} (au : t.au = s.au)
    (state : ∀ k, (t.stepRec k).state = (s.stepRec k).state)
    (startup : t.set.startup = s.set.startup) (h : s.SelectionsSound) : t.SelectionsSound := by
  have one : ∀ p, s.slotSound p → t.slotSound p := by
    intro p hp sel hsel
    have slot : t.slot p = s.slot p := by cases p <;> simp [State.slot, au]
    have holder : t.holder = s.holder := by simp [State.holder, au]
    rw [holder, au, state, startup]
    exact hp sel (slot ▸ hsel)
  exact ⟨one .a h.1, one .b h.2⟩

/-- The monitors are sound when their counts and their settings are the same. -/
theorem State.MonitorsSound.congr {s t : State} (hmu : ∀ m, t.monitor m = s.monitor m)
    (settings : t.set.settings = s.set.settings) (h : s.MonitorsSound) : t.MonitorsSound := by
  intro m
  rw [hmu, State.pickup, settings]
  exact h m

/-- The lost-outcome counters of both ports stand within their bound (R189). -/
theorem State.lost_le {s : State} (h : s.CountsSound) (p : Port) : (s.portState p).lost ≤ 255 := by
  cases p with
  | a => exact h.1
  | b => exact h.2.1

/-! ## Plain updates -/

/-- A change of a Step Record that leaves the state and keeps the bound of the close history keeps sound. -/
theorem State.setStep_keepsSound (s : State) (k : StepId) (r : StepRecord)
    (state : r.state = (s.stepRec k).state)
    (history : (s.stepRec k).closeHistory.length ≤ 8 → r.closeHistory.length ≤ 8) :
    s.KeepsSound (s.setStep k r) := by
  have states : ∀ j, ((s.setStep k r).stepRec j).state = (s.stepRec j).state := by
    intro j
    by_cases h : j = k
    · subst h; simp [state]
    · simp [h]
  refine ⟨rfl, id, .congr rfl rfl states, .congr rfl states rfl, id, id, id, ?_⟩
  rintro ⟨la, lb, lo, hi, hist, mon⟩
  refine ⟨la, lb, lo, hi, fun j => ?_, mon⟩
  by_cases h : j = k
  · subst h; simpa using history (hist j)
  · simpa [h] using hist j

theorem State.modStep_keepsSound (s : State) (k : StepId) (f : StepRecord → StepRecord)
    (state : (f (s.stepRec k)).state = (s.stepRec k).state)
    (history : (s.stepRec k).closeHistory.length ≤ 8 → (f (s.stepRec k)).closeHistory.length ≤ 8) :
    s.KeepsSound (s.modStep k f) := s.setStep_keepsSound k _ state history

/-- A port with its lost-outcome counter within its bound keeps sound. -/
theorem State.setPort_keepsSound (s : State) (p : Port) (v : PortState)
    (lost : (s.portState p).lost ≤ 255 → v.lost ≤ 255) : s.KeepsSound (s.setPort p v) := by
  cases p
  all_goals
    refine ⟨rfl, id, id, id, id, id, id, ?_⟩
    rintro ⟨la, lb, rest⟩
  · exact ⟨lost la, lb, rest⟩
  · exact ⟨la, lost lb, rest⟩

theorem State.setFlags_keepsSound (s : State) : s.KeepsSound s.setFlags :=
  ⟨rfl, id, id, id, id, id, id, id⟩

theorem State.setFlagsIf_keepsSound (s : State) (c : Bool) : s.KeepsSound (s.setFlagsIf c) :=
  .ite _ s.setFlags_keepsSound (.refl s)

/-- A monitor that stays within its bounds keeps sound (R120). -/
theorem State.setMonitor_keepsSound (s : State) (m : MonitorId) (v : Monitor)
    (sound : ((s.monitor m).accumulator ≤ 2 * s.pickup m
        ∧ (s.set.settings.enabled m = false → (s.monitor m).accumulator = 0 ∧ (s.monitor m).active = false)) →
      v.accumulator ≤ 2 * s.pickup m
        ∧ (s.set.settings.enabled m = false → v.accumulator = 0 ∧ v.active = false))
    (counts : (s.monitor m).assertCount ≤ 65535 ∧ (s.monitor m).activeFrames ≤ 4294967295 →
      v.assertCount ≤ 65535 ∧ v.activeFrames ≤ 4294967295) : s.KeepsSound (s.setMonitor m v) := by
  refine ⟨rfl, id, id, id, id, fun h j => ?_, id, ?_⟩
  · have pickup : (s.setMonitor m v).pickup j = s.pickup j := rfl
    by_cases e : j = m
    · subst e; simpa [pickup] using sound (h j)
    · simpa [e, pickup] using h j
  · rintro ⟨la, lb, lo, hi, hist, mon⟩
    refine ⟨la, lb, lo, hi, hist, fun j => ?_⟩
    by_cases e : j = m
    · subst e; simpa using counts (mon j)
    · simpa [e] using mon j

theorem State.modEntry_keepsSound (s : State) (k : StepId) (f : Entry → Entry) :
    s.KeepsSound (s.modEntry k f) := ⟨rfl, id, id, id, id, id, id, id⟩

/-! ## Outcomes and results -/

theorem State.addLost_keepsSound (s : State) (p : Port) (n : Nat) : s.KeepsSound (s.addLost p n) :=
  s.setPort_keepsSound p _ fun _ => Nat.min_le_left _ _

/-- The shared slots of a port. -/
def State.sharedOf (s : State) (p : Port) : Nat := (s.outcomes p).countP (fun x => x.1 = .shared)

theorem State.sharedUsed_eq (s : State) : s.sharedUsed = s.sharedOf .a + s.sharedOf .b := rfl

/-- A port's list whose slots still fit keeps the store sound, and every other invariant reads no record. -/
theorem State.setOutcomes_keepsSound (s : State) (p : Port) (l : List (Slot × OutcomeRecord))
    (shared : s.sharedUsed ≤ 10 →
      s.sharedUsed + l.countP (fun x => x.1 = .shared) ≤ 10 + s.sharedOf p)
    (reserve : s.reserveUsed p ≤ 3 → l.countP (fun x => x.1 = .reserve) ≤ 3) :
    s.KeepsSound (s.setOutcomes p l) := by
  cases p
  all_goals
    refine ⟨rfl, ?_, id, id, id, id, id, id⟩
    rintro ⟨used, ra, rb⟩
    have total := shared used
    rw [State.sharedUsed_eq] at total
  · refine ⟨?_, reserve ra, rb⟩
    simp only [State.sharedUsed_eq, State.sharedOf, State.setOutcomes, State.outcomes] at total ⊢
    omega
  · refine ⟨?_, ra, reserve rb⟩
    simp only [State.sharedUsed_eq, State.sharedOf, State.setOutcomes, State.outcomes] at total ⊢
    omega

/-- An Outcome Record takes a free slot or the slot of the oldest record of its port (R186). -/
theorem State.insertOutcome_keepsSound (s : State) (p : Port) (r : OutcomeRecord) :
    s.KeepsSound (s.insertOutcome p r) := by
  rcases s.insertOutcome_cases p r with ⟨free, eq⟩ | ⟨-, free, eq⟩ | ⟨-, -, slot, old, rest, list, eq⟩
  · rw [eq]
    refine s.setOutcomes_keepsSound p _ (fun _ => ?_) (fun h => ?_)
    · simp only [List.countP_append, List.countP_singleton, State.sharedOf, decide_true, if_true]
      omega
    · simpa [List.countP_append, State.reserveUsed] using h
  · rw [eq]
    refine s.setOutcomes_keepsSound p _ (fun h => ?_) (fun _ => ?_)
    · simp [List.countP_append, State.sharedOf]
      omega
    · simp only [List.countP_append, List.countP_singleton, State.reserveUsed, decide_true, if_true] at free ⊢
      omega
  · rw [eq]
    refine (s.setOutcomes_keepsSound p _ (fun h => ?_) (fun h => ?_)).trans (State.addLost_keepsSound _ _ _)
    · simp only [State.sharedOf, list, List.countP_append, List.countP_cons, List.countP_nil]
      omega
    · simpa [State.reserveUsed, list, List.countP_append, List.countP_cons] using h

theorem State.discardB_keepsSound (s : State) : s.KeepsSound s.discardB :=
  (s.setOutcomes_keepsSound .b [] (fun h => by simp; omega) (fun _ => by simp)).trans
    (State.addLost_keepsSound _ _ _)

/-- The result of a detune leaves the monitor's counts (R130). -/
theorem State.detuneResult_keepsSound (s : State) (k : StepId) (r : OutcomeResult) :
    s.KeepsSound (s.detuneResult k r) := by
  unfold State.detuneResult
  split
  · exact .refl s
  · exact s.setMonitor_keepsSound _ _ id id

theorem State.giveResult_keepsSound (s : State) (o : Originator) (tag : Option Byte) (k : StepId)
    (kind : OpKind) (fast : Bool) (r : OutcomeResult) :
    s.KeepsSound (s.giveResult o tag k kind fast r) := by
  cases o with
  | portA => exact s.insertOutcome_keepsSound _ _
  | portB => exact s.insertOutcome_keepsSound _ _
  | avc => exact ⟨rfl, id, id, id, id, id, id, id⟩
  | harmonic => exact s.detuneResult_keepsSound k r
  | unbalance => exact ⟨rfl, id, id, id, id, id, id, id⟩
  | external => exact ⟨rfl, id, id, id, id, id, id, id⟩

theorem State.entryResult_keepsSound (s : State) (e : Entry) (r : OutcomeResult) :
    s.KeepsSound (s.entryResult e r) := s.giveResult_keepsSound _ _ _ _ _ _

theorem State.markResult_keepsSound (s : State) (k : StepId) (m : Mark) (r : OutcomeResult) :
    s.KeepsSound (s.markResult k m r) := s.giveResult_keepsSound _ _ _ _ _ _

theorem State.markResultOpt_keepsSound (s : State) (k : StepId) (m : Option Mark) (r : OutcomeResult) :
    s.KeepsSound (s.markResultOpt k m r) := by
  cases m with
  | none => exact .refl s
  | some m => exact s.markResult_keepsSound k m r

/-! ## Coils, the backup trip, settle starts -/

theorem State.coilsOff_keepsSound (s : State) (k : StepId) : s.KeepsSound (s.coilsOff k) := by
  unfold State.coilsOff
  split
  · exact .refl s
  · exact .ite _ ⟨rfl, id, id, id, id, id, id, id⟩ (.refl s)

theorem State.closeCoilOff_keepsSound (s : State) : s.KeepsSound s.closeCoilOff := by
  unfold State.closeCoilOff
  split
  · exact .refl s
  · exact .ite _ ⟨rfl, id, id, id, id, id, id, id⟩ (.refl s)

theorem State.assertBkt_keepsSound (s : State) (k : StepId) (b : BackupReason) (o : Originator) :
    s.KeepsSound (s.assertBkt k b o) :=
  .ite _ (.refl s) (.trans (by exact ⟨rfl, id, id, id, id, id, id, id⟩) (State.closeCoilOff_keepsSound _))

theorem State.abortCapture_keepsSound (s : State) : s.KeepsSound s.abortCapture := by
  unfold State.abortCapture
  split
  · exact .refl s
  · exact .trans (by exact ⟨rfl, id, id, id, id, id, id, id⟩) (State.insertOutcome_keepsSound _ _ _)

theorem State.settleStart_keepsSound (s : State) : s.KeepsSound s.settleStart :=
  .trans (by exact ⟨rfl, id, id, id, id, id, id, id⟩) (State.abortCapture_keepsSound _)

theorem State.dropEntry_keepsSound (s : State) (k : StepId) : s.KeepsSound (s.dropEntry k) :=
  .trans (by exact ⟨rfl, id, id, id, id, id, id, id⟩) (State.coilsOff_keepsSound _ k)

/-- The removal of an entry that no longer fits keeps sound (R72). -/
theorem State.fitEntry_keepsSound (s : State) (k : StepId) : s.KeepsSound (s.fitEntry k) := by
  unfold State.fitEntry
  split
  · exact .refl s
  · have h := fun e r => (s.dropEntry_keepsSound k).trans (State.entryResult_keepsSound _ e r)
    refine .ite _ (.refl s) ?_
    split
    · exact .ite _ (.refl s) (h _ _)
    · exact .ite _ (.refl s) (h _ _)
    · exact .ite _ (.refl s)
        (.ite _ ((h _ _).trans (State.assertBkt_keepsSound _ _ _ _)) (h _ _))

end Sys2Proof.Machine
end

section
/-!
SUPPORT. A change of state (R3), admission, dispatch, completion and failure keep sound what each block keeps on
its own; the Selection table through a change of state is followed block by block.
-/
namespace Sys2Proof.Machine

/-! ## The blocks that the parts of a change of state write -/

/-- Two states differ in no block when one is the other. -/
theorem State.onlyIn_refl (s : State) (l : List Block) : s.onlyIn s l := fun b _ => by cases b <;> rfl

/-- A choice of two operations that write some blocks writes no other. -/
theorem State.onlyIn_ite {s t u : State} {l : List Block} (c : Prop) [Decidable c] (h : s.onlyIn t l)
    (g : s.onlyIn u l) : s.onlyIn (if c then t else u) l := by
  split
  · exact h
  · exact g

/-- A fold of operations that write some blocks writes no other. -/
theorem State.onlyIn_foldl {α : Type} {l : List Block} (f : State → α → State)
    (h : ∀ (t : State) (a : α), t.onlyIn (f t a) l) (as : List α) (s : State) :
    s.onlyIn (as.foldl f s) l := by
  induction as generalizing s with
  | nil => exact s.onlyIn_refl l
  | cons a as ih => exact State.onlyIn_trans (h s a) (ih (f s a))

theorem State.setOutcomes_onlyIn (s : State) (p : Port) (l : List (Slot × OutcomeRecord)) :
    s.onlyIn (s.setOutcomes p l) [.os] := by
  intro b hb
  cases b <;> simp_all [State.sameBlock]

theorem State.modStep_onlyIn (s : State) (k : StepId) (f : StepRecord → StepRecord) :
    s.onlyIn (s.modStep k f) [.ss] := by
  intro b hb
  cases b <;> simp_all [State.sameBlock]

theorem State.setPort_onlyIn (s : State) (p : Port) (v : PortState) : s.onlyIn (s.setPort p v) [.pi] := by
  intro b hb
  cases b <;> simp_all [State.sameBlock]

/-- An Outcome Record's insertion (R186) writes the store and a lost-outcome counter. -/
theorem State.insertOutcome_onlyIn (s : State) (p : Port) (r : OutcomeRecord) :
    s.onlyIn (s.insertOutcome p r) [.pi, .os] := by
  have stored := fun l => State.onlyIn_mono (s.setOutcomes_onlyIn p l) (m := [.pi, .os]) (by decide)
  unfold State.insertOutcome
  refine State.onlyIn_ite _ (stored _) (State.onlyIn_ite _ (stored _) ?_)
  split
  · exact s.onlyIn_refl _
  · exact State.onlyIn_trans (stored _) (State.onlyIn_mono (State.setPort_onlyIn _ _ _) (by decide))

theorem State.detuneResult_onlyIn (s : State) (k : StepId) (r : OutcomeResult) :
    s.onlyIn (s.detuneResult k r) [.hmu] := by
  unfold State.detuneResult
  split
  · exact s.onlyIn_refl _
  · intro b hb
    cases b <;> simp_all [State.sameBlock]

/-- A result (R75) writes the records of its originator. -/
theorem State.giveResult_onlyIn (s : State) (o : Originator) (tag : Option Byte) (k : StepId)
    (kind : OpKind) (fast : Bool) (r : OutcomeResult) :
    s.onlyIn (s.giveResult o tag k kind fast r) [.pi, .os, .avc, .hmu, .upu] := by
  cases o with
  | portA => exact State.onlyIn_mono (s.insertOutcome_onlyIn _ _) (by decide)
  | portB => exact State.onlyIn_mono (s.insertOutcome_onlyIn _ _) (by decide)
  | harmonic => exact State.onlyIn_mono (s.detuneResult_onlyIn _ _) (by decide)
  | avc | unbalance | external =>
    intro b hb
    cases b <;> simp_all [State.sameBlock, State.giveResult]

theorem State.entryResult_onlyIn (s : State) (e : Entry) (r : OutcomeResult) :
    s.onlyIn (s.entryResult e r) [.pi, .os, .avc, .hmu, .upu] := s.giveResult_onlyIn _ _ _ _ _ _

theorem State.markResult_onlyIn (s : State) (k : StepId) (m : Mark) (r : OutcomeResult) :
    s.onlyIn (s.markResult k m r) [.pi, .os, .avc, .hmu, .upu] := s.giveResult_onlyIn _ _ _ _ _ _

theorem State.markResultOpt_onlyIn (s : State) (k : StepId) (m : Option Mark) (r : OutcomeResult) :
    s.onlyIn (s.markResultOpt k m r) [.pi, .os, .avc, .hmu, .upu] := by
  cases m with
  | none => exact s.onlyIn_refl _
  | some m => exact s.markResult_onlyIn _ _ _

theorem State.coilsOff_onlyIn (s : State) (k : StepId) : s.onlyIn (s.coilsOff k) [.ss] := by
  unfold State.coilsOff
  split
  · exact s.onlyIn_refl _
  · refine State.onlyIn_ite _ (fun b hb => ?_) (s.onlyIn_refl _)
    cases b <;> simp_all [State.sameBlock]

theorem State.closeCoilOff_onlyIn (s : State) : s.onlyIn s.closeCoilOff [.ss] := by
  unfold State.closeCoilOff
  split
  · exact s.onlyIn_refl _
  · refine State.onlyIn_ite _ (fun b hb => ?_) (s.onlyIn_refl _)
    cases b <;> simp_all [State.sameBlock]

theorem State.setFlags_onlyIn (s : State) : s.onlyIn s.setFlags [.pi] := by
  intro b hb
  cases b <;> simp_all [State.sameBlock]

theorem State.setFlagsIf_onlyIn (s : State) (c : Bool) : s.onlyIn (s.setFlagsIf c) [.pi] :=
  State.onlyIn_ite _ s.setFlags_onlyIn (s.onlyIn_refl _)

/-- Asserting BKT writes its record, the flags and the coils (R151, R152). -/
theorem State.assertBkt_onlyIn (s : State) (k : StepId) (b : BackupReason) (o : Originator) :
    s.onlyIn (s.assertBkt k b o) [.upu, .pi, .ss] := by
  refine State.onlyIn_ite _ (s.onlyIn_refl _)
    (State.onlyIn_trans (t := State.setFlags _) ?_
      (State.onlyIn_mono (State.closeCoilOff_onlyIn _) (by decide)))
  intro b hb
  cases b <;> simp_all [State.sameBlock]

theorem State.abortCapture_onlyIn (s : State) : s.onlyIn s.abortCapture [.upu, .pi, .os] := by
  unfold State.abortCapture
  split
  · exact s.onlyIn_refl _
  · rename_i c _
    refine State.onlyIn_trans (t := { s with upu := { s.upu with capture := none } }) (fun b hb => ?_)
      (State.onlyIn_mono (State.insertOutcome_onlyIn _ _ _) (by decide))
    cases b <;> simp_all [State.sameBlock]

/-- A settle start (R80) writes the count, the capture engine and a record. -/
theorem State.settleStart_onlyIn (s : State) : s.onlyIn s.settleStart [.cu, .upu, .pi, .os] := by
  refine State.onlyIn_trans (t := { s with cu := { s.cu with settle := s.y .tsettle } }) (fun b hb => ?_)
    (State.onlyIn_mono (State.abortCapture_onlyIn _) (by decide))
  cases b <;> simp_all [State.sameBlock]

theorem State.dropEntry_onlyIn (s : State) (k : StepId) : s.onlyIn (s.dropEntry k) [.oq, .ss] := by
  refine State.onlyIn_trans
    (t := { s with oq := { s.oq with entries := s.oq.entries.filter (fun e => e.step ≠ k) } })
    (fun b hb => ?_) (State.onlyIn_mono (State.coilsOff_onlyIn _ k) (by decide))
  cases b <;> simp_all [State.sameBlock]

/-- The removal of an entry that no longer fits (R72) leaves the Authority Unit, the Cooldown Unit and all that
switching leaves. -/
theorem State.fitEntry_onlyIn (s : State) (k : StepId) :
    s.onlyIn (s.fitEntry k) [.oq, .ss, .pi, .os, .avc, .hmu, .upu] := by
  have h := fun e r => State.onlyIn_trans
    (State.onlyIn_mono (s.dropEntry_onlyIn k) (m := [.oq, .ss, .pi, .os, .avc, .hmu, .upu]) (by decide))
    (State.onlyIn_mono (State.entryResult_onlyIn _ e r) (by decide))
  unfold State.fitEntry
  split
  · exact s.onlyIn_refl _
  · refine State.onlyIn_ite _ (s.onlyIn_refl _) ?_
    split
    · exact State.onlyIn_ite _ (s.onlyIn_refl _) (h _ _)
    · exact State.onlyIn_ite _ (s.onlyIn_refl _) (h _ _)
    · exact State.onlyIn_ite _ (s.onlyIn_refl _) (State.onlyIn_ite _
        (State.onlyIn_trans (h _ _) (State.onlyIn_mono (State.assertBkt_onlyIn _ _ _ _) (by decide))) (h _ _))

theorem State.endSelection_onlyIn (s : State) (p : Port) (r : OutcomeResult) :
    s.onlyIn (s.endSelection p r) [.au, .pi, .os] := by
  unfold State.endSelection
  split
  · exact s.onlyIn_refl _
  · exact State.onlyIn_trans (State.onlyIn_mono (s.setSlot_onlyIn p none) (by decide))
      (State.onlyIn_mono (State.insertOutcome_onlyIn _ _ _) (by decide))

theorem State.endSelectionOf_onlyIn (s : State) (k : StepId) (r : OutcomeResult) :
    s.onlyIn (s.endSelectionOf k r) [.au, .pi, .os] := by
  unfold State.endSelectionOf
  split
  · exact s.onlyIn_refl _
  · exact s.endSelection_onlyIn _ _

theorem State.leaveReady_onlyIn (s : State) (k : StepId) : s.onlyIn (s.leaveReady k) [.au, .pi, .os] :=
  State.onlyIn_ite _ (s.onlyIn_refl _) (s.endSelectionOf_onlyIn k _)

/-- The start of the stages again (R143) writes the step, the flags and the capture engine with its record. -/
theorem State.leaveClosed_onlyIn (s : State) (k : StepId) (o : Option StepState) :
    s.onlyIn (s.leaveClosed k o) [.ss, .pi, .upu, .os] := by
  have h := fun c f => State.onlyIn_trans
    (State.onlyIn_mono (s.setFlagsIf_onlyIn c) (m := [.ss, .pi, .upu, .os]) (by decide))
    (State.onlyIn_mono (State.modStep_onlyIn _ k f) (by decide))
  exact State.onlyIn_ite _ (State.onlyIn_ite _ (State.onlyIn_trans (h _ _)
    (State.onlyIn_mono (State.abortCapture_onlyIn _) (by decide))) (h _ _)) (s.onlyIn_refl _)

/-! ## Selections -/

/-- Emptying a slot keeps sound (R170). -/
theorem State.setSlot_none_keepsSound (s : State) (p : Port) : s.KeepsSound (s.setSlot p none) := by
  have one : ∀ q, s.slotSound q → (s.setSlot p none).slotSound q := by
    intro q hq sel hsel
    have ne : q ≠ p := fun e => by simp [e] at hsel
    have slot : s.slot q = some sel := by simpa [ne] using hsel
    have holder : (s.setSlot p none).holder = s.holder := by cases p <;> rfl
    have auto : (s.setSlot p none).au.auto = s.au.auto := by cases p <;> rfl
    have stepRec : ∀ k, (s.setSlot p none).stepRec k = s.stepRec k := by cases p <;> exact fun _ => rfl
    rw [holder, auto, stepRec, State.setSlot_set]
    exact hq sel slot
  have sel : s.SelectionsSound → (s.setSlot p none).SelectionsSound := fun h => ⟨one .a h.1, one .b h.2⟩
  cases p <;> exact ⟨rfl, id, id, sel, id, id, id, id⟩

theorem State.endSelection_keepsSound (s : State) (p : Port) (r : OutcomeResult) :
    s.KeepsSound (s.endSelection p r) := by
  unfold State.endSelection
  split
  · exact .refl s
  · exact (s.setSlot_none_keepsSound p).trans (State.insertOutcome_keepsSound _ _ _)

theorem State.endSelectionOf_keepsSound (s : State) (k : StepId) (r : OutcomeResult) :
    s.KeepsSound (s.endSelectionOf k r) := by
  unfold State.endSelectionOf
  split
  · exact .refl s
  · exact s.endSelection_keepsSound _ _

/-- A port's slot is empty after its selection has ended (R174). -/
theorem State.endSelection_slot (s : State) (p q : Port) (r : OutcomeResult) :
    (s.endSelection p r).slot q = if q = p then none else s.slot q := by
  have slot : ∀ (t : State) (x : OutcomeRecord), (t.insertOutcome p x).slot q = t.slot q := fun t x => by
    have au : (t.insertOutcome p x).au = t.au := t.insertOutcome_onlyIn p x .au (by decide)
    cases q <;> simp [State.slot, au]
  unfold State.endSelection
  split
  case h_1 empty =>
    split
    case isTrue e => rw [e, empty]
    case isFalse => rfl
  case h_2 => rw [slot, State.slot_setSlot]

/-- The Authority Unit after a selection has ended, but for the slots (R174). -/
theorem State.endSelection_au (s : State) (p : Port) (r : OutcomeResult) :
    { (s.endSelection p r).au with slotA := s.au.slotA, slotB := s.au.slotB } = s.au := by
  unfold State.endSelection
  split
  · rfl
  · rename_i sel _
    have au : ∀ (t : State) (x : OutcomeRecord), (t.insertOutcome p x).au = t.au := fun t x =>
      t.insertOutcome_onlyIn p x .au (by decide)
    rw [au, State.setSlot_au]

/-- The Selection table is sound but for the step `k`, which may have left READY. -/
def State.SelectionsSoundBut (s : State) (k : StepId) : Prop :=
  ∀ p sel, s.slot p = some sel →
    s.holder = some p ∧ s.au.auto = false ∧ s.set.startup = .running
      ∧ (sel.step ≠ k → (s.stepRec sel.step).state = some .ready)

/-- Sound but for one step's state is sound when that step is READY or not selected. -/
theorem State.SelectionsSoundBut.sound {s : State} {k : StepId} (h : s.SelectionsSoundBut k)
    (k_ok : (s.stepRec k).state = some .ready ∨ ∀ p sel, s.slot p = some sel → sel.step ≠ k) :
    s.SelectionsSound := by
  have one : ∀ p, s.slotSound p := by
    intro p sel hsel
    obtain ⟨holder, auto, running, ready⟩ := h p sel hsel
    refine ⟨holder, auto, ?_, running⟩
    by_cases e : sel.step = k
    · rw [e]
      exact k_ok.resolve_right fun free => free p sel hsel e
    · exact ready e
  exact ⟨one .a, one .b⟩

/-- The end of the selection of a step that has left READY makes the table sound again (R3, R174). -/
theorem State.SelectionsSoundBut.leaveReady {s : State} {k : StepId} (h : s.SelectionsSoundBut k) :
    (s.leaveReady k).SelectionsSound := by
  have sound := fun (t : State) (ht : t.SelectionsSoundBut k) => ht.sound
  unfold State.leaveReady
  split
  case isTrue ready => exact sound s h (.inl ready)
  case isFalse =>
    unfold State.endSelectionOf
    split
    case h_1 none =>
      refine sound s h (.inr fun p sel hsel e => ?_)
      exact (s.selectedBy_eq_none_iff k).mp none p (by simp [hsel, e])
    case h_2 p selected =>
      have slots : ∀ q sel, (s.endSelection p (.cancelled .stepChanged)).slot q = some sel →
          q ≠ p ∧ s.slot q = some sel := by
        intro q sel hsel
        rw [State.endSelection_slot] at hsel
        split at hsel
        · cases hsel
        · exact ⟨‹_›, hsel⟩
      have holds : ∃ x, s.slot p = some x := by
        unfold State.selectedBy at selected
        split_ifs at selected with a b
        · obtain ⟨x, hx, -⟩ := Option.map_eq_some_iff.mp a
          obtain rfl := Option.some_inj.mp selected
          exact ⟨x, hx⟩
        · obtain ⟨x, hx, -⟩ := Option.map_eq_some_iff.mp b
          obtain rfl := Option.some_inj.mp selected
          exact ⟨x, hx⟩
      obtain ⟨x, hx⟩ := holds
      have empty : ∀ q sel, (s.endSelection p (.cancelled .stepChanged)).slot q = some sel → False := by
        intro q sel hsel
        obtain ⟨ne, old⟩ := slots q sel hsel
        exact ne (Option.some_inj.mp ((h q sel old).1.symm.trans (h p x hx).1))
      exact ⟨fun sel hsel => (empty .a sel hsel).elim, fun sel hsel => (empty .b sel hsel).elim⟩

/-! ## A step's change of state -/

theorem State.voidOther_keepsSound (s : State) (k : StepId) : s.KeepsSound (s.voidOther k) := by
  unfold State.voidOther
  split
  · exact .refl s
  · exact .ite _ (.refl s) ⟨rfl, id, id, id, id, id, id, id⟩

theorem State.leaveReady_keepsSound (s : State) (k : StepId) : s.KeepsSound (s.leaveReady k) :=
  .ite _ (.refl s) (s.endSelectionOf_keepsSound k _)

theorem State.leaveClosed_keepsSound (s : State) (k : StepId) (o : Option StepState) :
    s.KeepsSound (s.leaveClosed k o) := by
  have h := fun c => (s.setFlagsIf_keepsSound c).trans (State.modStep_keepsSound _ k
    (fun r => { r with alarmCount := 0, tripCount := 0, alarmFlag := false }) rfl id)
  exact .ite _ (.ite _ ((h _).trans (State.abortCapture_keepsSound _)) (h _)) (.refl s)

/-- Moving one step to the tail of the order of its new state keeps the orders sound (R3, R7). -/
theorem State.enter_ordersSound (s : State) (k : StepId) (n : StepState) (l : Option LockoutCause)
    (f : Option FailureCause) (h : s.OrdersSound) : (s.enter k n l f).OrdersSound := by
  obtain ⟨nodupReady, nodupClosed, ready, closed⟩ := h
  obtain ⟨-, newReady, newClosed⟩ := s.enter_spec k n l f
  have moved : ∀ (order : List StepId) (m : StepState), order.Nodup →
      (∀ j, j ∈ order ↔ (s.stepRec j).state = some m) →
      (order.filter (· ≠ k) ++ if n = m then [k] else []).Nodup
        ∧ ∀ j, j ∈ (order.filter (· ≠ k) ++ if n = m then [k] else []) ↔
            ((s.enter k n l f).stepRec j).state = some m := by
    intro order m nodup mem
    refine ⟨?_, fun j => ?_⟩
    · split
      · exact (nodup.filter _).append (List.nodup_singleton k) (by simp)
      · simpa using nodup.filter _
    · by_cases e : j = k
      · subst e
        rw [State.enter_state]
        by_cases hn : n = m <;> simp [hn]
      · rw [State.enter_stepRec_ne s j k n l f e, ← mem j]
        split <;> simp [e]
  rw [State.OrdersSound, newReady, newClosed]
  obtain ⟨nr, mr⟩ := moved _ .ready nodupReady ready
  obtain ⟨nc, mc⟩ := moved _ .closed nodupClosed closed
  exact ⟨nr, nc, mr, mc⟩

/-- A change of state keeps the Selection table sound: the selection of a step that leaves READY ends (R3,
R174). -/
theorem State.enter_selectionsSound (s : State) (k : StepId) (n : StepState) (l : Option LockoutCause)
    (f : Option FailureCause) (h : s.SelectionsSound) : (s.enter k n l f).SelectionsSound := by
  let t := ((((s.writeState k n l f).rotate k n).setFlags).coilsOff k).fitEntry k
  have only : s.onlyIn t [.oq, .ss, .pi, .os, .avc, .hmu, .upu] := by
    have written : s.onlyIn (((s.writeState k n l f).rotate k n).setFlags)
        [.oq, .ss, .pi, .os, .avc, .hmu, .upu] := fun b hb => by cases b <;> simp_all [State.sameBlock]
    exact State.onlyIn_trans (State.onlyIn_trans written
      (State.onlyIn_mono (State.coilsOff_onlyIn _ k) (by decide))) (State.fitEntry_onlyIn _ k)
  have au : t.au = s.au := only .au (by decide)
  have set : t.set = s.set := only .set (by decide)
  have others : ∀ j, j ≠ k → t.stepRec j = s.stepRec j := by
    intro j hj
    have same : (((s.writeState k n l f).rotate k n).setFlags).SameTable t :=
      (State.coilsOff_table _ k).trans (State.fitEntry_table _ k)
    have written : (((s.writeState k n l f).rotate k n).setFlags).stepRec j =
      (s.writeState k n l f).stepRec j := rfl
    rw [same.stepRec, written, State.writeState, State.stepRec_modStep_ne _ _ _ _ hj]
  have but : t.SelectionsSoundBut k := by
    intro p sel hsel
    have slot : t.slot p = s.slot p := by cases p <;> simp [State.slot, au]
    have holder : t.holder = s.holder := by simp [State.holder, au]
    have old : s.slotSound p := by cases p with
      | a => exact h.1
      | b => exact h.2
    obtain ⟨hold, auto, ready, running⟩ := old sel (slot ▸ hsel)
    exact ⟨holder ▸ hold, au ▸ auto, set ▸ running, fun ne => (others _ ne).symm ▸ ready⟩
  exact (State.leaveClosed_keepsSound _ k _).selections ((State.voidOther_keepsSound _ k).selections
    but.leaveReady)

/-- A step's change of state (R3) keeps sound. -/
theorem State.enter_keepsSound (s : State) (k : StepId) (n : StepState) (l : Option LockoutCause)
    (f : Option FailureCause) : s.KeepsSound (s.enter k n l f) := by
  have written : ∀ P : State → State → Prop, (∀ a b c, P a b → P b c → P a c) →
      P s (((s.writeState k n l f).rotate k n).setFlags) →
      (∀ a b : State, a.KeepsSound b → P a b) → P s (s.enter k n l f) := by
    intro P trans first sound
    exact trans _ _ _ first (sound _ _ (((((State.coilsOff_keepsSound _ k).trans
      (State.fitEntry_keepsSound _ k)).trans (State.leaveReady_keepsSound _ k)).trans
      (State.voidOther_keepsSound _ k)).trans (State.leaveClosed_keepsSound _ k _)))
  refine ⟨(s.enter_keeps k n l f).pending, ?_, s.enter_ordersSound k n l f, s.enter_selectionsSound k n l f,
    ?_, ?_, ?_, ?_⟩
  · exact written (fun a b => a.StoreSound → b.StoreSound) (fun _ _ _ f g => g ∘ f) id fun _ _ h => h.store
  · exact written (fun a b => a.SettingsSound → b.SettingsSound) (fun _ _ _ f g => g ∘ f) id
      fun _ _ h => h.settings
  · exact written (fun a b => a.MonitorsSound → b.MonitorsSound) (fun _ _ _ f g => g ∘ f) id
      fun _ _ h => h.monitors
  · exact written (fun a b => a.PeriodSound → b.PeriodSound) (fun _ _ _ f g => g ∘ f) id
      fun _ _ h => h.period
  · refine written (fun a b => a.CountsSound → b.CountsSound) (fun _ _ _ f g => g ∘ f) ?_
      fun _ _ h => h.counts
    rintro ⟨la, lb, lo, hi, history, counts⟩
    refine ⟨la, lb, lo, hi, fun j => ?_, counts⟩
    have e : (((s.writeState k n l f).rotate k n).setFlags).stepRec j = (s.writeState k n l f).stepRec j := rfl
    rw [e]
    by_cases h : j = k
    · subst h; simpa [State.writeState] using history j
    · simpa [State.writeState, h] using history j

end Sys2Proof.Machine
end

section
/-!
SUPPORT. Admission, dispatch, completion, failure and removal keep sound what each block keeps on its own.
-/
namespace Sys2Proof.Machine

/-! ## Latches, rise measurement, admission -/

theorem State.latchCharged_keepsSound (s : State) (k : StepId) : s.KeepsSound (s.latchCharged k) :=
  .ite _ (.refl s) ⟨rfl, id, id, id, id, id, id, id⟩

theorem State.latchOpen_keepsSound (s : State) (k : StepId) : s.KeepsSound (s.latchOpen k) :=
  .ite _ (.refl s) ⟨rfl, id, id, id, id, id, id, id⟩

theorem State.endArmed_keepsSound (s : State) : s.KeepsSound s.endArmed := by
  unfold State.endArmed
  split
  · exact .refl s
  · exact ⟨rfl, id, id, id, id, id, id, id⟩

theorem State.admitNew_keepsSound (s : State) (p : Posting) : s.KeepsSound (s.admitNew p) :=
  ⟨rfl, id, id, id, id, id, id, id⟩

/-- A posting (R50 to R58) keeps sound. -/
theorem State.post_keepsSound (s : State) (p : Posting) : s.KeepsSound (s.post p).1 := by
  have removed := fun e r => (s.dropEntry_keepsSound p.step).trans (State.entryResult_keepsSound _ e r)
  have marked : s.KeepsSound (s.setMark p) := s.modEntry_keepsSound _ _
  unfold State.post
  split
  · exact .refl s
  · split
    · split
      · unfold State.postClose
        dsimp only
        split_ifs
        case neg => exact s.admitNew_keepsSound p
        all_goals exact .refl s
      · unfold State.postOpen
        split
        · exact s.admitNew_keepsSound p
        all_goals exact .refl s
      · unfold State.postTrip
        split
        · exact s.admitNew_keepsSound p
        · exact s.enter_keepsSound _ _ _ _
        · exact s.enter_keepsSound _ _ _ _
        · exact .refl s
        · split
          · exact .refl s
          · exact s.assertBkt_keepsSound _ _ _
        · exact .refl s
    · split
      · unfold State.postOnWaitingClose
        split
        · exact removed _ _
        · exact ((s.dropEntry_keepsSound _).trans (State.enter_keepsSound _ _ _ _ _)).trans
            (State.entryResult_keepsSound _ _ _)
        · exact .refl s
      · unfold State.postOnWaitingOpen
        split
        · exact (s.modEntry_keepsSound _ _).trans (State.entryResult_keepsSound _ _ _)
        all_goals exact .refl s
      · unfold State.postOnWaitingTrip
        split <;> exact .refl s
      · unfold State.postOnFlightClose
        split
        · exact .refl s
        · split
          · exact marked
          · exact .refl s
        · split
          · exact marked
          · split
            · exact .refl s
            · exact marked.trans (State.markResult_keepsSound _ _ _ _)
      · unfold State.postOnFlightOpen
        split
        · exact .refl s
        · exact .refl s
        · split
          · exact marked
          · exact .refl s

/-! ## Dispatch -/

theorem State.askPulse_keepsSound (s : State) (k : StepId) (o : OpKind) :
    s.KeepsSound (s.askPulse k o) :=
  .ite _ (s.coilsOff_keepsSound k) (.ite _ (s.coilsOff_keepsSound k) ⟨rfl, id, id, id, id, id, id, id⟩)

theorem State.startOperate_keepsSound (s : State) : s.KeepsSound s.startOperate :=
  ⟨rfl, id, id, id, id, id, id, id⟩

/-- Dispatch (R62) keeps sound. -/
theorem State.dispatchEntry_keepsSound (s : State) (e : Entry) : s.KeepsSound (s.dispatchEntry e) :=
  ((((s.modEntry_keepsSound e.step _).trans
    (State.enter_keepsSound _ e.step (movingState e.kind) none none)).trans
    (by exact ⟨rfl, id, id, id, id, id, id, id⟩)).trans
    (State.askPulse_keepsSound (State.startFlight _) e.step e.kind)).trans (State.startOperate_keepsSound _)

/-- An examination of dispatch (R60) keeps sound. -/
theorem State.examine_keepsSound (s : State) : s.KeepsSound s.examine := by
  rcases s.examine_cases with h | ⟨e, -, -, h⟩
  · rw [h]; exact .refl s
  · rw [h]; exact s.dispatchEntry_keepsSound e

theorem State.examineIfLeft_keepsSound (s b : State) : s.KeepsSound (s.examineIfLeft b) :=
  .ite _ (.refl s) s.examine_keepsSound

/-- An admission event (R50) keeps sound. -/
theorem State.admitOne_keepsSound (s : State) (p : Posting) : s.KeepsSound (s.admitOne p).1 :=
  (s.post_keepsSound p).trans (State.examine_keepsSound _)

/-- An ALL expansion (R59) keeps sound. -/
theorem expandOne_keepsSound (o : Originator) (tag : Option Byte) (fast : Bool) (l : List StepId)
    (acc : State × List PostAnswer) : acc.1.KeepsSound (l.foldl (expandOne o tag fast) acc).1 := by
  induction l generalizing acc with
  | nil => exact .refl acc.1
  | cons k l ih => exact (acc.1.post_keepsSound _).trans (ih (expandOne o tag fast acc k))

/-- An OPEN ALL (R59) keeps sound. -/
theorem State.admitAll_keepsSound (s : State) (o : Originator) (tag : Option Byte) (fast : Bool) :
    s.KeepsSound (s.admitAll o tag fast).1 := by
  have expanded : s.KeepsSound (s.expandAll o tag fast).1 := expandOne_keepsSound o tag fast allSteps (s, [])
  simp only [State.admitAll]
  exact expanded.trans (State.examine_keepsSound _)

/-! ## Completion, failure, removal -/

theorem State.convert_keepsSound (s : State) (k : StepId) (m : Mark) : s.KeepsSound (s.convert k m) :=
  .trans (by exact ⟨rfl, id, id, id, id, id, id, id⟩) (State.coilsOff_keepsSound _ k)

/-- A counted close keeps the bound of the close history (R83). -/
theorem State.countClose_keepsSound (s : State) (k : StepId) : s.KeepsSound (s.countClose k) := by
  refine s.modStep_keepsSound k _ rfl fun _ => ?_
  dsimp only
  split <;> simp <;> omega

theorem State.manualHoldAfter_keepsSound (s : State) (e : Entry) : s.KeepsSound (s.manualHoldAfter e) := by
  unfold State.manualHoldAfter
  split
  · exact s.modStep_keepsSound _ _ rfl id
  · exact s.modStep_keepsSound _ _ rfl id
  · exact .refl s

theorem State.harmonicHoldAfter_keepsSound (s : State) (e : Entry) :
    s.KeepsSound (s.harmonicHoldAfter e) :=
  .ite _ (s.modStep_keepsSound _ _ rfl id) (.refl s)

theorem State.stopOperate_keepsSound (s : State) : s.KeepsSound s.stopOperate :=
  ⟨rfl, id, id, id, id, id, id, id⟩

theorem State.arm_keepsSound (s : State) (k : StepId) (o : OpKind) (n : StepState) (c : Bool) :
    s.KeepsSound (s.arm k o n c) := ⟨rfl, id, id, id, id, id, id, id⟩

theorem State.loadDischarge_keepsSound (s : State) (k : StepId) : s.KeepsSound (s.loadDischarge k) :=
  s.modStep_keepsSound k _ rfl id

/-- A completed CLOSE (R65, R66) keeps sound. -/
theorem State.completeClose_keepsSound (s : State) (e : Entry) : s.KeepsSound (s.completeClose e) := by
  have closed := (((s.endArmed_keepsSound.trans (State.stopOperate_keepsSound _)).trans
    (State.enter_keepsSound _ e.step .closed none none)).trans
    (State.countClose_keepsSound _ e.step)).trans (State.entryResult_keepsSound _ e .done)
  have ended : ∀ (t : State) (c : Bool),
      t.KeepsSound ((((t.settleStart).arm e.step e.kind .closed c).manualHoldAfter e).examine) := fun t c =>
    ((t.settleStart_keepsSound.trans (State.arm_keepsSound _ _ _ _ _)).trans
      (State.manualHoldAfter_keepsSound _ _)).trans (State.examine_keepsSound _)
  unfold State.completeClose
  dsimp only
  split
  · exact (closed.trans (State.dropEntry_keepsSound _ _)).trans (ended _ _)
  · exact (closed.trans (State.convert_keepsSound _ _ _)).trans (ended _ _)

/-- A completed OPEN or TRIP (R67) keeps sound. -/
theorem State.completeOpen_keepsSound (s : State) (e : Entry) : s.KeepsSound (s.completeOpen e) := by
  have opened := (((s.endArmed_keepsSound.trans (State.stopOperate_keepsSound _)).trans
    (State.dropEntry_keepsSound _ e.step)).trans (State.loadDischarge_keepsSound _ e.step)).trans
    (State.enter_keepsSound _ e.step (openEndState e) (openEndCause e) none)
  have told := ((opened.trans (State.entryResult_keepsSound _ e .done)).trans
    (State.markResultOpt_keepsSound _ e.step (tripMark e) .done)).trans (State.settleStart_keepsSound _)
  exact (((told.trans (State.arm_keepsSound _ _ _ _ _)).trans (State.harmonicHoldAfter_keepsSound _ _)).trans
    (State.manualHoldAfter_keepsSound _ _)).trans (State.examine_keepsSound _)

theorem State.completeIfTarget_keepsSound (s : State) (k : StepId) :
    s.KeepsSound (s.completeIfTarget k) := by
  unfold State.completeIfTarget
  split
  · exact .refl s
  · exact .ite _ (.ite _ (s.completeClose_keepsSound _) (s.completeOpen_keepsSound _)) (.refl s)

theorem State.failClose_keepsSound (s : State) (e : Entry) : s.KeepsSound (s.failClose e) := by
  have told := (((s.stopOperate_keepsSound.trans (State.dropEntry_keepsSound _ e.step)).trans
    (State.enter_keepsSound _ e.step .failed none (some .closeTimeout))).trans
    (State.entryResult_keepsSound _ e .switchFailed)).trans
    (State.markResultOpt_keepsSound _ e.step e.mark .switchFailed)
  unfold State.failClose
  dsimp only
  split
  · exact (told.trans (State.settleStart_keepsSound _)).trans (State.examine_keepsSound _)
  · exact ((told.trans (State.assertBkt_keepsSound _ _ _ _)).trans (State.settleStart_keepsSound _)).trans
      (State.examine_keepsSound _)

theorem State.retryOpen_keepsSound (s : State) (e : Entry) : s.KeepsSound (s.retryOpen e) :=
  .trans (by exact ⟨rfl, id, id, id, id, id, id, id⟩) (((State.askPulse_keepsSound
    { s with oq := { s.oq with retryCount := s.oq.retryCount + 1 } } e.step e.kind).trans
    (State.startOperate_keepsSound _)).trans (State.settleStart_keepsSound _))

theorem State.failOpen_keepsSound (s : State) (e : Entry) : s.KeepsSound (s.failOpen e) := by
  have told := (((s.stopOperate_keepsSound.trans (State.dropEntry_keepsSound _ e.step)).trans
    (State.enter_keepsSound _ e.step .failed none (some .openTimeout))).trans
    (State.entryResult_keepsSound _ e .switchFailed)).trans
    (State.markResultOpt_keepsSound _ e.step (tripMark e) .switchFailed)
  unfold State.failOpen
  dsimp only
  split
  · exact (told.trans (State.settleStart_keepsSound _)).trans (State.examine_keepsSound _)
  · exact ((told.trans (State.assertBkt_keepsSound _ _ _ _)).trans (State.settleStart_keepsSound _)).trans
      (State.examine_keepsSound _)

/-- Removals of waiting entries (R71, R73, R74) keep sound. -/
theorem State.removeEach_keepsSound (s : State) (l : List Entry) (r : OutcomeResult) :
    s.KeepsSound (s.removeEach l r) := by
  have one : ∀ (t : State) (e : Entry), t.KeepsSound ((t.dropEntry e.step).entryResult e r) := fun t e =>
    (t.dropEntry_keepsSound e.step).trans (State.entryResult_keepsSound _ e r)
  exact .foldl _ one l s

/-! ## Contacts and the external trip -/

theorem State.recordPosition_keepsSound (s : State) (k : StepId) (p : Position) :
    s.KeepsSound (s.recordPosition k p) := s.modStep_keepsSound k _ rfl id

theorem State.unexpectedOpening_keepsSound (s : State) (k : StepId) :
    s.KeepsSound (s.unexpectedOpening k) := by
  have ended : ∀ t : State, s.loadDischarge k |>.KeepsSound t →
      s.KeepsSound ((t.latchOpen k).examineIfLeft s) := fun t h =>
    (((s.loadDischarge_keepsSound k).trans h).trans (State.latchOpen_keepsSound _ k)).trans
      (State.examineIfLeft_keepsSound _ s)
  unfold State.unexpectedOpening
  dsimp only
  split <;> exact ended _ (State.enter_keepsSound _ _ _ _ _)

theorem State.unexpectedClosing_keepsSound (s : State) (k : StepId) :
    s.KeepsSound (s.unexpectedClosing k) :=
  ((s.enter_keepsSound k .closed none none).trans
    (.ite _ (State.latchCharged_keepsSound _ k) (.refl _))).trans (State.examineIfLeft_keepsSound _ s)

theorem State.lockoutClosing_keepsSound (s : State) (k : StepId) :
    s.KeepsSound (s.lockoutClosing k) := by
  have closed : s.KeepsSound (if (s.stepRec k).discharge ≠ 0 then (s.enter k .closed none none).latchCharged k
      else s.enter k .closed none none) :=
    (s.enter_keepsSound k .closed none none).trans (.ite _ (State.latchCharged_keepsSound _ k) (.refl _))
  unfold State.lockoutClosing
  dsimp only
  split
  · exact closed
  · exact closed.trans (State.admitOne_keepsSound _ _)

theorem State.outMoved_keepsSound (s : State) (k : StepId) (p : Position) :
    s.KeepsSound (s.outMoved k p) := by
  unfold State.outMoved
  split
  · exact s.modStep_keepsSound k _ rfl id
  · exact .ite _ ((s.loadDischarge_keepsSound k).trans (State.modStep_keepsSound _ k _ rfl id)) (.refl s)
  · exact .refl s

/-- What a position change does (1.5) keeps sound. -/
theorem State.positionRules_keepsSound (s : State) (k : StepId) (p : Position) :
    s.KeepsSound (s.positionRules k p) := by
  unfold State.positionRules
  split
  · exact s.unexpectedOpening_keepsSound k
  · exact s.unexpectedClosing_keepsSound k
  · exact s.unexpectedClosing_keepsSound k
  · exact s.lockoutClosing_keepsSound k
  · exact s.outMoved_keepsSound k _
  · exact s.completeIfTarget_keepsSound k
  · exact s.completeIfTarget_keepsSound k
  · exact .refl s

theorem State.derivePosition_keepsSound (s : State) (k : StepId) : s.KeepsSound (s.derivePosition k) := by
  unfold State.derivePosition
  split
  · exact .refl s
  · exact .ite _ (.refl s) ((s.recordPosition_keepsSound k _).trans (State.positionRules_keepsSound _ k _))

theorem State.setDebouncer_keepsSound (s : State) (i : DiscreteInput) (d : Debouncer) :
    s.KeepsSound (s.setDebouncer i d) := by
  unfold State.setDebouncer
  split
  · exact s.modStep_keepsSound _ _ rfl id
  · exact s.modStep_keepsSound _ _ rfl id
  · exact ⟨rfl, id, id, id, id, id, id, id⟩
  · exact ⟨rfl, id, id, id, id, id, id, id⟩

theorem State.until_keepsSound (s : State) (t : Nat) : s.KeepsSound (s.until t) :=
  ⟨rfl, id, id, id, id, id, id, id⟩

theorem State.accept_keepsSound (s : State) (i : DiscreteInput) : s.KeepsSound (s.accept i) :=
  (s.until_keepsSound _).trans (State.setDebouncer_keepsSound _ _ _)

theorem State.acceptContact_keepsSound (s : State) (k : StepId) (c : Contact) :
    s.KeepsSound (s.acceptContact k c) := by
  have pair : s.KeepsSound (s.acceptPair k c) :=
    .ite _ ((s.accept_keepsSound _).trans (State.setDebouncer_keepsSound _ _ _)) (s.accept_keepsSound _)
  exact .ite _ (pair.trans (State.derivePosition_keepsSound _ k)) (.refl s)

theorem State.lockOutOpen_keepsSound (s : State) : s.KeepsSound s.lockOutOpen :=
  .foldl _ (fun t k => .ite _ (t.enter_keepsSound k _ _ _) (.refl t)) _ s

theorem State.contactFault_keepsSound (s : State) (k : StepId) (t : Timer) :
    s.KeepsSound (s.contactFault k t) :=
  ((s.until_keepsSound _).trans (State.enter_keepsSound _ k _ _ _)).trans (State.examineIfLeft_keepsSound _ s)

theorem State.enterTripRecord_keepsSound (s : State) (c : LockoutCause) (k : Option StepId)
    (u : Option Nat) (re im : Option Int) : s.KeepsSound (s.enterTripRecord c k u re im) := by
  unfold State.enterTripRecord
  split
  · exact .trans (by exact ⟨rfl, id, id, id, id, id, id, id⟩) (State.examine_keepsSound _)
  · exact ⟨rfl, id, id, id, id, id, id, id⟩

/-- Parts 2 and 3 of an external trip edge (R149) keep sound. -/
theorem State.externalParts_keepsSound (s : State) : s.KeepsSound s.externalParts := by
  have posts : s.KeepsSound s.externalPosts :=
    .foldl _ (fun t k => .ite _ (t.admitOne_keepsSound _) (.refl t)) _ s
  exact (posts.trans (State.lockOutOpen_keepsSound _)).trans (State.examineIfLeft_keepsSound _ _)

theorem State.externalEdge_keepsSound (s : State) : s.KeepsSound s.externalEdge :=
  (.trans (by exact ⟨rfl, id, id, id, id, id, id, id⟩) (State.enterTripRecord_keepsSound s.noteEdge _ _ _ _ _)
    : s.KeepsSound _).trans (State.externalParts_keepsSound _)

end Sys2Proof.Machine
end

section
/-!
SUPPORT. The Authority Unit, the events of a second and the blocks that take a frame keep sound what each block
keeps on its own.
-/
namespace Sys2Proof.Machine

/-! ## Updates of the Authority Unit -/

/-- Operations that keep sound, an update of the Authority Unit alone, and operations that keep sound again, keep
sound when the Selection table is sound at the end. -/
theorem State.KeepsSound.through_au {s d t u : State} (before : s.KeepsSound d) (au : { t with au := d.au } = d)
    (h : t.KeepsSound u) (selections : s.SelectionsSound → u.SelectionsSound) : s.KeepsSound u := by
  have pending : t.pending = d.pending := by rw [← au]
  have store : d.StoreSound → t.StoreSound := by rw [← au]; exact id
  have orders : d.OrdersSound → t.OrdersSound := by rw [← au]; exact id
  have settings : d.SettingsSound → t.SettingsSound := by rw [← au]; exact id
  have monitors : d.MonitorsSound → t.MonitorsSound := by rw [← au]; exact id
  have period : d.PeriodSound → t.PeriodSound := by rw [← au]; exact id
  have counts : d.CountsSound → t.CountsSound := by rw [← au]; exact id
  exact ⟨(h.pending.trans pending).trans before.pending, h.store ∘ store ∘ before.store,
    h.orders ∘ orders ∘ before.orders, selections, h.settings ∘ settings ∘ before.settings,
    h.monitors ∘ monitors ∘ before.monitors, h.period ∘ period ∘ before.period, h.counts ∘ counts ∘ before.counts⟩

/-- An empty table is sound. -/
theorem State.SelectionsSound.of_empty {s : State} (empty : ∀ p, s.slot p = none) : s.SelectionsSound :=
  ⟨fun sel h => by simp [empty] at h, fun sel h => by simp [empty] at h⟩

/-- A table whose slots are those of an empty table is sound. -/
theorem State.SelectionsSound.of_slots {s t : State} (a : t.au.slotA = s.au.slotA) (b : t.au.slotB = s.au.slotB)
    (empty : ∀ p, s.slot p = none) : t.SelectionsSound :=
  .of_empty fun p => by
    cases p with
    | a => exact a.trans (empty .a)
    | b => exact b.trans (empty .b)

/-- In a sound table the slot of a port that is not the holder is empty (R163). -/
theorem State.SelectionsSound.slot_none {s : State} (h : s.SelectionsSound) {p : Port}
    (other : s.holder ≠ some p) : s.slot p = none := by
  cases e : s.slot p with
  | none => rfl
  | some sel =>
    refine absurd ?_ other
    cases p with
    | a => exact (h.1 sel e).1
    | b => exact (h.2 sel e).1

theorem State.cancelSelections_slot (s : State) (p : Port) : s.cancelSelections.slot p = none := by
  rw [State.cancelSelections, State.endSelection_slot, State.endSelection_slot]
  cases p <;> simp

theorem State.cancelSelections_keepsSound (s : State) : s.KeepsSound s.cancelSelections :=
  (s.endSelection_keepsSound _ _).trans (State.endSelection_keepsSound _ _ _)

/-- AUTO forced on leaves no selection (R162, R163). -/
theorem State.autoOn_selectionsSound (s : State) : s.autoOn.SelectionsSound :=
  .of_empty (State.cancelSelections_slot _)

theorem State.autoOn_keepsSound (s : State) : s.KeepsSound s.autoOn :=
  .through_au (.refl s) (t := s.setAuto true) rfl (State.cancelSelections_keepsSound _)
    fun _ => s.autoOn_selectionsSound

/-- AUTO turned off keeps sound (R162). -/
theorem State.setAuto_false_keepsSound (s : State) : s.KeepsSound (s.setAuto false) := by
  refine .through_au (.refl s) (t := s.setAuto false) rfl (.refl _) fun h => ?_
  exact ⟨fun sel e => ⟨(h.1 sel e).1, rfl, (h.1 sel e).2.2⟩, fun sel e => ⟨(h.2 sel e).1, rfl, (h.2 sel e).2.2⟩⟩

/-- A change of supervision that leaves the holder a holder keeps sound (R161, R164). -/
theorem State.setSupervision_keepsSound (s : State) (v : Supervision) (n : Option Nat)
    (holder : ∀ p, s.holder = some p →
      State.holder { s with au := { s.au with supervision := v, remaining := n } } = some p) :
    s.KeepsSound (s.setSupervision v n) := by
  refine .through_au (.refl s) (t := { s with au := { s.au with supervision := v, remaining := n } }) rfl
    (State.setFlagsIf_keepsSound _ _) fun h => (State.setFlagsIf_keepsSound _ _).selections ?_
  exact ⟨fun sel e => ⟨holder _ (h.1 sel e).1, (h.1 sel e).2⟩, fun sel e => ⟨holder _ (h.2 sel e).1, (h.2 sel e).2⟩⟩

/-- A good frame's effect on supervision (R164) keeps sound. -/
theorem State.superviseGood_keepsSound (s : State) (p : Port) : s.KeepsSound (s.superviseGood p) := by
  unfold State.superviseGood
  split
  · rename_i key
    refine s.setSupervision_keepsSound _ _ fun q hq => ?_
    simp only [State.holder, key] at hq ⊢
    split at hq <;> simp_all
  · exact .refl s

theorem State.removeCloses_keepsSound (s : State) (p : Port) : s.KeepsSound (s.removeCloses p) :=
  s.removeEach_keepsSound _ _

/-- The entry into LOST (R166) keeps sound: AUTO forced on ends every selection. -/
theorem State.enterLost_keepsSound (s : State) : s.KeepsSound s.enterLost := by
  let t : State := { s with au := { s.au with supervision := .lost, remaining := none } }
  have ended := ((State.endSelection_keepsSound (s.setSupervision .lost none) .b
    (.cancelled .authorityLost)).trans (State.removeCloses_keepsSound _ .b))
  have rest : ∀ u : State, u.KeepsSound ((u.discardB.setFlags).examineIfLeft s) := fun u =>
    (u.discardB_keepsSound.trans (State.setFlags_keepsSound _)).trans (State.examineIfLeft_keepsSound _ s)
  refine .through_au (.refl s) (t := t) rfl
    ((((State.setFlagsIf_keepsSound t _).trans ended).trans (State.autoOn_keepsSound _)).trans (rest _))
    fun _ => (rest _).selections (State.autoOn_selectionsSound _)

theorem State.superviseExpiry_keepsSound (s : State) : s.KeepsSound s.superviseExpiry := by
  unfold State.superviseExpiry
  split
  · rename_i ok
    refine s.setSupervision_keepsSound _ _ fun p hp => ?_
    simp only [State.holder, ok] at hp ⊢
    split at hp <;> simp_all
  · exact s.enterLost_keepsSound
  · rename_i lost
    refine s.setSupervision_keepsSound _ _ fun p hp => ?_
    simpa [State.holder, lost] using hp

theorem State.superviseSecond_keepsSound (s : State) : s.KeepsSound s.superviseSecond := by
  unfold State.superviseSecond
  split
  · exact .refl s
  · exact .ite _ s.superviseExpiry_keepsSound ⟨rfl, id, id, id, id, id, id, id⟩

/-- The previous holder's selection and WAITING CLOSEs end (R160). -/
theorem State.dropHolder_keepsSound (s : State) : s.KeepsSound s.dropHolder := by
  unfold State.dropHolder
  split
  · exact .refl s
  · exact (s.endSelection_keepsSound _ _).trans (State.removeCloses_keepsSound _ _)

/-- Removals of waiting closes leave the Authority Unit (R71, R73, R74). -/
theorem State.removeEach_onlyIn (s : State) (l : List Entry) (r : OutcomeResult) :
    s.onlyIn (s.removeEach l r) [.oq, .ss, .pi, .os, .avc, .hmu, .upu] := by
  have one : ∀ (t : State) (e : Entry), t.onlyIn ((t.dropEntry e.step).entryResult e r)
      [.oq, .ss, .pi, .os, .avc, .hmu, .upu] := fun t e =>
    State.onlyIn_trans (State.onlyIn_mono (t.dropEntry_onlyIn e.step) (by decide))
      (State.onlyIn_mono (State.entryResult_onlyIn _ e r) (by decide))
  exact State.onlyIn_foldl _ one l s

theorem State.removeCloses_onlyIn (s : State) (p : Port) :
    s.onlyIn (s.removeCloses p) [.oq, .ss, .pi, .os, .avc, .hmu, .upu] := s.removeEach_onlyIn _ _

/-- Slots are read from the Authority Unit alone. -/
theorem State.slot_congr {s t : State} (au : t.au = s.au) (p : Port) : t.slot p = s.slot p := by
  cases p <;> simp [State.slot, au]

/-- No selection is left when the previous holder's has ended (R160, R163). -/
theorem State.SelectionsSound.dropHolder_slot {s : State} (h : s.SelectionsSound) (p : Port) :
    s.dropHolder.slot p = none := by
  unfold State.dropHolder
  split
  · rename_i none
    exact h.slot_none (by simp [none])
  · rename_i q holder
    rw [State.slot_congr (State.removeCloses_onlyIn _ q .au (by decide)), State.endSelection_slot]
    split
    · rfl
    · rename_i ne
      exact h.slot_none (by rw [holder]; simpa using Ne.symm ne)

/-- A value from the key debouncer (R160) keeps sound. -/
theorem State.takeKey_keepsSound (s : State) (k : KeyPos) : s.KeepsSound (s.takeKey k) := by
  unfold State.takeKey
  split
  · rename_i first
    have empty : s.SelectionsSound → ∀ p, s.slot p = none := fun h p =>
      h.slot_none (by simp [State.holder, first])
    unfold State.firstKey
    split
    · exact .through_au (.refl s) (t := s.setKey .loc) rfl (.refl _) fun h => .of_slots rfl rfl (empty h)
    · exact .through_au (.refl s)
        (t := ({ s with au := { s.au with remaining := some (s.y .tsup) } } : State).setKey .remote) rfl (.refl _)
        fun h => .of_slots rfl rfl (empty h)
  · let d := s.dropHolder
    have ended : ∀ (t : State) (c : Bool), t.KeepsSound ((t.setFlagsIf c).examineIfLeft s) := fun t c =>
      (t.setFlagsIf_keepsSound c).trans (State.examineIfLeft_keepsSound _ s)
    have supervised : ∀ key sup left, s.KeepsSound ((({ d with
        au := { d.au with key := key, supervision := sup, remaining := left } } : State).setFlagsIf
          (decide (d.au.supervision ≠ sup))).examineIfLeft s) := by
      intro key sup left
      let t : State := { d with au := { d.au with key := key, supervision := sup, remaining := left } }
      exact .through_au (d := d) (t := t) s.dropHolder_keepsSound rfl (ended t _) fun h =>
        (ended t _).selections (.of_slots (s := d) rfl rfl h.dropHolder_slot)
    cases k with
    | loc => exact supervised (some .loc) .ok none
    | remote => exact supervised (some .remote) d.au.supervision (some (d.y .tsup))

end Sys2Proof.Machine
end

section
/-!
SUPPORT. The events of a second and the blocks that take a frame keep sound what each block keeps on its own.
-/
namespace Sys2Proof.Machine

/-! ## Seconds (R78, R83, R86, R173) -/

theorem State.expireSelection_keepsSound (s : State) (p : Port) : s.KeepsSound (s.expireSelection p) := by
  unfold State.expireSelection
  split
  · exact .refl s
  · exact .ite _ (s.endSelection_keepsSound p _) (.refl s)

theorem State.countDischarge_keepsSound (s : State) (k : StepId) : s.KeepsSound (s.countDischarge k) := by
  unfold State.countDischarge
  split
  all_goals first | exact .refl s | exact s.modStep_keepsSound k _ rfl id

theorem State.endDischarge_keepsSound (s : State) (k : StepId) : s.KeepsSound (s.endDischarge k) :=
  .ite _ (s.enter_keepsSound k _ _ _) (.refl s)

theorem State.countHold_keepsSound (s : State) (k : StepId) : s.KeepsSound (s.countHold k) :=
  .ite _ (.refl s) (s.modStep_keepsSound k _ rfl id)

/-- Ageing shortens a close history (R83). -/
theorem State.ageStep_keepsSound (s : State) (k : StepId) : s.KeepsSound (s.ageStep k) :=
  s.modStep_keepsSound k _ rfl fun h => (List.dropWhile_suffix _).length_le.trans h

theorem State.cooldownSecond_keepsSound (s : State) : s.KeepsSound s.cooldownSecond := by
  have counted : ∀ (t : State) (k : StepId), t.KeepsSound (((t.countDischarge k).countHold k).ageStep k) :=
    fun t k => ((t.countDischarge_keepsSound k).trans (State.countHold_keepsSound _ k)).trans
      (State.ageStep_keepsSound _ k)
  exact (State.KeepsSound.foldl _ counted allSteps s).trans
    (.foldl _ (fun t k => t.endDischarge_keepsSound k) _ _)

theorem State.secondPart_keepsSound (s : State) (p : SecondPart) : s.KeepsSound (s.secondPart p) := by
  cases p with
  | cooldown => exact s.cooldownSecond_keepsSound
  | stale => exact (s.removeEach_keepsSound _ _).trans (State.examineIfLeft_keepsSound _ s)
  | selections => exact (s.expireSelection_keepsSound _).trans (State.expireSelection_keepsSound _ _)
  | supervision => exact s.superviseSecond_keepsSound

/-- An elapsed second keeps sound, in every order of its parts (log entry 4). -/
theorem State.secondElapses_keepsSound (s : State) (l : List SecondPart) :
    s.KeepsSound (s.secondElapses l) := by
  have ticked : s.KeepsSound s.tick := ⟨rfl, id, id, id, id, id, id, id⟩
  exact ticked.trans (.foldl _ State.secondPart_keepsSound _ _)

/-! ## The Cooldown Unit and the AVC at a frame -/

theorem State.takeMeasurement_keepsSound (s : State) : s.KeepsSound s.takeMeasurement := by
  unfold State.takeMeasurement
  split
  · exact .refl s
  · exact .trans (by exact ⟨rfl, id, id, id, id, id, id, id⟩) (State.modStep_keepsSound (State.recordRise _ _ _ _ _) _ _ rfl id)

theorem State.cuFrame_keepsSound (s : State) : s.KeepsSound s.cuFrame :=
  .ite _ (.refl s) (.ite _ (.trans (by exact ⟨rfl, id, id, id, id, id, id, id⟩) (State.takeMeasurement_keepsSound _))
    ⟨rfl, id, id, id, id, id, id, id⟩)

theorem State.setDecision_keepsSound (s : State) (d : Decision) : s.KeepsSound (s.setDecision d) :=
  ⟨rfl, id, id, id, id, id, id, id⟩

/-- Integrators within their bound keep sound (R94). -/
theorem State.setD_keepsSound (s : State) {lo hi : Nat} (low : s.avc.dLow ≤ 65535 → lo ≤ 65535)
    (high : s.avc.dHigh ≤ 65535 → hi ≤ 65535) : s.KeepsSound (s.setD lo hi) := by
  refine ⟨rfl, id, id, id, id, id, id, ?_⟩
  rintro ⟨la, lb, hlo, hhi, rest⟩
  exact ⟨la, lb, low hlo, high hhi, rest⟩

theorem State.setLine_keepsSound (s : State) (l : LineState) : s.KeepsSound (s.setLine l) :=
  .trans (by exact ⟨rfl, id, id, id, id, id, id, id⟩) (State.examine_keepsSound _)

theorem State.deadOpenAll_keepsSound (s : State) : s.KeepsSound s.deadOpenAll := by
  have posted := s.admitAll_keepsSound .avc none true
  unfold State.deadOpenAll
  generalize s.admitAll .avc none true = r at posted
  exact posted.trans (by exact ⟨rfl, id, id, id, id, id, id, id⟩)

/-- The entry into DEAD (R97) keeps sound. -/
theorem State.enterDead_keepsSound (s : State) : s.KeepsSound s.enterDead :=
  (s.setLine_keepsSound _).trans (State.deadOpenAll_keepsSound _)

theorem State.lineStage_keepsSound (s : State) : s.KeepsSound s.lineStage := by
  have run : ∀ n, s.KeepsSound (s.setRun n) := fun n => ⟨rfl, id, id, id, id, id, id, id⟩
  unfold State.lineStage
  split
  · exact .ite _ (.ite _ s.enterDead_keepsSound (run _)) (run _)
  · exact .ite _ (.ite _ (s.setLine_keepsSound _) (run _)) (run _)

theorem State.setOv_keepsSound (s : State) (n : Nat) : s.KeepsSound (s.setOv n) :=
  ⟨rfl, id, id, id, id, id, id, id⟩

/-- A fast open (R112) keeps sound. -/
theorem State.fastOpening_keepsSound (s : State) : s.KeepsSound s.fastOpening := by
  unfold State.fastOpening
  split
  · exact (s.setOv_keepsSound 0).trans (State.setDecision_keepsSound _ _)
  · exact ((s.setOv_keepsSound 0).trans (State.admitOne_keepsSound _ _)).trans (State.setDecision_keepsSound _ _)

theorem State.attemptPost_keepsSound (s : State) (p : Posting) (d : Decision) :
    s.KeepsSound (s.attemptPost p d) := by
  have posted := s.admitOne_keepsSound p
  have zero := fun t : State => t.setD_keepsSound (lo := 0) (hi := 0) (fun _ => by omega) (fun _ => by omega)
  exact State.KeepsSound.trans (.ite _ (posted.trans (zero _)) posted) (State.setDecision_keepsSound _ d)

theorem State.closeAttempt_keepsSound (s : State) : s.KeepsSound s.closeAttempt := by
  unfold State.closeAttempt
  split
  · exact s.setDecision_keepsSound _
  · refine .ite _ (s.setDecision_keepsSound _) ?_
    split
    · exact s.setDecision_keepsSound _
    · exact s.attemptPost_keepsSound _ _

theorem State.openAttempt_keepsSound (s : State) : s.KeepsSound s.openAttempt := by
  unfold State.openAttempt
  split
  · exact s.setDecision_keepsSound _
  · exact .ite _ (s.setDecision_keepsSound _) (s.attemptPost_keepsSound _ _)

theorem State.dLowAfter_le (s : State) (h : s.avc.dLow ≤ 65535) : s.dLowAfter ≤ 65535 := by
  unfold State.dLowAfter
  split_ifs <;> omega

theorem State.dHighAfter_le (s : State) (h : s.avc.dHigh ≤ 65535) : s.dHighAfter ≤ 65535 := by
  unfold State.dHighAfter
  split_ifs <;> omega

/-- Stage 3 of a frame (R100 to R110) keeps sound. -/
theorem State.integratorStage_keepsSound (s : State) (fast : Bool) :
    s.KeepsSound (s.integratorStage fast) := by
  have counted := s.setD_keepsSound s.dLowAfter_le s.dHighAfter_le
  have zero := s.setD_keepsSound (lo := 0) (hi := 0) (fun _ => by omega) (fun _ => by omega)
  exact .ite _ zero (.ite _ (.refl s) (.ite _ (counted.trans (State.closeAttempt_keepsSound _))
    (.ite _ (.ite _ counted (counted.trans (State.openAttempt_keepsSound _))) counted)))

theorem State.avcFrame_keepsSound (s : State) : s.KeepsSound s.avcFrame := by
  have fast := fun t : State => State.KeepsSound.ite (t.fastDue = true) t.fastOpening_keepsSound
    (t.setOv_keepsSound t.ovAfter)
  exact (s.lineStage_keepsSound.trans (fast _)).trans (State.integratorStage_keepsSound _ _)

/-! ## The HMU at a frame -/

/-- The accumulator after a frame stands within its bounds (R123). -/
theorem State.accumulatorAfter_le (s : State) (m : MonitorId) (h : (s.monitor m).accumulator ≤ 2 * s.pickup m) :
    s.accumulatorAfter m ≤ 2 * s.pickup m := by
  unfold State.accumulatorAfter
  split_ifs <;> omega

/-- An accumulator of an enabled monitor that takes a value within its bounds keeps sound. -/
theorem State.setAccumulator_keepsSound (s : State) (m : MonitorId) (n : Nat)
    (enabled : s.set.settings.enabled m = true)
    (le : (s.monitor m).accumulator ≤ 2 * s.pickup m → n ≤ 2 * s.pickup m) :
    s.KeepsSound (s.setAccumulator m n) :=
  s.setMonitor_keepsSound m _ (fun h => ⟨le h.1, by simp [enabled]⟩) id

theorem State.setDetune_keepsSound (s : State) (m : MonitorId) (d : LastDetune) :
    s.KeepsSound (s.setDetune m d) := s.setMonitor_keepsSound m _ id id

theorem State.detune_keepsSound (s : State) (m : MonitorId) : s.KeepsSound (s.detune m) := by
  unfold State.detune
  split
  · exact s.setDetune_keepsSound m _
  · exact (s.setDetune_keepsSound m _).trans (State.admitOne_keepsSound _ _)

/-- Activation of an enabled monitor keeps sound (R124). -/
theorem State.activate_keepsSound (s : State) (m : MonitorId) (enabled : s.set.settings.enabled m = true) :
    s.KeepsSound (s.activate m) := by
  have active := (s.setMonitor_keepsSound m
    { s.monitor m with active := true, assertCount := min 65535 ((s.monitor m).assertCount + 1) }
    (fun h => ⟨h.1, by simp [enabled]⟩) (fun h => ⟨Nat.min_le_left _ _, h.2⟩)).trans (State.setFlags_keepsSound _)
  unfold State.activate
  dsimp only
  split
  · exact active
  · exact active.trans (.ite _ (.refl _) (State.examine_keepsSound _))
  · exact active.trans (State.detune_keepsSound _ m)

theorem State.clearMonitor_keepsSound (s : State) (m : MonitorId) : s.KeepsSound (s.clearMonitor m) := by
  have cleared := (s.setMonitor_keepsSound m { s.monitor m with active := false }
    (fun h => ⟨h.1, fun e => ⟨(h.2 e).1, rfl⟩⟩) id).trans (State.setFlags_keepsSound _)
  exact cleared.trans (.ite _ (.refl _) (State.examine_keepsSound _))

theorem State.monitorFrame_keepsSound (s : State) (m : MonitorId) : s.KeepsSound (s.monitorFrame m) := by
  unfold State.monitorFrame
  split
  · exact .refl s
  · rename_i on
    have enabled : s.set.settings.enabled m = true := by simpa using on
    have counted := s.setAccumulator_keepsSound m (s.accumulatorAfter m) enabled (s.accumulatorAfter_le m)
    exact .ite _ (.refl s) (.ite _ (.ite _ (counted.trans (State.activate_keepsSound _ m enabled)) counted)
      (.ite _ (counted.trans (State.clearMonitor_keepsSound _ m)) counted))

theorem State.countActive_keepsSound (s : State) (m : MonitorId) : s.KeepsSound (s.countActive m) :=
  .ite _ (s.setMonitor_keepsSound m _ id fun h => ⟨h.1, Nat.min_le_left _ _⟩) (.refl s)

theorem State.hmuFrame_keepsSound (s : State) : s.KeepsSound s.hmuFrame :=
  (State.KeepsSound.foldl _ (fun t m => t.monitorFrame_keepsSound m) allMonitors s).trans
    (.foldl _ (fun t m => t.countActive_keepsSound m) _ _)

/-! ## The UPU at a frame -/

theorem State.setTripCount_keepsSound (s : State) (k : StepId) (n : Nat) : s.KeepsSound (s.setTripCount k n) :=
  s.modStep_keepsSound k _ rfl id

theorem State.alarmStage_keepsSound (s : State) (k : StepId) : s.KeepsSound (s.alarmStage k) := by
  have written : ∀ (r : StepRecord) (c : Bool), r.state = (s.stepRec k).state →
      r.closeHistory = (s.stepRec k).closeHistory → s.KeepsSound ((s.setStep k r).setFlagsIf c) :=
    fun r c state history => (s.setStep_keepsSound k r state (fun h => history ▸ h)).trans
      (State.setFlagsIf_keepsSound _ c)
  exact .ite _ (written _ _ rfl rfl) (.ite _ (.refl s) (written _ _ rfl rfl))

theorem State.decideTrip_keepsSound (s : State) (k : StepId) (u : Nat) (re im : Int) :
    s.KeepsSound (s.decideTrip k u re im) :=
  ((s.setTripCount_keepsSound k 0).trans (State.admitOne_keepsSound _ _)).trans
    (State.enterTripRecord_keepsSound _ _ _ _ _ _)

theorem State.tripStage_keepsSound (s : State) (k : StepId) : s.KeepsSound (s.tripStage k) :=
  .ite _ (.ite _ (s.decideTrip_keepsSound k _ _ _) (s.setTripCount_keepsSound k _))
    (.ite _ (.refl s) (s.setTripCount_keepsSound k 0))

theorem State.stepFrame_keepsSound (s base : State) (k : StepId) : s.KeepsSound (s.stepFrame base k) :=
  .ite _ (s.decideTrip_keepsSound k _ _ _)
    (.ite _ ((s.alarmStage_keepsSound k).trans (State.tripStage_keepsSound _ k))
      (.ite _ (s.decideTrip_keepsSound k _ _ _) (.refl s)))

theorem State.completeCapture_keepsSound (s : State) (c : Capture) : s.KeepsSound (s.completeCapture c) :=
  (((s.modStep_keepsSound c.step _ rfl id).trans (State.setFlagsIf_keepsSound _ _)).trans
    (State.insertOutcome_keepsSound _ _ _)).trans ⟨rfl, id, id, id, id, id, id, id⟩

theorem State.captureFrame_keepsSound (s : State) : s.KeepsSound s.captureFrame := by
  unfold State.captureFrame
  split
  · exact .refl s
  · exact .ite _ s.abortCapture_keepsSound (.ite _ (.refl s)
      (.ite _ (s.completeCapture_keepsSound _) ⟨rfl, id, id, id, id, id, id, id⟩))

theorem State.upuFrame_keepsSound (s base : State) : s.KeepsSound (s.upuFrame base) := by
  have staged := State.KeepsSound.foldl _ (fun t k => t.stepFrame_keepsSound base k) allSteps s
  exact (State.KeepsSound.ite _ (.refl s) staged).trans
    (.trans (by exact ⟨rfl, id, id, id, id, id, id, id⟩) (State.captureFrame_keepsSound _))

/-! ## Step derivation (R203, R204) -/

theorem State.deriveStep_keepsSound (s : State) (k : StepId) : s.KeepsSound (s.deriveStep k) := by
  have loaded := fun n => (s.loadDischarge_keepsSound k).trans (State.enter_keepsSound _ k n none none)
  unfold State.deriveStep
  split
  · exact loaded _
  · exact s.enter_keepsSound k _ _ _
  · exact loaded _
  · exact s.enter_keepsSound k _ _ _
  · exact s.enter_keepsSound k _ _ _

theorem State.derivedOpenAll_keepsSound (s : State) : s.KeepsSound s.derivedOpenAll :=
  .ite _ s.deadOpenAll_keepsSound (.refl s)

theorem State.derivedTrip_keepsSound (s : State) : s.KeepsSound s.derivedTrip :=
  .ite _ s.externalParts_keepsSound (.refl s)

theorem State.deriveAll_keepsSound (s : State) (first : Bool) : s.KeepsSound (s.deriveAll first) := by
  have marked : s.KeepsSound { s with set := { s.set with derived := true } } :=
    ⟨rfl, id, id, id, id, id, id, id⟩
  have derived := State.KeepsSound.foldl _ State.deriveStep_keepsSound allSteps
    { s with set := { s.set with derived := true } }
  have ends : ∀ t : State,
      t.KeepsSound (if first then t.derivedOpenAll.derivedTrip else t.derivedTrip.derivedOpenAll) := fun t =>
    .ite _ (t.derivedOpenAll_keepsSound.trans (State.derivedTrip_keepsSound _))
      (t.derivedTrip_keepsSound.trans (State.derivedOpenAll_keepsSound _))
  exact (marked.trans (derived.trans (State.examine_keepsSound _))).trans (ends _)

theorem State.derivation_keepsSound (s : State) (first : Bool) : s.KeepsSound (s.derivation first) := by
  unfold State.derivation
  split
  · exact .refl s
  · exact .ite _ (.refl s) (.ite _ (s.deriveAll_keepsSound first)
      ((s.until_keepsSound _).trans (State.deriveAll_keepsSound _ first)))

/-! ## The arrival of a frame (R44) -/

theorem State.framePart_keepsSound (s base : State) (p : FramePart) : s.KeepsSound (s.framePart base p) := by
  cases p with
  | avc => exact s.avcFrame_keepsSound
  | hmu => exact s.hmuFrame_keepsSound
  | upu => exact s.upuFrame_keepsSound base
  | cu => exact s.cuFrame_keepsSound
  | sx => exact s.examine_keepsSound
  | derive first => exact .ite _ (s.derivation_keepsSound first) (.refl s)

theorem State.loadRises_keepsSound (s : State) (l : List (StepId × Nat)) : s.KeepsSound (s.loadRises l) := by
  have one : ∀ (t : State) (x : StepId × Nat), t.KeepsSound (t.modStep x.1 (fun r => { r with learnedRise := x.2 })) :=
    fun t x => t.modStep_keepsSound x.1 _ rfl id
  exact .foldl _ one l s

theorem State.takeFrame_keepsSound (s : State) (i : FrameInput) (rises : List (StepId × Nat)) :
    s.KeepsSound (s.takeFrame i rises) := by
  have start : s.KeepsSound ((if i.riseFirst then s.cuFrame else s).loadRises rises) :=
    (State.KeepsSound.ite _ s.cuFrame_keepsSound (.refl s)).trans (State.loadRises_keepsSound _ _)
  exact (start.trans (.foldl _ (fun t p => t.framePart_keepsSound s p) _ _)).trans (State.examine_keepsSound _)

/-- The period applied lies within the limits (R30). -/
theorem State.periodAfter_mem (s : State) (h : s.PeriodSound) :
    periodLow s.me.fsel ≤ s.periodAfter ∧ s.periodAfter ≤ periodHigh s.me.fsel := by
  have := nominalPeriod_mem s.me.fsel
  unfold State.periodAfter
  split
  · unfold clampPeriod
    omega
  · exact h

/-- The publication of a frame keeps sound: the period stays within its limits, and the Step Records keep their
states (R30, R44, R139). -/
theorem State.publish_keepsSound (s : State) (i : FrameInput) (m : Sampling) : s.KeepsSound (s.publish i m) := by
  have frame : s.KeepsSound { s with me := s.meAfter (s.frameOf i m.freeStarted) m } :=
    ⟨rfl, id, id, id, id, id, s.periodAfter_mem, id⟩
  have kept : ∀ (f : Frame) (t : State) (k : StepId), t.KeepsSound (t.keepUnbalance f k) := fun f t k =>
    t.modStep_keepsSound k _ (by split <;> rfl) (fun h => by split <;> exact h)
  exact frame.trans (.foldl _ (kept _) _ _)

/-! ## The application of settings (R197) -/

/-- One monitor's accumulator stands within its bounds, and is 0 and inactive while it is disabled (R120). -/
def State.monitorSound (s : State) (m : MonitorId) : Prop :=
  (s.monitor m).accumulator ≤ 2 * s.pickup m
    ∧ (s.set.settings.enabled m = false → (s.monitor m).accumulator = 0 ∧ (s.monitor m).active = false)

theorem State.setFlagsIf_monitor (s : State) (c : Bool) (m : MonitorId) :
    (s.setFlagsIf c).monitor m = s.monitor m := by
  simp [State.monitor]

/-- New settings leave the monitor that takes them within its new bounds, whatever it held (R132, R133). -/
theorem State.applyMonitor_monitorSound (s : State) (old : Settings) (m : MonitorId) :
    (s.applyMonitor old m).monitorSound m := by
  have settings : (s.applyMonitor old m).set = s.set := (s.applyMonitor_keeps old m).set
  rw [State.monitorSound, State.pickup, settings]
  unfold State.applyMonitor State.restartMonitor
  split_ifs with off newOff
  · simp
  · simp [State.setFlagsIf_monitor]
  · simp [State.setFlagsIf_monitor]
  · simp [State.setAccumulator, State.pickup, newOff]

end Sys2Proof.Machine
end

section
/-!
SUPPORT and PROOF. Settings, the store, reset and the requests keep sound what each block keeps on its own; so
every command does, and with it every step.
-/
namespace Sys2Proof.Machine

/-! ## The application of settings (R197) -/

/-- New settings of one monitor leave the others (R132, R133). -/
theorem State.applyMonitor_monitor_ne (s : State) (old : Settings) {j m : MonitorId} (h : j ≠ m) :
    (s.applyMonitor old m).monitor j = s.monitor j := by
  unfold State.applyMonitor State.restartMonitor State.setAccumulator
  split_ifs <;> simp [State.setFlagsIf_monitor, h]

/-- New settings of one monitor leave the others as sound as they were. -/
theorem State.applyMonitor_monitorSound_of (s : State) (old : Settings) (j m : MonitorId)
    (h : s.monitorSound j) : (s.applyMonitor old m).monitorSound j := by
  by_cases e : j = m
  · exact e ▸ s.applyMonitor_monitorSound old m
  · have settings : (s.applyMonitor old m).set = s.set := (s.applyMonitor_keeps old m).set
    rw [State.monitorSound, State.applyMonitor_monitor_ne s old e, State.pickup, settings]
    exact h

/-- After new settings have reached every monitor of a list, those monitors are sound. -/
theorem State.applyMonitors_monitorSound (old : Settings) (l : List MonitorId) (s : State) :
    ∀ m ∈ l, (l.foldl (fun t m => t.applyMonitor old m) s).monitorSound m := by
  have kept : ∀ (l : List MonitorId) (t : State) (j : MonitorId), t.monitorSound j →
      (l.foldl (fun t m => t.applyMonitor old m) t).monitorSound j := by
    intro l
    induction l with
    | nil => exact fun _ _ h => h
    | cons m l ih => exact fun t j h => ih _ j (t.applyMonitor_monitorSound_of old j m h)
  induction l generalizing s with
  | nil => exact fun m h => nomatch h
  | cons m l ih =>
    intro j hj
    rcases List.mem_cons.mp hj with rfl | hj
    · exact kept l _ j (s.applyMonitor_monitorSound old j)
    · exact ih _ j hj

theorem State.applyMonitor_keepsSound (s : State) (old : Settings) (m : MonitorId) :
    s.KeepsSound (s.applyMonitor old m) := by
  have zero := s.setMonitor_keepsSound m { s.monitor m with accumulator := 0, active := false }
    (fun _ => ⟨Nat.zero_le _, fun _ => ⟨rfl, rfl⟩⟩) id
  have restart : s.KeepsSound (s.restartMonitor m) := zero.trans (State.setFlagsIf_keepsSound _ _)
  refine .ite _ zero (.ite _ restart (.ite _ restart ?_))
  exact s.setMonitor_keepsSound m _ (fun h => ⟨Nat.min_le_right _ _, fun e => by simp [h.2 e]⟩) id

/-- The parts of an application that act on the steps (R73, R144, R174). -/
theorem State.applySteps_keepsSound (s : State) (old : Settings) :
    s.KeepsSound (allSteps.foldl (fun t k => t.applyInService old k)
      (allSteps.foldl (fun t k => t.clampAlarm k) s)) := by
  have inService : ∀ (t : State) (k : StepId), t.KeepsSound (t.applyInService old k) := fun t k =>
    .ite _ ((t.removeEach_keepsSound _ _).trans (State.endSelectionOf_keepsSound _ _ _)) (.refl t)
  have clamp : ∀ (t : State) (k : StepId), t.KeepsSound (t.clampAlarm k) := fun t k =>
    t.modStep_keepsSound k _ rfl id
  exact (State.KeepsSound.foldl _ clamp allSteps s).trans (.foldl _ inService _ _)

/-- What applied settings do to the running records leaves every monitor sound (R120, R132, R133). -/
theorem State.applyEffects_monitorsSound (s : State) (old : Settings) : (s.applyEffects old).MonitorsSound := by
  refine (State.applySteps_keepsSound _ old).monitors fun m => ?_
  exact State.applyMonitors_monitorSound old allMonitors s m (by revert m; decide)

theorem State.applyEffects_keepsSound (s : State) (old : Settings) : s.KeepsSound (s.applyEffects old) :=
  (State.KeepsSound.foldl _ (fun t m => t.applyMonitor_keepsSound old m) allMonitors s).trans
    (State.applySteps_keepsSound _ old)

/-- Every setting is in the catalogue's list (R194). -/
theorem mem_allSettingIds (i : SettingId) : i ∈ allSettingIds := by
  cases i with
  | yard y => cases y <;> decide
  | step f k => cases f <;> revert k <;> decide
  | monitor f m => cases f <;> revert m <;> decide

/-- The settings lie in their ranges when each of them does (R194). -/
theorem Settings.inRange_iff (c : Settings) : c.inRange = true ↔ ∀ i : SettingId, i.inRange (c.get i) = true := by
  rw [Settings.inRange, List.all_eq_true]
  exact ⟨fun h i => h i (mem_allSettingIds i), fun h i _ => h i⟩

/-- A value in range put in place leaves the settings in range. -/
theorem Settings.inRange_put {c : Settings} {i : SettingId} {v : Nat} (h : c.inRange = true)
    (hv : i.inRange v = true) : (c.put i v).inRange = true := by
  rw [Settings.inRange_iff] at h ⊢
  intro j
  rw [Settings.get_put]
  split
  · subst j; exact hv
  · exact h j

/-- The settings after an application lie in their ranges (R195, R197). -/
theorem State.settingsAfter_inRange (s : State) (h : s.SettingsSound) : s.settingsAfter.inRange = true := by
  obtain ⟨inForce, pending⟩ := h
  unfold State.settingsAfter
  generalize s.set.pendingValues = l at pending
  generalize s.set.settings = c at inForce
  induction l generalizing c with
  | nil => exact inForce
  | cons p l ih =>
    exact ih (fun q hq => pending q (List.mem_cons_of_mem _ hq)) _
      (Settings.inRange_put inForce (pending p List.mem_cons_self))

/-- An application of settings (R197) keeps sound: the monitors take their new bounds. -/
theorem State.applySettings_keepsSound (s : State) : s.KeepsSound s.applySettings := by
  have examined : (s.putSettings.applyEffects s.set.settings).KeepsSound s.applySettings :=
    .ite _ (State.examineIfLeft_keepsSound _ s) (State.examine_keepsSound _)
  have all := (State.applyEffects_keepsSound s.putSettings s.set.settings).trans examined
  have put : s.SettingsSound → s.putSettings.SettingsSound := fun h =>
    ⟨s.settingsAfter_inRange h, fun p hp => nomatch hp⟩
  exact ⟨all.pending, all.store, all.orders, all.selections, all.settings ∘ put,
    fun _ => examined.monitors (State.applyEffects_monitorsSound _ _), all.period, all.counts⟩

theorem State.startFrame_keepsSound (s : State) : s.KeepsSound s.startFrame := by
  unfold State.startFrame
  split
  · exact .refl s
  · exact ⟨rfl, id, id, id, id, id, id, id⟩

/-- The arrival of a frame (R44) keeps sound. -/
theorem State.frameArrives_keepsSound (s : State) (i : FrameInput) : s.KeepsSound (s.frameArrives i) := by
  have started := s.startFrame_keepsSound.trans (State.until_keepsSound _ s.samplingNow.arrival)
  exact ((started.trans (State.applySettings_keepsSound _)).trans
    (State.publish_keepsSound _ i s.samplingNow)).trans (State.takeFrame_keepsSound _ i _)

/-! ## SET (R195, R196) -/

/-- A setting's range is not empty (R194). -/
theorem SettingId.low_le_high (i : SettingId) : i.low ≤ i.high := by
  cases i with
  | yard y => cases y <;> decide
  | step f k => cases f <;> simp [SettingId.low, SettingId.high, StepSetting.low, StepSetting.high]
  | monitor f m => cases f <;> simp [SettingId.low, SettingId.high, MonitorSetting.low, MonitorSetting.high]

/-- The range of a setting other than DEBOUNCE (R194). -/
theorem SettingId.inRange_eq {i : SettingId} (h : i ≠ .yard .debounce) (v : Nat) :
    i.inRange v = true ↔ i.low ≤ v ∧ v ≤ i.high := by
  simp [SettingId.inRange, h]

/-- The range clamp gives a value in range (R195). -/
theorem SettingId.rangeClamp_inRange (i : SettingId) (v : Nat) : i.inRange (i.rangeClamp v) = true := by
  have := SettingId.low_le_high i
  by_cases h : i = .yard .debounce
  · simp [SettingId.inRange, SettingId.rangeClamp, h]
    omega
  · rw [SettingId.inRange_eq h, SettingId.rangeClamp, if_neg h]
    omega

/-- The value a setting will hold lies in its range (R196). -/
theorem State.upcoming_inRange {s : State} (h : s.SettingsSound) (i : SettingId) :
    i.inRange (s.upcoming i) = true := by
  unfold State.upcoming
  cases e : s.set.pendingValues.reverse.find? (fun p => p.id = i) with
  | none => exact (Settings.inRange_iff _).mp h.1 i
  | some p =>
    have id : p.id = i := by simpa using List.find?_some e
    have mem : p ∈ s.set.pendingValues := by simpa using List.mem_of_find?_eq_some e
    exact id ▸ h.2 p mem

/-- The clamps give a value in range: no cross-clamp moves a value out of it (R195, R196). -/
theorem State.clamp_inRange {s : State} (h : s.SettingsSound) (i : SettingId) (v : Nat) :
    i.inRange (s.clamp i v) = true := by
  have up : ∀ j : SettingId, j ≠ .yard .debounce → j.low ≤ s.upcoming j ∧ s.upcoming j ≤ j.high := fun j hj =>
    (SettingId.inRange_eq hj _).mp (State.upcoming_inRange h j)
  have own := SettingId.rangeClamp_inRange i v
  unfold State.clamp
  generalize i.rangeClamp v = w at own
  unfold State.crossClamp
  have bw := up (.yard .bw) (by decide)
  have hys := up (.yard .hys) (by decide)
  have top := up (.yard .top) (by decide)
  have tpulse := up (.yard .tpulse) (by decide)
  have vset := up (.yard .vset) (by decide)
  have vdead := up (.yard .vdead) (by decide)
  simp only [SettingId.low, SettingId.high, YardSetting.low, YardSetting.high] at bw hys top tpulse vset vdead
  dsimp only
  split
  case h_7 k =>
    have utrip := up (.step .utrip k) (by simp)
    rw [SettingId.inRange_eq (by simp)] at own ⊢
    simp only [SettingId.low, SettingId.high, StepSetting.low, StepSetting.high] at own utrip ⊢
    omega
  case h_8 k =>
    have ualm := up (.step .ualm k) (by simp)
    rw [SettingId.inRange_eq (by simp)] at own ⊢
    simp only [SettingId.low, SettingId.high, StepSetting.low, StepSetting.high] at own ualm ⊢
    omega
  case h_9 => exact own
  all_goals
    rw [SettingId.inRange_eq (by decide)] at own ⊢
    simp only [SettingId.low, SettingId.high, YardSetting.low, YardSetting.high] at own ⊢
    omega

/-! ## The store, reset and loading -/

theorem SetState.setCopy_eq (c : SetState) (one : Bool) (i : Image) :
    (c.setCopy one i).settings = c.settings ∧ (c.setCopy one i).pendingValues = c.pendingValues
      ∧ (c.setCopy one i).startup = c.startup ∧ (c.setCopy one i).derived = c.derived
      ∧ (c.setCopy one i).loadedAt = c.loadedAt := by
  unfold SetState.setCopy
  split <;> exact ⟨rfl, rfl, rfl, rfl, rfl⟩

/-- Settings and Store with the same settings, pending values and start-up state keep sound. -/
theorem State.withSet_keepsSound (s : State) (c : SetState) (settings : c.settings = s.set.settings)
    (pendingValues : c.pendingValues = s.set.pendingValues) (startup : c.startup = s.set.startup) :
    s.KeepsSound { s with set := c } := by
  refine ⟨rfl, id, id, .congr rfl (fun _ => rfl) startup, fun h => ?_, .congr (fun _ => rfl) settings, id, id⟩
  exact ⟨settings ▸ h.1, pendingValues ▸ h.2⟩

theorem State.endSave_keepsSound (s : State) (f : SaveInFlight) (readback : Image) :
    s.KeepsSound (s.endSave f readback) := by
  obtain ⟨settings, pendingValues, startup, -⟩ := s.set.setCopy_eq f.target1 readback
  unfold State.endSave
  dsimp only
  split
  all_goals
    exact .trans (by exact s.withSet_keepsSound _ settings pendingValues startup)
      (State.insertOutcome_keepsSound _ _ _)

theorem State.saveEnds_keepsSound (s : State) (readback : Image) : s.KeepsSound (s.saveEnds readback) := by
  unfold State.saveEnds
  split
  · exact .refl s
  · exact s.endSave_keepsSound _ _

theorem State.holdReset_keepsSound (s : State) (h : ResetHold) : s.KeepsSound (s.holdReset h) := by
  have abandoned : s.set.abandonSave.settings = s.set.settings
      ∧ s.set.abandonSave.pendingValues = s.set.pendingValues
      ∧ s.set.abandonSave.startup = s.set.startup := by
    unfold SetState.abandonSave
    split
    · exact ⟨rfl, rfl, rfl⟩
    · rename_i f _
      obtain ⟨settings, pendingValues, startup, -⟩ := s.set.setCopy_eq f.target1 (imageTorn f.image)
      exact ⟨settings, pendingValues, startup⟩
  obtain ⟨settings, pendingValues, startup⟩ := abandoned
  exact (s.withSet_keepsSound _ settings pendingValues startup).trans (by exact ⟨rfl, id, id, id, id, id, id, id⟩)

/-- The release of reset keeps sound: it leaves the state after reset (R201). -/
theorem State.release_keepsSound (s : State) (h : ResetHold) (f : Fsel) : s.KeepsSound (s.release h f) := by
  obtain ⟨store, ⟨orders, -, -, selections⟩, settings, monitors, -, period, counts⟩ :=
    State.afterReset_sound f (causeOf h) s.rawLevels s.set.copy0 s.set.copy1
  exact ⟨rfl, fun _ => store, fun _ => orders, fun _ => selections, fun _ => settings, fun _ => monitors,
    fun _ => period, fun _ => counts⟩

/-- During LOADING no selection stands (R170, R202). -/
theorem State.SelectionsSound.slot_loading {s : State} (h : s.SelectionsSound) (loading : s.set.startup = .loading)
    (p : Port) : s.slot p = none := by
  cases e : s.slot p with
  | none => rfl
  | some sel =>
    have running : s.set.startup = .running := by
      cases p with
      | a => exact (h.1 sel e).2.2.2
      | b => exact (h.2 sel e).2.2.2
    rw [loading] at running
    cases running

/-- The values of a valid copy lie in their ranges (R198, R202). -/
theorem loadedValues_inRange {c : Settings} (h : c.inRange = true) :
    ∀ p ∈ loadedValues c, p.id.inRange p.value = true := by
  intro p hp
  obtain ⟨i, -, rfl⟩ := List.mem_map.mp hp
  exact (Settings.inRange_iff c).mp h i

/-- A state whose Step Records differ in neither state nor close history, whose settings are in range and whose
Selection table is empty keeps sound, when only the table, AUTO and the settings' own record differ. -/
theorem State.loaded_keepsSound {s t : State} (steps : Vector StepRecord 8) (auto : Bool) (set : SetState)
    (eq : t = { s with ss := { s.ss with steps := steps }, au := { s.au with auto := auto }, set := set })
    (records : ∀ k : StepId, (steps[k]).state = (s.stepRec k).state
      ∧ (steps[k]).closeHistory = (s.stepRec k).closeHistory)
    (settings : set.settings = s.set.settings)
    (pendingValues : s.SettingsSound → ∀ p ∈ set.pendingValues, p.id.inRange p.value = true)
    (loading : s.set.startup = .loading) : s.KeepsSound t := by
  subst eq
  refine ⟨rfl, id, .congr rfl rfl fun k => (records k).1, fun h => .of_empty fun p => ?_,
    fun h => ⟨settings ▸ h.1, pendingValues h⟩, .congr (fun _ => rfl) settings, id, ?_⟩
  · cases p with
    | a => exact h.slot_loading loading .a
    | b => exact h.slot_loading loading .b
  · rintro ⟨la, lb, lo, hi, history, mon⟩
    exact ⟨la, lb, lo, hi, fun k => (records k).2.symm ▸ history k, mon⟩

/-- The copy that loading takes is valid (R202). -/
theorem chooseCopy_valid {c0 c1 : Image} {b : Bool} (h : chooseCopy c0 c1 = some b) :
    imageValid (if b then c1 else c0) = true := by
  unfold chooseCopy at h
  split at h <;> simp_all
  split <;> assumption

/-- The end of LOADING keeps sound (R202). -/
theorem State.endLoading_keepsSound (s : State) (loading : s.set.startup = .loading) :
    s.KeepsSound s.endLoading := by
  have taken : ∀ (b : Bool) (i : Image), imageValid i = true →
      s.KeepsSound { s.takeCopy b i with set := { (s.takeCopy b i).set with startup := .running } } := by
    intro b i valid
    have inRange : i.settings.inRange = true := by
      unfold imageValid at valid
      simp only [Bool.and_eq_true] at valid
      exact valid.1
    refine State.loaded_keepsSound _ _ _ rfl (fun k => ?_) rfl (fun _ => loadedValues_inRange inRange) loading
    simp [StepRecord.load]
  unfold State.endLoading
  dsimp only
  split
  · refine State.loaded_keepsSound _ _ _ rfl (fun k => ?_) rfl (fun h => h.2) loading
    simp [StepRecord.load, State.stepRec]
  · rename_i h
    exact taken true _ (chooseCopy_valid h)
  · rename_i h
    exact taken false _ (chooseCopy_valid h)

end Sys2Proof.Machine
end

section
/-!
SUPPORT and PROOF. The requests keep sound, and so does every command; the invariants that every step keeps on its
own follow (R7, R30, R120, R163, R170, R186, R194).
-/
namespace Sys2Proof.Machine

/-! ## Requests -/

theorem State.clockOut_keepsSound (s : State) (p : Port) (w : Nat) : s.KeepsSound (s.clockOut p w) :=
  s.setPort_keepsSound p _ id

theorem State.respond_keepsSound (s : State) (p : Port) (tag : Byte) (a : Answer) :
    s.KeepsSound (s.respond p tag a) :=
  (s.setPort_keepsSound p { s.portState p with buffer := some (responseBytes tag a) } id).trans
    (by exact ⟨rfl, id, id, id, id, id, id, id⟩)

theorem State.unlessHeld_keepsSound (s : State) (f : State → State) (h : s.KeepsSound (f s)) :
    s.KeepsSound (s.unlessHeld f) := .ite _ (.refl s) h

/-- A request keeps sound when its judgement does on every state that is past LOADING (R179). -/
theorem State.request_keepsSound (s : State) (h : Header) (permitted : Bool) (judge : Judge)
    (judged : ∀ u : State, u.set.startup = .running → u.KeepsSound (judge u).1) :
    s.KeepsSound (s.request h permitted judge) := by
  refine s.unlessHeld_keepsSound _ ?_
  have framed := (s.clockOut_keepsSound h.port h.window).trans (State.superviseGood_keepsSound _ h.port)
  have chosen : ∀ u : State, u.KeepsSound
      (if u.set.startup = .loading then (u, Answer.plain .busy)
        else if permitted = false then (u, Answer.plain .notPermitted) else judge u).1 := by
    intro u
    split_ifs with loading
    · exact .refl u
    · exact .refl u
    · refine judged u ?_
      cases e : u.set.startup with
      | loading => exact absurd e loading
      | running => rfl
  exact (framed.trans (chosen _)).trans (State.respond_keepsSound _ _ _ _)

/-- A judgement of one step keeps sound when it does for every step (R182). -/
theorem withStep_keepsSound (b : Byte) (judge : StepId → Judge) (u : State)
    (h : ∀ k, u.KeepsSound (judge k u).1) : u.KeepsSound (withStep b judge u).1 := by
  unfold withStep
  split
  · exact .refl u
  · exact h _

theorem ifHolder_keepsSound (p : Port) (judge : Judge) (u : State)
    (h : u.holder = some p → u.KeepsSound (judge u).1) : u.KeepsSound (ifHolder p judge u).1 := by
  unfold ifHolder
  split
  · exact h ‹_›
  · exact .refl u

/-- A selection of a READY step by the holder with AUTO off keeps sound (R170). -/
theorem State.setSlot_keepsSound (s : State) (p : Port) (sel : Selection) (holder : s.holder = some p)
    (auto : s.au.auto = false) (ready : (s.stepRec sel.step).state = some .ready)
    (running : s.set.startup = .running) : s.KeepsSound (s.setSlot p (some sel)) := by
  refine .through_au (.refl s) (t := s.setSlot p (some sel)) (by cases p <;> rfl) (.refl _) fun h => ?_
  have one : ∀ q, s.slotSound q → (s.setSlot p (some sel)).slotSound q := by
    intro q hq x hx
    have holder' : (s.setSlot p (some sel)).holder = s.holder := by cases p <;> rfl
    have auto' : (s.setSlot p (some sel)).au.auto = s.au.auto := by cases p <;> rfl
    have stepRec : ∀ k, (s.setSlot p (some sel)).stepRec k = s.stepRec k := by cases p <;> exact fun _ => rfl
    rw [holder', auto', stepRec, State.setSlot_set]
    rw [State.slot_setSlot] at hx
    split at hx
    · rename_i e
      obtain rfl := Option.some_inj.mp hx
      exact ⟨e ▸ holder, auto, ready, running⟩
    · exact hq x hx
  exact ⟨one .a h.1, one .b h.2⟩

theorem judgeSelectStep_keepsSound (p : Port) (tag : Byte) (k : StepId) (u : State) (holder : u.holder = some p)
    (auto : u.au.auto = false) (running : u.set.startup = .running) :
    u.KeepsSound (judgeSelectStep p tag k u).1 := by
  unfold judgeSelectStep
  split
  · exact .refl u
  · rename_i ready
    split_ifs
    case neg =>
      split
      · exact .refl u
      · exact u.setSlot_keepsSound p _ holder auto ready running
    all_goals exact .refl u
  · exact .refl u

theorem judgeOpen_keepsSound (p : Port) (tag b : Byte) (u : State) : u.KeepsSound (judgeOpen p tag b u).1 := by
  unfold judgeOpen
  split
  · have posted := u.admitAll_keepsSound (portOriginator p) (some tag) false
    simp only [judgeOpenAll]
    exact posted
  · exact withStep_keepsSound b _ u fun k => u.admitOne_keepsSound _

theorem judgeOperate_keepsSound (p : Port) (tag b : Byte) (u : State) :
    u.KeepsSound (judgeOperate p tag b u).1 := by
  refine withStep_keepsSound b _ u fun k => ?_
  dsimp only
  split
  · exact (u.setSlot_none_keepsSound p).trans (State.admitOne_keepsSound _ _)
  · exact .refl u

theorem judgeAuto_keepsSound (p : Port) (v : Byte) (u : State) : u.KeepsSound (judgeAuto p v u).1 := by
  refine ifHolder_keepsSound p _ u fun _ => ?_
  split_ifs
  · exact .refl u
  · exact u.autoOn_keepsSound
  · exact u.setAuto_false_keepsSound

theorem judgeReleaseHold_keepsSound (p : Port) (b : Byte) (u : State) :
    u.KeepsSound (judgeReleaseHold p b u).1 := by
  have one : ∀ (t : State) (k : StepId), t.KeepsSound (t.releaseOne k) := fun t k =>
    t.modStep_keepsSound k _ rfl id
  unfold judgeReleaseHold
  split
  · exact ifHolder_keepsSound p _ u fun _ => .foldl _ one _ u
  · exact withStep_keepsSound b _ u fun k => ifHolder_keepsSound p _ u fun _ => one u k

/-- A SET holds a value in range pending (R195). -/
theorem judgeSet_keepsSound (p : Port) (i : Option SettingId) (v : BitVec 16) (u : State) :
    u.KeepsSound (judgeSet p i v u).1 := by
  unfold judgeSet
  split
  · exact .refl u
  · rename_i i
    unfold judgeSetId
    split
    · exact .refl u
    · split
      · exact .refl u
      · refine ⟨rfl, id, id, id, fun h => ⟨h.1, fun q hq => ?_⟩, id, id, id⟩
        rcases List.mem_append.mp hq with old | new
        · exact h.2 q old
        · obtain rfl := List.mem_singleton.mp new
          exact State.clamp_inRange h i _

theorem judgeStatus_keepsSound (p : Port) (u : State) : u.KeepsSound (judgeStatus p u).1 := by
  have flag : u.KeepsSound (u.clearFlag p) := u.setPort_keepsSound p _ id
  have latches : (u.clearFlag p).KeepsSound (u.clearFlag p).clearLatches := ⟨rfl, id, id, id, id, id, id, id⟩
  exact flag.trans latches

theorem judgeOutcomeRead_keepsSound (p : Port) (u : State) : u.KeepsSound (judgeOutcomeRead p u).1 := by
  have cleared : ∀ t : State, t.KeepsSound (t.clearLost p) := fun t =>
    t.setPort_keepsSound p _ fun _ => Nat.zero_le _
  unfold judgeOutcomeRead
  split
  · exact cleared u
  · rename_i slot r rest list
    refine (u.setOutcomes_keepsSound p rest (fun h => ?_) (fun h => ?_)).trans (cleared _)
    · simp only [State.sharedOf, list, List.countP_cons]
      omega
    · simp only [State.reserveUsed, list, List.countP_cons] at h
      omega

theorem judgeCaptureStep_keepsSound (tag : Byte) (k : StepId) (u : State) :
    u.KeepsSound (judgeCaptureStep tag k u).1 := by
  unfold judgeCaptureStep
  split_ifs
  case neg => exact ⟨rfl, id, id, id, id, id, id, id⟩
  all_goals exact .refl u

theorem judgeResetStep_keepsSound (k : StepId) (u : State) : u.KeepsSound (judgeResetStep k u).1 := by
  unfold judgeResetStep
  split
  · exact (u.loadDischarge_keepsSound k).trans (State.enter_keepsSound _ _ _ _ _)
  · exact u.enter_keepsSound _ _ _ _
  · exact .refl u

theorem judgeTakeOut_keepsSound (k : StepId) (u : State) : u.KeepsSound (judgeTakeOut k u).1 := by
  unfold judgeTakeOut
  split_ifs
  · exact .refl u
  · exact .refl u
  · exact u.enter_keepsSound _ _ _ _

theorem judgeReturn_keepsSound (k : StepId) (u : State) : u.KeepsSound (judgeReturn k u).1 := by
  unfold judgeReturn
  split
  · split
    · exact u.enter_keepsSound _ _ _ _
    · exact u.enter_keepsSound _ _ _ _
  · exact .refl u

theorem State.clearTripRecord_keepsSound (s : State) : s.KeepsSound s.clearTripRecord := by
  have cleared : s.KeepsSound { s with upu := { s.upu with tripRecord := none } } :=
    ⟨rfl, id, id, id, id, id, id, id⟩
  exact .ite _ (cleared.trans (State.examine_keepsSound _)) cleared

theorem State.clearBackup_keepsSound (s : State) : s.KeepsSound s.clearBackup := by
  have cleared : s.KeepsSound { s with upu := { s.upu with backup := none } } :=
    ⟨rfl, id, id, id, id, id, id, id⟩
  exact .ite _ (cleared.trans (State.examine_keepsSound _)) cleared

/-- Clearing the counters (R134) leaves the accumulators. -/
theorem State.clearCounters_keepsSound (s : State) : s.KeepsSound s.clearCounters := by
  refine ⟨rfl, id, id, id, id, fun h m => ?_, id, ?_⟩
  · rw [State.clearCounters_monitor]
    exact h m
  · rintro ⟨la, lb, lo, hi, history, -⟩
    exact ⟨la, lb, lo, hi, history, fun m => by simp⟩

/-! ## Commands -/

theorem State.armDetector_keepsSound (s : State) (p : Phase) : s.KeepsSound (s.armDetector p) := by
  cases p <;> exact ⟨rfl, id, id, id, id, id, id, id⟩

theorem State.crossing_keepsSound (s : State) (p : Phase) : s.KeepsSound (s.crossing p) := by
  refine .ite _ ?_ (.refl s)
  cases p <;> exact ⟨rfl, id, id, id, id, id, id, id⟩

theorem State.acceptKey_keepsSound (s : State) : s.KeepsSound s.acceptKey :=
  .ite _ ((s.accept_keepsSound _).trans (State.takeKey_keepsSound _ _)) (.refl s)

theorem State.acceptAssertion_keepsSound (s : State) : s.KeepsSound s.acceptAssertion :=
  .ite _ ((s.accept_keepsSound _).trans (State.externalEdge_keepsSound _)) (.refl s)

theorem State.acceptDeassertion_keepsSound (s : State) : s.KeepsSound s.acceptDeassertion :=
  .ite _ (s.accept_keepsSound _) (.refl s)

theorem State.acceptHeld_keepsSound (s : State) (i : DiscreteInput) : s.KeepsSound (s.acceptHeld i) := by
  refine .ite _ ?_ (.refl s)
  cases i with
  | contact k c => exact s.acceptContact_keepsSound k c
  | key => exact s.acceptKey_keepsSound
  | externalTrip => exact s.acceptAssertion_keepsSound.trans (State.acceptDeassertion_keepsSound _)

theorem State.faultExpires_keepsSound (s : State) (k : StepId) : s.KeepsSound (s.faultExpires k) := by
  unfold State.faultExpires
  split
  · exact .refl s
  · exact s.contactFault_keepsSound k _

theorem State.pulseEnds_keepsSound (s : State) : s.KeepsSound s.pulseEnds := by
  unfold State.pulseEnds
  split
  · exact .refl s
  · exact ⟨rfl, id, id, id, id, id, id, id⟩

theorem State.closeTimesOut_keepsSound (s : State) : s.KeepsSound s.closeTimesOut := by
  unfold State.closeTimesOut
  split
  · exact .ite _ ((s.until_keepsSound _).trans (State.failClose_keepsSound _ _)) (.refl s)
  · exact .refl s

theorem State.openTimesOut_keepsSound (s : State) : s.KeepsSound s.openTimesOut := by
  unfold State.openTimesOut
  split
  · exact .ite _ (.refl s) (.ite _ ((s.until_keepsSound _).trans (State.retryOpen_keepsSound _ _))
      ((s.until_keepsSound _).trans (State.failOpen_keepsSound _ _)))
  · exact .refl s

theorem State.monitorActivates_keepsSound (s : State) (m : MonitorId) : s.KeepsSound (s.monitorActivates m) := by
  unfold State.monitorActivates
  split
  · rename_i h
    exact (s.setAccumulator_keepsSound m _ h.1 (s.accumulatorAfter_le m)).trans
      (State.activate_keepsSound _ m h.1)
  · exact .refl s

theorem State.monitorClears_keepsSound (s : State) (m : MonitorId) : s.KeepsSound (s.monitorClears m) := by
  unfold State.monitorClears
  split
  · rename_i h
    exact (s.setAccumulator_keepsSound m 0 h.1 fun _ => Nat.zero_le _).trans (State.clearMonitor_keepsSound _ m)
  · exact .refl s

theorem State.captureCompletes_keepsSound (s : State) : s.KeepsSound s.captureCompletes := by
  unfold State.captureCompletes
  split
  · exact .refl s
  · exact .ite _ (s.completeCapture_keepsSound _) (.refl s)

theorem State.supervisionEnds_keepsSound (s : State) : s.KeepsSound s.supervisionEnds := by
  unfold State.supervisionEnds
  split
  · exact .refl s
  · exact .ite _ s.superviseExpiry_keepsSound (.refl s)

theorem State.released_keepsSound (s : State) (f : Fsel) : s.KeepsSound (s.released f) := by
  unfold State.released
  split
  · exact .refl s
  · exact s.release_keepsSound _ f

theorem State.loadingEnds_keepsSound (s : State) : s.KeepsSound s.loadingEnds := by
  unfold State.loadingEnds
  split
  · exact (s.until_keepsSound _).trans (State.endLoading_keepsSound _ ‹_›)
  · exact .refl s

/-- A raw level that changes keeps sound, with the acceptance that it may bring first (R4, log entry 16). -/
theorem State.rawChange_keepsSound (s : State) (i : DiscreteInput) (level : Bool) (elapsed : Nat) :
    s.KeepsSound (if s.clock.held.isSome then s.changeRaw i level
      else if (s.debouncer i).raw = level then s.pass elapsed
      else ((s.pass elapsed).acceptHeld i).changeRaw i level) := by
  have passed : s.KeepsSound (s.pass elapsed) := ⟨rfl, id, id, id, id, id, id, id⟩
  exact .ite _ (s.setDebouncer_keepsSound i _) (.ite _ passed
    ((passed.trans (State.acceptHeld_keepsSound _ i)).trans (State.setDebouncer_keepsSound _ i _)))

/-- Every command answers a next state that keeps sound. -/
theorem exec_keepsSound (c : Instr) (s : State) : ∃ t, exec c s = .next t ∧ s.KeepsSound t := by
  have queried := fun (h : Header) (judge : Judge) (same : ∀ u, (judge u).1 = u) =>
    s.request_keepsSound h true judge fun u _ => (same u).symm ▸ .refl u
  have running := fun (f : State → State) (h : ∀ t : State, t.KeepsSound (f t)) =>
    s.unlessHeld_keepsSound f (h s)
  cases c with
  | status h =>
    exact ⟨_, rfl, s.request_keepsSound h true _ fun u _ => judgeStatus_keepsSound h.port u⟩
  | stepQuery h b => exact ⟨_, rfl, s.request_keepsSound h true _ fun u _ => withStep_keepsSound b _ u fun _ => .refl u⟩
  | frameQuery h => exact ⟨_, rfl, queried h _ fun _ => rfl⟩
  | monitorQuery h b => exact ⟨_, rfl, s.request_keepsSound h true _ fun u _ => withStep_keepsSound b _ u fun _ => .refl u⟩
  | tripRecordQuery h => exact ⟨_, rfl, queried h _ fun _ => rfl⟩
  | outcomeRead h => exact ⟨_, rfl, s.request_keepsSound h true _ fun u _ => judgeOutcomeRead_keepsSound _ u⟩
  | getSetting h n i => exact ⟨_, rfl, queried h _ fun u => by unfold judgeGet; split <;> rfl⟩
  | keepalive h => exact ⟨_, rfl, queried h _ fun _ => rfl⟩
  | openStep h b => exact ⟨_, rfl, s.request_keepsSound h true _ fun u _ => judgeOpen_keepsSound _ _ b u⟩
  | select h b =>
    refine ⟨_, rfl, s.request_keepsSound h true _ fun u run => withStep_keepsSound b _ u fun k =>
      ifHolder_keepsSound _ _ u fun holder => ?_⟩
    split
    · exact .refl u
    · rename_i off
      exact judgeSelectStep_keepsSound _ _ k u holder (by simpa using off) run
  | operate h b => exact ⟨_, rfl, s.request_keepsSound h true _ fun u _ => judgeOperate_keepsSound _ _ b u⟩
  | cancel h b =>
    refine ⟨_, rfl, s.request_keepsSound h true _ fun u _ => withStep_keepsSound b _ u fun k => ?_⟩
    split
    · exact u.setSlot_none_keepsSound _
    · exact .refl u
  | auto h v => exact ⟨_, rfl, s.request_keepsSound h true _ fun u _ => judgeAuto_keepsSound _ v u⟩
  | releaseHold h b => exact ⟨_, rfl, s.request_keepsSound h true _ fun u _ => judgeReleaseHold_keepsSound _ b u⟩
  | setSetting h n i v => exact ⟨_, rfl, s.request_keepsSound h _ _ fun u _ => judgeSet_keepsSound _ _ v u⟩
  | save h =>
    refine ⟨_, rfl, s.request_keepsSound h _ _ fun u _ => ?_⟩
    unfold judgeSave
    split
    · exact .refl u
    · exact u.withSet_keepsSound _ rfl rfl rfl
  | captureInherent h b =>
    exact ⟨_, rfl, s.request_keepsSound h _ _ fun u _ => withStep_keepsSound b _ u fun k =>
      judgeCaptureStep_keepsSound _ k u⟩
  | resetLockout h b =>
    refine ⟨_, rfl, s.request_keepsSound h _ _ fun u _ => withStep_keepsSound b _ u fun k => ?_⟩
    unfold judgeResetLockout
    split
    · exact u.enter_keepsSound _ _ _ _
    · exact .refl u
  | resetStep h b =>
    exact ⟨_, rfl, s.request_keepsSound h _ _ fun u _ => withStep_keepsSound b _ u fun k =>
      judgeResetStep_keepsSound k u⟩
  | takeOut h b =>
    exact ⟨_, rfl, s.request_keepsSound h _ _ fun u _ => withStep_keepsSound b _ u fun k =>
      judgeTakeOut_keepsSound k u⟩
  | returnStep h b =>
    exact ⟨_, rfl, s.request_keepsSound h _ _ fun u _ => withStep_keepsSound b _ u fun k =>
      judgeReturn_keepsSound k u⟩
  | clearTripRecord h => exact ⟨_, rfl, s.request_keepsSound h _ _ fun u _ => u.clearTripRecord_keepsSound⟩
  | resetBackup h => exact ⟨_, rfl, s.request_keepsSound h _ _ fun u _ => u.clearBackup_keepsSound⟩
  | clearCounters h => exact ⟨_, rfl, s.request_keepsSound h _ _ fun u _ => u.clearCounters_keepsSound⟩
  | badFrame p w =>
    exact ⟨_, rfl, running _ fun t => .ite _ (.refl t)
      ((t.clockOut_keepsSound _ _).trans (State.respond_keepsSound _ _ _ _))⟩
  | unknownRequest h code l => exact ⟨_, rfl, .ite _ (.refl s) (queried h _ fun _ => rfl)⟩
  | rawInputChange x level e => exact ⟨_, rfl, s.rawChange_keepsSound x level e⟩
  | contactDebounceAccept k c => exact ⟨_, rfl, running _ fun t => t.acceptContact_keepsSound k c⟩
  | keyAccept => exact ⟨_, rfl, running _ State.acceptKey_keepsSound⟩
  | externalTripAssertion => exact ⟨_, rfl, running _ State.acceptAssertion_keepsSound⟩
  | externalTripDeassertion => exact ⟨_, rfl, running _ State.acceptDeassertion_keepsSound⟩
  | contactFaultExpiry k => exact ⟨_, rfl, running _ fun t => t.faultExpires_keepsSound k⟩
  | coilPulseEnd => exact ⟨_, rfl, running _ State.pulseEnds_keepsSound⟩
  | closeOperateTimeout => exact ⟨_, rfl, running _ State.closeTimesOut_keepsSound⟩
  | openOperateTimerExpiry => exact ⟨_, rfl, running _ State.openTimesOut_keepsSound⟩
  | dispatch => exact ⟨_, rfl, running _ State.examine_keepsSound⟩
  | crossing p e =>
    exact ⟨_, rfl, running _ fun t => .trans (by exact ⟨rfl, id, id, id, id, id, id, id⟩)
      (State.crossing_keepsSound (t.pass e) p)⟩
  | frameStart => exact ⟨_, rfl, running _ State.startFrame_keepsSound⟩
  | frameArrival f => exact ⟨_, rfl, running _ fun t => t.frameArrives_keepsSound f⟩
  | settleEnd =>
    exact ⟨_, rfl, running _ fun t => .ite _ (t.cuFrame_keepsSound.trans (State.examine_keepsSound _)) (.refl t)⟩
  | deadLineEntry => exact ⟨_, rfl, running _ fun t => .ite _ t.enterDead_keepsSound (.refl t)⟩
  | lineLiveReturn => exact ⟨_, rfl, running _ fun t => .ite _ (t.setLine_keepsSound _) (.refl t)⟩
  | fastOpen => exact ⟨_, rfl, running _ fun t => .ite _ t.fastOpening_keepsSound (.refl t)⟩
  | monitorActivation m => exact ⟨_, rfl, running _ fun t => t.monitorActivates_keepsSound m⟩
  | monitorClearing m => exact ⟨_, rfl, running _ fun t => t.monitorClears_keepsSound m⟩
  | unbalanceAlarm k => exact ⟨_, rfl, running _ fun t => .ite _ (t.alarmStage_keepsSound k) (.refl t)⟩
  | unbalanceTripDecision k =>
    exact ⟨_, rfl, running _ fun t => .ite _ (t.decideTrip_keepsSound k _ _ _) (.refl t)⟩
  | captureComplete => exact ⟨_, rfl, running _ State.captureCompletes_keepsSound⟩
  | elapsedSecond l => exact ⟨_, rfl, running _ fun t => t.secondElapses_keepsSound l⟩
  | dischargeEnd k =>
    exact ⟨_, rfl, running _ fun t => .ite _ ((t.countDischarge_keepsSound k).trans
      (State.endDischarge_keepsSound _ k)) (.refl t)⟩
  | harmonicHoldEnd k => exact ⟨_, rfl, running _ fun t => .ite _ (t.countHold_keepsSound k) (.refl t)⟩
  | stale =>
    exact ⟨_, rfl, running _ fun t => (t.removeEach_keepsSound _ _).trans (State.examineIfLeft_keepsSound _ t)⟩
  | selectExpired p => exact ⟨_, rfl, running _ fun t => t.expireSelection_keepsSound p⟩
  | supervisionTimerExpiry => exact ⟨_, rfl, running _ State.supervisionEnds_keepsSound⟩
  | saveComplete r => exact ⟨_, rfl, running _ fun t => t.saveEnds_keepsSound r⟩
  | powerOnReset => exact ⟨_, rfl, s.holdReset_keepsSound _⟩
  | pinReset => exact ⟨_, rfl, s.holdReset_keepsSound _⟩
  | releaseOfReset f => exact ⟨_, rfl, s.released_keepsSound f⟩
  | loadingEnd => exact ⟨_, rfl, running _ State.loadingEnds_keepsSound⟩
  | stepDerivation o => exact ⟨_, rfl, running _ fun t => t.derivation_keepsSound o⟩
  | zeroCrossingDetectorArming p => exact ⟨_, rfl, running _ fun t => t.armDetector_keepsSound p⟩

/-- Settles O2: every command keeps the queue of commands. -/
theorem everyCommandCompletes : Obligations.EveryCommandCompletes := by
  intro c s
  obtain ⟨t, next, kept⟩ := exec_keepsSound c s
  exact ⟨t, next, kept.pending⟩

/-! ## Steps -/

/-- What reads no queue of commands, is kept by the microsecond that passes at rest and by every command, is kept
by every step. -/
theorem step_invariant (P : State → Prop) (queue : ∀ s rest, P s → P { s with pending := rest })
    (passed : ∀ s n, P s → P (State.pass s n)) (command : ∀ c s t, P s → exec c s = .next t → P t) (s t : State)
    (h : P s) (next : step s = .next t) : P t := by
  unfold step at next
  split at next
  · obtain rfl := Host.Outcome.next.inj next
    unfold State.idle State.unlessHeld
    split
    · exact h
    · exact passed s 1 h
  · exact command _ _ t (queue s _ h) next

/-- An invariant that every command keeps on its own is kept by every step. -/
theorem step_invariant_of_keepsSound (P : State → Prop) (queue : ∀ s rest, P s → P { s with pending := rest })
    (passed : ∀ s n, P s → P (State.pass s n)) (kept : ∀ s t : State, s.KeepsSound t → P s → P t) (s t : State)
    (h : P s) (next : step s = .next t) : P t := by
  refine step_invariant P queue passed (fun c u v hu run => ?_) s t h next
  obtain ⟨w, answer, sound⟩ := exec_keepsSound c u
  rw [answer] at run
  obtain rfl := Host.Outcome.next.inj run
  exact kept u _ sound hu

/-- Settles O6: an Outcome Record takes a free slot, or the slot of the record it drops (R186). -/
theorem stepsKeepTheStoreSound : Obligations.StepsKeepTheStoreSound := fun s t h next =>
  step_invariant_of_keepsSound State.StoreSound (fun _ _ => id) (fun _ _ => id) (fun _ _ k => k.store) s t h next

/-- Settles O7: a change of state moves its step from the order of the old state to that of the new (R3, R7). -/
theorem stepsKeepTheOrdersSound : Obligations.StepsKeepTheOrdersSound := fun s t h next =>
  step_invariant_of_keepsSound State.OrdersSound (fun _ _ => id) (fun _ _ => id) (fun _ _ k => k.orders) s t h next

/-- Settles O9: a selection ends when its step leaves READY, its holder loses the authority or AUTO comes on (R162,
R163, R174). -/
theorem stepsKeepTheSelectionsSound : Obligations.StepsKeepTheSelectionsSound := fun s t h next =>
  step_invariant_of_keepsSound State.SelectionsSound (fun _ _ => id) (fun _ _ => id) (fun _ _ k => k.selections)
    s t h next

/-- Settles O10: a SET and a valid copy give values in range, and a monitor takes its new bounds with its new
settings (R132, R133, R195, R198). -/
theorem stepsKeepTheSettingsAndMonitorsSound : Obligations.StepsKeepTheSettingsAndMonitorsSound :=
  ⟨fun s t h next => step_invariant_of_keepsSound State.SettingsSound (fun _ _ => id) (fun _ _ => id)
      (fun _ _ k => k.settings) s t h next,
    fun s t h next => step_invariant_of_keepsSound State.MonitorsSound (fun _ _ => id) (fun _ _ => id)
      (fun _ _ k => k.monitors) s t h next⟩

/-- Settles O12: a period that is applied is clamped, and the counts saturate (R30, R83, R94, R120, R189). -/
theorem stepsKeepThePeriodAndCountsBounded : Obligations.StepsKeepThePeriodAndCountsBounded :=
  fun s t hp hc next =>
    ⟨step_invariant_of_keepsSound State.PeriodSound (fun _ _ => id) (fun _ _ => id) (fun _ _ k => k.period)
        s t hp next,
      step_invariant_of_keepsSound State.CountsSound (fun _ _ => id) (fun _ _ => id) (fun _ _ k => k.counts)
        s t hc next⟩

end Sys2Proof.Machine
end

section
/-!
SUPPORT. What the yard's invariants read (R2, R13, R21, R48, R79): the entries, the states with their discharge
times and contact-fault timers, the running pulse, BKT and whether derivation has taken place. Most operations
leave all of it, but for a coil that they de-energise.
-/
namespace Sys2Proof.Machine

/-- The queue and the coils are sound, and where `d` holds no energised step has discharge time left. -/
structure State.Yard (s : State) (d : Prop) : Prop where
  /-- the Operation Queue (R2, R48, R49) -/
  queue : s.QueueSound
  /-- the coils (R21) -/
  coils : s.CoilsSound
  /-- the discharge times (R79) -/
  discharge : d → s.DischargeSound

/-- A pulse of `t` was running in `s`, and no BKT has come up behind a close pulse (R21, R152). -/
def State.CoilsFrom (s t : State) : Prop :=
  ∀ p, t.ss.pulse = some p →
    s.ss.pulse = some p ∧ (p.coil = .closeCoil → s.bkt = false → t.bkt = false)

/-- The yard reads the same in both states, but for coils that are de-energised. -/
structure State.SameYard (s t : State) : Prop where
  /-- the entries of the Operation Queue -/
  entries : t.oq.entries = s.oq.entries
  /-- the states of the steps -/
  state : ∀ k, (t.stepRec k).state = (s.stepRec k).state
  /-- the discharge times -/
  discharge : ∀ k, (t.stepRec k).discharge = (s.stepRec k).discharge
  /-- the contact-fault timers -/
  timer : ∀ k, (t.stepRec k).faultTimer = (s.stepRec k).faultTimer
  /-- whether derivation has taken place -/
  derived : t.set.derived = s.set.derived
  /-- the coils -/
  coils : s.CoilsFrom t

theorem State.CoilsFrom.refl (s : State) : s.CoilsFrom s := fun _ h => ⟨h, fun _ => id⟩

theorem State.CoilsFrom.trans {s t u : State} (h : s.CoilsFrom t) (g : t.CoilsFrom u) : s.CoilsFrom u := by
  intro p hp
  obtain ⟨mid, bktMid⟩ := g p hp
  obtain ⟨start, bktStart⟩ := h p mid
  exact ⟨start, fun close off => bktMid close (bktStart close off)⟩

theorem State.CoilsFrom.of_eq {s t : State} (pulse : t.ss.pulse = s.ss.pulse) (backup : t.upu.backup = s.upu.backup) :
    s.CoilsFrom t := by
  intro p hp
  exact ⟨pulse ▸ hp, fun _ off => by rw [State.bkt, backup]; exact off⟩

theorem State.SameYard.refl (s : State) : s.SameYard s :=
  ⟨rfl, fun _ => rfl, fun _ => rfl, fun _ => rfl, rfl, .refl s⟩

theorem State.SameYard.trans {s t u : State} (h : s.SameYard t) (g : t.SameYard u) : s.SameYard u :=
  ⟨g.entries.trans h.entries, fun k => (g.state k).trans (h.state k),
    fun k => (g.discharge k).trans (h.discharge k), fun k => (g.timer k).trans (h.timer k),
    g.derived.trans h.derived, h.coils.trans g.coils⟩

theorem State.SameYard.ite {s t u : State} (c : Prop) [Decidable c] (h : s.SameYard t) (g : s.SameYard u) :
    s.SameYard (if c then t else u) := by
  split
  · exact h
  · exact g

/-- The in-flight entry is read from the entries alone. -/
theorem State.inFlight_congr {s t : State} (entries : t.oq.entries = s.oq.entries) : t.inFlight = s.inFlight := by
  simp [State.inFlight, entries]

/-- A coil that fits the entry in flight (R21). -/
def State.coilFits (s : State) (p : Pulse) : Prop :=
  (∃ e, s.inFlight = some e ∧ e.step = p.step ∧ coilOf e.kind = p.coil)
    ∧ (p.coil = .closeCoil → (s.stepRec p.step).discharge = 0 ∧ s.bkt = false)

/-- The coils are sound when the running pulse fits. -/
theorem State.coilsSound_iff (s : State) : s.CoilsSound ↔ ∀ p, s.ss.pulse = some p → s.coilFits p := by
  unfold State.CoilsSound State.coilFits
  cases e : s.ss.pulse with
  | none => simp
  | some p => simp

/-- What leaves the yard keeps it sound. -/
theorem State.SameYard.yard {s t : State} {d : Prop} (h : s.SameYard t) (y : s.Yard d) : t.Yard d := by
  obtain ⟨⟨nodup, flight, fits, moving, timers, derived⟩, coils, discharge⟩ := y
  have inFlight := State.inFlight_congr h.entries
  refine ⟨⟨h.entries ▸ nodup, h.entries ▸ flight, fun e he => ?_, fun k hk => ?_, fun k hk => ?_, fun off k => ?_⟩,
    ?_, fun hd k hk => ?_⟩
  · rw [h.state]
    exact fits e (h.entries ▸ he)
  · rw [inFlight]
    exact moving k (by simpa only [h.state] using hk)
  · rw [h.state]
    exact timers k (h.timer k ▸ hk)
  · rw [h.state]
    exact derived (h.derived ▸ off) k
  · rw [State.coilsSound_iff] at coils ⊢
    intro p hp
    obtain ⟨running, bkt⟩ := h.coils p hp
    obtain ⟨entry, close⟩ := coils p running
    refine ⟨inFlight ▸ entry, fun c => ?_⟩
    rw [h.discharge]
    exact ⟨(close c).1, bkt c (close c).2⟩
  · rw [h.discharge]
    exact discharge hd k (by simpa only [h.state] using hk)

/-! ## Operations that leave the yard -/

/-- What leaves the Step Supervisor, the queue, the backup record and the mark of derivation leaves the yard. -/
theorem State.SameYard.of_blocks {s t : State} (ss : t.ss = s.ss) (oq : t.oq = s.oq)
    (backup : t.upu.backup = s.upu.backup) (derived : t.set.derived = s.set.derived) : s.SameYard t := by
  have rec_ : ∀ k, t.stepRec k = s.stepRec k := fun k => by simp [State.stepRec, ss]
  exact ⟨by rw [oq], fun k => by rw [rec_], fun k => by rw [rec_], fun k => by rw [rec_], derived,
    .of_eq (by rw [ss]) backup⟩

/-- What writes ports, outcomes, authority, measurement, time and the AVC alone leaves the yard. -/
theorem State.onlyIn.sameYard {s t : State} {l : List Block} (h : s.onlyIn t l)
    (free : ∀ b ∈ l, b ≠ .ss ∧ b ≠ .oq ∧ b ≠ .upu ∧ b ≠ .set) : s.SameYard t := by
  have out : ∀ b, (b = .ss ∨ b = .oq ∨ b = .upu ∨ b = .set) → b ∉ l := by
    intro b hb hl
    have := free b hl
    simp_all
  have upu : t.upu = s.upu := h .upu (out _ (by simp))
  have set : t.set = s.set := h .set (out _ (by simp))
  exact .of_blocks (h .ss (out _ (by simp))) (h .oq (out _ (by simp))) (by rw [upu]) (by rw [set])

/-- A change of a Step Record that leaves its state, its discharge time and its timer leaves the yard. -/
theorem State.modStep_sameYard (s : State) (k : StepId) (f : StepRecord → StepRecord)
    (state : (f (s.stepRec k)).state = (s.stepRec k).state)
    (discharge : (f (s.stepRec k)).discharge = (s.stepRec k).discharge)
    (timer : (f (s.stepRec k)).faultTimer = (s.stepRec k).faultTimer) : s.SameYard (s.modStep k f) := by
  have records : ∀ j, (s.modStep k f).stepRec j = if j = k then f (s.stepRec k) else s.stepRec j := by
    intro j
    by_cases h : j = k
    · subst h; simp
    · simp [h]
  refine ⟨rfl, fun j => ?_, fun j => ?_, fun j => ?_, rfl, .of_eq rfl rfl⟩
  all_goals
    rw [records]
    split
    · subst j; assumption
    · rfl

theorem State.setFlags_sameYard (s : State) : s.SameYard s.setFlags := .of_blocks rfl rfl rfl rfl

theorem State.setFlagsIf_sameYard (s : State) (c : Bool) : s.SameYard (s.setFlagsIf c) :=
  .ite _ s.setFlags_sameYard (.refl s)

theorem State.insertOutcome_sameYard (s : State) (p : Port) (r : OutcomeRecord) :
    s.SameYard (s.insertOutcome p r) := (s.insertOutcome_onlyIn p r).sameYard (by decide)

theorem State.giveResult_sameYard (s : State) (o : Originator) (tag : Option Byte) (k : StepId)
    (kind : OpKind) (fast : Bool) (r : OutcomeResult) : s.SameYard (s.giveResult o tag k kind fast r) := by
  cases o with
  | portA => exact s.insertOutcome_sameYard _ _
  | portB => exact s.insertOutcome_sameYard _ _
  | harmonic => exact (s.detuneResult_onlyIn k r).sameYard (by decide)
  | avc | unbalance | external => exact .of_blocks rfl rfl rfl rfl

theorem State.entryResult_sameYard (s : State) (e : Entry) (r : OutcomeResult) :
    s.SameYard (s.entryResult e r) := s.giveResult_sameYard _ _ _ _ _ _

theorem State.markResult_sameYard (s : State) (k : StepId) (m : Mark) (r : OutcomeResult) :
    s.SameYard (s.markResult k m r) := s.giveResult_sameYard _ _ _ _ _ _

theorem State.markResultOpt_sameYard (s : State) (k : StepId) (m : Option Mark) (r : OutcomeResult) :
    s.SameYard (s.markResultOpt k m r) := by
  cases m with
  | none => exact .refl s
  | some m => exact s.markResult_sameYard k m r

/-- A coil that is de-energised leaves the rest of the yard. -/
theorem State.pulseOff_sameYard (s : State) : s.SameYard { s with ss := { s.ss with pulse := none } } :=
  ⟨rfl, fun _ => rfl, fun _ => rfl, fun _ => rfl, rfl, fun _ h => nomatch h⟩

theorem State.coilsOff_sameYard (s : State) (k : StepId) : s.SameYard (s.coilsOff k) := by
  unfold State.coilsOff
  split
  · exact .refl s
  · exact .ite _ s.pulseOff_sameYard (.refl s)

/-- After a step's coils are off no pulse of it runs (R21). -/
theorem State.coilsOff_pulse_ne (s : State) (k : StepId) (p : Pulse) (h : (s.coilsOff k).ss.pulse = some p) :
    p.step ≠ k := by
  unfold State.coilsOff at h
  split at h
  · rename_i none
    rw [none] at h
    cases h
  · split at h
    · cases h
    · rename_i q hq ne
      rw [hq] at h
      obtain rfl := Option.some_inj.mp h
      exact ne

/-- After the close coils are off the pulse that runs opens (R152). -/
theorem State.closeCoilOff_coilsFrom (s : State) (p : Pulse) (h : s.closeCoilOff.ss.pulse = some p) :
    s.ss.pulse = some p ∧ p.coil ≠ .closeCoil := by
  unfold State.closeCoilOff at h
  split at h
  · rename_i none
    rw [none] at h
    cases h
  · split at h
    · cases h
    · rename_i q hq ne
      rw [hq] at h
      obtain rfl := Option.some_inj.mp h
      exact ⟨hq, ne⟩

/-- Asserting BKT leaves the yard but for a close coil, which is de-energised (R151, R152). -/
theorem State.assertBkt_sameYard (s : State) (k : StepId) (b : BackupReason) (o : Originator) :
    s.SameYard (s.assertBkt k b o) := by
  have table := s.assertBkt_table k b o
  have set : (s.assertBkt k b o).set = s.set := s.assertBkt_onlyIn k b o .set (by decide)
  refine ⟨by rw [State.assertBkt_oq], fun k => by rw [table.stepRec], fun k => by rw [table.stepRec],
    fun k => by rw [table.stepRec], by rw [set], ?_⟩
  unfold State.assertBkt
  split
  · exact .refl s
  · intro p hp
    obtain ⟨running, opens⟩ := State.closeCoilOff_coilsFrom _ p hp
    exact ⟨running, fun close => absurd close opens⟩

theorem State.abortCapture_sameYard (s : State) : s.SameYard s.abortCapture := by
  unfold State.abortCapture
  split
  · exact .refl s
  · exact .trans (by exact .of_blocks rfl rfl rfl rfl) (State.insertOutcome_sameYard _ _ _)

theorem State.settleStart_sameYard (s : State) : s.SameYard s.settleStart :=
  .trans (by exact .of_blocks rfl rfl rfl rfl) (State.abortCapture_sameYard _)

theorem State.endSelection_sameYard (s : State) (p : Port) (r : OutcomeResult) :
    s.SameYard (s.endSelection p r) := (s.endSelection_onlyIn p r).sameYard (by decide)

theorem State.endSelectionOf_sameYard (s : State) (k : StepId) (r : OutcomeResult) :
    s.SameYard (s.endSelectionOf k r) := (s.endSelectionOf_onlyIn k r).sameYard (by decide)

theorem State.leaveReady_sameYard (s : State) (k : StepId) : s.SameYard (s.leaveReady k) :=
  (s.leaveReady_onlyIn k).sameYard (by decide)

theorem State.voidOther_sameYard (s : State) (k : StepId) : s.SameYard (s.voidOther k) :=
  (s.voidOther_spec k).1.sameYard (by decide)

theorem State.leaveClosed_sameYard (s : State) (k : StepId) (o : Option StepState) :
    s.SameYard (s.leaveClosed k o) := by
  have h := fun c => (s.setFlagsIf_sameYard c).trans (State.modStep_sameYard _ k
    (fun r => { r with alarmCount := 0, tripCount := 0, alarmFlag := false }) rfl rfl rfl)
  exact .ite _ (.ite _ ((h _).trans (State.abortCapture_sameYard _)) (h _)) (.refl s)

theorem State.latchCharged_sameYard (s : State) (k : StepId) : s.SameYard (s.latchCharged k) :=
  .ite _ (.refl s) ⟨rfl, fun _ => rfl, fun _ => rfl, fun _ => rfl, rfl, .of_eq rfl rfl⟩

theorem State.latchOpen_sameYard (s : State) (k : StepId) : s.SameYard (s.latchOpen k) :=
  .ite _ (.refl s) ⟨rfl, fun _ => rfl, fun _ => rfl, fun _ => rfl, rfl, .of_eq rfl rfl⟩

theorem State.endArmed_sameYard (s : State) : s.SameYard s.endArmed := by
  unfold State.endArmed
  split
  · exact .refl s
  · exact .of_blocks rfl rfl rfl rfl

theorem State.stopOperate_sameYard (s : State) : s.SameYard s.stopOperate :=
  ⟨rfl, fun _ => rfl, fun _ => rfl, fun _ => rfl, rfl, .of_eq rfl rfl⟩

theorem State.startOperate_sameYard (s : State) : s.SameYard s.startOperate :=
  ⟨rfl, fun _ => rfl, fun _ => rfl, fun _ => rfl, rfl, .of_eq rfl rfl⟩

theorem State.startFlight_sameYard (s : State) : s.SameYard s.startFlight :=
  ⟨rfl, fun _ => rfl, fun _ => rfl, fun _ => rfl, rfl, .of_eq rfl rfl⟩

theorem State.arm_sameYard (s : State) (k : StepId) (o : OpKind) (n : StepState) (c : Bool) :
    s.SameYard (s.arm k o n c) := .of_blocks rfl rfl rfl rfl

theorem State.countClose_sameYard (s : State) (k : StepId) : s.SameYard (s.countClose k) :=
  s.modStep_sameYard k _ rfl rfl rfl

theorem State.manualHoldAfter_sameYard (s : State) (e : Entry) : s.SameYard (s.manualHoldAfter e) := by
  unfold State.manualHoldAfter
  split
  · exact s.modStep_sameYard _ _ rfl rfl rfl
  · exact s.modStep_sameYard _ _ rfl rfl rfl
  · exact .refl s

theorem State.harmonicHoldAfter_sameYard (s : State) (e : Entry) : s.SameYard (s.harmonicHoldAfter e) :=
  .ite _ (s.modStep_sameYard _ _ rfl rfl rfl) (.refl s)

end Sys2Proof.Machine
end

section
/-!
SUPPORT. The yard while one step is being changed: sound but for that step, and what makes it sound again. A change
of state (R3), the removal of an entry (R48) and an examination (R60) keep the yard sound.
-/
namespace Sys2Proof.Machine

/-! ## One step being changed -/

/-- The yard is sound but for the step `k`. -/
structure State.YardBut (s : State) (k : StepId) (d : Prop) : Prop where
  /-- derivation has taken place -/
  derived : s.set.derived = true
  /-- one entry for each step at most -/
  nodup : (s.oq.entries.map (·.step)).Nodup
  /-- one entry in flight at most -/
  flight : s.oq.entries.countP (fun e => e.status = .inFlight) ≤ 1
  /-- the entries of the other steps fit -/
  fits : ∀ e ∈ s.oq.entries, e.step ≠ k →
    (s.stepRec e.step).state = some e.stepState ∧ e.markSound = true
  /-- another step that moves has its entry in flight -/
  moving : ∀ j ≠ k, ((s.stepRec j).state = some .closing ∨ (s.stepRec j).state = some .opening) →
    (s.inFlight.map (·.step)) = some j
  /-- the other contact-fault timers run in READY, DISCHARGING and CLOSED -/
  timers : ∀ j ≠ k, (s.stepRec j).faultTimer.isSome = true →
    (s.stepRec j).state = some .ready ∨ (s.stepRec j).state = some .discharging
      ∨ (s.stepRec j).state = some .closed
  /-- a pulse of another step fits -/
  coils : ∀ p, s.ss.pulse = some p → p.step ≠ k → s.coilFits p
  /-- the other energised steps have no discharge time left -/
  discharge : d → ∀ j ≠ k,
    ((s.stepRec j).state = some .ready ∨ (s.stepRec j).state = some .closing
        ∨ (s.stepRec j).state = some .closed ∨ (s.stepRec j).state = some .opening) →
      (s.stepRec j).discharge = 0

/-- A sound yard is sound but for any step. -/
theorem State.Yard.but {s : State} {d : Prop} (y : s.Yard d) (derived : s.set.derived = true) (k : StepId) :
    s.YardBut k d := by
  obtain ⟨⟨nodup, flight, fits, moving, timers, -⟩, coils, discharge⟩ := y
  exact ⟨derived, nodup, flight, fun e he _ => fits e he, fun j _ => moving j, fun j _ => timers j,
    fun p hp _ => s.coilsSound_iff.mp coils p hp, fun hd j _ => discharge hd j⟩

/-- The yard is sound again when the step's own entry, timer, pulse and discharge time fit its state. -/
theorem State.YardBut.yard {s : State} {k : StepId} {d : Prop} (b : s.YardBut k d)
    (fits : ∀ e ∈ s.oq.entries, e.step = k → (s.stepRec k).state = some e.stepState ∧ e.markSound = true)
    (moving : ((s.stepRec k).state = some .closing ∨ (s.stepRec k).state = some .opening) →
      (s.inFlight.map (·.step)) = some k)
    (timer : (s.stepRec k).faultTimer.isSome = true → (s.stepRec k).state = some .ready
      ∨ (s.stepRec k).state = some .discharging ∨ (s.stepRec k).state = some .closed)
    (coils : ∀ p, s.ss.pulse = some p → p.step = k → s.coilFits p)
    (discharge : d → ((s.stepRec k).state = some .ready ∨ (s.stepRec k).state = some .closing
      ∨ (s.stepRec k).state = some .closed ∨ (s.stepRec k).state = some .opening) →
      (s.stepRec k).discharge = 0) : s.Yard d := by
  refine ⟨⟨b.nodup, b.flight, fun e he => ?_, fun j => ?_, fun j => ?_, fun off => ?_⟩, ?_, fun hd j => ?_⟩
  · by_cases h : e.step = k
    · rw [h]; exact fits e he h
    · exact b.fits e he h
  · by_cases h : j = k
    · subst h; exact moving
    · exact b.moving j h
  · by_cases h : j = k
    · subst h; exact timer
    · exact b.timers j h
  · rw [b.derived] at off
    cases off
  · rw [State.coilsSound_iff]
    intro p hp
    by_cases h : p.step = k
    · exact coils p hp h
    · exact b.coils p hp h
  · by_cases h : j = k
    · subst h; exact discharge hd
    · exact b.discharge hd j h

/-- An operation on one step: the other records stay, and the step's entry leaves at most. -/
structure State.ActsOn (s t : State) (k : StepId) : Prop where
  /-- the entries -/
  entries : t.oq.entries = s.oq.entries ∨ t.oq.entries = s.oq.entries.filter (fun e => e.step ≠ k)
  /-- the other Step Records, as far as the yard reads them -/
  state : ∀ j ≠ k, (t.stepRec j).state = (s.stepRec j).state
  /-- the other discharge times -/
  discharge : ∀ j ≠ k, (t.stepRec j).discharge = (s.stepRec j).discharge
  /-- the other contact-fault timers -/
  timer : ∀ j ≠ k, (t.stepRec j).faultTimer = (s.stepRec j).faultTimer
  /-- whether derivation has taken place -/
  derived : t.set.derived = s.set.derived
  /-- the coils -/
  coils : s.CoilsFrom t

theorem State.SameYard.actsOn {s t : State} (h : s.SameYard t) (k : StepId) : s.ActsOn t k :=
  ⟨.inl h.entries, fun j _ => h.state j, fun j _ => h.discharge j, fun j _ => h.timer j, h.derived, h.coils⟩

theorem State.ActsOn.trans {s t u : State} {k : StepId} (h : s.ActsOn t k) (g : t.ActsOn u k) : s.ActsOn u k := by
  refine ⟨?_, fun j hj => (g.state j hj).trans (h.state j hj), fun j hj => (g.discharge j hj).trans (h.discharge j hj),
    fun j hj => (g.timer j hj).trans (h.timer j hj), g.derived.trans h.derived, h.coils.trans g.coils⟩
  rcases h.entries with e | e <;> rcases g.entries with e' | e' <;> rw [e', e]
  · exact .inl rfl
  · exact .inr rfl
  · exact .inr rfl
  · exact .inr (filter_step_twice _ _)

theorem State.modStep_actsOn (s : State) (k : StepId) (f : StepRecord → StepRecord) : s.ActsOn (s.modStep k f) k :=
  ⟨.inl rfl, fun j hj => by simp [hj], fun j hj => by simp [hj], fun j hj => by simp [hj], rfl, .of_eq rfl rfl⟩

theorem State.dropEntry_coilsFrom (s : State) (k : StepId) : s.CoilsFrom (s.dropEntry k) :=
  .trans (by exact .of_eq rfl rfl) (State.coilsOff_sameYard _ k).coils

theorem State.dropEntry_actsOn (s : State) (k : StepId) : s.ActsOn (s.dropEntry k) k := by
  have table := s.dropEntry_table k
  have set : (s.dropEntry k).set = s.set := s.dropEntry_onlyIn k .set (by decide)
  exact ⟨.inr (by rw [State.dropEntry_oq]), fun j _ => by rw [table.stepRec], fun j _ => by rw [table.stepRec],
    fun j _ => by rw [table.stepRec], by rw [set], s.dropEntry_coilsFrom k⟩

theorem State.fitEntry_actsOn (s : State) (k : StepId) : s.ActsOn (s.fitEntry k) k := by
  have same : s.ActsOn s k := (State.SameYard.refl s).actsOn k
  have h := fun e r => (s.dropEntry_actsOn k).trans ((State.entryResult_sameYard _ e r).actsOn k)
  unfold State.fitEntry
  split
  · exact same
  · split
    · exact same
    · split
      · split
        · exact same
        · exact h _ _
      · split
        · exact same
        · exact h _ _
      · split
        · exact same
        · split
          · exact (h _ _).trans ((State.assertBkt_sameYard _ _ _ _).actsOn k)
          · exact h _ _

/-- The parts of a change of state that come before the entry is looked at. -/
def State.entered (s : State) (k : StepId) (n : StepState) (l : Option LockoutCause) (f : Option FailureCause) :
    State :=
  (((s.writeState k n l f).rotate k n).setFlags).coilsOff k

theorem State.entered_actsOn (s : State) (k : StepId) (n : StepState) (l : Option LockoutCause)
    (f : Option FailureCause) : s.ActsOn (s.entered k n l f) k := by
  have rotated : (s.writeState k n l f).ActsOn (((s.writeState k n l f).rotate k n).setFlags) k :=
    ⟨.inl rfl, fun _ _ => rfl, fun _ _ => rfl, fun _ _ => rfl, rfl, .of_eq rfl rfl⟩
  exact ((s.modStep_actsOn k _).trans rotated).trans ((State.coilsOff_sameYard _ k).actsOn k)

/-- The entries and the state of the step before its entry is looked at. -/
theorem State.entered_spec (s : State) (k : StepId) (n : StepState) (l : Option LockoutCause)
    (f : Option FailureCause) :
    (s.entered k n l f).oq.entries = s.oq.entries ∧ ((s.entered k n l f).stepRec k).state = some n := by
  have rotated : (((s.writeState k n l f).rotate k n).setFlags).stepRec k = (s.writeState k n l f).stepRec k := rfl
  constructor
  · rw [State.entered, State.coilsOff_oq]; rfl
  · rw [State.entered, (State.coilsOff_table _ k).stepRec, rotated, State.writeState, State.stepRec_modStep_same]

/-- The parts that come after the entry is looked at leave the yard. -/
theorem State.enter_rest_sameYard (s : State) (k : StepId) (n : StepState) (l : Option LockoutCause)
    (f : Option FailureCause) : ((s.entered k n l f).fitEntry k).SameYard (s.enter k n l f) :=
  ((State.leaveReady_sameYard _ k).trans (State.voidOther_sameYard _ k)).trans (State.leaveClosed_sameYard _ k _)

theorem State.enter_actsOn (s : State) (k : StepId) (n : StepState) (l : Option LockoutCause)
    (f : Option FailureCause) : s.ActsOn (s.enter k n l f) k :=
  ((s.entered_actsOn k n l f).trans (State.fitEntry_actsOn _ k)).trans ((s.enter_rest_sameYard k n l f).actsOn k)

/-- No pulse of a step runs after its change of state (R3, R21). -/
theorem State.enter_pulse_ne (s : State) (k : StepId) (n : StepState) (l : Option LockoutCause)
    (f : Option FailureCause) (p : Pulse) (h : (s.enter k n l f).ss.pulse = some p) : p.step ≠ k := by
  have from_ : (s.entered k n l f).CoilsFrom (s.enter k n l f) :=
    (State.fitEntry_actsOn _ k).coils.trans (s.enter_rest_sameYard k n l f).coils
  exact State.coilsOff_pulse_ne _ k p (from_ p h).1

/-- The record that a change of state leaves, as far as the yard reads it (R2, R13, R79). -/
theorem State.enter_record (s : State) (k : StepId) (n : StepState) (l : Option LockoutCause)
    (f : Option FailureCause) :
    ((s.enter k n l f).stepRec k).state = some n
      ∧ ((s.enter k n l f).stepRec k).discharge = (if n = .closed then 0 else (s.stepRec k).discharge)
      ∧ ((s.enter k n l f).stepRec k).faultTimer =
          (if n = .ready ∨ n = .discharging ∨ n = .closed then (s.stepRec k).faultTimer else none) := by
  rw [(s.enter_spec k n l f).1 k, if_pos rfl]
  unfold recordAfter
  split <;> exact ⟨rfl, rfl, rfl⟩

/-! ## Lists of entries -/

/-- The first element that meets a test stays the first when it passes a filter. -/
theorem find?_filter_of_pass {α : Type} {l : List α} {p q : α → Bool} {a : α} (first : l.find? p = some a)
    (pass : q a = true) : (l.filter q).find? p = some a := by
  induction l with
  | nil => cases first
  | cons b l ih =>
    rw [List.find?_cons] at first
    cases hp : p b with
    | true =>
      simp only [hp, Option.some.injEq] at first
      subst first
      simp [pass, hp]
    | false =>
      simp only [hp] at first
      cases hq : q b with
      | true => simp [hq, hp, ih first]
      | false => simp [hq, ih first]

/-- With one entry in flight at most, an entry in flight is the one that is found. -/
theorem inFlight_unique {l : List Entry} (one : l.countP (fun e => e.status = .inFlight) ≤ 1) {e : Entry}
    (mem : e ∈ l) (flies : e.status = .inFlight) : l.find? (fun e => e.status = .inFlight) = some e := by
  induction l with
  | nil => cases mem
  | cons b l ih =>
    rw [List.find?_cons]
    by_cases hb : b.status = .inFlight
    · rcases List.mem_cons.mp mem with rfl | tail
      · simp [hb]
      · have : 0 < l.countP (fun e => e.status = .inFlight) :=
          List.countP_pos_iff.mpr ⟨e, tail, by simpa using flies⟩
        simp [hb] at one
        simp only [List.countP_pos_iff, decide_eq_true_eq] at this
        obtain ⟨x, hx, fx⟩ := this
        exact absurd fx (one x hx)
    · rcases List.mem_cons.mp mem with rfl | tail
      · exact absurd flies hb
      · simp [hb] at one ⊢
        exact ih one tail

/-- One entry for each step: entries of the same step are the same. -/
theorem entry_unique {l : List Entry} (nodup : (l.map (·.step)).Nodup) {a b : Entry} (ha : a ∈ l) (hb : b ∈ l)
    (same : a.step = b.step) : a = b :=
  List.inj_on_of_nodup_map nodup ha hb same

/-- The entry of a step is found among entries one for each step. -/
theorem State.entryOf_eq {s : State} (nodup : (s.oq.entries.map (·.step)).Nodup) {e : Entry}
    (mem : e ∈ s.oq.entries) : s.entryOf e.step = some e := by
  cases h : s.entryOf e.step with
  | none =>
    have := List.find?_eq_none.mp h e mem
    simp at this
  | some x =>
    have step : x.step = e.step := by simpa using List.find?_some h
    rw [entry_unique nodup (List.mem_of_find?_eq_some h) mem step]

theorem State.mem_of_entryOf {s : State} {k : StepId} {e : Entry} (h : s.entryOf k = some e) :
    e ∈ s.oq.entries ∧ e.step = k :=
  ⟨List.mem_of_find?_eq_some h, by simpa using List.find?_some h⟩

theorem State.entryOf_none_iff {s : State} {k : StepId} : s.entryOf k = none ↔ ∀ e ∈ s.oq.entries, e.step ≠ k := by
  simp [State.entryOf, List.find?_eq_none]

theorem State.mem_of_inFlight {s : State} {e : Entry} (h : s.inFlight = some e) :
    e ∈ s.oq.entries ∧ e.status = .inFlight :=
  ⟨List.mem_of_find?_eq_some h, by simpa using List.find?_some h⟩

theorem State.inFlight_none_iff {s : State} : s.inFlight = none ↔ ∀ e ∈ s.oq.entries, e.status = .waiting := by
  rw [State.inFlight, List.find?_eq_none]
  refine forall₂_congr fun e _ => ?_
  cases e.status <;> simp

/-- An operation on one step keeps the yard sound but for that step. -/
theorem State.YardBut.actsOn {s t : State} {k : StepId} {d : Prop} (b : s.YardBut k d) (h : s.ActsOn t k) :
    t.YardBut k d := by
  have sub : t.oq.entries.Sublist s.oq.entries := by
    rcases h.entries with e | e
    · rw [e]
    · rw [e]; exact List.filter_sublist
  have flies : ∀ e, s.inFlight = some e → e.step ≠ k → t.inFlight = some e := by
    intro e he ne
    rcases h.entries with same | removed
    · rw [State.inFlight_congr same, he]
    · rw [State.inFlight, removed]
      exact find?_filter_of_pass he (by simpa using ne)
  refine ⟨h.derived.trans b.derived, b.nodup.sublist (sub.map _), sub.countP_le.trans b.flight, ?_, ?_, ?_, ?_, ?_⟩
  · intro e he ne
    rw [h.state _ ne]
    exact b.fits e (sub.subset he) ne
  · intro j hj moves
    rw [h.state j hj] at moves
    obtain ⟨e, he, rfl⟩ := Option.map_eq_some_iff.mp (b.moving j hj moves)
    rw [flies e he hj]
    rfl
  · intro j hj run
    rw [h.state j hj]
    exact b.timers j hj (h.timer j hj ▸ run)
  · intro p hp ne
    obtain ⟨running, bkt⟩ := h.coils p hp
    obtain ⟨⟨e, he, step, coil⟩, close⟩ := b.coils p running ne
    refine ⟨⟨e, flies e he (step ▸ ne), step, coil⟩, fun c => ?_⟩
    rw [h.discharge _ ne]
    exact ⟨(close c).1, bkt c (close c).2⟩
  · intro hd j hj energised
    rw [h.state j hj] at energised
    rw [h.discharge j hj]
    exact b.discharge hd j hj energised

/-! ## The entry of the step whose state changes -/

/-- After the look at a step's waiting entry, an entry that stays was there and fits (R72). -/
theorem State.fitEntry_fits {s : State} {k : StepId} (nodup : (s.oq.entries.map (·.step)).Nodup)
    (waits : ∀ e ∈ s.oq.entries, e.step = k → e.status = .waiting) :
    ∀ e ∈ (s.fitEntry k).oq.entries, e.step = k →
      e ∈ s.oq.entries ∧ (s.stepRec k).state = some e.stepState := by
  intro e he step
  cases found : s.entryOf k with
  | none =>
    rw [State.fitEntry_none s k found] at he
    exact absurd step (State.entryOf_none_iff.mp found e he)
  | some x =>
    obtain ⟨mem, xstep⟩ := State.mem_of_entryOf found
    have wait := waits x mem xstep
    have dropped : e ∉ s.oq.entries.filter (fun e => e.step ≠ k) := by simp [step]
    have gone : ∀ r, e ∉ ((s.dropEntry k).entryResult x r).oq.entries := fun r => by
      rw [State.entryResult_oq, State.dropEntry_oq]
      exact dropped
    have stays : e ∈ s.oq.entries → e = x := fun h => entry_unique nodup h mem (step.trans xstep.symm)
    unfold State.fitEntry at he
    simp only [found, wait, reduceCtorEq, if_false] at he
    split at he
    · rename_i kind
      split at he
      · obtain rfl := stays he
        exact ⟨mem, by simp_all [Entry.stepState]⟩
      · exact absurd he (gone _)
    · rename_i kind
      split at he
      · obtain rfl := stays he
        exact ⟨mem, by simp_all [Entry.stepState]⟩
      · exact absurd he (gone _)
    · rename_i kind
      split at he
      · obtain rfl := stays he
        exact ⟨mem, by simp_all [Entry.stepState]⟩
      · split at he
        · rw [State.assertBkt_oq] at he
          exact absurd he (gone _)
        · exact absurd he (gone _)

/-- A change of state of a step whose entry waits, into a state at rest, makes the yard sound (R3, R72). -/
theorem State.YardBut.enter {s : State} {k : StepId} {d : Prop} (b : s.YardBut k d)
    (waits : ∀ e ∈ s.oq.entries, e.step = k → e.status = .waiting ∧ e.markSound = true) (n : StepState)
    (rest : n ≠ .closing ∧ n ≠ .opening) (l : Option LockoutCause) (f : Option FailureCause)
    (empty : d → n = .ready → (s.stepRec k).discharge = 0) : (s.enter k n l f).Yard d := by
  obtain ⟨state, discharge, timer⟩ := s.enter_record k n l f
  have same := s.enter_rest_sameYard k n l f
  obtain ⟨entriesEntered, stateEntered⟩ := s.entered_spec k n l f
  refine (b.actsOn (s.enter_actsOn k n l f)).yard ?_ ?_ ?_ ?_ ?_
  · intro e he step
    rw [same.entries] at he
    obtain ⟨mem, fit⟩ := State.fitEntry_fits (by rw [entriesEntered]; exact b.nodup)
      (by rw [entriesEntered]; exact fun e he step => (waits e he step).1) e he step
    rw [entriesEntered] at mem
    rw [stateEntered] at fit
    exact ⟨state.trans fit, (waits e mem step).2⟩
  · rw [state]
    rintro (h | h)
    · exact absurd (Option.some_inj.mp h) rest.1
    · exact absurd (Option.some_inj.mp h) rest.2
  · rw [timer, state]
    split
    · rename_i h
      intro _
      simpa using h
    · exact fun h => nomatch h
  · exact fun p hp step => absurd step (s.enter_pulse_ne k n l f p hp)
  · rw [state, discharge]
    rintro hd (h | h | h | h)
    · have ready := Option.some_inj.mp h
      rw [if_neg (by simp [ready])]
      exact empty hd ready
    · exact absurd (Option.some_inj.mp h) rest.1
    · rw [if_pos (Option.some_inj.mp h)]
    · exact absurd (Option.some_inj.mp h) rest.2

/-- In a sound queue the entry of a step that does not move waits. -/
theorem State.QueueSound.waits {s : State} (q : s.QueueSound) {k : StepId}
    (still : (s.stepRec k).state ≠ some .closing ∧ (s.stepRec k).state ≠ some .opening) :
    ∀ e ∈ s.oq.entries, e.step = k → e.status = .waiting ∧ e.markSound = true := by
  obtain ⟨-, -, fits, -⟩ := q
  rintro e he rfl
  obtain ⟨state, mark⟩ := fits e he
  refine ⟨?_, mark⟩
  rw [state] at still
  cases status : e.status with
  | waiting => rfl
  | inFlight => cases kind : e.kind <;> simp [Entry.stepState, status, kind] at still

/-- In a sound queue a step with a state has been derived. -/
theorem State.QueueSound.derived_of_state {s : State} (q : s.QueueSound) {k : StepId} {n : StepState}
    (state : (s.stepRec k).state = some n) : s.set.derived = true := by
  obtain ⟨-, -, -, -, -, before⟩ := q
  cases h : s.set.derived with
  | true => rfl
  | false => rw [before h k] at state; cases state

/-- A change of state of a step that does not move, into a state at rest, keeps the yard sound (R3). -/
theorem State.Yard.enter {s : State} {d : Prop} (y : s.Yard d) {k : StepId} {m : StepState}
    (state : (s.stepRec k).state = some m) (still : m ≠ .closing ∧ m ≠ .opening) (n : StepState)
    (rest : n ≠ .closing ∧ n ≠ .opening) (l : Option LockoutCause) (f : Option FailureCause)
    (empty : d → n = .ready → (s.stepRec k).discharge = 0) : (s.enter k n l f).Yard d := by
  refine (y.but (y.queue.derived_of_state state) k).enter (y.queue.waits ?_) n rest l f empty
  rw [state]
  simpa using still

/-- The removal of the entry of a step that does not move keeps the yard sound (R48). -/
theorem State.Yard.dropEntry {s : State} {d : Prop} (y : s.Yard d) {k : StepId} {m : StepState}
    (state : (s.stepRec k).state = some m) (still : m ≠ .closing ∧ m ≠ .opening) : (s.dropEntry k).Yard d := by
  have table := s.dropEntry_table k
  have noEntry : ∀ e ∈ (s.dropEntry k).oq.entries, e.step ≠ k := by
    rw [State.dropEntry_oq]
    simp
  refine ((y.but (y.queue.derived_of_state state) k).actsOn (s.dropEntry_actsOn k)).yard ?_ ?_ ?_ ?_ ?_
  · exact fun e he step => absurd step (noEntry e he)
  · rw [table.stepRec, state]
    rintro (h | h)
    · exact absurd (Option.some_inj.mp h) still.1
    · exact absurd (Option.some_inj.mp h) still.2
  · rw [table.stepRec]
    obtain ⟨-, -, -, -, timers, -⟩ := y.queue
    exact timers k
  · intro p hp step
    exact absurd step (State.coilsOff_pulse_ne _ k p hp)
  · rw [table.stepRec]
    exact fun hd => y.discharge hd k

end Sys2Proof.Machine
end

section
/-!
SUPPORT. Admission (R50 to R58), dispatch (R60 to R62), completion (R65 to R68), failure (R64, R69, R70) and the
removals of R71 to R74 keep the yard sound.
-/
namespace Sys2Proof.Machine

/-- What was a sound yard is one, with the discharge times or without them. -/
def State.KeepsYard (s t : State) : Prop := ∀ d, s.Yard d → t.Yard d

theorem State.KeepsYard.refl (s : State) : s.KeepsYard s := fun _ => id

theorem State.KeepsYard.trans {s t u : State} (h : s.KeepsYard t) (g : t.KeepsYard u) : s.KeepsYard u :=
  fun d => g d ∘ h d

theorem State.SameYard.keepsYard {s t : State} (h : s.SameYard t) : s.KeepsYard t := fun _ => h.yard

theorem State.KeepsYard.foldl {α : Type} (f : State → α → State) (h : ∀ (t : State) (a : α), t.KeepsYard (f t a))
    (l : List α) (s : State) : s.KeepsYard (l.foldl f s) := by
  induction l generalizing s with
  | nil => exact .refl s
  | cons a l ih => exact (h s a).trans (ih (f s a))

theorem State.KeepsYard.ite {s t u : State} (c : Prop) [Decidable c] (h : s.KeepsYard t) (g : s.KeepsYard u) :
    s.KeepsYard (if c then t else u) := by
  split
  · exact h
  · exact g

/-! ## New and changed entries -/

/-- Other entries on the same steps keep the yard sound when they are sound and the one in flight drives the same
coil. -/
theorem State.Yard.withEntries {s t : State} {d : Prop} (y : s.Yard d) (ss : t.ss = s.ss) (upu : t.upu = s.upu)
    (set : t.set = s.set) (nodup : (t.oq.entries.map (·.step)).Nodup)
    (flight : t.oq.entries.countP (fun e => e.status = .inFlight) ≤ 1)
    (fits : ∀ e ∈ t.oq.entries, (s.stepRec e.step).state = some e.stepState ∧ e.markSound = true)
    (flies : ∀ e, s.inFlight = some e →
      ∃ x, t.inFlight = some x ∧ x.step = e.step ∧ coilOf x.kind = coilOf e.kind) : t.Yard d := by
  obtain ⟨⟨-, -, -, moving, timers, derived⟩, coils, discharge⟩ := y
  have records : ∀ k, t.stepRec k = s.stepRec k := fun k => by simp [State.stepRec, ss]
  refine ⟨⟨nodup, flight, fun e he => records _ ▸ fits e he, fun k moves => ?_, fun k => records k ▸ timers k,
    fun off k => records k ▸ derived (set ▸ off) k⟩, ?_, fun hd k => records k ▸ discharge hd k⟩
  · obtain ⟨e, he, rfl⟩ := Option.map_eq_some_iff.mp (moving k (records k ▸ moves))
    obtain ⟨x, hx, step, -⟩ := flies e he
    rw [hx, Option.map_some, step]
  · rw [State.coilsSound_iff] at coils ⊢
    intro p hp
    obtain ⟨⟨e, he, step, coil⟩, close⟩ := coils p (ss ▸ hp)
    obtain ⟨x, hx, xstep, xcoil⟩ := flies e he
    refine ⟨⟨x, hx, xstep.trans step, xcoil.trans coil⟩, fun c => ?_⟩
    rw [records, State.bkt, upu]
    exact close c

/-- A posting that waits for its step in the right state joins a sound queue (R50). -/
theorem State.Yard.admitNew {s : State} {d : Prop} (y : s.Yard d) {p : Posting} (free : s.entryOf p.step = none)
    (fits : (s.stepRec p.step).state = some (if p.kind = .closeOp then .ready else .closed)) :
    (s.admitNew p).Yard d := by
  obtain ⟨nodup, flight, fit, -⟩ := y.queue
  have steps : ∀ e ∈ s.oq.entries, e.step ≠ p.step := State.entryOf_none_iff.mp free
  refine y.withEntries rfl rfl rfl ?_ ?_ ?_ ?_
  · simp only [State.admitNew, List.map_append, List.map_cons, List.map_nil]
    refine nodup.append (List.nodup_singleton _) ?_
    simpa using steps
  · simpa [State.admitNew, List.countP_append] using flight
  · intro e he
    rcases List.mem_append.mp he with old | new
    · exact fit e old
    · obtain rfl := List.mem_singleton.mp new
      refine ⟨fits.trans ?_, rfl⟩
      cases kind : p.kind <;> simp [Entry.stepState]
  · intro e he
    exact ⟨e, by simp [State.inFlight, State.admitNew, List.find?_append, show s.oq.entries.find? _ = some e from he],
      rfl, rfl⟩

/-- A changed entry that keeps its step, its status, the coil it drives and its soundness keeps the yard sound
(R55, R57, R58). -/
theorem State.Yard.modEntry {s : State} {d : Prop} (y : s.Yard d) {k : StepId} {f : Entry → Entry}
    (kept : ∀ e ∈ s.oq.entries, e.step = k → (f e).step = e.step ∧ (f e).status = e.status
      ∧ (f e).stepState = e.stepState ∧ coilOf (f e).kind = coilOf e.kind
      ∧ (e.markSound = true → (f e).markSound = true)) : (s.modEntry k f).Yard d := by
  obtain ⟨nodup, flight, fits, -⟩ := y.queue
  have one : ∀ e ∈ s.oq.entries, ∃ x, x = (if e.step = k then f e else e) ∧ x.step = e.step
      ∧ x.status = e.status ∧ x.stepState = e.stepState ∧ coilOf x.kind = coilOf e.kind
      ∧ (e.markSound = true → x.markSound = true) := by
    intro e he
    refine ⟨_, rfl, ?_⟩
    split
    · exact kept e he ‹_›
    · exact ⟨rfl, rfl, rfl, rfl, id⟩
  have entries : (s.modEntry k f).oq.entries = s.oq.entries.map (fun e => if e.step = k then f e else e) := rfl
  refine y.withEntries rfl rfl rfl ?_ ?_ ?_ ?_
  · rw [entries, List.map_map]
    refine (List.map_congr_left fun e he => ?_) ▸ nodup
    obtain ⟨x, rfl, step, -⟩ := one e he
    exact step.symm
  · rw [entries, List.countP_map]
    refine (List.countP_congr fun e he => ?_).le.trans flight
    obtain ⟨x, rfl, -, status, -⟩ := one e he
    simp [status]
  · intro x hx
    rw [entries] at hx
    obtain ⟨e, he, rfl⟩ := List.mem_map.mp hx
    obtain ⟨x, rfl, step, -, state, -, mark⟩ := one e he
    obtain ⟨fit, sound⟩ := fits e he
    rw [step, state]
    exact ⟨fit, mark sound⟩
  · intro e he
    obtain ⟨mem, -⟩ := State.mem_of_inFlight he
    obtain ⟨x, rfl, step, -, -, coil, -⟩ := one e mem
    refine ⟨_, ?_, step, coil⟩
    have found : ∀ l : List Entry, (∀ e ∈ l, (if e.step = k then f e else e).status = e.status) →
        l.find? (fun e => e.status = .inFlight) = some e →
        (l.map (fun e => if e.step = k then f e else e)).find? (fun e => e.status = .inFlight) =
          some (if e.step = k then f e else e) := by
      intro l status hl
      rw [List.find?_map, show ((fun e : Entry => decide (e.status = .inFlight)) ∘
        fun e => if e.step = k then f e else e) = fun e => decide ((if e.step = k then f e else e).status = .inFlight)
        from rfl]
      have same : l.find? (fun e => decide ((if e.step = k then f e else e).status = .inFlight)) = some e := by
        rw [← hl]
        exact List.find?_congr fun x hx => by rw [status x hx]
      rw [same]
      rfl
    refine found _ (fun a ha => ?_) he
    obtain ⟨_, rfl, -, status, -⟩ := one a ha
    exact status

/-- A mark that is an OPEN or a TRIP, on an entry in flight, keeps the yard sound (R49, R57, R58). -/
theorem State.Yard.setMark {s : State} {d : Prop} (y : s.Yard d) {p : Posting} {e : Entry}
    (entry : s.entryOf p.step = some e) (flies : e.status = .inFlight) (kind : p.kind ≠ .closeOp) :
    (s.setMark p).Yard d := by
  obtain ⟨mem, step⟩ := State.mem_of_entryOf entry
  obtain ⟨nodup, -⟩ := y.queue
  refine y.modEntry fun x hx xstep => ?_
  obtain rfl := entry_unique nodup hx mem (xstep.trans step.symm)
  exact ⟨rfl, rfl, rfl, rfl, fun _ => by simp [Entry.markSound, flies, markOf, kind]⟩

/-- A posting (R50 to R58) keeps the yard sound. -/
theorem State.post_keepsYard (s : State) (p : Posting) : s.KeepsYard (s.post p).1 := by
  intro d y
  unfold State.post
  split
  · exact y
  · split
    · rename_i free
      split
      · rename_i kind
        unfold State.postClose
        dsimp only
        split_ifs with _ ready
        case neg => exact y.admitNew free (by simpa [kind] using ready)
        all_goals exact y
      · rename_i kind
        unfold State.postOpen
        split
        · rename_i closed
          exact y.admitNew free (by simp [kind, closed])
        all_goals exact y
      · rename_i kind
        have locked : ∀ m : StepState, (s.stepRec p.step).state = some m → m = .ready ∨ m = .discharging →
            (s.enter p.step .lockout (some (lockoutCauseOf p.originator)) none).Yard d := fun m hm rest =>
          y.enter hm (by rcases rest with rfl | rfl <;> simp) _ (by simp) _ _ (by simp)
        unfold State.postTrip
        split
        · rename_i closed
          exact y.admitNew free (by simp [kind, closed])
        · exact locked .ready ‹_› (.inl rfl)
        · exact locked .discharging ‹_› (.inr rfl)
        · exact y
        · split
          · exact y
          · exact (s.assertBkt_sameYard _ _ _).yard y
        · exact y
    · rename_i e entry
      obtain ⟨mem, step⟩ := State.mem_of_entryOf entry
      obtain ⟨nodup, -, fits, -⟩ := id y.queue
      have state := step ▸ (fits e mem).1
      split
      · rename_i status kind
        have ready : (s.stepRec p.step).state = some .ready := by simpa [Entry.stepState, status, kind] using state
        have dropped : (s.dropEntry p.step).Yard d := y.dropEntry ready (by simp)
        unfold State.postOnWaitingClose
        split
        · exact (State.entryResult_sameYard _ _ _).yard dropped
        · refine (State.entryResult_sameYard _ _ _).yard (dropped.enter (m := .ready) ?_ (by simp) _ (by simp) _ _
            (by simp))
          rw [(s.dropEntry_table p.step).stepRec, ready]
        · exact y
      · rename_i status kind
        unfold State.postOnWaitingOpen
        split
        · refine (State.entryResult_sameYard _ _ _).yard (y.modEntry fun x hx xstep => ?_)
          obtain rfl := entry_unique nodup hx mem (xstep.trans step.symm)
          exact ⟨rfl, rfl, by simp [Entry.stepState, status, kind], by simp [coilOf, kind], id⟩
        all_goals exact y
      · unfold State.postOnWaitingTrip
        split <;> exact y
      · rename_i status kind
        unfold State.postOnFlightClose
        split
        · exact y
        · rename_i post
          split
          · exact y.setMark entry status (by simp [post])
          · exact y
        · rename_i post
          split
          · exact y.setMark entry status (by simp [post])
          · split
            · exact y
            · exact (State.markResult_sameYard _ _ _ _).yard (y.setMark entry status (by simp [post]))
      · rename_i status _
        unfold State.postOnFlightOpen
        split
        · exact y
        · exact y
        · rename_i post
          split
          · exact y.setMark entry status (by simp [post])
          · exact y

/-! ## Dispatch (R60 to R62) -/

/-- A pulse asked for the entry in flight keeps the yard sound: a close pulse is refused where it must not run
(R21, R22). -/
theorem State.Yard.askPulse {s : State} {d : Prop} (y : s.Yard d) {e : Entry} (flies : s.inFlight = some e) :
    (s.askPulse e.step e.kind).Yard d := by
  unfold State.askPulse
  split
  · exact (s.coilsOff_sameYard _).yard y
  · rename_i free
    split
    · exact (s.coilsOff_sameYard _).yard y
    · refine ⟨y.queue, ?_, y.discharge⟩
      rw [State.coilsSound_iff]
      intro p hp
      obtain rfl := Option.some_inj.mp hp
      refine ⟨⟨e, flies, rfl, rfl⟩, fun close => ?_⟩
      have kind : e.kind = .closeOp := by
        cases h : e.kind <;> simp [coilOf, h] at close ⊢
      have allowed : (s.stepRec e.step).discharge = 0 ∧ s.bkt = false := by simpa [kind] using free
      exact allowed

/-- With nothing in flight no coil is energised (R21). -/
theorem State.CoilsSound.pulse_none {s : State} (c : s.CoilsSound) (idle : s.inFlight = none) :
    s.ss.pulse = none := by
  cases h : s.ss.pulse with
  | none => rfl
  | some p =>
    obtain ⟨⟨e, he, -⟩, -⟩ := s.coilsSound_iff.mp c p h
    rw [idle] at he
    cases he

/-- Entries one for each step, of which only those of one step fly, have one in flight at most. -/
theorem countP_inFlight_le_one {l : List Entry} {k : StepId} (nodup : (l.map (·.step)).Nodup)
    (only : ∀ e ∈ l, e.status = .inFlight → e.step = k) : l.countP (fun e => e.status = .inFlight) ≤ 1 := by
  calc l.countP (fun e => e.status = .inFlight)
      ≤ l.countP (fun e => e.step == k) := by
        refine List.countP_mono_left fun e he flies => ?_
        simpa using only e he (by simpa using flies)
    _ = (l.map (·.step)).count k := by rw [List.count, List.countP_map]; rfl
    _ ≤ 1 := List.nodup_iff_count_le_one.mp nodup k

/-- The entry as it flies (R62). -/
def Entry.flying (e : Entry) : Entry := { e with status := .inFlight }

/-- Taking a waiting entry with nothing in flight leaves the yard sound but for its step (R62). -/
theorem State.Yard.takeEntry {s : State} {d : Prop} (y : s.Yard d) {e : Entry} (mem : e ∈ s.oq.entries)
    (idle : s.inFlight = none) :
    (s.takeEntry e).YardBut e.step d ∧ (s.takeEntry e).inFlight = some e.flying
      ∧ e.flying ∈ (s.takeEntry e).oq.entries := by
  obtain ⟨nodup, -, fits, moving, timers, -⟩ := id y.queue
  have waits := State.inFlight_none_iff.mp idle
  have entries : (s.takeEntry e).oq.entries =
      s.oq.entries.map (fun x => if x.step = e.step then { x with status := .inFlight } else x) := rfl
  have steps : (s.takeEntry e).oq.entries.map (·.step) = s.oq.entries.map (·.step) := by
    rw [entries, List.map_map]
    refine List.map_congr_left fun x _ => ?_
    simp only [Function.comp]
    split <;> rfl
  have others : ∀ x ∈ (s.takeEntry e).oq.entries, x.step ≠ e.step → x ∈ s.oq.entries := by
    intro x hx ne
    rw [entries] at hx
    obtain ⟨z, hz, rfl⟩ := List.mem_map.mp hx
    split at ne
    · exact absurd ‹_› ne
    · rename_i h
      rwa [if_neg h]
  have flies : ∀ x ∈ (s.takeEntry e).oq.entries, x.status = .inFlight → x.step = e.step := by
    intro x hx status
    by_contra ne
    rw [waits x (others x hx ne)] at status
    cases status
  have member : e.flying ∈ (s.takeEntry e).oq.entries := by
    rw [entries]
    exact List.mem_map.mpr ⟨e, mem, if_pos rfl⟩
  have nodup' : ((s.takeEntry e).oq.entries.map (·.step)).Nodup := steps ▸ nodup
  have one := countP_inFlight_le_one nodup' flies
  have pulse : (s.takeEntry e).ss.pulse = none := y.coils.pulse_none idle
  refine ⟨⟨y.queue.derived_of_state (fits e mem).1, nodup', one, fun x hx ne => fits x (others x hx ne), ?_,
    fun j _ => timers j, ?_, fun hd j _ => y.discharge hd j⟩, inFlight_unique one member rfl, member⟩
  · intro j _ moves
    have := moving j moves
    rw [idle] at this
    cases this
  · intro p hp
    rw [pulse] at hp
    cases hp

/-- Dispatch of a waiting entry with nothing in flight keeps the yard sound (R62). -/
theorem State.Yard.dispatchEntry {s : State} {d : Prop} (y : s.Yard d) {e : Entry} (mem : e ∈ s.oq.entries)
    (wait : e.status = .waiting) (idle : s.inFlight = none) : (s.dispatchEntry e).Yard d := by
  obtain ⟨but, flies, member⟩ := y.takeEntry mem idle
  obtain ⟨-, -, fits, -⟩ := id y.queue
  obtain ⟨before, mark⟩ := fits e mem
  have entry : (s.takeEntry e).entryOf e.step = some e.flying := State.entryOf_eq but.nodup member
  have oq : ((s.takeEntry e).enter e.step (movingState e.kind) none none).oq = (s.takeEntry e).oq :=
    State.enter_oq_inFlight _ e.step _ _ _ e.flying entry rfl
  obtain ⟨state, discharge, timer⟩ := (s.takeEntry e).enter_record e.step (movingState e.kind) none none
  have moves : movingState e.kind ≠ .closed ∧ movingState e.kind ≠ .ready ∧ movingState e.kind ≠ .discharging := by
    cases e.kind <;> simp [movingState]
  have entered : ((s.takeEntry e).enter e.step (movingState e.kind) none none).Yard d := by
    refine (but.actsOn (State.enter_actsOn _ e.step _ _ _)).yard ?_ ?_ ?_ ?_ ?_
    · intro x hx step
      rw [oq] at hx
      obtain rfl := entry_unique but.nodup hx member step
      refine ⟨state.trans ?_, ?_⟩
      · cases kind : e.kind <;> simp [movingState, Entry.stepState, Entry.flying, kind]
      · cases m : e.mark with
        | none => simp [Entry.markSound, Entry.flying, m]
        | some m' => simp [Entry.markSound, m, wait] at mark
    · intro _
      rw [State.inFlight_congr (congrArg OqState.entries oq), flies]
      rfl
    · rw [timer, if_neg (by simp [moves])]
      exact fun h => nomatch h
    · exact fun p hp step => absurd step (State.enter_pulse_ne _ _ _ _ _ p hp)
    · intro hd _
      rw [discharge, if_neg moves.1]
      refine y.discharge hd e.step ?_
      rw [before]
      rcases e.stepState_cases with h | h | h | h <;> simp [h]
  have started := (State.startFlight_sameYard _).yard entered
  refine (State.startOperate_sameYard _).yard (started.askPulse (e := e.flying) ?_)
  exact (State.inFlight_congr (congrArg OqState.entries oq)).trans flies

/-- An examination of dispatch (R60) keeps the yard sound. -/
theorem State.examine_keepsYard (s : State) : s.KeepsYard s.examine := by
  intro d y
  rcases s.examine_cases with h | ⟨e, idle, chosen, h⟩
  · rw [h]; exact y
  · obtain ⟨mem, wait⟩ := s.chooseEntry_waits e chosen
    rw [h]
    exact y.dispatchEntry mem wait idle

theorem State.examineIfLeft_keepsYard (s b : State) : s.KeepsYard (s.examineIfLeft b) :=
  .ite _ (.refl s) s.examine_keepsYard

/-- An admission event (R50) keeps the yard sound. -/
theorem State.admitOne_keepsYard (s : State) (p : Posting) : s.KeepsYard (s.admitOne p).1 :=
  (s.post_keepsYard p).trans (State.examine_keepsYard _)

/-- An ALL expansion (R59) keeps the yard sound. -/
theorem expandOne_keepsYard (o : Originator) (tag : Option Byte) (fast : Bool) (l : List StepId)
    (acc : State × List PostAnswer) : acc.1.KeepsYard (l.foldl (expandOne o tag fast) acc).1 := by
  induction l generalizing acc with
  | nil => exact .refl acc.1
  | cons k l ih => exact (acc.1.post_keepsYard _).trans (ih (expandOne o tag fast acc k))

theorem State.admitAll_keepsYard (s : State) (o : Originator) (tag : Option Byte) (fast : Bool) :
    s.KeepsYard (s.admitAll o tag fast).1 := by
  have expanded : s.KeepsYard (s.expandAll o tag fast).1 := expandOne_keepsYard o tag fast allSteps (s, [])
  simp only [State.admitAll]
  exact expanded.trans (State.examine_keepsYard _)

end Sys2Proof.Machine
end

section
/-!
SUPPORT. Completion (R63 to R68), failure (R64, R69, R70), removals (R71 to R74), the contacts (1.5) and the
external trip (R19, R149) keep the yard sound.
-/
namespace Sys2Proof.Machine

/-! ## Completion -/

/-- The removal of the entry in flight leaves the yard sound but for its step, which has no entry left. -/
theorem State.Yard.endFlight {s : State} {d : Prop} (y : s.Yard d) {e : Entry} (mem : e ∈ s.oq.entries) :
    (s.dropEntry e.step).YardBut e.step d ∧ ∀ x ∈ (s.dropEntry e.step).oq.entries, x.step ≠ e.step := by
  obtain ⟨-, -, fits, -⟩ := id y.queue
  refine ⟨(y.but (y.queue.derived_of_state (fits e mem).1) e.step).actsOn (s.dropEntry_actsOn _), ?_⟩
  rw [State.dropEntry_oq]
  simp

/-- A step without an entry takes a state at rest in a yard sound but for it (R3). -/
theorem State.YardBut.enterFree {s : State} {k : StepId} {d : Prop} (b : s.YardBut k d)
    (free : ∀ x ∈ s.oq.entries, x.step ≠ k) (n : StepState)
    (rest : n ≠ .closing ∧ n ≠ .opening ∧ n ≠ .ready) (l : Option LockoutCause) (f : Option FailureCause) :
    (s.enter k n l f).Yard d :=
  b.enter (fun e he step => absurd step (free e he)) n ⟨rest.1, rest.2.1⟩ l f (fun _ h => absurd h rest.2.2)

/-- A closed step without an entry makes a yard sound that is sound but for it. -/
theorem State.YardBut.closed {s : State} {k : StepId} {d : Prop} (b : s.YardBut k d)
    (free : ∀ x ∈ s.oq.entries, x.step ≠ k) (state : (s.stepRec k).state = some .closed)
    (discharge : (s.stepRec k).discharge = 0) (pulse : ∀ p, s.ss.pulse = some p → p.step ≠ k) : s.Yard d := by
  refine b.yard (fun e he step => absurd step (free e he)) ?_ (fun _ => ?_)
    (fun p hp step => absurd step (pulse p hp)) fun _ _ => discharge
  · simp [state]
  · simp [state]

/-- The entry that a conversion puts at the head of the list (R66). -/
def State.converted (s : State) (k : StepId) (m : Mark) : Entry :=
  { kind := m.kind, step := k, originator := m.originator, tag := m.tag, admittedAt := s.clock.uptime,
    status := .waiting, mark := none, fast := m.fast }

/-- A conversion is a removal and a new entry at the head (R66). -/
theorem State.convert_eq (s : State) (k : StepId) (m : Mark) :
    s.convert k m =
      { s.dropEntry k with
        oq := { (s.dropEntry k).oq with entries := s.converted k m :: (s.dropEntry k).oq.entries } } := by
  unfold State.convert State.dropEntry State.coilsOff State.converted
  cases s.ss.pulse with
  | none => rfl
  | some p => dsimp only; split <;> rfl

/-- A conversion of a closed step's close into an OPEN or a TRIP keeps the yard sound (R66). -/
theorem State.Yard.convert {s : State} {d : Prop} {k : StepId} (m : Mark) (y : (s.dropEntry k).Yard d)
    (state : ((s.dropEntry k).stepRec k).state = some .closed) (kind : m.kind ≠ .closeOp) : (s.convert k m).Yard d := by
  obtain ⟨nodup, flight, fits, -⟩ := id y.queue
  rw [State.convert_eq]
  refine y.withEntries rfl rfl rfl ?_ ?_ ?_ ?_
  · simp only [List.map_cons, List.nodup_cons]
    refine ⟨?_, nodup⟩
    rw [State.dropEntry_oq]
    simp [State.converted]
  · simpa [State.converted] using flight
  · intro e he
    rcases List.mem_cons.mp he with rfl | old
    · refine ⟨state.trans ?_, rfl⟩
      cases h : m.kind <;> simp [State.converted, Entry.stepState, h] at kind ⊢
    · exact fits e old
  · intro e he
    exact ⟨e, by simpa [State.inFlight, State.converted] using he, rfl, rfl⟩

/-- A completed CLOSE (R65, R66) keeps the yard sound. -/
theorem State.Yard.completeClose {s : State} {d : Prop} (y : s.Yard d) {e : Entry} (flies : s.inFlight = some e) :
    (s.completeClose e).Yard d := by
  obtain ⟨mem, status⟩ := State.mem_of_inFlight flies
  obtain ⟨-, -, fits, -⟩ := id y.queue
  obtain ⟨before, mark⟩ := fits e mem
  have entered := ((((s.endArmed_sameYard.trans (State.stopOperate_sameYard _)).actsOn e.step).trans
    (State.enter_actsOn _ e.step .closed none none)))
  obtain ⟨state, discharge, -⟩ := (s.endArmed.stopOperate).enter_record e.step .closed none none
  have pulse := (s.endArmed.stopOperate).enter_pulse_ne e.step .closed none none
  have after := (State.countClose_sameYard ((s.endArmed.stopOperate).enter e.step .closed none none) e.step).trans
    (State.entryResult_sameYard _ e .done)
  generalize ht : (((s.endArmed.stopOperate).enter e.step .closed none none).countClose e.step).entryResult e .done = t
    at after
  have but : t.YardBut e.step d := (y.but (y.queue.derived_of_state before) e.step).actsOn
    (entered.trans (after.actsOn e.step))
  have table := t.dropEntry_table e.step
  have dropped : (t.dropEntry e.step).Yard d := by
    refine (but.actsOn (t.dropEntry_actsOn _)).closed ?_ ?_ ?_ ?_
    · rw [State.dropEntry_oq]; simp
    · rw [table.stepRec, after.state, state]
    · rw [table.stepRec, after.discharge, discharge, if_pos rfl]
    · exact fun p hp => pulse p (after.coils p (t.dropEntry_coilsFrom _ p hp).1).1
  have ended : ∀ (u : State) (c : Bool), u.Yard d →
      ((((u.settleStart).arm e.step e.kind .closed c).manualHoldAfter e).examine).Yard d := fun u c hu =>
    State.examine_keepsYard _ d ((State.manualHoldAfter_sameYard _ e).yard
      ((State.arm_sameYard _ _ _ _ _).yard (u.settleStart_sameYard.yard hu)))
  unfold State.completeClose
  dsimp only
  rw [ht]
  split
  · exact ended _ _ dropped
  · rename_i m hm
    refine ended _ _ (dropped.convert m ?_ ?_)
    · rw [table.stepRec, after.state, state]
    · simp [Entry.markSound, hm] at mark
      exact mark.2

/-- The end of the operation in flight: its entry goes, and its step takes a state at rest (R67, R69, R70). -/
theorem State.Yard.endInFlight {s : State} {d : Prop} (y : s.Yard d) {e : Entry} (mem : e ∈ s.oq.entries)
    (n : StepState) (rest : n ≠ .closing ∧ n ≠ .opening ∧ n ≠ .ready) (l : Option LockoutCause)
    (f : Option FailureCause) : ((s.dropEntry e.step).enter e.step n l f).Yard d :=
  (y.endFlight mem).1.enterFree (y.endFlight mem).2 n rest l f

theorem openEndState_rest (e : Entry) :
    openEndState e ≠ .closing ∧ openEndState e ≠ .opening ∧ openEndState e ≠ .ready := by
  unfold openEndState
  split <;> simp

/-- A completed OPEN or TRIP (R67) keeps the yard sound. -/
theorem State.Yard.completeOpen {s : State} {d : Prop} (y : s.Yard d) {e : Entry} (flies : s.inFlight = some e) :
    (s.completeOpen e).Yard d := by
  obtain ⟨mem, -⟩ := State.mem_of_inFlight flies
  have stopped := s.endArmed_sameYard.trans (State.stopOperate_sameYard _)
  obtain ⟨but, free⟩ := (stopped.yard y).endFlight (e := e) (stopped.entries ▸ mem)
  have opened := (but.actsOn (State.modStep_actsOn _ e.step _) : (State.loadDischarge _ e.step).YardBut _ _).enterFree
    free (openEndState e) (openEndState_rest e) (openEndCause e) none
  have told := fun t : State => ((t.entryResult_sameYard e .done).trans
    (State.markResultOpt_sameYard _ e.step (tripMark e) .done)).trans (State.settleStart_sameYard _)
  exact State.examine_keepsYard _ d (((((told _).trans (State.arm_sameYard _ _ _ _ _)).trans
    (State.harmonicHoldAfter_sameYard _ _)).trans (State.manualHoldAfter_sameYard _ _)).yard opened)

theorem State.completeIfTarget_keepsYard (s : State) (k : StepId) : s.KeepsYard (s.completeIfTarget k) := by
  intro d y
  unfold State.completeIfTarget
  split
  · exact y
  · rename_i e flies
    split
    · split
      · exact y.completeClose flies
      · exact y.completeOpen flies
    · exact y

/-! ## Failure -/

theorem State.Yard.failClose {s : State} {d : Prop} (y : s.Yard d) {e : Entry} (flies : s.inFlight = some e) :
    (s.failClose e).Yard d := by
  obtain ⟨mem, -⟩ := State.mem_of_inFlight flies
  have failed := (s.stopOperate_sameYard.yard y).endInFlight mem .failed (by simp) none (some .closeTimeout)
  have told := fun t : State => (t.entryResult_sameYard e .switchFailed).trans
    (State.markResultOpt_sameYard _ e.step e.mark .switchFailed)
  unfold State.failClose
  dsimp only
  split
  · exact State.examine_keepsYard _ d (((told _).trans (State.settleStart_sameYard _)).yard failed)
  · exact State.examine_keepsYard _ d
      ((((told _).trans (State.assertBkt_sameYard _ _ _ _)).trans (State.settleStart_sameYard _)).yard failed)

theorem State.Yard.failOpen {s : State} {d : Prop} (y : s.Yard d) {e : Entry} (flies : s.inFlight = some e) :
    (s.failOpen e).Yard d := by
  obtain ⟨mem, -⟩ := State.mem_of_inFlight flies
  have failed := (s.stopOperate_sameYard.yard y).endInFlight mem .failed (by simp) none (some .openTimeout)
  have told := fun t : State => (t.entryResult_sameYard e .switchFailed).trans
    (State.markResultOpt_sameYard _ e.step (tripMark e) .switchFailed)
  unfold State.failOpen
  dsimp only
  split
  · exact State.examine_keepsYard _ d (((told _).trans (State.settleStart_sameYard _)).yard failed)
  · exact State.examine_keepsYard _ d
      ((((told _).trans (State.assertBkt_sameYard _ _ _ _)).trans (State.settleStart_sameYard _)).yard failed)

theorem State.Yard.retryOpen {s : State} {d : Prop} (y : s.Yard d) {e : Entry} (flies : s.inFlight = some e) :
    (s.retryOpen e).Yard d := by
  have counted : s.SameYard { s with oq := { s.oq with retryCount := s.oq.retryCount + 1 } } :=
    ⟨rfl, fun _ => rfl, fun _ => rfl, fun _ => rfl, rfl, .of_eq rfl rfl⟩
  have asked := (counted.yard y).askPulse (e := e) flies
  exact ((State.startOperate_sameYard _).trans (State.settleStart_sameYard _)).yard asked

/-! ## Removals -/

/-- Removals of entries whose steps do not move keep the yard sound (R71, R73, R74). -/
theorem State.Yard.removeEach {s : State} {d : Prop} (y : s.Yard d) (l : List Entry) (r : OutcomeResult)
    (waiting : ∀ e ∈ l, ∃ m, (s.stepRec e.step).state = some m ∧ m ≠ .closing ∧ m ≠ .opening) :
    (s.removeEach l r).Yard d := by
  induction l generalizing s with
  | nil => exact y
  | cons e l ih =>
    obtain ⟨m, state, still⟩ := waiting e (List.mem_cons_self ..)
    have removed : ((s.dropEntry e.step).entryResult e r).Yard d :=
      (State.entryResult_sameYard _ e r).yard (y.dropEntry state still)
    refine ih removed fun x hx => ?_
    obtain ⟨m, state, still⟩ := waiting x (List.mem_cons_of_mem _ hx)
    refine ⟨m, ?_, still⟩
    rw [(State.entryResult_sameYard _ e r).state, (s.dropEntry_table e.step).stepRec, state]

/-- Removals of waiting CLOSEs keep the yard sound (R71, R73, R74). -/
theorem State.removeWaitingCloses_keepsYard (s : State) (p : Entry → Prop) [DecidablePred p] (r : OutcomeResult) :
    s.KeepsYard (s.removeEach (s.oq.entries.filter (fun e => e.status = .waiting ∧ e.kind = .closeOp ∧ p e)) r) := by
  intro d y
  obtain ⟨-, -, fits, -⟩ := id y.queue
  refine y.removeEach _ r fun e he => ?_
  obtain ⟨mem, test⟩ := List.mem_filter.mp he
  obtain ⟨wait, kind, -⟩ : e.status = .waiting ∧ e.kind = .closeOp ∧ p e := by simpa using test
  exact ⟨.ready, by simpa [Entry.stepState, wait, kind] using (fits e mem).1, by simp⟩

theorem State.removeStale_keepsYard (s : State) : s.KeepsYard s.removeStale :=
  s.removeWaitingCloses_keepsYard _ _

theorem State.removeCloses_keepsYard (s : State) (p : Port) : s.KeepsYard (s.removeCloses p) :=
  s.removeWaitingCloses_keepsYard _ _

theorem State.removeCloseOf_keepsYard (s : State) (k : StepId) : s.KeepsYard (s.removeCloseOf k) :=
  s.removeWaitingCloses_keepsYard _ _

/-! ## Contacts -/

/-- A change of a Step Record that leaves the state and, where the step is energised, the discharge time, and that
keeps R13, keeps the yard sound. -/
theorem State.Yard.modStep {s : State} {d : Prop} (y : s.Yard d) {k : StepId} {f : StepRecord → StepRecord}
    (state : (f (s.stepRec k)).state = (s.stepRec k).state)
    (timer : (f (s.stepRec k)).faultTimer.isSome = true → (s.stepRec k).state = some .ready
      ∨ (s.stepRec k).state = some .discharging ∨ (s.stepRec k).state = some .closed)
    (discharge : ((s.stepRec k).state = some .ready ∨ (s.stepRec k).state = some .closing
        ∨ (s.stepRec k).state = some .closed ∨ (s.stepRec k).state = some .opening) →
      (f (s.stepRec k)).discharge = (s.stepRec k).discharge) : (s.modStep k f).Yard d := by
  obtain ⟨⟨nodup, flight, fits, moving, timers, derived⟩, coils, left⟩ := y
  have states : ∀ j, ((s.modStep k f).stepRec j).state = (s.stepRec j).state := fun j => by
    by_cases h : j = k
    · subst h; simpa using state
    · simp [h]
  refine ⟨⟨nodup, flight, fun e he => states _ ▸ fits e he, fun j => states j ▸ moving j, fun j run => ?_,
    fun off j => states j ▸ derived off j⟩, ?_, fun hd j energised => ?_⟩
  · rw [states]
    by_cases h : j = k
    · subst h; exact timer (by simpa using run)
    · exact timers j (by simpa [h] using run)
  · rw [State.coilsSound_iff] at coils ⊢
    intro p hp
    obtain ⟨⟨e, he, step, coil⟩, close⟩ := coils p hp
    refine ⟨⟨e, he, step, coil⟩, fun c => ⟨?_, (close c).2⟩⟩
    by_cases h : p.step = k
    · obtain ⟨mem, status⟩ := State.mem_of_inFlight he
      have moves : (s.stepRec k).state = some .closing := by
        rw [← h, ← step, (fits e mem).1]
        cases kind : e.kind <;> simp [Entry.stepState, status, kind, coilOf, ← coil] at c ⊢
      rw [h, State.stepRec_modStep_same, discharge (.inr (.inl moves)), ← h]
      exact (close c).1
    · rw [State.stepRec_modStep_ne _ _ _ _ h]
      exact (close c).1
  · rw [states] at energised
    by_cases h : j = k
    · subst h
      rw [State.stepRec_modStep_same, discharge energised]
      exact left hd j energised
    · rw [State.stepRec_modStep_ne _ _ _ _ h]
      exact left hd j energised

theorem State.recordPosition_keepsYard (s : State) (k : StepId) (p : Position) :
    s.KeepsYard (s.recordPosition k p) := by
  refine fun d y => y.modStep rfl (fun run => ?_) fun _ => rfl
  dsimp only at run
  unfold State.faultTimerAt at run
  split at run <;> simp_all

theorem State.Yard.unexpectedOpening {s : State} {d : Prop} (y : s.Yard d) {k : StepId}
    (closed : (s.stepRec k).state = some .closed) : (s.unexpectedOpening k).Yard d := by
  have but : (s.loadDischarge k).YardBut k d :=
    (y.but (y.queue.derived_of_state closed) k).actsOn (s.modStep_actsOn k _)
  have waits := y.queue.waits (k := k) (by simp [closed])
  have ended : ∀ u : State, u.Yard d → ((u.latchOpen k).examineIfLeft s).Yard d := fun u hu =>
    State.examineIfLeft_keepsYard _ s d ((u.latchOpen_sameYard k).yard hu)
  unfold State.unexpectedOpening
  dsimp only
  split <;> exact ended _ (but.enter waits _ (by simp) _ _ (by simp))

theorem State.Yard.unexpectedClosing {s : State} {d : Prop} (y : s.Yard d) {k : StepId} {m : StepState}
    (state : (s.stepRec k).state = some m) (still : m ≠ .closing ∧ m ≠ .opening) :
    (s.unexpectedClosing k).Yard d :=
  State.examineIfLeft_keepsYard _ s d ((State.SameYard.ite _ (State.latchCharged_sameYard _ k) (.refl _)).yard
    (y.enter state still .closed (by simp) none none (by simp)))

theorem State.Yard.lockoutClosing {s : State} {d : Prop} (y : s.Yard d) {k : StepId}
    (state : (s.stepRec k).state = some .lockout) : (s.lockoutClosing k).Yard d := by
  have closed : (if (s.stepRec k).discharge ≠ 0 then (s.enter k .closed none none).latchCharged k
      else s.enter k .closed none none).Yard d :=
    (State.SameYard.ite _ (State.latchCharged_sameYard _ k) (.refl _)).yard
      (y.enter state (by simp) .closed (by simp) none none (by simp))
  unfold State.lockoutClosing
  dsimp only
  split
  · exact closed
  · exact State.admitOne_keepsYard _ _ d closed

theorem State.Yard.outMoved {s : State} {d : Prop} (y : s.Yard d) {k : StepId} (p : Position)
    (state : (s.stepRec k).state = some .out) : (s.outMoved k p).Yard d := by
  obtain ⟨-, -, -, -, timers, -⟩ := id y.queue
  have still := timers k
  unfold State.outMoved
  split
  · exact (s.modStep_sameYard k _ rfl rfl rfl).yard y
  · split
    · refine (State.modStep_sameYard _ k _ rfl rfl rfl).yard (y.modStep rfl (timers k) ?_)
      simp [state]
    · exact y
  · exact y

/-- What a position change does (1.5) keeps the yard sound. -/
theorem State.positionRules_keepsYard (s : State) (k : StepId) (p : Position) :
    s.KeepsYard (s.positionRules k p) := by
  intro d y
  unfold State.positionRules
  split
  · exact y.unexpectedOpening ‹_›
  · exact y.unexpectedClosing ‹_› (by simp)
  · exact y.unexpectedClosing ‹_› (by simp)
  · exact y.lockoutClosing ‹_›
  · exact y.outMoved _ ‹_›
  · exact s.completeIfTarget_keepsYard k d y
  · exact s.completeIfTarget_keepsYard k d y
  · exact y

theorem State.derivePosition_keepsYard (s : State) (k : StepId) : s.KeepsYard (s.derivePosition k) := by
  unfold State.derivePosition
  split
  · exact .refl s
  · exact .ite _ (.refl s) ((s.recordPosition_keepsYard k _).trans (State.positionRules_keepsYard _ k _))

theorem State.setDebouncer_sameYard (s : State) (i : DiscreteInput) (d : Debouncer) :
    s.SameYard (s.setDebouncer i d) := by
  unfold State.setDebouncer
  split
  · exact s.modStep_sameYard _ _ rfl rfl rfl
  · exact s.modStep_sameYard _ _ rfl rfl rfl
  · exact ⟨rfl, fun _ => rfl, fun _ => rfl, fun _ => rfl, rfl, .of_eq rfl rfl⟩
  · exact ⟨rfl, fun _ => rfl, fun _ => rfl, fun _ => rfl, rfl, .of_eq rfl rfl⟩

theorem State.until_sameYard (s : State) (t : Nat) : s.SameYard (s.until t) := .of_blocks rfl rfl rfl rfl

theorem State.accept_sameYard (s : State) (i : DiscreteInput) : s.SameYard (s.accept i) :=
  (s.until_sameYard _).trans (State.setDebouncer_sameYard _ _ _)

theorem State.acceptContact_keepsYard (s : State) (k : StepId) (c : Contact) :
    s.KeepsYard (s.acceptContact k c) := by
  have pair : s.SameYard (s.acceptPair k c) :=
    .ite _ ((s.accept_sameYard _).trans (State.setDebouncer_sameYard _ _ _)) (s.accept_sameYard _)
  exact .ite _ (pair.keepsYard.trans (State.derivePosition_keepsYard _ k)) (.refl s)

theorem State.lockOutOpen_keepsYard (s : State) : s.KeepsYard s.lockOutOpen := by
  have one : ∀ (t : State) (k : StepId), t.KeepsYard
      (if (t.stepRec k).state = some .ready ∨ (t.stepRec k).state = some .discharging then
        t.enter k .lockout (some .external) none else t) := by
    intro t k d y
    split
    · rename_i h
      rcases h with h | h
      · exact y.enter h (by simp) _ (by simp) _ _ (by simp)
      · exact y.enter h (by simp) _ (by simp) _ _ (by simp)
    · exact y
  exact .foldl _ one _ s

theorem State.Yard.contactFault {s : State} {d : Prop} (y : s.Yard d) {k : StepId} {t : Timer}
    (running : (s.stepRec k).faultTimer = some t) : (s.contactFault k t).Yard d := by
  obtain ⟨-, -, -, -, timers, -⟩ := id y.queue
  have elapsed := (s.until_sameYard t.due).yard y
  refine State.examineIfLeft_keepsYard _ s d ?_
  rcases timers k (by simp [running]) with h | h | h
  · exact elapsed.enter h (by simp) _ (by simp) _ _ (by simp)
  · exact elapsed.enter h (by simp) _ (by simp) _ _ (by simp)
  · exact elapsed.enter h (by simp) _ (by simp) _ _ (by simp)

/-! ## The external trip -/

theorem State.enterTripRecord_keepsYard (s : State) (c : LockoutCause) (k : Option StepId)
    (u : Option Nat) (re im : Option Int) : s.KeepsYard (s.enterTripRecord c k u re im) := by
  unfold State.enterTripRecord
  split
  · exact .trans (State.SameYard.keepsYard (by exact .of_blocks rfl rfl rfl rfl)) (State.examine_keepsYard _)
  · exact State.SameYard.keepsYard (by exact .of_blocks rfl rfl rfl rfl)

/-- Parts 2 and 3 of an external trip edge (R149) keep the yard sound. -/
theorem State.externalParts_keepsYard (s : State) : s.KeepsYard s.externalParts := by
  have posts : s.KeepsYard s.externalPosts :=
    .foldl _ (fun t k => .ite _ (t.admitOne_keepsYard _) (.refl t)) _ s
  exact (posts.trans (State.lockOutOpen_keepsYard _)).trans (State.examineIfLeft_keepsYard _ _)

theorem State.externalEdge_keepsYard (s : State) : s.KeepsYard s.externalEdge :=
  (.trans (State.SameYard.keepsYard (by exact .of_blocks rfl rfl rfl rfl))
    (State.enterTripRecord_keepsYard s.noteEdge _ _ _ _ _) : s.KeepsYard _).trans (State.externalParts_keepsYard _)

end Sys2Proof.Machine
end

section
/-!
SUPPORT. The Authority Unit, the events of a second, the blocks that take a frame and step derivation keep the yard
sound.
-/
namespace Sys2Proof.Machine

/-! ## The Authority Unit -/

theorem State.discardB_sameYard (s : State) : s.SameYard s.discardB := .of_blocks rfl rfl rfl rfl

theorem State.cancelSelections_sameYard (s : State) : s.SameYard s.cancelSelections :=
  (s.endSelection_sameYard _ _).trans (State.endSelection_sameYard _ _ _)

theorem State.autoOn_sameYard (s : State) : s.SameYard s.autoOn :=
  .trans (by exact .of_blocks rfl rfl rfl rfl) (State.cancelSelections_sameYard (s.setAuto true))

theorem State.setSupervision_sameYard (s : State) (v : Supervision) (n : Option Nat) :
    s.SameYard (s.setSupervision v n) :=
  .trans (by exact .of_blocks rfl rfl rfl rfl)
    (State.setFlagsIf_sameYard { s with au := { s.au with supervision := v, remaining := n } } _)

theorem State.superviseGood_sameYard (s : State) (p : Port) : s.SameYard (s.superviseGood p) := by
  unfold State.superviseGood
  split
  · exact s.setSupervision_sameYard _ _
  · exact .refl s

/-- The entry into LOST (R166) keeps the yard sound. -/
theorem State.enterLost_keepsYard (s : State) : s.KeepsYard s.enterLost := by
  have ended := (((s.setSupervision_sameYard .lost none).trans (State.endSelection_sameYard _ .b
    (.cancelled .authorityLost))).keepsYard.trans (State.removeCloses_keepsYard _ .b))
  have rest := fun u : State => ((u.autoOn_sameYard.trans (State.discardB_sameYard _)).trans
    (State.setFlags_sameYard _)).keepsYard.trans (State.examineIfLeft_keepsYard _ s)
  exact ended.trans (rest _)

theorem State.superviseExpiry_keepsYard (s : State) : s.KeepsYard s.superviseExpiry := by
  unfold State.superviseExpiry
  split
  · exact (s.setSupervision_sameYard _ _).keepsYard
  · exact s.enterLost_keepsYard
  · exact (s.setSupervision_sameYard _ _).keepsYard

theorem State.superviseSecond_keepsYard (s : State) : s.KeepsYard s.superviseSecond := by
  unfold State.superviseSecond
  split
  · exact .refl s
  · exact .ite _ s.superviseExpiry_keepsYard (State.SameYard.keepsYard (by exact .of_blocks rfl rfl rfl rfl))

theorem State.dropHolder_keepsYard (s : State) : s.KeepsYard s.dropHolder := by
  unfold State.dropHolder
  split
  · exact .refl s
  · exact (s.endSelection_sameYard _ _).keepsYard.trans (State.removeCloses_keepsYard _ _)

/-- A value from the key debouncer (R160) keeps the yard sound. -/
theorem State.takeKey_keepsYard (s : State) (k : KeyPos) : s.KeepsYard (s.takeKey k) := by
  have supervised : ∀ t : State, t.SameYard ((t.setKey k).superviseKey k) := by
    intro t
    have keyed : t.SameYard (t.setKey k) := .of_blocks rfl rfl rfl rfl
    cases k with
    | loc => exact keyed.trans (State.setSupervision_sameYard _ _ _)
    | remote => exact keyed.trans (State.setSupervision_sameYard _ _ _)
  unfold State.takeKey
  split
  · cases k with
    | loc => exact State.SameYard.keepsYard (by exact .of_blocks rfl rfl rfl rfl)
    | remote => exact State.SameYard.keepsYard (by exact .of_blocks rfl rfl rfl rfl)
  · exact (s.dropHolder_keepsYard.trans (supervised _).keepsYard).trans (State.examineIfLeft_keepsYard _ s)

/-! ## Seconds (R78, R83, R86, R173) -/

theorem State.expireSelection_sameYard (s : State) (p : Port) : s.SameYard (s.expireSelection p) := by
  unfold State.expireSelection
  split
  · exact .refl s
  · exact .ite _ (s.endSelection_sameYard p _) (.refl s)

/-- Discharge counts down at rest, where no energised step stands (R78, R79). -/
theorem State.countDischarge_keepsYard (s : State) (k : StepId) : s.KeepsYard (s.countDischarge k) := by
  intro d y
  obtain ⟨-, -, -, -, timers, -⟩ := id y.queue
  have counted : ∀ m, (s.stepRec k).state = some m →
      m ≠ .ready ∧ m ≠ .closing ∧ m ≠ .closed ∧ m ≠ .opening →
      (s.modStep k (fun r => { r with discharge := r.discharge - 1 })).Yard d := fun m state rest =>
    y.modStep rfl (timers k) (by simp [state, rest])
  unfold State.countDischarge
  split
  · exact counted .discharging ‹_› (by simp)
  · exact counted .lockout ‹_› (by simp)
  · exact counted .out ‹_› (by simp)
  · exact y

theorem State.endDischarge_keepsYard (s : State) (k : StepId) : s.KeepsYard (s.endDischarge k) := by
  intro d y
  unfold State.endDischarge
  split
  · rename_i h
    exact y.enter h.1 (by simp) _ (by simp) _ _ fun _ _ => h.2
  · exact y

theorem State.countHold_sameYard (s : State) (k : StepId) : s.SameYard (s.countHold k) :=
  .ite _ (.refl s) (s.modStep_sameYard k _ rfl rfl rfl)

theorem State.ageStep_sameYard (s : State) (k : StepId) : s.SameYard (s.ageStep k) :=
  s.modStep_sameYard k _ rfl rfl rfl

theorem State.cooldownSecond_keepsYard (s : State) : s.KeepsYard s.cooldownSecond := by
  have counted : ∀ (t : State) (k : StepId), t.KeepsYard (((t.countDischarge k).countHold k).ageStep k) :=
    fun t k => (t.countDischarge_keepsYard k).trans
      ((State.countHold_sameYard _ k).trans (State.ageStep_sameYard _ k)).keepsYard
  exact (State.KeepsYard.foldl _ counted allSteps s).trans
    (.foldl _ (fun t k => t.endDischarge_keepsYard k) _ _)

theorem State.secondPart_keepsYard (s : State) (p : SecondPart) : s.KeepsYard (s.secondPart p) := by
  cases p with
  | cooldown => exact s.cooldownSecond_keepsYard
  | stale => exact s.removeStale_keepsYard.trans (State.examineIfLeft_keepsYard _ s)
  | selections => exact ((s.expireSelection_sameYard _).trans (State.expireSelection_sameYard _ _)).keepsYard
  | supervision => exact s.superviseSecond_keepsYard

/-- An elapsed second keeps the yard sound, in every order of its parts (log entry 4). -/
theorem State.secondElapses_keepsYard (s : State) (l : List SecondPart) : s.KeepsYard (s.secondElapses l) := by
  have ticked : s.SameYard s.tick := .of_blocks rfl rfl rfl rfl
  exact ticked.keepsYard.trans (.foldl _ State.secondPart_keepsYard _ _)

/-! ## The Cooldown Unit and the AVC at a frame -/

theorem State.takeMeasurement_sameYard (s : State) : s.SameYard s.takeMeasurement := by
  unfold State.takeMeasurement
  split
  · exact .refl s
  · exact .trans (by exact .of_blocks rfl rfl rfl rfl)
      (State.modStep_sameYard (State.recordRise _ _ _ _ _) _ _ rfl rfl rfl)

theorem State.cuFrame_sameYard (s : State) : s.SameYard s.cuFrame :=
  .ite _ (.refl s) (.ite _ (.trans (by exact .of_blocks rfl rfl rfl rfl) (State.takeMeasurement_sameYard _))
    (.of_blocks rfl rfl rfl rfl))

/-- An update of the AVC alone leaves the yard. -/
theorem State.withAvc_keepsYard (s : State) (a : AvcState) : s.KeepsYard { s with avc := a } :=
  State.SameYard.keepsYard (.of_blocks rfl rfl rfl rfl)

theorem State.setLine_keepsYard (s : State) (l : LineState) : s.KeepsYard (s.setLine l) :=
  .trans (State.SameYard.keepsYard (by exact .of_blocks rfl rfl rfl rfl)) (State.examine_keepsYard _)

theorem State.deadOpenAll_keepsYard (s : State) : s.KeepsYard s.deadOpenAll := by
  have posted := s.admitAll_keepsYard .avc none true
  unfold State.deadOpenAll
  generalize s.admitAll .avc none true = r at posted
  exact posted.trans (State.withAvc_keepsYard _ _)

theorem State.enterDead_keepsYard (s : State) : s.KeepsYard s.enterDead :=
  (s.setLine_keepsYard _).trans (State.deadOpenAll_keepsYard _)

theorem State.lineStage_keepsYard (s : State) : s.KeepsYard s.lineStage := by
  have run : ∀ n, s.KeepsYard (s.setRun n) := fun n => s.withAvc_keepsYard _
  unfold State.lineStage
  split
  · exact .ite _ (.ite _ s.enterDead_keepsYard (run _)) (run _)
  · exact .ite _ (.ite _ (s.setLine_keepsYard _) (run _)) (run _)

/-- A fast open (R112) keeps the yard sound. -/
theorem State.fastOpening_keepsYard (s : State) : s.KeepsYard s.fastOpening := by
  have reset : s.KeepsYard (s.setOv 0) := s.withAvc_keepsYard _
  unfold State.fastOpening
  split
  · exact reset.trans (State.withAvc_keepsYard _ _)
  · exact (reset.trans (State.admitOne_keepsYard _ _)).trans (State.withAvc_keepsYard _ _)

theorem State.attemptPost_keepsYard (s : State) (p : Posting) (d : Decision) :
    s.KeepsYard (s.attemptPost p d) := by
  have posted := s.admitOne_keepsYard p
  exact State.KeepsYard.trans (.ite _ (posted.trans (State.withAvc_keepsYard _ _)) posted)
    (State.withAvc_keepsYard _ _)

theorem State.closeAttempt_keepsYard (s : State) : s.KeepsYard s.closeAttempt := by
  unfold State.closeAttempt
  split
  · exact s.withAvc_keepsYard _
  · refine .ite _ (s.withAvc_keepsYard _) ?_
    split
    · exact s.withAvc_keepsYard _
    · exact s.attemptPost_keepsYard _ _

theorem State.openAttempt_keepsYard (s : State) : s.KeepsYard s.openAttempt := by
  unfold State.openAttempt
  split
  · exact s.withAvc_keepsYard _
  · exact .ite _ (s.withAvc_keepsYard _) (s.attemptPost_keepsYard _ _)

/-- Stage 3 of a frame (R100 to R110) keeps the yard sound. -/
theorem State.integratorStage_keepsYard (s : State) (fast : Bool) : s.KeepsYard (s.integratorStage fast) := by
  have counted : s.KeepsYard (s.setD s.dLowAfter s.dHighAfter) := s.withAvc_keepsYard _
  exact .ite _ (s.withAvc_keepsYard _) (.ite _ (.refl s) (.ite _ (counted.trans (State.closeAttempt_keepsYard _))
    (.ite _ (.ite _ counted (counted.trans (State.openAttempt_keepsYard _))) counted)))

theorem State.avcFrame_keepsYard (s : State) : s.KeepsYard s.avcFrame := by
  have fast := fun t : State => State.KeepsYard.ite (t.fastDue = true) t.fastOpening_keepsYard
    (t.withAvc_keepsYard _ : t.KeepsYard (t.setOv t.ovAfter))
  exact (s.lineStage_keepsYard.trans (fast _)).trans (State.integratorStage_keepsYard _ _)

/-! ## The HMU at a frame -/

theorem State.setMonitor_sameYard (s : State) (m : MonitorId) (r : Monitor) :
    s.SameYard (s.setMonitor m r) := .of_blocks rfl rfl rfl rfl

theorem State.detune_keepsYard (s : State) (m : MonitorId) : s.KeepsYard (s.detune m) := by
  unfold State.detune
  split
  · exact (s.setMonitor_sameYard m _).keepsYard
  · exact (s.setMonitor_sameYard m _).keepsYard.trans (State.admitOne_keepsYard _ _)

theorem State.activate_keepsYard (s : State) (m : MonitorId) : s.KeepsYard (s.activate m) := by
  have active := ((s.setMonitor_sameYard m
    { s.monitor m with active := true, assertCount := min 65535 ((s.monitor m).assertCount + 1) }).trans
    (State.setFlags_sameYard _)).keepsYard
  unfold State.activate
  dsimp only
  split
  · exact active
  · exact active.trans (.ite _ (.refl _) (State.examine_keepsYard _))
  · exact active.trans (State.detune_keepsYard _ m)

theorem State.clearMonitor_keepsYard (s : State) (m : MonitorId) : s.KeepsYard (s.clearMonitor m) :=
  ((s.setMonitor_sameYard m _).trans (State.setFlags_sameYard _)).keepsYard.trans
    (.ite _ (.refl _) (State.examine_keepsYard _))

theorem State.monitorFrame_keepsYard (s : State) (m : MonitorId) : s.KeepsYard (s.monitorFrame m) := by
  have counted : s.KeepsYard (s.setAccumulator m (s.accumulatorAfter m)) := (s.setMonitor_sameYard m _).keepsYard
  exact .ite _ (.refl s) (.ite _ (.refl s)
    (.ite _ (.ite _ (counted.trans (State.activate_keepsYard _ m)) counted)
      (.ite _ (counted.trans (State.clearMonitor_keepsYard _ m)) counted)))

theorem State.countActive_sameYard (s : State) (m : MonitorId) : s.SameYard (s.countActive m) :=
  .ite _ (s.setMonitor_sameYard m _) (.refl s)

theorem State.hmuFrame_keepsYard (s : State) : s.KeepsYard s.hmuFrame :=
  (State.KeepsYard.foldl _ (fun t m => t.monitorFrame_keepsYard m) allMonitors s).trans
    (.foldl _ (fun t m => (t.countActive_sameYard m).keepsYard) _ _)

/-! ## The UPU at a frame -/

theorem State.setTripCount_sameYard (s : State) (k : StepId) (n : Nat) : s.SameYard (s.setTripCount k n) :=
  s.modStep_sameYard k _ rfl rfl rfl

theorem State.alarmStage_sameYard (s : State) (k : StepId) : s.SameYard (s.alarmStage k) := by
  have written : ∀ (r : StepRecord) (c : Bool), r.state = (s.stepRec k).state →
      r.discharge = (s.stepRec k).discharge → r.faultTimer = (s.stepRec k).faultTimer →
      s.SameYard ((s.setStep k r).setFlagsIf c) := fun r c state discharge timer =>
    (s.modStep_sameYard k (fun _ => r) state discharge timer).trans (State.setFlagsIf_sameYard _ c)
  exact .ite _ (written _ _ rfl rfl rfl) (.ite _ (.refl s) (written _ _ rfl rfl rfl))

theorem State.decideTrip_keepsYard (s : State) (k : StepId) (u : Nat) (re im : Int) :
    s.KeepsYard (s.decideTrip k u re im) :=
  ((s.setTripCount_sameYard k 0).keepsYard.trans (State.admitOne_keepsYard _ _)).trans
    (State.enterTripRecord_keepsYard _ _ _ _ _ _)

theorem State.tripStage_keepsYard (s : State) (k : StepId) : s.KeepsYard (s.tripStage k) :=
  .ite _ (.ite _ (s.decideTrip_keepsYard k _ _ _) (s.setTripCount_sameYard k _).keepsYard)
    (.ite _ (.refl s) (s.setTripCount_sameYard k 0).keepsYard)

theorem State.stepFrame_keepsYard (s base : State) (k : StepId) : s.KeepsYard (s.stepFrame base k) :=
  .ite _ (s.decideTrip_keepsYard k _ _ _)
    (.ite _ ((s.alarmStage_sameYard k).keepsYard.trans (State.tripStage_keepsYard _ k))
      (.ite _ (s.decideTrip_keepsYard k _ _ _) (.refl s)))

theorem State.completeCapture_sameYard (s : State) (c : Capture) : s.SameYard (s.completeCapture c) :=
  (((s.modStep_sameYard c.step _ rfl rfl rfl).trans (State.setFlagsIf_sameYard _ _)).trans
    (State.insertOutcome_sameYard _ _ _)).trans (.of_blocks rfl rfl rfl rfl)

theorem State.captureFrame_sameYard (s : State) : s.SameYard s.captureFrame := by
  unfold State.captureFrame
  split
  · exact .refl s
  · exact .ite _ s.abortCapture_sameYard (.ite _ (.refl s)
      (.ite _ (s.completeCapture_sameYard _) (.of_blocks rfl rfl rfl rfl)))

theorem State.upuFrame_keepsYard (s base : State) : s.KeepsYard (s.upuFrame base) := by
  have staged := State.KeepsYard.foldl _ (fun t k => t.stepFrame_keepsYard base k) allSteps s
  exact (State.KeepsYard.ite _ (.refl s) staged).trans
    (State.SameYard.keepsYard (.trans (by exact .of_blocks rfl rfl rfl rfl) (State.captureFrame_sameYard _)))

/-! ## Step derivation (R203, R204) -/

/-- A sound yard in the course of derivation: no step moves (R204). -/
def State.Deriving (s : State) (d : Prop) : Prop :=
  s.Yard d ∧ s.set.derived = true
    ∧ ∀ k, (s.stepRec k).state ≠ some .closing ∧ (s.stepRec k).state ≠ some .opening

/-- The state that derivation gives a step (R204) is at rest and not READY. -/
theorem State.deriveStep_eq (s : State) (k : StepId) :
    ∃ n f, (n ≠ .closing ∧ n ≠ .opening ∧ n ≠ .ready) ∧
      (s.deriveStep k = s.enter k n none f ∨ s.deriveStep k = (s.loadDischarge k).enter k n none f) := by
  unfold State.deriveStep
  split
  · exact ⟨.out, _, by simp, .inr rfl⟩
  · exact ⟨.out, _, by simp, .inl rfl⟩
  · exact ⟨.discharging, _, by simp, .inr rfl⟩
  · exact ⟨.closed, _, by simp, .inl rfl⟩
  · exact ⟨.failed, _, by simp, .inl rfl⟩

theorem State.Deriving.deriveStep {s : State} {d : Prop} (h : s.Deriving d) (k : StepId) :
    (s.deriveStep k).Deriving d := by
  obtain ⟨y, derived, still⟩ := h
  have entered : ∀ (t : State) (n : StepState) (f : Option FailureCause), s.ActsOn t k →
      t.oq.entries = s.oq.entries → n ≠ .closing ∧ n ≠ .opening ∧ n ≠ .ready → (t.enter k n none f).Deriving d := by
    intro t n f acts entries rest
    have after := acts.trans (t.enter_actsOn k n none f)
    refine ⟨((y.but derived k).actsOn acts).enter (entries ▸ y.queue.waits (still k)) n ⟨rest.1, rest.2.1⟩ none f
      (fun _ h => absurd h rest.2.2), after.derived.trans derived, fun j => ?_⟩
    by_cases hj : j = k
    · subst hj
      rw [(t.enter_record j n none f).1]
      simpa using ⟨rest.1, rest.2.1⟩
    · rw [after.state j hj]
      exact still j
  obtain ⟨n, f, rest, e | e⟩ := s.deriveStep_eq k
  · rw [e]
    exact entered s n f ((State.SameYard.refl s).actsOn k) rfl rest
  · rw [e]
    exact entered _ n f (s.modStep_actsOn k _) rfl rest

/-- Derivation of every step makes a sound yard (R203, R204). -/
theorem State.Deriving.deriveAll {s : State} {d : Prop} (h : s.Deriving d) (l : List StepId) :
    (l.foldl (fun (t : State) k => t.deriveStep k) s).Yard d := by
  induction l generalizing s with
  | nil => exact h.1
  | cons k l ih => exact ih (h.deriveStep k)

/-- Derivation may begin while no step has a state (R203). -/
theorem State.Yard.deriving {s : State} {d : Prop} (y : s.Yard d) (first : s.set.derived = false) :
    ({ s with set := { s.set with derived := true } } : State).Deriving d := by
  obtain ⟨⟨nodup, flight, fits, moving, timers, before⟩, coils, discharge⟩ := y
  refine ⟨⟨⟨nodup, flight, fits, moving, timers, fun h => nomatch h⟩, coils, discharge⟩, rfl, fun k => ?_⟩
  have absent : (s.stepRec k).state = none := before first k
  have ne : ∀ m, (s.stepRec k).state ≠ some m := fun m h => by simp [absent] at h
  exact ⟨ne _, ne _⟩

theorem State.derivedOpenAll_keepsYard (s : State) : s.KeepsYard s.derivedOpenAll :=
  .ite _ s.deadOpenAll_keepsYard (.refl s)

theorem State.derivedTrip_keepsYard (s : State) : s.KeepsYard s.derivedTrip :=
  .ite _ s.externalParts_keepsYard (.refl s)

theorem State.Yard.deriveAll {s : State} {d : Prop} (y : s.Yard d) (notYet : s.set.derived = false) (first : Bool) :
    (s.deriveAll first).Yard d := by
  have ends : ∀ t : State,
      t.KeepsYard (if first then t.derivedOpenAll.derivedTrip else t.derivedTrip.derivedOpenAll) := fun t =>
    .ite _ (t.derivedOpenAll_keepsYard.trans (State.derivedTrip_keepsYard _))
      (t.derivedTrip_keepsYard.trans (State.derivedOpenAll_keepsYard _))
  exact ends _ d (State.examine_keepsYard _ d ((y.deriving notYet).deriveAll allSteps))

theorem State.derivation_keepsYard (s : State) (first : Bool) : s.KeepsYard (s.derivation first) := by
  intro d y
  unfold State.derivation
  split
  · exact y
  · split
    · exact y
    · rename_i notYet
      split
      · exact y.deriveAll (by simpa using notYet) first
      · exact ((s.until_sameYard _).yard y).deriveAll (by simpa using notYet) first

/-! ## The arrival of a frame (R44) -/

theorem State.framePart_keepsYard (s base : State) (p : FramePart) : s.KeepsYard (s.framePart base p) := by
  cases p with
  | avc => exact s.avcFrame_keepsYard
  | hmu => exact s.hmuFrame_keepsYard
  | upu => exact s.upuFrame_keepsYard base
  | cu => exact s.cuFrame_sameYard.keepsYard
  | sx => exact s.examine_keepsYard
  | derive first => exact .ite _ (s.derivation_keepsYard first) (.refl s)

theorem State.SameYard.foldl {α : Type} (f : State → α → State) (h : ∀ (t : State) (a : α), t.SameYard (f t a))
    (l : List α) (s : State) : s.SameYard (l.foldl f s) := by
  induction l generalizing s with
  | nil => exact .refl s
  | cons a l ih => exact (h s a).trans (ih (f s a))

theorem State.loadRises_sameYard (s : State) (l : List (StepId × Nat)) : s.SameYard (s.loadRises l) := by
  have one : ∀ (t : State) (x : StepId × Nat), t.SameYard (t.modStep x.1 (fun r => { r with learnedRise := x.2 })) :=
    fun t x => t.modStep_sameYard x.1 _ rfl rfl rfl
  exact .foldl _ one l s

theorem State.takeFrame_keepsYard (s : State) (i : FrameInput) (rises : List (StepId × Nat)) :
    s.KeepsYard (s.takeFrame i rises) := by
  have start : s.SameYard ((if i.riseFirst then s.cuFrame else s).loadRises rises) :=
    (State.SameYard.ite _ s.cuFrame_sameYard (.refl s)).trans (State.loadRises_sameYard _ _)
  exact (start.keepsYard.trans (.foldl _ (fun t p => t.framePart_keepsYard s p) _ _)).trans
    (State.examine_keepsYard _)

theorem State.publish_sameYard (s : State) (i : FrameInput) (m : Sampling) : s.SameYard (s.publish i m) := by
  have frame : s.SameYard { s with me := s.meAfter (s.frameOf i m.freeStarted) m } := .of_blocks rfl rfl rfl rfl
  have kept : ∀ (f : Frame) (t : State) (k : StepId), t.SameYard (t.keepUnbalance f k) := fun f t k =>
    t.modStep_sameYard k _ (by split <;> rfl) (by split <;> rfl) (by split <;> rfl)
  exact frame.trans (.foldl _ (kept _) _ _)

end Sys2Proof.Machine
end

section
/-!
SUPPORT and PROOF. Settings, the store, reset, the requests and with them every command keep the yard sound; the
invariants of the queue, the coils and the discharge times follow (R2, R21, R48, R49, R79).
-/
namespace Sys2Proof.Machine

/-! ## Settings and the arrival of a frame (R44, R197) -/

theorem State.applyMonitor_sameYard (s : State) (old : Settings) (m : MonitorId) :
    s.SameYard (s.applyMonitor old m) := by
  have restart : s.SameYard (s.restartMonitor m) := (s.setMonitor_sameYard m _).trans (State.setFlagsIf_sameYard _ _)
  exact .ite _ (s.setMonitor_sameYard m _) (.ite _ restart (.ite _ restart (s.setMonitor_sameYard m _)))

theorem State.applyInService_keepsYard (s : State) (old : Settings) (k : StepId) :
    s.KeepsYard (s.applyInService old k) :=
  .ite _ ((s.removeCloseOf_keepsYard k).trans (State.endSelectionOf_sameYard _ _ _).keepsYard) (.refl s)

theorem State.applyEffects_keepsYard (s : State) (old : Settings) : s.KeepsYard (s.applyEffects old) := by
  have clamp : ∀ (t : State) (k : StepId), t.KeepsYard (t.clampAlarm k) := fun t k =>
    (t.modStep_sameYard k _ rfl rfl rfl).keepsYard
  exact ((State.KeepsYard.foldl _ (fun t m => (t.applyMonitor_sameYard old m).keepsYard) allMonitors s).trans
    (.foldl _ clamp allSteps _)).trans (.foldl _ (fun t k => t.applyInService_keepsYard old k) allSteps _)

/-- An application of settings (R197) keeps the yard sound. -/
theorem State.applySettings_keepsYard (s : State) : s.KeepsYard s.applySettings := by
  have put : s.SameYard s.putSettings := .of_blocks rfl rfl rfl rfl
  exact (put.keepsYard.trans (State.applyEffects_keepsYard _ _)).trans
    (.ite _ (State.examineIfLeft_keepsYard _ s) (State.examine_keepsYard _))

theorem State.startFrame_sameYard (s : State) : s.SameYard s.startFrame := by
  unfold State.startFrame
  split
  · exact .refl s
  · exact .of_blocks rfl rfl rfl rfl

/-- The arrival of a frame (R44) keeps the yard sound. -/
theorem State.frameArrives_keepsYard (s : State) (i : FrameInput) : s.KeepsYard (s.frameArrives i) := by
  have started := s.startFrame_sameYard.trans (State.until_sameYard _ s.samplingNow.arrival)
  exact ((started.keepsYard.trans (State.applySettings_keepsYard _)).trans
    (State.publish_sameYard _ i s.samplingNow).keepsYard).trans (State.takeFrame_keepsYard _ i _)

/-! ## The store, reset and loading -/

/-- An update of Settings and Store that leaves the mark of derivation leaves the yard. -/
theorem State.withSet_sameYard (s : State) (c : SetState) (derived : c.derived = s.set.derived) :
    s.SameYard { s with set := c } := .of_blocks rfl rfl rfl derived

theorem State.saveEnds_sameYard (s : State) (readback : Image) : s.SameYard (s.saveEnds readback) := by
  unfold State.saveEnds
  split
  · exact .refl s
  · rename_i f _
    obtain ⟨-, -, -, derived, -⟩ := s.set.setCopy_eq f.target1 readback
    unfold State.endSave
    dsimp only
    split
    all_goals exact .trans (by exact s.withSet_sameYard _ derived) (State.insertOutcome_sameYard _ _ _)

theorem SetState.abandonSave_derived (c : SetState) : c.abandonSave.derived = c.derived := by
  unfold SetState.abandonSave
  split
  · rfl
  · exact (c.setCopy_eq _ _).2.2.2.1

/-- A held reset leaves the yard but for the coils, which are off (R21, R201). -/
theorem State.holdReset_sameYard (s : State) (h : ResetHold) : s.SameYard (s.holdReset h) :=
  ⟨rfl, fun _ => rfl, fun _ => rfl, fun _ => rfl, s.set.abandonSave_derived, fun _ h => nomatch h⟩

/-- The release of reset leaves the state after reset, whose yard is sound (R201). -/
theorem State.release_keepsYard (s : State) (h : ResetHold) (f : Fsel) : s.KeepsYard (s.release h f) := by
  obtain ⟨-, ⟨-, queue, coils, -⟩, -, -, discharge, -⟩ :=
    State.afterReset_sound f (causeOf h) s.rawLevels s.set.copy0 s.set.copy1
  exact fun d _ => ⟨queue, coils, fun _ => discharge⟩

/-- Step Records that loading changes keep what the yard reads (R202). -/
theorem State.loaded_sameYard {s : State} (steps : Vector StepRecord 8) (au : AuState) (set : SetState)
    (records : ∀ k : StepId, (steps[k]).state = (s.stepRec k).state
      ∧ (steps[k]).discharge = (s.stepRec k).discharge ∧ (steps[k]).faultTimer = (s.stepRec k).faultTimer)
    (derived : set.derived = s.set.derived) :
    s.SameYard { s with ss := { s.ss with steps := steps }, au := au, set := set } :=
  ⟨rfl, fun k => (records k).1, fun k => (records k).2.1, fun k => (records k).2.2, derived, .of_eq rfl rfl⟩

theorem State.endLoading_sameYard (s : State) : s.SameYard s.endLoading := by
  unfold State.endLoading
  dsimp only
  split
  · exact State.loaded_sameYard _ _ _ (fun k => by simp [StepRecord.load, State.stepRec]) rfl
  · exact State.loaded_sameYard _ _ _ (fun k => by simp [StepRecord.load]) rfl
  · exact State.loaded_sameYard _ _ _ (fun k => by simp [StepRecord.load]) rfl

/-! ## Requests -/

theorem State.setPort_sameYard (s : State) (p : Port) (r : PortState) : s.SameYard (s.setPort p r) :=
  (s.setPort_onlyIn p r).sameYard (by decide)

theorem State.clockOut_sameYard (s : State) (p : Port) (w : Nat) : s.SameYard (s.clockOut p w) :=
  s.setPort_sameYard p _

theorem State.respond_sameYard (s : State) (p : Port) (tag : Byte) (a : Answer) : s.SameYard (s.respond p tag a) :=
  (s.respond_onlyIn p tag a).sameYard (by decide)

theorem State.unlessHeld_keepsYard (s : State) (f : State → State) (h : s.KeepsYard (f s)) :
    s.KeepsYard (s.unlessHeld f) := .ite _ (.refl s) h

/-- A request keeps the yard sound when its judgement does (R179). -/
theorem State.request_keepsYard (s : State) (h : Header) (permitted : Bool) (judge : Judge)
    (judged : ∀ u : State, u.KeepsYard (judge u).1) : s.KeepsYard (s.request h permitted judge) := by
  refine s.unlessHeld_keepsYard _ ?_
  have framed := (s.clockOut_sameYard h.port h.window).trans (State.superviseGood_sameYard _ h.port)
  have chosen : ∀ u : State, u.KeepsYard
      (if u.set.startup = .loading then (u, Answer.plain .busy)
        else if permitted = false then (u, Answer.plain .notPermitted) else judge u).1 := by
    intro u
    split_ifs
    · exact .refl u
    · exact .refl u
    · exact judged u
  exact (framed.keepsYard.trans (chosen _)).trans (State.respond_sameYard _ _ _ _).keepsYard

theorem withStep_keepsYard (b : Byte) (judge : StepId → Judge) (u : State)
    (h : ∀ k, u.KeepsYard (judge k u).1) : u.KeepsYard (withStep b judge u).1 := by
  unfold withStep
  split
  · exact .refl u
  · exact h _

theorem ifHolder_keepsYard (p : Port) (judge : Judge) (u : State) (h : u.KeepsYard (judge u).1) :
    u.KeepsYard (ifHolder p judge u).1 := by
  unfold ifHolder
  split
  · exact h
  · exact .refl u

theorem State.setSlot_sameYard (s : State) (p : Port) (sel : Option Selection) : s.SameYard (s.setSlot p sel) := by
  cases p <;> exact .of_blocks rfl rfl rfl rfl

theorem judgeSelect_keepsYard (p : Port) (tag b : Byte) (u : State) : u.KeepsYard (judgeSelect p tag b u).1 := by
  refine withStep_keepsYard b _ u fun k => ifHolder_keepsYard p _ u ?_
  split
  · exact .refl u
  · unfold judgeSelectStep
    split
    · exact .refl u
    · split_ifs
      case neg =>
        split
        · exact .refl u
        · exact (u.setSlot_sameYard p _).keepsYard
      all_goals exact .refl u
    · exact .refl u

theorem judgeOpen_keepsYard (p : Port) (tag b : Byte) (u : State) : u.KeepsYard (judgeOpen p tag b u).1 := by
  unfold judgeOpen
  split
  · have posted := u.admitAll_keepsYard (portOriginator p) (some tag) false
    simp only [judgeOpenAll]
    exact posted
  · exact withStep_keepsYard b _ u fun k => u.admitOne_keepsYard _

theorem judgeOperate_keepsYard (p : Port) (tag b : Byte) (u : State) :
    u.KeepsYard (judgeOperate p tag b u).1 := by
  refine withStep_keepsYard b _ u fun k => ?_
  dsimp only
  split
  · exact (u.setSlot_sameYard p none).keepsYard.trans (State.admitOne_keepsYard _ _)
  · exact .refl u

theorem judgeCancel_keepsYard (p : Port) (b : Byte) (u : State) : u.KeepsYard (judgeCancel p b u).1 := by
  refine withStep_keepsYard b _ u fun k => ?_
  split
  · exact (u.setSlot_sameYard p none).keepsYard
  · exact .refl u

theorem judgeAuto_keepsYard (p : Port) (v : Byte) (u : State) : u.KeepsYard (judgeAuto p v u).1 := by
  refine ifHolder_keepsYard p _ u ?_
  split_ifs
  · exact .refl u
  · exact u.autoOn_sameYard.keepsYard
  · exact State.SameYard.keepsYard (by exact .of_blocks rfl rfl rfl rfl)

theorem judgeReleaseHold_keepsYard (p : Port) (b : Byte) (u : State) :
    u.KeepsYard (judgeReleaseHold p b u).1 := by
  have one : ∀ (t : State) (k : StepId), t.SameYard (t.releaseOne k) := fun t k =>
    t.modStep_sameYard k _ rfl rfl rfl
  unfold judgeReleaseHold
  split
  · exact ifHolder_keepsYard p _ u (State.SameYard.foldl _ one _ u).keepsYard
  · exact withStep_keepsYard b _ u fun k => ifHolder_keepsYard p _ u (one u k).keepsYard

theorem judgeSet_keepsYard (p : Port) (i : Option SettingId) (v : BitVec 16) (u : State) :
    u.KeepsYard (judgeSet p i v u).1 := by
  unfold judgeSet
  split
  · exact .refl u
  · unfold judgeSetId
    split
    · exact .refl u
    · split
      · exact .refl u
      · exact State.SameYard.keepsYard (by exact .of_blocks rfl rfl rfl rfl)

theorem judgeSave_keepsYard (tag : Byte) (u : State) : u.KeepsYard (judgeSave tag u).1 := by
  unfold judgeSave
  split
  · exact .refl u
  · exact State.SameYard.keepsYard (by exact .of_blocks rfl rfl rfl rfl)

theorem judgeStatus_keepsYard (p : Port) (u : State) : u.KeepsYard (judgeStatus p u).1 := by
  have flag : u.SameYard (u.clearFlag p) := u.setPort_sameYard p _
  have latches : (u.clearFlag p).SameYard (u.clearFlag p).clearLatches :=
    ⟨rfl, fun _ => rfl, fun _ => rfl, fun _ => rfl, rfl, .of_eq rfl rfl⟩
  exact (flag.trans latches).keepsYard

theorem judgeOutcomeRead_keepsYard (p : Port) (u : State) : u.KeepsYard (judgeOutcomeRead p u).1 := by
  have cleared : ∀ t : State, t.SameYard (t.clearLost p) := fun t => t.setPort_sameYard p _
  unfold judgeOutcomeRead
  split
  · exact (cleared u).keepsYard
  · exact (((u.setOutcomes_onlyIn p _).sameYard (by decide)).trans (cleared _)).keepsYard

theorem judgeCaptureStep_keepsYard (tag : Byte) (k : StepId) (u : State) :
    u.KeepsYard (judgeCaptureStep tag k u).1 := by
  unfold judgeCaptureStep
  split_ifs
  case neg => exact State.SameYard.keepsYard (by exact .of_blocks rfl rfl rfl rfl)
  all_goals exact .refl u

/-- The state that an open step returns to is at rest, and READY only without discharge time (R16, R18). -/
theorem availableState_spec (n : Nat) :
    (availableState n ≠ .closing ∧ availableState n ≠ .opening) ∧ (availableState n = .ready → n = 0) := by
  unfold availableState
  split
  · simp
  · simp; omega

theorem judgeResetLockout_keepsYard (k : StepId) (u : State) : u.KeepsYard (judgeResetLockout k u).1 := by
  obtain ⟨rest, ready⟩ := availableState_spec (u.stepRec k).discharge
  intro d y
  unfold judgeResetLockout
  split
  · rename_i h
    exact y.enter h.1 (by simp) _ rest _ _ fun _ => ready
  · exact y

theorem judgeResetStep_keepsYard (k : StepId) (u : State) : u.KeepsYard (judgeResetStep k u).1 := by
  intro d y
  unfold judgeResetStep
  split
  · rename_i state _
    have but : (u.loadDischarge k).YardBut k d :=
      (y.but (y.queue.derived_of_state state) k).actsOn (u.modStep_actsOn k _)
    exact but.enter (y.queue.waits (k := k) (by simp [state])) _ (by simp) _ _ (by simp)
  · exact y.enter ‹_› (by simp) _ (by simp) _ _ (by simp)
  · exact y

theorem judgeTakeOut_keepsYard (k : StepId) (u : State) : u.KeepsYard (judgeTakeOut k u).1 := by
  intro d y
  unfold judgeTakeOut
  split_ifs with may
  · exact y
  · exact y
  · obtain ⟨m, state, still⟩ : ∃ m, (u.stepRec k).state = some m ∧ m ≠ .closing ∧ m ≠ .opening := by
      revert may
      unfold mayTakeOut
      split <;> simp [*]
    exact y.enter state still _ (by simp) _ _ (by simp)

theorem judgeReturn_keepsYard (k : StepId) (u : State) : u.KeepsYard (judgeReturn k u).1 := by
  obtain ⟨rest, ready⟩ := availableState_spec (u.stepRec k).discharge
  intro d y
  unfold judgeReturn
  split
  · rename_i h
    split
    · exact y.enter h.1 (by simp) _ (by simp) _ _ (by simp)
    · exact y.enter h.1 (by simp) _ rest _ _ fun _ => ready
  · exact y

theorem State.clearTripRecord_keepsYard (s : State) : s.KeepsYard s.clearTripRecord := by
  have cleared : s.KeepsYard { s with upu := { s.upu with tripRecord := none } } :=
    State.SameYard.keepsYard (.of_blocks rfl rfl rfl rfl)
  exact .ite _ (cleared.trans (State.examine_keepsYard _)) cleared

theorem State.clearBackup_keepsYard (s : State) : s.KeepsYard s.clearBackup := by
  have cleared : s.SameYard { s with upu := { s.upu with backup := none } } :=
    ⟨rfl, fun _ => rfl, fun _ => rfl, fun _ => rfl, rfl, fun _ h => ⟨h, fun _ _ => rfl⟩⟩
  exact .ite _ (cleared.keepsYard.trans (State.examine_keepsYard _)) cleared.keepsYard

/-! ## Commands -/

theorem State.pass_sameYard (s : State) (n : Nat) : s.SameYard (s.pass n) := .of_blocks rfl rfl rfl rfl

theorem State.crossing_sameYard (s : State) (p : Phase) : s.SameYard (s.crossing p) := by
  refine .ite _ ?_ (.refl s)
  cases p <;> exact .of_blocks rfl rfl rfl rfl

theorem State.armDetector_sameYard (s : State) (p : Phase) : s.SameYard (s.armDetector p) := by
  cases p <;> exact .of_blocks rfl rfl rfl rfl

theorem State.acceptKey_keepsYard (s : State) : s.KeepsYard s.acceptKey :=
  .ite _ ((s.accept_sameYard _).keepsYard.trans (State.takeKey_keepsYard _ _)) (.refl s)

theorem State.acceptAssertion_keepsYard (s : State) : s.KeepsYard s.acceptAssertion :=
  .ite _ ((s.accept_sameYard _).keepsYard.trans (State.externalEdge_keepsYard _)) (.refl s)

theorem State.acceptDeassertion_keepsYard (s : State) : s.KeepsYard s.acceptDeassertion :=
  .ite _ (s.accept_sameYard _).keepsYard (.refl s)

theorem State.acceptHeld_keepsYard (s : State) (i : DiscreteInput) : s.KeepsYard (s.acceptHeld i) := by
  refine .ite _ ?_ (.refl s)
  cases i with
  | contact k c => exact s.acceptContact_keepsYard k c
  | key => exact s.acceptKey_keepsYard
  | externalTrip => exact s.acceptAssertion_keepsYard.trans (State.acceptDeassertion_keepsYard _)

theorem State.rawChange_keepsYard (s : State) (i : DiscreteInput) (level : Bool) (elapsed : Nat) :
    s.KeepsYard (if s.clock.held.isSome then s.changeRaw i level
      else if (s.debouncer i).raw = level then s.pass elapsed
      else ((s.pass elapsed).acceptHeld i).changeRaw i level) := by
  have passed := (s.pass_sameYard elapsed).keepsYard
  exact .ite _ (s.setDebouncer_sameYard i _).keepsYard (.ite _ passed
    ((passed.trans (State.acceptHeld_keepsYard _ i)).trans (State.setDebouncer_sameYard _ i _).keepsYard))

theorem State.faultExpires_keepsYard (s : State) (k : StepId) : s.KeepsYard (s.faultExpires k) := by
  intro d y
  unfold State.faultExpires
  split
  · exact y
  · exact y.contactFault ‹_›

theorem State.pulseEnds_sameYard (s : State) : s.SameYard s.pulseEnds := by
  unfold State.pulseEnds
  split
  · exact .refl s
  · exact (s.until_sameYard _).trans (State.pulseOff_sameYard _)

theorem State.closeTimesOut_keepsYard (s : State) : s.KeepsYard s.closeTimesOut := by
  intro d y
  unfold State.closeTimesOut
  split
  · rename_i e t flies _
    split
    · exact ((s.until_sameYard t.due).yard y).failClose flies
    · exact y
  · exact y

theorem State.openTimesOut_keepsYard (s : State) : s.KeepsYard s.openTimesOut := by
  intro d y
  unfold State.openTimesOut
  split
  · rename_i e t flies _
    split_ifs
    · exact y
    · exact ((s.until_sameYard t.due).yard y).retryOpen flies
    · exact ((s.until_sameYard t.due).yard y).failOpen flies
  · exact y

theorem State.monitorActivates_keepsYard (s : State) (m : MonitorId) : s.KeepsYard (s.monitorActivates m) :=
  .ite _ ((s.setMonitor_sameYard m _).keepsYard.trans (State.activate_keepsYard _ m)) (.refl s)

theorem State.monitorClears_keepsYard (s : State) (m : MonitorId) : s.KeepsYard (s.monitorClears m) :=
  .ite _ ((s.setMonitor_sameYard m _).keepsYard.trans (State.clearMonitor_keepsYard _ m)) (.refl s)

theorem State.captureCompletes_sameYard (s : State) : s.SameYard s.captureCompletes := by
  unfold State.captureCompletes
  split
  · exact .refl s
  · exact .ite _ (s.completeCapture_sameYard _) (.refl s)

theorem State.supervisionEnds_keepsYard (s : State) : s.KeepsYard s.supervisionEnds := by
  unfold State.supervisionEnds
  split
  · exact .refl s
  · exact .ite _ s.superviseExpiry_keepsYard (.refl s)

theorem State.released_keepsYard (s : State) (f : Fsel) : s.KeepsYard (s.released f) := by
  unfold State.released
  split
  · exact .refl s
  · exact s.release_keepsYard _ f

theorem State.loadingEnds_sameYard (s : State) : s.SameYard s.loadingEnds := by
  unfold State.loadingEnds
  split
  · exact (s.until_sameYard _).trans (State.endLoading_sameYard _)
  · exact .refl s

/-- Every command answers a next state that keeps the yard sound. -/
theorem exec_keepsYard (c : Instr) (s : State) : ∃ t, exec c s = .next t ∧ s.KeepsYard t := by
  have queried := fun (h : Header) (judge : Judge) (same : ∀ u, (judge u).1 = u) =>
    s.request_keepsYard h true judge fun u => (same u).symm ▸ .refl u
  have running := fun (f : State → State) (h : ∀ t : State, t.KeepsYard (f t)) => s.unlessHeld_keepsYard f (h s)
  cases c with
  | status h => exact ⟨_, rfl, s.request_keepsYard h true _ fun u => judgeStatus_keepsYard h.port u⟩
  | stepQuery h b => exact ⟨_, rfl, s.request_keepsYard h true _ fun u => withStep_keepsYard b _ u fun _ => .refl u⟩
  | frameQuery h => exact ⟨_, rfl, queried h _ fun _ => rfl⟩
  | monitorQuery h b => exact ⟨_, rfl, s.request_keepsYard h true _ fun u => withStep_keepsYard b _ u fun _ => .refl u⟩
  | tripRecordQuery h => exact ⟨_, rfl, queried h _ fun _ => rfl⟩
  | outcomeRead h => exact ⟨_, rfl, s.request_keepsYard h true _ fun u => judgeOutcomeRead_keepsYard _ u⟩
  | getSetting h n i => exact ⟨_, rfl, queried h _ fun u => by unfold judgeGet; split <;> rfl⟩
  | keepalive h => exact ⟨_, rfl, queried h _ fun _ => rfl⟩
  | openStep h b => exact ⟨_, rfl, s.request_keepsYard h true _ fun u => judgeOpen_keepsYard _ _ b u⟩
  | select h b => exact ⟨_, rfl, s.request_keepsYard h true _ fun u => judgeSelect_keepsYard _ _ b u⟩
  | operate h b => exact ⟨_, rfl, s.request_keepsYard h true _ fun u => judgeOperate_keepsYard _ _ b u⟩
  | cancel h b => exact ⟨_, rfl, s.request_keepsYard h true _ fun u => judgeCancel_keepsYard _ b u⟩
  | auto h v => exact ⟨_, rfl, s.request_keepsYard h true _ fun u => judgeAuto_keepsYard _ v u⟩
  | releaseHold h b => exact ⟨_, rfl, s.request_keepsYard h true _ fun u => judgeReleaseHold_keepsYard _ b u⟩
  | setSetting h n i v => exact ⟨_, rfl, s.request_keepsYard h _ _ fun u => judgeSet_keepsYard _ _ v u⟩
  | save h => exact ⟨_, rfl, s.request_keepsYard h _ _ fun u => judgeSave_keepsYard _ u⟩
  | captureInherent h b =>
    exact ⟨_, rfl, s.request_keepsYard h _ _ fun u => withStep_keepsYard b _ u fun k => judgeCaptureStep_keepsYard _ k u⟩
  | resetLockout h b =>
    exact ⟨_, rfl, s.request_keepsYard h _ _ fun u => withStep_keepsYard b _ u fun k => judgeResetLockout_keepsYard k u⟩
  | resetStep h b =>
    exact ⟨_, rfl, s.request_keepsYard h _ _ fun u => withStep_keepsYard b _ u fun k => judgeResetStep_keepsYard k u⟩
  | takeOut h b =>
    exact ⟨_, rfl, s.request_keepsYard h _ _ fun u => withStep_keepsYard b _ u fun k => judgeTakeOut_keepsYard k u⟩
  | returnStep h b =>
    exact ⟨_, rfl, s.request_keepsYard h _ _ fun u => withStep_keepsYard b _ u fun k => judgeReturn_keepsYard k u⟩
  | clearTripRecord h => exact ⟨_, rfl, s.request_keepsYard h _ _ State.clearTripRecord_keepsYard⟩
  | resetBackup h => exact ⟨_, rfl, s.request_keepsYard h _ _ State.clearBackup_keepsYard⟩
  | clearCounters h =>
    exact ⟨_, rfl, s.request_keepsYard h _ _ fun u => State.SameYard.keepsYard (by exact .of_blocks rfl rfl rfl rfl)⟩
  | badFrame p w =>
    exact ⟨_, rfl, running _ fun t => .ite _ (.refl t)
      ((t.clockOut_sameYard _ _).trans (State.respond_sameYard _ _ _ _)).keepsYard⟩
  | unknownRequest h code l => exact ⟨_, rfl, .ite _ (.refl s) (queried h _ fun _ => rfl)⟩
  | rawInputChange x level e => exact ⟨_, rfl, s.rawChange_keepsYard x level e⟩
  | contactDebounceAccept k c => exact ⟨_, rfl, running _ fun t => t.acceptContact_keepsYard k c⟩
  | keyAccept => exact ⟨_, rfl, running _ State.acceptKey_keepsYard⟩
  | externalTripAssertion => exact ⟨_, rfl, running _ State.acceptAssertion_keepsYard⟩
  | externalTripDeassertion => exact ⟨_, rfl, running _ State.acceptDeassertion_keepsYard⟩
  | contactFaultExpiry k => exact ⟨_, rfl, running _ fun t => t.faultExpires_keepsYard k⟩
  | coilPulseEnd => exact ⟨_, rfl, running _ fun t => t.pulseEnds_sameYard.keepsYard⟩
  | closeOperateTimeout => exact ⟨_, rfl, running _ State.closeTimesOut_keepsYard⟩
  | openOperateTimerExpiry => exact ⟨_, rfl, running _ State.openTimesOut_keepsYard⟩
  | dispatch => exact ⟨_, rfl, running _ State.examine_keepsYard⟩
  | crossing p e =>
    exact ⟨_, rfl, running _ fun t => ((t.pass_sameYard e).trans (State.crossing_sameYard _ p)).keepsYard⟩
  | frameStart => exact ⟨_, rfl, running _ fun t => t.startFrame_sameYard.keepsYard⟩
  | frameArrival f => exact ⟨_, rfl, running _ fun t => t.frameArrives_keepsYard f⟩
  | settleEnd =>
    exact ⟨_, rfl, running _ fun t => .ite _ (t.cuFrame_sameYard.keepsYard.trans (State.examine_keepsYard _)) (.refl t)⟩
  | deadLineEntry => exact ⟨_, rfl, running _ fun t => .ite _ t.enterDead_keepsYard (.refl t)⟩
  | lineLiveReturn => exact ⟨_, rfl, running _ fun t => .ite _ (t.setLine_keepsYard _) (.refl t)⟩
  | fastOpen => exact ⟨_, rfl, running _ fun t => .ite _ t.fastOpening_keepsYard (.refl t)⟩
  | monitorActivation m => exact ⟨_, rfl, running _ fun t => t.monitorActivates_keepsYard m⟩
  | monitorClearing m => exact ⟨_, rfl, running _ fun t => t.monitorClears_keepsYard m⟩
  | unbalanceAlarm k => exact ⟨_, rfl, running _ fun t => .ite _ (t.alarmStage_sameYard k).keepsYard (.refl t)⟩
  | unbalanceTripDecision k => exact ⟨_, rfl, running _ fun t => .ite _ (t.decideTrip_keepsYard k _ _ _) (.refl t)⟩
  | captureComplete => exact ⟨_, rfl, running _ fun t => t.captureCompletes_sameYard.keepsYard⟩
  | elapsedSecond l => exact ⟨_, rfl, running _ fun t => t.secondElapses_keepsYard l⟩
  | dischargeEnd k =>
    exact ⟨_, rfl, running _ fun t => .ite _ ((t.countDischarge_keepsYard k).trans (State.endDischarge_keepsYard _ k))
      (.refl t)⟩
  | harmonicHoldEnd k => exact ⟨_, rfl, running _ fun t => .ite _ (t.countHold_sameYard k).keepsYard (.refl t)⟩
  | stale =>
    exact ⟨_, rfl, running _ fun t => t.removeStale_keepsYard.trans (State.examineIfLeft_keepsYard _ t)⟩
  | selectExpired p => exact ⟨_, rfl, running _ fun t => (t.expireSelection_sameYard p).keepsYard⟩
  | supervisionTimerExpiry => exact ⟨_, rfl, running _ State.supervisionEnds_keepsYard⟩
  | saveComplete r => exact ⟨_, rfl, running _ fun t => (t.saveEnds_sameYard r).keepsYard⟩
  | powerOnReset => exact ⟨_, rfl, (s.holdReset_sameYard _).keepsYard⟩
  | pinReset => exact ⟨_, rfl, (s.holdReset_sameYard _).keepsYard⟩
  | releaseOfReset f => exact ⟨_, rfl, s.released_keepsYard f⟩
  | loadingEnd => exact ⟨_, rfl, running _ fun t => t.loadingEnds_sameYard.keepsYard⟩
  | stepDerivation o => exact ⟨_, rfl, running _ fun t => t.derivation_keepsYard o⟩
  | zeroCrossingDetectorArming p => exact ⟨_, rfl, running _ fun t => (t.armDetector_sameYard p).keepsYard⟩

/-- A step keeps the yard sound, with the discharge times or without them. -/
theorem step_keepsYard {s t : State} {d : Prop} (y : s.Yard d) (next : step s = .next t) : t.Yard d := by
  have queued : ∀ (u : State) (rest : List Instr), u.SameYard { u with pending := rest } := fun _ _ =>
    .of_blocks rfl rfl rfl rfl
  refine step_invariant (fun u => u.Yard d) (fun u rest => (queued u rest).yard)
    (fun u n => (u.pass_sameYard n).yard) (fun c u v hu run => ?_) s t y next
  obtain ⟨w, answer, kept⟩ := exec_keepsYard c u
  rw [answer] at run
  obtain rfl := Host.Outcome.next.inj run
  exact kept d hu

/-- Settles O8: an entry joins for a step in the state that R48 gives it, and a change of state removes the entry
that no longer fits and switches the step's coils off (R3, R21, R72). -/
theorem stepsKeepTheQueueAndCoilsSound : Obligations.StepsKeepTheQueueAndCoilsSound := by
  intro s t queue coils next
  obtain ⟨queue, coils, -⟩ := step_keepsYard (d := False) ⟨queue, coils, False.elim⟩ next
  exact ⟨queue, coils⟩

/-- Settles O11: TDIS is loaded at an opening only, READY is entered at 0, and CLOSED puts the time to 0 (R77, R78,
R79). -/
theorem stepsKeepEnergisedStepsDischarged : Obligations.StepsKeepEnergisedStepsDischarged := by
  intro s t queue coils discharge next
  exact (step_keepsYard (d := True) ⟨queue, coils, fun _ => discharge⟩ next).discharge trivial

end Sys2Proof.Machine
end

section
/-!
PROOF. Reset (R201): what a held reset stops, and what its release leaves.
-/
namespace Sys2Proof.Machine

/-! ## A held reset -/

/-- Every command but the reset rows and a raw input change waits for the end of a held reset (R201). -/
theorem exec_held (c : Instr) (s : State) (held : s.clock.held ≠ none) (waits : c.worksInReset = false) :
    exec c s = .next s := by
  have stops : ∀ f : State → State, Host.Outcome.next (s.unlessHeld f) = (.next s : Host.Outcome State Fault Refusal) :=
    fun f => congrArg Host.Outcome.next (s.unlessHeld_held f held)
  cases c with
  | powerOnReset | pinReset | releaseOfReset | rawInputChange => simp [Instr.worksInReset] at waits
  | unknownRequest h code l =>
    show Host.Outcome.next (if (payloadSize code).isSome then s else _) = _
    split
    · rfl
    · exact stops _
  | _ => exact stops _

/-- A torn copy is not valid: a word differs from its complement (R200). -/
theorem imageTorn_invalid (i : Image) : imageValid (imageTorn i) = false := by
  have ne : ∀ w : BitVec 16, ~~~w ≠ w := fun w h => by
    have bit := congrArg (fun v : BitVec 16 => v.getLsbD 0) h
    simp at bit
  simp [imageValid, imageTorn, ne]

/-- A held reset leaves every output de-asserted, and a SAVE without a valid target copy (R200, R201). -/
theorem State.holdReset_effects (s : State) (h : ResetHold) : heldResetEffects s (s.holdReset h) := by
  refine ⟨fun _ _ => rfl, rfl, rfl, fun _ => rfl, ?_, fun idle => ?_, fun f save => ?_, rfl, rfl, ?_⟩
  · show s.set.abandonSave.save = none
    unfold SetState.abandonSave
    split
    · assumption
    · rfl
  · show s.set.abandonSave = s.set
    simp [SetState.abandonSave, idle]
  · show (f.target1 = true → imageValid s.set.abandonSave.copy1 = false ∧ s.set.abandonSave.copy0 = s.set.copy0)
      ∧ (f.target1 = false → imageValid s.set.abandonSave.copy0 = false ∧ s.set.abandonSave.copy1 = s.set.copy1)
      ∧ s.set.abandonSave.settings = s.set.settings ∧ s.set.abandonSave.current1 = s.set.current1
    cases target : f.target1 <;>
      simp [SetState.abandonSave, save, SetState.setCopy, target, imageTorn_invalid]
  · intro b hb
    cases b <;> first | rfl | simp at hb

/-- Settles O3: each command is an event of a controller that runs, and the two resets add their kind to what is
held. -/
theorem heldResetStopsTheController : Obligations.HeldResetStopsTheController := by
  refine ⟨exec_held, fun s => ⟨⟨_, rfl, s.holdReset_effects _, ?_⟩, _, rfl, s.holdReset_effects _, ?_⟩⟩
  · cases h : s.clock.held <;> simp [State.holdReset, State.heldNow, h]
  · cases h : s.clock.held <;> simp [State.holdReset, State.heldNow, h]

/-! ## The release -/

/-- The default settings are those of the catalogue (R194). -/
theorem Settings.default_get (i : SettingId) : Settings.default.get i = i.dflt := by
  cases i with
  | yard y => cases y <;> rfl
  | step f k => cases f <;> revert k <;> decide
  | monitor f m => cases f <;> revert m <;> decide

/-- The raw levels of a step's contacts, as they stand. -/
theorem State.rawLevels_contacts (s : State) (k : StepId) :
    s.rawLevels.contacts[k] = ((s.stepRec k).closedContact.raw, (s.stepRec k).openContact.raw) := by
  simp [State.rawLevels, State.stepRec]

/-- Every debouncer after reset keeps its raw level and has accepted nothing (R4, R6). -/
theorem State.release_debouncer (s : State) (h : ResetHold) (f : Fsel) (i : DiscreteInput) :
    (s.release h f).debouncer i = { raw := (s.debouncer i).raw, since := 0, accepted := none } := by
  have records : ∀ k, (s.release h f).stepRec k = StepRecord.afterReset s.rawLevels.contacts[k] :=
    State.afterReset_stepRec f (causeOf h) s.rawLevels s.set.copy0 s.set.copy1
  cases i with
  | contact k c =>
    cases c
    all_goals
      simp only [State.debouncer]
      rw [records, State.rawLevels_contacts]
      rfl
  | key => rfl
  | externalTrip => rfl

/-- Settles O4: the release writes the state after reset over every block (R201). -/
theorem releaseLeavesAfterReset : Obligations.ReleaseLeavesAfterReset := by
  intro s f r held
  have next : exec (.releaseOfReset f) s = .next (s.release r f) := by
    show Host.Outcome.next (s.released f) = _
    rw [State.released, held]
  have records : ∀ k, (s.release r f).stepRec k = StepRecord.afterReset s.rawLevels.contacts[k] :=
    State.afterReset_stepRec f (causeOf r) s.rawLevels s.set.copy0 s.set.copy1
  have monitors : ∀ m, (s.release r f).monitor m = .afterReset :=
    State.afterReset_monitor f (causeOf r) s.rawLevels s.set.copy0 s.set.copy1
  refine ⟨_, next, rfl, rfl, rfl, rfl, rfl, rfl, rfl, rfl, rfl, ?_, ?_, rfl, rfl, rfl, rfl, rfl, rfl, rfl, rfl, rfl,
    rfl, monitors, ?_, rfl, rfl, rfl, rfl, rfl, rfl, rfl, rfl, rfl, ?_, ?_, Settings.default_get, rfl, rfl, rfl, rfl,
    rfl, rfl, s.release_debouncer r f⟩
  · intro p
    cases p <;> exact ⟨rfl, rfl⟩
  · intro k
    rw [records, State.rawLevels_contacts]
    exact ⟨rfl, rfl, rfl, rfl, rfl, rfl, rfl, rfl, rfl, rfl, rfl, rfl, rfl, rfl, rfl, rfl, rfl, fun _ => rfl⟩
  · simp [State.harmonicBlock, State.monitorActive, monitors, Monitor.afterReset]
  · intro p
    cases p <;> exact ⟨rfl, rfl⟩
  · intro p
    cases p <;> exact ⟨rfl, rfl, rfl⟩

end Sys2Proof.Machine
end

section
/-!
SUPPORT and PROOF. A request's frame: the window and the supervision that come before its judgement, the order of
judgement (R179), and the frames that are not judged (R177, R181).
-/
namespace Sys2Proof.Machine

/-! ## The frame before the judgement -/

/-- A window clocks the waiting response out of its port (R176). -/
theorem State.clockOut_portState (s : State) (p q : Port) (w : Nat) :
    (s.clockOut p w).portState q =
      if q = p then
        { s.portState p with line := exactly w ((s.portState p).buffer.getD []), buffer := none }
      else s.portState q := by
  cases p <;> cases q <;> rfl

/-- Setting both change flags, or not, writes nothing else of a port (R190). -/
theorem State.setFlagsIf_portState (s : State) (c : Bool) (p : Port) :
    (s.setFlagsIf c).portState p =
      { s.portState p with changeFlag := (s.portState p).changeFlag || c } := by
  cases c <;> cases p <;> simp [State.setFlagsIf, State.setFlags, State.portState]

/-- A good frame of this port acts on supervision (R164). -/
abbrev State.supervises (s : State) (p : Port) : Prop := p = .b ∧ s.au.key = some .remote

theorem State.superviseGood_of {s : State} {p : Port} (h : s.supervises p) :
    s.superviseGood p = s.setSupervision .ok (some (s.y .tsup)) := by
  obtain ⟨rfl, key⟩ := h
  simp [State.superviseGood, key]

theorem State.superviseGood_of_not {s : State} {p : Port} (h : ¬s.supervises p) : s.superviseGood p = s := by
  unfold State.superviseGood
  split
  · rename_i key
    exact absurd ⟨rfl, key⟩ h
  · rfl

theorem State.setSupervision_au (s : State) (v : Supervision) (n : Option Nat) :
    (s.setSupervision v n).au = { s.au with supervision := v, remaining := n } := by
  simp [State.setSupervision]

theorem State.setSupervision_portState (s : State) (v : Supervision) (n : Option Nat) (p : Port) :
    (s.setSupervision v n).portState p =
      { s.portState p with changeFlag := (s.portState p).changeFlag || decide (s.au.supervision ≠ v) } :=
  State.setFlagsIf_portState _ _ p

theorem State.setSupervision_onlyIn (s : State) (v : Supervision) (n : Option Nat) :
    s.onlyIn (s.setSupervision v n) [.au, .pi] := by
  intro b hb
  cases b <;> simp_all [State.sameBlock, State.setSupervision]

theorem State.superviseGood_onlyIn (s : State) (p : Port) : s.onlyIn (s.superviseGood p) [.au, .pi] := by
  unfold State.superviseGood
  split
  · exact s.setSupervision_onlyIn _ _
  · exact State.onlyIn_refl s _

theorem State.clockOut_onlyIn (s : State) (p : Port) (w : Nat) : s.onlyIn (s.clockOut p w) [.pi] :=
  s.setPort_onlyIn p _

/-- The state that a request is judged on differs in supervision and at the ports (R164, R176). -/
theorem State.judged_onlyIn (s : State) (h : Header) : s.onlyIn (s.judged h) [.au, .pi] :=
  State.onlyIn_trans (State.onlyIn_mono (s.clockOut_onlyIn h.port h.window) (by decide))
    (State.superviseGood_onlyIn _ h.port)

/-- The Authority Unit of the state that a request is judged on (R164). -/
theorem State.judged_au (s : State) (h : Header) :
    (s.judged h).au =
      if s.supervises h.port then { s.au with supervision := .ok, remaining := some (s.y .tsup) } else s.au := by
  have au : (s.clockOut h.port h.window).au = s.au := s.clockOut_onlyIn _ _ .au (by decide)
  have set : (s.clockOut h.port h.window).set = s.set := s.clockOut_onlyIn _ _ .set (by decide)
  unfold State.judged
  split
  · rw [State.superviseGood_of (by rwa [State.supervises, au]), State.setSupervision_au, au, State.y, set]
    rfl
  · rw [State.superviseGood_of_not (by rwa [State.supervises, au]), au]

/-- The ports of the state that a request is judged on (R164, R176). -/
theorem State.judged_portState (s : State) (h : Header) (p : Port) :
    (s.judged h).portState p =
      { (s.clockOut h.port h.window).portState p with
        changeFlag := (s.portState p).changeFlag
          || decide (s.supervises h.port ∧ s.au.supervision ≠ .ok) } := by
  have au : (s.clockOut h.port h.window).au = s.au := s.clockOut_onlyIn _ _ .au (by decide)
  have flag : ((s.clockOut h.port h.window).portState p).changeFlag = (s.portState p).changeFlag := by
    rw [State.clockOut_portState]
    split
    · subst p; rfl
    · rfl
  unfold State.judged
  by_cases acts : s.supervises h.port
  · rw [State.superviseGood_of (by rwa [State.supervises, au]), State.setSupervision_portState, au, flag]
    simp [acts]
  · rw [State.superviseGood_of_not (by rwa [State.supervises, au])]
    simp [acts, ← flag]

/-! ## The judgement -/

/-- A request that a controller serves is answered by its judgement of the judged state (R179). -/
theorem State.request_of_judge {s u : State} {h : Header} {permitted : Bool} {judge : Judge} (serves : s.serves)
    (may : permitted = true) (hu : u = s.judged h) {v : State} {a : Answer} (judged : judge u = (v, a)) :
    s.request h permitted judge = v.respond h.port h.tag a := by
  rw [s.request_serves h permitted judge serves may, ← hu, judged]

/-- A request that is not accepted from its port is answered NOT_PERMITTED (R179, R181). -/
theorem State.request_notPermitted {s u : State} {h : Header} {permitted : Bool} (judge : Judge) (serves : s.serves)
    (may : permitted = false) (hu : u = s.judged h) :
    s.request h permitted judge = u.respond h.port h.tag (.plain .notPermitted) := by
  obtain ⟨free, running⟩ := serves
  have started : (s.judged h).set.startup ≠ .loading := by
    have same : (s.judged h).set = s.set := s.judged_onlyIn h .set (by decide)
    rw [same, running]
    decide
  subst hu may
  rw [State.request, State.unlessHeld_free _ _ free]
  simp only [State.judged] at started ⊢
  simp [started]

/-- An answer that follows effects which leave the ports and write the listed blocks (R178). -/
theorem State.answered_onlyIn {u v : State} {l : List Block} (h : Header) (a : Answer) (effects : u.onlyIn v l)
    (ports : Block.pi ∉ l) :
    u.answered (v.respond h.port h.tag a) h a ∧ u.onlyIn (v.respond h.port h.tag a) (.pi :: l) :=
  ⟨State.respond_answered (effects .pi ports) h a,
    State.onlyIn_trans (State.onlyIn_mono effects (List.subset_cons_self _ _))
      (State.onlyIn_mono (v.respond_onlyIn h.port h.tag a) (by simp))⟩

/-- A response alone answers and writes its port (R178). -/
theorem State.answered_refused (u : State) (h : Header) (a : Answer) :
    u.answered (u.respond h.port h.tag a) h a ∧ u.onlyIn (u.respond h.port h.tag a) [.pi] :=
  State.answered_onlyIn h a (State.onlyIn_refl u []) (by decide)

/-! ## Setting ids (R194) -/

theorem YardSetting.number_lt (y : YardSetting) : y.number < 0x40 := by cases y <;> decide

theorem StepSetting.number_mem (f : StepSetting) : 0x40 ≤ f.number ∧ f.number < 0x50 := by cases f <;> decide

theorem MonitorSetting.number_ge (f : MonitorSetting) : 0x50 ≤ f.number := by cases f <;> decide

/-- A number and an index name one setting (R194). -/
theorem SettingId.eq_of_bytes {i j : SettingId} (number : i.number = j.number) (index : i.index = j.index) :
    i = j := by
  have yard : ∀ x ∈ allYardSettings, ∀ y ∈ allYardSettings, x.number = y.number → x = y :=
    List.inj_on_of_nodup_map (by decide)
  have step : ∀ x ∈ allStepSettings, ∀ y ∈ allStepSettings, x.number = y.number → x = y :=
    List.inj_on_of_nodup_map (by decide)
  have monitor : ∀ x ∈ allMonitorSettings, ∀ y ∈ allMonitorSettings, x.number = y.number → x = y :=
    List.inj_on_of_nodup_map (by decide)
  have beforeSteps := YardSetting.number_lt
  have steps := StepSetting.number_mem
  have afterSteps := MonitorSetting.number_ge
  cases i <;> cases j <;> dsimp only [SettingId.number] at number
  case yard.step y f k => exact absurd number (by have := beforeSteps y; have := steps f; omega)
  case yard.monitor y f k => exact absurd number (by have := beforeSteps y; have := afterSteps f; omega)
  case step.yard f k y => exact absurd number (by have := beforeSteps y; have := steps f; omega)
  case step.monitor f k g l => exact absurd number (by have := steps f; have := afterSteps g; omega)
  case monitor.yard f k y => exact absurd number (by have := beforeSteps y; have := afterSteps f; omega)
  case monitor.step f k g l => exact absurd number (by have := afterSteps f; have := steps g; omega)
  case yard.yard x y =>
    rw [yard x (by cases x <;> decide) y (by cases y <;> decide) number]
  case step.step f k g l =>
    rw [step f (by cases f <;> decide) g (by cases g <;> decide) number]
    exact congrArg _ (Fin.ext (by simpa [SettingId.index] using index))
  case monitor.monitor f k g l =>
    rw [monitor f (by cases f <;> decide) g (by cases g <;> decide) number]
    exact congrArg _ (Fin.ext (by simpa [SettingId.index] using index))

/-- Two bytes name a setting exactly when they are its number and its index (R182, R184). -/
theorem SettingId.ofBytes_eq_some_iff {n x : Nat} {i : SettingId} :
    SettingId.ofBytes n x = some i ↔ i.number = n ∧ i.index = x := by
  constructor
  · intro h
    simpa using List.find?_some h
  · rintro ⟨rfl, rfl⟩
    cases h : SettingId.ofBytes i.number i.index with
    | none =>
      have := List.find?_eq_none.mp h i (mem_allSettingIds i)
      simp at this
    | some j =>
      have bytes : j.number = i.number ∧ j.index = i.index := by simpa using List.find?_some h
      rw [SettingId.eq_of_bytes bytes.1 bytes.2]

/-- Two bytes name no setting exactly when no setting has them (R182). -/
theorem SettingId.ofBytes_eq_none_iff {n x : Nat} :
    SettingId.ofBytes n x = none ↔ ∀ i : SettingId, ¬(i.number = n ∧ i.index = x) := by
  rw [SettingId.ofBytes, List.find?_eq_none]
  exact ⟨fun h i => by simpa using h i (mem_allSettingIds i), fun h i _ => by simpa using h i⟩

/-- Port B may name the settings that the catalogue gives it (R181, R184). -/
theorem setPermitted_eq (p : Port) (n i : Byte) :
    setPermitted p (SettingId.ofBytes n.toNat i.toNat) =
      decide ((!(decide (n = 0x10 ∧ i = 0) || decide (n = 0x11 ∧ i = 0))) = false ∨ p = .a) := by
  have named : ∀ (y : YardSetting) (c : Byte), y.number = c.toNat →
      (SettingId.ofBytes n.toNat i.toNat = some (.yard y) ↔ n = c ∧ i = 0) := by
    intro y c hc
    rw [SettingId.ofBytes_eq_some_iff, SettingId.number, SettingId.index, hc]
    constructor
    · rintro ⟨hn, hi⟩
      exact ⟨BitVec.eq_of_toNat_eq hn.symm, BitVec.eq_of_toNat_eq (by simpa using hi.symm)⟩
    · rintro ⟨rfl, rfl⟩
      exact ⟨rfl, rfl⟩
  have vset := named .vset 0x10 rfl
  have bw := named .bw 0x11 rfl
  rw [setPermitted, Bool.eq_iff_iff]
  simp only [vset, bw, Bool.or_eq_true, decide_eq_true_eq, Bool.not_eq_false']
  tauto

/-! ## The order of judgement (R179) -/

/-- What a good frame runs: a request with the catalogue's permission, whose judgement refuses a field out of range
and a code outside the catalogue (R179, R181, R182). -/
theorem exec_of_header {c : Instr} {h : Header} (good : c.header = some h) :
    ∃ judge : Judge,
      (∀ s, exec c s = .next (s.request h (decide (c.portAOnly = false ∨ h.port = .a)) judge))
        ∧ (c.fieldOut = true → ∀ u, judge u = refusedWith u .badStep)
        ∧ ((∃ code l, c = .unknownRequest h code l) → ∀ u, judge u = refusedWith u .unknownRequest) := by
  have byStep : ∀ (b : Byte) (judge : StepId → Judge), decide (b.toNat = 0 ∨ 8 < b.toNat) = true →
      ∀ u, withStep b judge u = refusedWith u .badStep := fun b judge out u =>
    withStep_badStep (by simpa using out) judge u
  have byAll : ∀ b : Byte, decide ((b.toNat = 0 ∨ 8 < b.toNat) ∧ b.toNat ≠ 15) = true →
      b ≠ allStepsField ∧ decide (b.toNat = 0 ∨ 8 < b.toNat) = true := by
    intro b out
    simp only [decide_eq_true_eq] at out
    refine ⟨?_, by simpa using out.1⟩
    rintro rfl
    exact out.2 rfl
  have bySetting : ∀ n i : Byte, allSettingIds.all (fun x => decide (¬(x.number = n.toNat ∧ x.index = i.toNat))) = true →
      SettingId.ofBytes n.toNat i.toNat = none := by
    intro n i out
    rw [SettingId.ofBytes_eq_none_iff]
    exact fun x => of_decide_eq_true (List.all_eq_true.mp out x (mem_allSettingIds x))
  have anyPort : c.portAOnly = false → decide (c.portAOnly = false ∨ h.port = .a) = true := fun e => by simp [e]
  have portA : c.portAOnly = true → decide (c.portAOnly = false ∨ h.port = .a) = fromA h := fun e => by
    simp [e, fromA]
  cases c with
  | status | frameQuery | tripRecordQuery | outcomeRead | keepalive | auto =>
    obtain rfl := Option.some_inj.mp good
    rw [anyPort rfl]
    exact ⟨_, fun _ => rfl, fun out => (by simp [Instr.fieldOut] at out), fun ⟨_, _, e⟩ => nomatch e⟩
  | save | clearTripRecord | resetBackup | clearCounters =>
    obtain rfl := Option.some_inj.mp good
    rw [portA rfl]
    exact ⟨_, fun _ => rfl, fun out => (by simp [Instr.fieldOut] at out), fun ⟨_, _, e⟩ => nomatch e⟩
  | stepQuery h' b | monitorQuery h' b | select h' b | operate h' b | cancel h' b =>
    obtain rfl := Option.some_inj.mp good
    rw [anyPort rfl]
    exact ⟨_, fun _ => rfl, fun out => byStep b _ out, fun ⟨_, _, e⟩ => nomatch e⟩
  | captureInherent h' b | resetLockout h' b | resetStep h' b | takeOut h' b | returnStep h' b =>
    obtain rfl := Option.some_inj.mp good
    rw [portA rfl]
    exact ⟨_, fun _ => rfl, fun out => byStep b _ out, fun ⟨_, _, e⟩ => nomatch e⟩
  | openStep h' b =>
    obtain rfl := Option.some_inj.mp good
    rw [anyPort rfl]
    refine ⟨_, fun _ => rfl, fun out u => ?_, fun ⟨_, _, e⟩ => nomatch e⟩
    obtain ⟨one, out⟩ := byAll b out
    rw [judgeOpen, if_neg one]
    exact byStep b _ out u
  | releaseHold h' b =>
    obtain rfl := Option.some_inj.mp good
    rw [anyPort rfl]
    refine ⟨_, fun _ => rfl, fun out u => ?_, fun ⟨_, _, e⟩ => nomatch e⟩
    obtain ⟨one, out⟩ := byAll b out
    rw [judgeReleaseHold, if_neg one]
    exact byStep b _ out u
  | getSetting h' n i =>
    obtain rfl := Option.some_inj.mp good
    rw [anyPort rfl]
    refine ⟨_, fun _ => rfl, fun out u => ?_, fun ⟨_, _, e⟩ => nomatch e⟩
    rw [judgeGet, bySetting n i out]
  | setSetting h' n i v =>
    obtain rfl := Option.some_inj.mp good
    refine ⟨judgeSet h'.port (SettingId.ofBytes n.toNat i.toNat) v, fun s => ?_, fun out u => ?_,
      fun ⟨_, _, e⟩ => nomatch e⟩
    · rw [Instr.portAOnly, ← setPermitted_eq]
      rfl
    · rw [bySetting n i out]
      rfl
  | unknownRequest h' code l =>
    simp only [Instr.header, Option.ite_none_right_eq_some] at good
    obtain ⟨outside, same⟩ := good
    obtain rfl := Option.some_inj.mp same
    rw [anyPort rfl]
    refine ⟨fun t => refusedWith t .unknownRequest, fun s => ?_, fun out => (by simp [Instr.fieldOut] at out),
      fun _ _ => rfl⟩
    show Host.Outcome.next (if (payloadSize code).isSome then s else _) = _
    rw [if_neg (by simpa using outside)]
  | _ => cases good

/-- Settles O14: each row of R179 answers before the next one is asked. -/
theorem requestsAreScreenedInOrder : Obligations.RequestsAreScreenedInOrder := by
  intro c h s u good free hu
  obtain ⟨judge, next, field, unknown⟩ := exec_of_header good
  have refused : ∀ a, s.request h (decide (c.portAOnly = false ∨ h.port = .a)) judge = u.respond h.port h.tag a →
      ∃ t, exec c s = .next t ∧ u.answered t h a ∧ u.onlyIn t [.pi] := fun a e =>
    ⟨_, (next s).trans (congrArg _ e), u.answered_refused h a⟩
  refine ⟨fun loading => refused _ ?_, fun running code => refused _ ?_, fun running only b => refused _ ?_,
    fun running may out => refused _ ?_⟩
  · rw [hu]
    exact s.request_loading h _ judge free loading
  · have may : c.portAOnly = false := by
      obtain ⟨_, _, rfl⟩ := code
      rfl
    exact State.request_of_judge ⟨free, running⟩ (by simp [may]) hu (unknown code u)
  · exact State.request_notPermitted judge ⟨free, running⟩ (by simp [only, b]) hu
  · exact State.request_of_judge ⟨free, running⟩ (by simpa using may) hu (field out u)

/-! ## KEEPALIVE and the frames that are not served -/

/-- Settles O13: the window, the supervision of a Port B frame at REMOTE, and the response follow one another
(R164, R176, R178). -/
theorem keepaliveActsOnSupervision : Obligations.KeepaliveActsOnSupervision := by
  intro h s serves
  have next : exec (.keepalive h) s = .next ((s.judged h).respond h.port h.tag (.plain .done)) :=
    congrArg Host.Outcome.next (State.request_of_judge serves rfl rfl rfl)
  refine ⟨_, next, ?_⟩
  have ports := s.judged_portState h
  have window := s.clockOut_portState h.port
  refine ⟨?_, ?_, ?_, ?_, fun p => ?_, fun p ne => ?_, ?_⟩
  · simp [State.respond_portState]
    rfl
  · simp [State.respond_portState, ports, window]
  · simp [State.respond_portState, ports, window]
  · have flag : ∀ p, (((s.judged h).respond h.port h.tag (.plain .done)).portState p).changeFlag =
        ((s.portState p).changeFlag || decide (s.supervises h.port ∧ s.au.supervision ≠ .ok)) := by
      intro p
      by_cases e : p = h.port <;> simp [State.respond_portState, ports, e]
    rw [State.respond_au, s.judged_au h]
    split
    · rename_i acts
      exact ⟨rfl, fun p => by rw [flag]; simp [acts]⟩
    · rename_i acts
      exact ⟨rfl, fun p => by rw [flag]; simp [acts]⟩
  · by_cases e : p = h.port <;> simp [State.respond_portState, ports, window, e]
  · simp [State.respond_portState, ports, window, ne]
  · exact State.onlyIn_trans (s.judged_onlyIn h) (State.onlyIn_mono (State.respond_onlyIn _ _ _ _) (by decide))

/-- Settles O15: a bad frame runs its window and is answered, and a code outside the catalogue is refused as a
request. -/
theorem unservedFramesAreAnswered : Obligations.UnservedFramesAreAnswered := by
  refine ⟨fun p w s free bad => ?_, fun h code l s u serves outside hu => ?_⟩
  · have next : exec (.badFrame p w) s =
        .next ((s.clockOut p w.length).respond p (badTag w) (.plain .badFrame)) := by
      show Host.Outcome.next (s.unlessHeld _) = _
      rw [State.unlessHeld_free _ _ free, bad]
      rfl
    have window := s.clockOut_portState p
    refine ⟨_, next, ?_, ?_, ?_, ?_, fun q ne => ?_, ?_⟩
    · simp [State.respond_portState]
      rfl
    · simp [State.respond_portState, window]
    · simp [State.respond_portState, window]
    · simp [State.respond_portState, window]
    · simp [State.respond_portState, window, ne]
    · exact State.onlyIn_trans (s.clockOut_onlyIn p _) (State.respond_onlyIn _ _ _ _)
  · have good : (Instr.unknownRequest h code l).header = some h := by simp [Instr.header, outside]
    exact (requestsAreScreenedInOrder _ h s u good serves.1 hu).2.1 serves.2 ⟨code, l, rfl⟩

end Sys2Proof.Machine
end

section
/-!
PROOF. The windows of the ports as bytes (R177, R181): what carries a request is read back as it.
-/
namespace Sys2Proof.Machine

/-- The bytes after the tag of the window that carries a payload (R177). -/
theorem frameBytes_eq (h : Header) (code : Byte) (payload : List Byte) :
    frameBytes h code payload =
      byte payload.length :: code :: h.tag :: (payload ++ crc8 (byte payload.length :: code :: h.tag :: payload)
        :: List.replicate (h.window - (payload.length + 4)) 0) := by
  simp [frameBytes]

/-- A good frame is read as the request that its code and payload give (R177). -/
theorem decodeWindow_of_good {l code tag : Byte} {rest : List Byte} (good : goodFrame (l :: code :: tag :: rest) = true)
    (p : Port) :
    decodeWindow p (l :: code :: tag :: rest) =
      decodeRequest { port := p, tag := tag, window := (l :: code :: tag :: rest).length } code
        (rest.take l.toNat) := by
  simp [decodeWindow, good]

/-- A window that holds a whole frame, with a payload of the catalogue's size, is read as its request (R177). -/
theorem decodeWindow_frameBytes {h : Header} {code : Byte} {payload : List Byte} (short : payload.length ≤ 60)
    (fits : h.fits payload.length = true) (size : ∀ n, payloadSize code = some n → payload.length = n) :
    decodeWindow h.port (frameBytes h code payload) = decodeRequest h code payload := by
  have len : (byte payload.length).toNat = payload.length := by
    simp [byte]
    omega
  have window : payload.length + 4 ≤ h.window := by simpa [Header.fits] using fits
  have sized : (match payloadSize code with
      | none => true
      | some n => decide ((byte payload.length).toNat = n)) = true := by
    split
    · rfl
    · simpa [len] using size _ ‹_›
  have good : goodFrame (frameBytes h code payload) = true := by
    rw [frameBytes_eq, goodFrame]
    simp only [Bool.and_eq_true]
    refine ⟨⟨⟨?_, ?_⟩, ?_⟩, sized⟩
    · simpa [len] using short
    · simp [len]
    · simp [len]
  have total : (frameBytes h code payload).length = h.window := by
    rw [frameBytes_eq]
    simp
    omega
  rw [frameBytes_eq] at good total ⊢
  rw [decodeWindow_of_good good, total, len, List.take_left]

/-- A 16-bit value is the two bytes it is sent in (9.9). -/
theorem word16_extract (v : BitVec 16) : word16 (v.extractLsb' 8 8) (v.extractLsb' 0 8) = v := by
  unfold word16
  ext i hi
  simp only [BitVec.getElem_append, BitVec.getElem_extractLsb']
  split
  · simp [BitVec.getLsbD_eq_getElem hi]
  · rw [show 8 + (i - 8) = i by omega, BitVec.getLsbD_eq_getElem hi]

/-- A code outside the catalogue is read as an unknown request (R179). -/
theorem decodeRequest_unknown {code : Byte} (outside : payloadSize code = none) (h : Header) (payload : List Byte) :
    decodeRequest h code payload = .unknownRequest h code payload := by
  have ne : ∀ v : Nat, (payloadSize (BitVec.ofNat 8 v)).isSome = true → code.toNat ≠ v := by
    rintro v known rfl
    rw [BitVec.ofNat_toNat, BitVec.setWidth_eq, outside] at known
    cases known
  unfold decodeRequest decodeRequest.match_1
  iterate 24 rw [dif_neg (ne _ (by decide))]

/-- Settles O16: the length, the check byte and the zeros of the window are those the framing checks ask for. -/
theorem windowsReadBackAsTheirCommands : Obligations.WindowsReadBackAsTheirCommands := by
  intro c p w wellFormed encoded
  have read : ∀ {h : Header} {code : Byte} {payload : List Byte}, some (h.port, frameBytes h code payload) = some (p, w) →
      payload.length ≤ 60 → h.fits payload.length = true → (∀ n, payloadSize code = some n → payload.length = n) →
      decodeWindow p w = decodeRequest h code payload := by
    intro h code payload e short fits size
    obtain ⟨rfl, rfl⟩ := Prod.mk.inj (Option.some_inj.mp e)
    exact decodeWindow_frameBytes short fits size
  cases c with
  | badFrame q bytes =>
    obtain ⟨rfl, rfl⟩ := Prod.mk.inj (Option.some_inj.mp encoded)
    have bad : goodFrame bytes = false := by simpa [Instr.wellFormed] using wellFormed
    simp [decodeWindow, bad]
  | unknownRequest h code payload =>
    simp only [Instr.wellFormed, Bool.and_eq_true, Option.isNone_iff_eq_none, decide_eq_true_eq] at wellFormed
    obtain ⟨⟨outside, short⟩, fits⟩ := wellFormed
    rw [read encoded short fits (by simp [outside]), decodeRequest_unknown outside]
  | setSetting h n i v =>
    rw [read encoded (by simp) wellFormed (by simp [payloadSize])]
    exact congrArg (Instr.setSetting h n i) (word16_extract v)
  | status | stepQuery | frameQuery | monitorQuery | tripRecordQuery | outcomeRead | getSetting | keepalive | openStep
  | select | operate | cancel | auto | releaseHold | save | captureInherent | resetLockout | resetStep | takeOut
  | returnStep | clearTripRecord | resetBackup | clearCounters =>
    exact read encoded (by simp) wellFormed (by simp [payloadSize])
  | _ => cases encoded

end Sys2Proof.Machine
end

section
/-!
SUPPORT and PROOF. SELECT (R170), AUTO (R162) and RELEASE_HOLD (R169): the checks of a selection as one chain, the
end of both selections, and the manual holds of all steps.
-/
namespace Sys2Proof.Machine

/-! ## SELECT (R170) -/

/-- Every condition of R170 holds for a selection of the step by the port. -/
abbrev State.selectable (u : State) (p : Port) (k : StepId) : Prop :=
  u.holder = some p ∧ u.au.auto = false ∧ (u.stepRec k).state = some .ready
    ∧ u.inService k = true ∧ u.entryOf k = none ∧ u.slot p = none
    ∧ u.avc.line = .live ∧ u.harmonicBlock = false ∧ u.me.frame.vMax < u.y .vov
    ∧ u.bkt = false ∧ u.tripRecordBlock = false

/-- A step that every check up to the close blocks lets through is selected, or refused with the first block
(R170). -/
theorem judgeSelectStep_ready {u : State} {p : Port} {k : StepId} (tag : Byte)
    (holder : u.holder = some p) (auto : u.au.auto = false) (ready : (u.stepRec k).state = some .ready)
    (service : u.inService k = true) (entry : u.entryOf k = none) (slot : u.slot p = none)
    (live : u.avc.line = .live) :
    judgeSelectStep p tag k u =
      if u.selectable p k then
        (u.setSlot p (some { step := k, tag := tag, expiry := u.expiryNow }),
          { code := .accepted, payload := be 4 u.expiryNow })
      else (u, selectRefusal u p k) := by
  have overvoltage : u.overvoltageBlock = decide (u.y .vov ≤ u.me.frame.vMax) := rfl
  simp only [judgeSelectStep, ready, service, entry, slot, State.lineDead, live, State.selectBlock, overvoltage,
    State.selectable, selectRefusal, holder, auto]
  by_cases harmonic : u.harmonicBlock = true
  · simp [harmonic, PostAnswer.answer, BlockCause.code]
  · by_cases high : u.y .vov ≤ u.me.frame.vMax
    · simp [harmonic, high, PostAnswer.answer, BlockCause.code, Nat.not_lt.mpr high]
    · by_cases bkt : u.bkt = true
      · simp [harmonic, high, bkt, PostAnswer.answer, BlockCause.code]
      · by_cases record : u.tripRecordBlock = true
        · simp [harmonic, high, bkt, record, PostAnswer.answer, BlockCause.code]
        · simp [harmonic, high, bkt, record, Nat.not_le.mp high]

/-- SELECT fills the slot exactly when the step is selectable, and else answers the first refusal (R170). -/
theorem judgeSelect_names {b : Byte} {k : StepId} (n : names b k) (p : Port) (tag : Byte) (u : State) :
    judgeSelect p tag b u =
      if u.selectable p k then
        (u.setSlot p (some { step := k, tag := tag, expiry := u.expiryNow }),
          { code := .accepted, payload := be 4 u.expiryNow })
      else (u, selectRefusal u p k) := by
  rw [judgeSelect, withStep_names n, ifHolder]
  by_cases holder : u.holder = some p
  case neg => simp [holder, selectRefusal, Answer.plain]
  by_cases auto : u.au.auto = true
  case pos => simp [holder, auto, selectRefusal, refusedWith, Answer.plain]
  rw [if_pos holder, if_neg auto]
  replace auto : u.au.auto = false := by simpa using auto
  by_cases ready : (u.stepRec k).state = some .ready
  case neg =>
    rw [if_neg fun all => ready all.2.2.1]
    obtain st | ⟨m, st⟩ := (u.stepRec k).state.eq_none_or_eq_some
    · simp [judgeSelectStep, st, holder, auto, selectRefusal, refusedWith, Answer.plain]
    · cases m <;> simp [judgeSelectStep, st, holder, auto, selectRefusal, refusedWith, Answer.plain,
        PostAnswer.answer] at ready ⊢
  by_cases service : u.inService k = true
  case neg => simp [judgeSelectStep, ready, service, holder, auto, selectRefusal, refusedWith, Answer.plain]
  by_cases entry : u.entryOf k = none
  case neg =>
    simp [judgeSelectStep, ready, service, entry, Option.isSome_iff_ne_none, holder, auto, selectRefusal, refusedWith,
      Answer.plain]
  by_cases slot : u.slot p = none
  case neg =>
    simp [judgeSelectStep, ready, service, entry, slot, Option.isSome_iff_ne_none, holder, auto, selectRefusal,
      refusedWith, Answer.plain]
  by_cases dead : u.avc.line = .dead
  case pos =>
    simp [judgeSelectStep, ready, service, entry, slot, State.lineDead, dead, holder, auto, selectRefusal,
      refusedWith, Answer.plain]
  have live : u.avc.line = .live := by
    cases line : u.avc.line with
    | live => rfl
    | dead => exact absurd line dead
  exact judgeSelectStep_ready tag holder auto ready service entry slot live

/-- The state that a request is judged on is as sound as the one it met (R164, R176). -/
theorem State.judged_keepsSound (s : State) (h : Header) : s.KeepsSound (s.judged h) :=
  (s.clockOut_keepsSound h.port h.window).trans (State.superviseGood_keepsSound _ h.port)

/-- The slot that a selection fills is the only one that holds its step: a slot of the other port would be the
holder's (R163, R170). -/
theorem State.SelectionsSound.selectedBy_filled {s t : State} (sel : s.SelectionsSound) {p : Port} {x : Selection}
    (holder : s.holder = some p) (filled : t.slot p = some x) (others : ∀ q, q ≠ p → t.slot q = s.slot q) :
    t.selectedBy x.step = some p := by
  obtain ⟨soundA, soundB⟩ := sel
  cases p with
  | a =>
    have slotA : t.au.slotA = some x := filled
    simp [State.selectedBy, slotA]
  | b =>
    have emptyA : t.au.slotA = none := by
      refine (others .a (by decide)).trans (Option.eq_none_iff_forall_not_mem.mpr fun y held => ?_)
      simpa [holder] using (soundA y held).1
    have slotB : t.au.slotB = some x := filled
    simp [State.selectedBy, emptyA, slotB]

/-- Settles O22: the judgement is the chain of R170; a filled slot writes one slot of the Selection table, and the
table's soundness leaves no other slot with the step. -/
theorem selectFillsItsSlot : Obligations.SelectFillsItsSlot := by
  intro h b k s u serves n hu
  have judge := judgeSelect_names n h.port h.tag u
  have next : ∀ v a, judgeSelect h.port h.tag b u = (v, a) →
      exec (.select h b) s = .next (v.respond h.port h.tag a) := fun v a judged =>
    congrArg Host.Outcome.next (State.request_of_judge serves rfl hu judged)
  split at judge
  case isTrue selectable =>
    refine ⟨_, next _ _ judge, ?_⟩
    rw [if_pos selectable]
    obtain ⟨answered, only⟩ := State.answered_onlyIn h { code := .accepted, payload := be 4 u.expiryNow }
      (u.setSlot_onlyIn h.port (some { step := k, tag := h.tag, expiry := u.expiryNow })) (by decide)
    refine ⟨answered, by simp [State.expiryNow]; rfl, fun p ne => by simp [ne], ?_, fun sel => ?_, only⟩
    · rw [State.respond_au]
      exact u.setSlot_au h.port _
    · exact State.SelectionsSound.selectedBy_filled (hu ▸ (s.judged_keepsSound h).selections sel)
        (x := { step := k, tag := h.tag, expiry := u.expiryNow }) selectable.1 (by simp) (fun q ne => by simp [ne])
  case isFalse refused =>
    refine ⟨_, next _ _ judge, ?_⟩
    rw [if_neg refused]
    exact (u.answered_refused h _).symm

/-! ## Outcome Records and the ends of selections (R174, R186) -/

/-- An Outcome Record becomes the latest of its port's list (R186). -/
theorem State.insertOutcome_getLast (s : State) (p : Port) (r : OutcomeRecord) :
    (((s.insertOutcome p r).outcomes p).getLast?.map (·.2)) = some r := by
  rcases s.insertOutcome_cases p r with ⟨-, e⟩ | ⟨-, -, e⟩ | ⟨-, -, _, _, _, -, e⟩ <;> rw [e] <;> cases p <;>
    simp [State.outcomes, State.setOutcomes, State.addLost]

/-- An Outcome Record leaves the other port's list (R186). -/
theorem State.insertOutcome_outcomes_ne (s : State) {p q : Port} (ne : q ≠ p) (r : OutcomeRecord) :
    (s.insertOutcome p r).outcomes q = s.outcomes q := by
  rcases s.insertOutcome_cases p r with ⟨-, e⟩ | ⟨-, -, e⟩ | ⟨-, -, _, _, _, -, e⟩ <;> rw [e] <;> cases p <;>
    cases q <;> simp [State.outcomes, State.setOutcomes, State.addLost] at ne ⊢

/-- An Outcome Record writes no port but its lost-outcome counter (R186, R189). -/
theorem State.insertOutcome_portState (s : State) (p q : Port) (r : OutcomeRecord) :
    ∃ n, (s.insertOutcome p r).portState q = { s.portState q with lost := n } := by
  rcases s.insertOutcome_cases p r with ⟨-, e⟩ | ⟨-, -, e⟩ | ⟨-, -, _, _, _, -, e⟩ <;> rw [e]
  · exact ⟨(s.portState q).lost, by cases p <;> cases q <;> rfl⟩
  · exact ⟨(s.portState q).lost, by cases p <;> cases q <;> rfl⟩
  · by_cases same : q = p
    · subst same
      refine ⟨min 255 ((s.portState q).lost + 1), ?_⟩
      cases q <;> rfl
    · exact ⟨(s.portState q).lost, by cases p <;> cases q <;> first | rfl | exact absurd rfl same⟩

theorem State.insertOutcome_changeFlag (s : State) (p q : Port) (r : OutcomeRecord) :
    ((s.insertOutcome p r).portState q).changeFlag = (s.portState q).changeFlag := by
  obtain ⟨n, e⟩ := s.insertOutcome_portState p q r
  rw [e]

/-- A port without a selection has none to end (R174). -/
theorem State.endSelection_empty {s : State} {p : Port} (empty : s.slot p = none) (r : OutcomeResult) :
    s.endSelection p r = s := by
  rw [State.endSelection, empty]

/-- A selection that ends leaves its record at the tail of its port's list (R174). -/
theorem State.endSelection_getLast {s : State} {p : Port} {x : Selection} (filled : s.slot p = some x)
    (r : OutcomeResult) :
    (((s.endSelection p r).outcomes p).getLast?.map (·.2)) = some (s.outcomeOf x.tag x.step .select r) := by
  rw [State.endSelection, filled]
  exact State.insertOutcome_getLast _ _ _

/-- The end of a selection leaves the other port's records (R174). -/
theorem State.endSelection_outcomes_ne (s : State) {p q : Port} (ne : q ≠ p) (r : OutcomeResult) :
    (s.endSelection p r).outcomes q = s.outcomes q := by
  unfold State.endSelection
  split
  · rfl
  · rw [State.insertOutcome_outcomes_ne _ ne]
    cases q <;> simp [State.outcomes]

/-- The end of a selection sets no change flag (R174, R190). -/
theorem State.endSelection_changeFlag (s : State) (p q : Port) (r : OutcomeResult) :
    ((s.endSelection p r).portState q).changeFlag = (s.portState q).changeFlag := by
  unfold State.endSelection
  split
  · rfl
  · rw [State.insertOutcome_changeFlag]
    cases q <;> simp [State.portState]

/-! ## AUTO (R162) -/

/-- What the end of both selections leaves: the flags, the Authority Unit but its slots, and for each port the
record of the selection it had (R162, R174). -/
theorem State.cancelSelections_spec (s : State) :
    s.onlyIn s.cancelSelections [.au, .pi, .os]
      ∧ { s.cancelSelections.au with slotA := s.au.slotA, slotB := s.au.slotB } = s.au
      ∧ ∀ p, s.cancelSelections.slot p = none
        ∧ (s.cancelSelections.portState p).changeFlag = (s.portState p).changeFlag
        ∧ (s.slot p = none → s.cancelSelections.outcomes p = s.outcomes p)
        ∧ ∀ x, s.slot p = some x →
            ((s.cancelSelections.outcomes p).getLast?.map (·.2)) =
              some (s.outcomeOf x.tag x.step .select (.cancelled .authorityLost)) := by
  let r : OutcomeResult := .cancelled .authorityLost
  have onlyA := s.endSelection_onlyIn .a r
  have onlyB := (s.endSelection .a r).endSelection_onlyIn .b r
  have slotB : (s.endSelection .a r).slot .b = s.slot .b := by rw [State.endSelection_slot, if_neg (by decide)]
  refine ⟨State.onlyIn_trans onlyA onlyB, ?_, fun p => ⟨?_, ?_, ?_, ?_⟩⟩
  · have auA := s.endSelection_au .a r
    have auB := (s.endSelection .a r).endSelection_au .b r
    show { ((s.endSelection .a r).endSelection .b r).au with slotA := s.au.slotA, slotB := s.au.slotB } = s.au
    exact (congrArg (fun x : AuState => { x with slotA := s.au.slotA, slotB := s.au.slotB }) auB).trans auA
  · exact s.cancelSelections_slot p
  · exact ((s.endSelection .a r).endSelection_changeFlag .b p r).trans (s.endSelection_changeFlag .a p r)
  · intro empty
    cases p with
    | a =>
      exact (State.endSelection_outcomes_ne _ (by decide) r).trans (by rw [State.endSelection_empty empty])
    | b =>
      show ((s.endSelection .a r).endSelection .b r).outcomes .b = _
      rw [State.endSelection_empty (slotB.trans empty), s.endSelection_outcomes_ne (by decide)]
  · intro x filled
    cases p with
    | a =>
      show (((s.endSelection .a r).endSelection .b r).outcomes .a).getLast?.map (·.2) = _
      rw [State.endSelection_outcomes_ne _ (by decide), State.endSelection_getLast filled]
    | b =>
      refine (State.endSelection_getLast (slotB.trans filled) r).trans ?_
      have clock : (s.endSelection .a r).clock = s.clock := onlyA .clock (by decide)
      simp [State.outcomeOf, State.stepRec, clock, r]

theorem State.setAuto_onlyIn (s : State) (b : Bool) : s.onlyIn (s.setAuto b) [.au] := by
  intro c hc
  cases c <;> simp_all [State.sameBlock]

/-- A response leaves both change flags (R178). -/
theorem State.respond_changeFlag (s : State) (p q : Port) (tag : Byte) (a : Answer) :
    ((s.respond p tag a).portState q).changeFlag = (s.portState q).changeFlag := by
  by_cases same : q = p <;> simp [State.respond_portState, same]

/-- A response leaves the Outcome Store (R178). -/
theorem State.respond_outcomes (s : State) (p q : Port) (tag : Byte) (a : Answer) :
    (s.respond p tag a).outcomes q = s.outcomes q := by
  have os : (s.respond p tag a).os = s.os := s.respond_onlyIn p tag a .os (by decide)
  cases q <;> simp [State.outcomes, os]

/-- From the holder, AUTO turned on ends the selections, and else takes the value asked for (R162). -/
theorem judgeAuto_of_holder {u : State} {p : Port} (holder : u.holder = some p) (v : Byte) :
    judgeAuto p v u =
      if v ≠ 0 ∧ u.au.auto = false then doneWith (u.setAuto true).cancelSelections
      else doneWith (u.setAuto (decide (v ≠ 0))) := by
  have same : ∀ b, u.au.auto = b → u.setAuto b = u := fun b e => by rw [State.setAuto, ← e]
  rw [judgeAuto, ifHolder, if_pos holder]
  by_cases on : v ≠ 0
  · have asks : decide (v ≠ 0) = true := decide_eq_true on
    cases auto : u.au.auto with
    | false => rw [asks, if_neg (by decide), if_pos on, if_pos ⟨on, rfl⟩, State.autoOn]
    | true => rw [asks, if_pos rfl, if_neg (by simp), same _ auto]
  · have asks : decide (v ≠ 0) = false := decide_eq_false on
    rw [if_neg (c := v ≠ 0 ∧ _) (fun both => on both.1), asks]
    cases auto : u.au.auto with
    | false => rw [if_pos rfl, same _ auto]
    | true => rw [if_neg (by decide), if_neg on]

/-! ## RELEASE_HOLD (R169) -/

/-- A release writes manual_hold of its step and nothing else (R169). -/
theorem State.releaseOne_spec (s : State) (k : StepId) :
    (∀ j, (s.releaseOne k).stepRec j =
        if j = k then { s.stepRec j with manualHold := false } else s.stepRec j)
      ∧ { (s.releaseOne k).ss with steps := s.ss.steps } = s.ss := by
  refine ⟨fun j => ?_, rfl⟩
  by_cases same : j = k
  · subst same
    simp [State.releaseOne]
  · simp [State.releaseOne, same]

/-- The releases of a list of steps (R169). -/
theorem State.releaseEach_spec (l : List StepId) (s : State) :
    (∀ j, (l.foldl (fun (t : State) k => t.releaseOne k) s).stepRec j =
        if j ∈ l then { s.stepRec j with manualHold := false } else s.stepRec j)
      ∧ { (l.foldl (fun (t : State) k => t.releaseOne k) s).ss with steps := s.ss.steps } = s.ss
      ∧ s.onlyIn (l.foldl (fun (t : State) k => t.releaseOne k) s) [.ss] := by
  induction l generalizing s with
  | nil => exact ⟨fun j => by simp, rfl, s.onlyIn_refl _⟩
  | cons k l ih =>
    obtain ⟨records, rest, only⟩ := ih (s.releaseOne k)
    obtain ⟨one, restOne⟩ := s.releaseOne_spec k
    refine ⟨fun j => ?_, ?_, State.onlyIn_trans (s.modStep_onlyIn k _) only⟩
    · rw [List.foldl_cons, records, one]
      by_cases same : j = k <;> by_cases mem : j ∈ l <;> simp [same, mem]
    · exact (congrArg (fun x : SsState => { x with steps := s.ss.steps }) rest).trans restOne

theorem mem_allSteps (k : StepId) : k ∈ allSteps := by
  revert k
  decide

/-- RELEASE_HOLD asks for the holder, and then releases the steps its field names (R169, R182). -/
theorem judgeReleaseHold_of_field {b : Byte} (field : b.toNat = 15 ∨ (1 ≤ b.toNat ∧ b.toNat ≤ 8)) (p : Port) :
    ∃ l : List StepId, (∀ k, k ∈ l ↔ b.toNat = 15 ∨ names b k)
      ∧ ∀ u : State, judgeReleaseHold p b u =
          if u.holder = some p then doneWith (l.foldl (fun (t : State) k => t.releaseOne k) u)
          else (u, .plain .notHolder) := by
  rcases field with all | ⟨low, high⟩
  · have same : b = allStepsField := BitVec.eq_of_toNat_eq all
    exact ⟨allSteps, fun k => by simp [all, mem_allSteps k], fun u => by rw [judgeReleaseHold, if_pos same]; rfl⟩
  · have other : b ≠ allStepsField := by
      rintro rfl
      exact absurd high (by decide)
    refine ⟨[⟨b.toNat - 1, by omega⟩], fun k => ?_, fun u => ?_⟩
    · rw [List.mem_singleton, Fin.ext_iff]
      show k.val = b.toNat - 1 ↔ _
      have := k.isLt
      omega
    · have n : names b ⟨b.toNat - 1, by omega⟩ := by simp [names]; omega
      rw [judgeReleaseHold, if_neg other, withStep_names n]
      rfl

/-- Settles O25: AUTO off writes its flag, AUTO on ends both selections, and RELEASE_HOLD writes the manual holds; each
asks for the holder first. -/
theorem autoAndReleaseHoldFollowTheHolder : Obligations.AutoAndReleaseHoldFollowTheHolder := by
  refine ⟨fun h v s u serves hu => ?_, fun h b s u serves hu field => ?_⟩
  · have next : ∀ w a, judgeAuto h.port v u = (w, a) →
        exec (.auto h v) s = .next (w.respond h.port h.tag a) := fun w a judged =>
      congrArg Host.Outcome.next (State.request_of_judge serves rfl hu judged)
    refine ⟨fun other => ⟨_, next u (.plain .notHolder) (by simp [judgeAuto, ifHolder, other]),
      (u.answered_refused h _).symm⟩, fun holder => ?_⟩
    have asked := judgeAuto_of_holder holder v
    by_cases turned : v ≠ 0 ∧ u.au.auto = false
    · rw [if_pos turned] at asked
      obtain ⟨on, off⟩ := turned
      obtain ⟨only, au, ports⟩ := (u.setAuto true).cancelSelections_spec
      have only' := State.onlyIn_trans (State.onlyIn_mono (u.setAuto_onlyIn true) (by decide)) only
      refine ⟨_, next _ _ asked, ?_, by simp [State.respond_portState]; rfl, fun p => ?_, ?_, ?_, fun _ _ p => ?_, ?_⟩
      · rw [State.respond_au]
        exact (congrArg AuState.auto au).trans (decide_eq_true on).symm
      · rw [State.respond_changeFlag]
        exact (ports p).2.1
      · rw [State.respond_au]
        exact congrArg (fun x : AuState => { x with auto := u.au.auto }) au
      · rintro (zero | was)
        · exact absurd zero on
        · simp [off] at was
      · obtain ⟨empty, -, kept, ended⟩ := ports p
        rw [State.respond_slot, State.respond_outcomes]
        exact ⟨empty, kept, ended⟩
      · exact State.onlyIn_trans (State.onlyIn_mono only' (by decide))
          (State.onlyIn_mono (State.respond_onlyIn _ _ _ _) (by decide))
    · rw [if_neg turned] at asked
      have only := u.setAuto_onlyIn (decide (v ≠ 0))
      obtain ⟨answered, only'⟩ := State.answered_onlyIn h (.plain .done) only (by decide)
      refine ⟨_, next _ _ asked, ?_, by simp [State.respond_portState]; rfl, fun p => ?_, ?_, fun _ => ⟨fun p => ?_, ?_⟩,
        fun on off => absurd ⟨on, off⟩ turned, State.onlyIn_mono only' (by decide)⟩
      · rw [State.respond_au]
        rfl
      · rw [State.respond_changeFlag]
        rfl
      · rw [State.respond_au]
        rfl
      · rw [State.respond_slot]
        rfl
      · rw [only' .os (by decide)]
  · obtain ⟨l, mem, judge⟩ := judgeReleaseHold_of_field field h.port
    have next : ∀ w a, judgeReleaseHold h.port b u = (w, a) →
        exec (.releaseHold h b) s = .next (w.respond h.port h.tag a) := fun w a judged =>
      congrArg Host.Outcome.next (State.request_of_judge serves rfl hu judged)
    by_cases holder : u.holder = some h.port
    · obtain ⟨records, rest, only⟩ := State.releaseEach_spec l u
      obtain ⟨answered, only'⟩ := State.answered_onlyIn h (.plain .done) only (by decide)
      refine ⟨_, next _ _ ((judge u).trans (if_pos holder)), ?_⟩
      rw [if_pos holder]
      refine ⟨answered, fun k => ?_, ?_, only'⟩
      · rw [State.respond_stepRec, records]
        simp only [mem]
      · rw [State.respond_ss, rest]
    · refine ⟨_, next _ _ ((judge u).trans (if_neg holder)), ?_⟩
      rw [if_neg holder]
      exact u.answered_refused h _

end Sys2Proof.Machine
end

section
/-!
SUPPORT and PROOF. SET (R184, R195, R196), SAVE (R199, R200) and the end of LOADING (R202).
-/
namespace Sys2Proof.Machine

/-! ## SET (R195, R196) -/

/-- The value that a SET has just held is the upcoming one (R196). -/
theorem State.upcoming_hold (s : State) (i : SettingId) (v : Nat) : (s.hold i v).upcoming i = v := by
  simp [State.upcoming, State.hold]

theorem State.hold_onlyIn (s : State) (i : SettingId) (v : Nat) : s.onlyIn (s.hold i v) [.set] := by
  intro b hb
  cases b <;> simp_all [State.sameBlock, State.hold]

/-- A response leaves what is upcoming (R178). -/
theorem State.respond_upcoming (s : State) (p : Port) (tag : Byte) (a : Answer) (i : SettingId) :
    (s.respond p tag a).upcoming i = s.upcoming i := by
  have set : (s.respond p tag a).set = s.set := s.respond_onlyIn p tag a .set (by decide)
  rw [State.upcoming, set, State.upcoming]

/-- The range clamp gives the limit that the value passes (R195). -/
theorem rangeClamped_eq (i : SettingId) (v : Nat) : i.rangeClamp v = rangeClamped i v := by
  have := SettingId.low_le_high i
  unfold SettingId.rangeClamp rangeClamped
  split_ifs <;> omega

/-- A value in range is left by the range clamp, but for a DEBOUNCE that is none of its two positions (R195). -/
theorem SettingId.rangeClamp_of_inRange {i : SettingId} {v : Nat} (h : i.inRange v = true) : i.rangeClamp v = v := by
  by_cases debounce : i = .yard .debounce
  · subst debounce
    have two : v = 4 ∨ v = 20 := by simpa [SettingId.inRange] using h
    rcases two with rfl | rfl <;> rfl
  · have := (SettingId.inRange_eq debounce v).mp h
    rw [SettingId.rangeClamp, if_neg debounce]
    omega

theorem State.crossClamp_eq (s : State) (i : SettingId) (v : Nat) : s.crossClamp i v = crossClamped s v i := rfl

/-- The value held meets its partners' upcoming values, all of which lie in their ranges (R196). -/
theorem State.clamp_meets_partners {u : State} (sound : u.SettingsSound) (x : SettingId) (v w : Nat)
    (hw : w = crossClamped u (rangeClamped x v) x) :
    (x = .yard .hys → w ≤ u.upcoming (.yard .bw))
      ∧ (x = .yard .bw → u.upcoming (.yard .hys) ≤ w
          ∧ u.upcoming (.yard .vdead) + 100 + w ≤ u.upcoming (.yard .vset))
      ∧ (x = .yard .tpulse → w ≤ u.upcoming (.yard .top))
      ∧ (x = .yard .top → u.upcoming (.yard .tpulse) ≤ w)
      ∧ (x = .yard .vdead → w + 100 + u.upcoming (.yard .bw) ≤ u.upcoming (.yard .vset))
      ∧ (x = .yard .vset → u.upcoming (.yard .vdead) + 100 + u.upcoming (.yard .bw) ≤ w)
      ∧ ∀ k, (x = .step .ualm k → w + 10 ≤ u.upcoming (.step .utrip k))
        ∧ (x = .step .utrip k → u.upcoming (.step .ualm k) + 10 ≤ w) := by
  have up : ∀ j : SettingId, j ≠ .yard .debounce → j.low ≤ u.upcoming j ∧ u.upcoming j ≤ j.high := fun j hj =>
    (SettingId.inRange_eq hj _).mp (State.upcoming_inRange sound j)
  have bw := up (.yard .bw) (by decide)
  have hys := up (.yard .hys) (by decide)
  have vset := up (.yard .vset) (by decide)
  have vdead := up (.yard .vdead) (by decide)
  simp only [SettingId.low, SettingId.high, YardSetting.low, YardSetting.high] at bw hys vset vdead
  refine ⟨?_, ?_, ?_, ?_, ?_, ?_, fun k => ⟨?_, ?_⟩⟩
  case refine_7 =>
    rintro rfl
    have utrip := up (.step .utrip k) (by simp)
    simp only [SettingId.low, SettingId.high, StepSetting.low, StepSetting.high] at utrip
    simp only [crossClamped] at hw
    omega
  all_goals
    rintro rfl
    simp only [crossClamped] at hw
    omega

/-- SET past its checks holds the clamped value, and answers whether it is the value asked for (R184, R195). -/
theorem judgeSetId_held {u : State} {p : Port} (holder : ¬(p = .b ∧ u.holder ≠ some .b)) (save : u.set.save = none)
    (x : SettingId) (v : BitVec 16) :
    judgeSetId p x v u =
      (u.hold x (u.clamp x v.toNat),
        if u.clamp x v.toNat = v.toNat then { code := .done, payload := [] }
        else { code := .clamped, payload := be 2 (u.clamp x v.toNat) }) := by
  rw [judgeSetId, if_neg holder, if_neg (by simp [save])]
  rfl

/-- Settles O26: SET refuses by its chain or holds the value that the two clamps give; the upcoming values lie in
their ranges, which leaves room for every partner. -/
theorem setHoldsTheClampedValue : Obligations.SetHoldsTheClampedValue := by
  refine ⟨by unfold limitsOfTheTable; decide, fun h n i v x s u serves hu _ number index may => ?_⟩
  have named : SettingId.ofBytes n.toNat i.toNat = some x := SettingId.ofBytes_eq_some_iff.mpr ⟨number, index⟩
  have permitted : setPermitted h.port (some x) = true := by
    rcases may with a | rfl | rfl <;> simp [setPermitted, *]
  have next : ∀ w a, judgeSetId h.port x v u = (w, a) →
      exec (.setSetting h n i v) s = .next (w.respond h.port h.tag a) := fun w a judged => by
    refine congrArg Host.Outcome.next ?_
    rw [named]
    exact State.request_of_judge serves permitted hu judged
  by_cases holder : h.port = .b ∧ u.holder ≠ some .b
  · refine ⟨_, next u (.plain .notHolder) (by rw [judgeSetId, if_pos holder]; rfl), ?_⟩
    rw [if_pos holder]
    exact u.answered_refused h _
  · by_cases save : u.set.save = none
    · refine ⟨_, next _ _ (judgeSetId_held holder save x v), ?_⟩
      rw [if_neg holder, if_neg (not_not.mpr save)]
      obtain ⟨answered, only⟩ := State.answered_onlyIn h
        (if u.clamp x v.toNat = v.toNat then { code := .done, payload := [] }
          else { code := .clamped, payload := be 2 (u.clamp x v.toNat) })
        (u.hold_onlyIn x (u.clamp x v.toNat)) (by decide)
      have clamped : u.clamp x v.toNat = crossClamped u (rangeClamped x v.toNat) x := by
        rw [← rangeClamped_eq, ← State.crossClamp_eq, State.clamp]
      refine ⟨only, u.clamp x v.toNat, ?_, answered, ?_, clamped, fun sound => ⟨State.clamp_inRange sound x _, ?_, ?_⟩⟩
      · exact (State.respond_onlyIn _ _ _ _ .set (by decide)).trans rfl
      · rw [State.respond_upcoming, State.upcoming_hold]
      · intro inRange meets
        rw [State.clamp, SettingId.rangeClamp_of_inRange inRange, meets]
      · exact State.clamp_meets_partners sound x v.toNat _ clamped
    · refine ⟨_, next u (.plain .busy) ?_, ?_⟩
      · rw [judgeSetId, if_neg holder, if_pos (Option.isSome_iff_ne_none.mpr save)]
        rfl
      · rw [if_neg holder, if_pos save]
        exact u.answered_refused h _

/-! ## SAVE (R199, R200) -/

theorem State.startSave_onlyIn (s : State) (tag : Byte) : s.onlyIn (s.startSave tag) [.set] := by
  intro b hb
  cases b <;> simp_all [State.sameBlock, State.startSave]

/-- A copy that is built from settings in range is valid (R198, R199). -/
theorem imageBuild_valid {c : Settings} (h : c.inRange = true) (seq : Nat) (steps : Vector StoredStep 8) :
    imageValid (imageBuild seq c steps) = true := by
  simp [imageValid, imageBuild, h]

/-- The settings block that a SAVE's end leaves (R200). -/
def SetState.saved (c : SetState) (f : SaveInFlight) (readback : Image) : SetState :=
  if readback = f.image then
    { c.setCopy f.target1 readback with
      save := none
      current1 := some f.target1
      currentSeq := f.image.seq
      defaulted := false }
  else { c.setCopy f.target1 readback with save := none }

/-- The end of a SAVE writes the target copy; what reads back decides what is current (R200). -/
theorem SetState.saved_spec (c : SetState) (f : SaveInFlight) (r : Image) :
    (c.saved f r).save = none
      ∧ (if f.target1 then (c.saved f r).copy1 = r ∧ (c.saved f r).copy0 = c.copy0
        else (c.saved f r).copy0 = r ∧ (c.saved f r).copy1 = c.copy1)
      ∧ (if r = f.image then
          (c.saved f r).current1 = some f.target1 ∧ (c.saved f r).currentSeq = f.image.seq
            ∧ (c.saved f r).defaulted = false
        else
          (c.saved f r).current1 = c.current1 ∧ (c.saved f r).currentSeq = c.currentSeq
            ∧ (c.saved f r).defaulted = c.defaulted)
      ∧ (c.saved f r).settings = c.settings ∧ (c.saved f r).pendingValues = c.pendingValues := by
  obtain ⟨image, tag, target⟩ := f
  by_cases same : r = image <;> cases target <;> simp [SetState.saved, SetState.setCopy, same]

/-- The end of a SAVE writes the settings block and posts its record at Port A (R200). -/
theorem State.endSave_eq (s : State) (f : SaveInFlight) (readback : Image) :
    s.endSave f readback =
      ({ s with set := s.set.saved f readback } : State).insertOutcome .a
        (s.saveOutcome f.tag (if readback = f.image then .saved else .saveFailed)) := by
  unfold State.endSave SetState.saved
  dsimp only
  split <;> rfl

/-- Settles O27: an admitted SAVE holds the snapshot; its end writes the target copy, and what reads back decides the
rest and the record. -/
theorem saveStoresASnapshot : Obligations.SaveStoresASnapshot := by
  refine ⟨fun h s u serves a hu => ?_, fun r f s free save => ?_⟩
  · have next : ∀ w x, judgeSave h.tag u = (w, x) → exec (.save h) s = .next (w.respond h.port h.tag x) :=
      fun w x judged => congrArg Host.Outcome.next
        (State.request_of_judge serves (show fromA h = true by simp [fromA, a]) hu judged)
    have set : u.set = s.set := hu ▸ (s.judged_keeps h).set
    rw [← set]
    refine ⟨fun flying => ⟨_, next u (.plain .busy) ?_, (u.answered_refused h _).symm⟩, fun idle => ?_⟩
    · rw [judgeSave, if_pos (Option.isSome_iff_ne_none.mpr flying)]
      rfl
    · have judged : judgeSave h.tag u = (u.startSave h.tag, .plain .accepted) := by
        rw [judgeSave, if_neg (by simp [idle])]
      obtain ⟨answered, only⟩ := State.answered_onlyIn h (.plain .accepted) (u.startSave_onlyIn h.tag) (by decide)
      have written := (u.startSave h.tag).respond_onlyIn h.port h.tag (.plain .accepted) .set (by decide)
      refine ⟨_, _, next _ _ judged, answered, written.trans rfl, only, rfl, by simp, rfl, rfl, fun k => ?_, fun sound => ?_⟩
      · simp [State.snapshot, imageBuild, StepRecord.stored, State.stepRec]
      · exact imageBuild_valid sound.1 _ _
  · have next : exec (.saveComplete r) s = .next (s.endSave f r) := by
      refine congrArg Host.Outcome.next ?_
      rw [State.unlessHeld_free _ _ free, State.saveEnds, save]
    refine ⟨_, next, ?_⟩
    rw [State.endSave_eq]
    let t : State := { s with set := s.set.saved f r }
    let x := s.saveOutcome f.tag (if r = f.image then .saved else .saveFailed)
    show (t.insertOutcome .a x).set.save = none ∧ _
    have set : (t.insertOutcome .a x).set = s.set.saved f r := t.insertOutcome_onlyIn .a x .set (by decide)
    obtain ⟨ended, copies, current, settings, pendingValues⟩ := s.set.saved_spec f r
    rw [set]
    refine ⟨ended, copies, current, t.insertOutcome_getLast .a x, settings, pendingValues,
      t.insertOutcome_outcomes_ne (by decide) x, fun p => ?_, ?_⟩
    · exact t.insertOutcome_changeFlag .a p x
    · exact State.onlyIn_trans (t := t) (fun b hb => by cases b <;> simp_all [State.sameBlock, t])
        (State.onlyIn_mono (t.insertOutcome_onlyIn .a x) (by decide))

/-! ## The end of LOADING (R202) -/

/-- A value loaded from a copy is upcoming (R196, R202). -/
theorem State.upcoming_loaded {s : State} {c : Settings} (loaded : s.set.pendingValues = loadedValues c)
    (x : SettingId) : s.upcoming x = c.get x := by
  rw [State.upcoming, loaded]
  cases found : (loadedValues c).reverse.find? (fun p => p.id = x) with
  | none =>
    have absent := List.find?_eq_none.mp found { id := x, value := c.get x, loaded := true }
    exact absurd (decide_eq_true rfl) (absent (by simp [loadedValues, mem_allSettingIds x]))
  | some p =>
    have same : p.id = x := by simpa using List.find?_some found
    have mem := List.mem_of_find?_eq_some found
    simp only [loadedValues, List.mem_reverse, List.mem_map] at mem
    obtain ⟨i, -, rfl⟩ := mem
    subst same
    rfl

/-- The copy that loading takes: the valid one, or of two valid copies the successor (R202 part 1). -/
theorem chooseCopy_of_valid {c0 c1 : Image} (one : Bool)
    (valid : imageValid (if one then c1 else c0) = true)
    (first : imageValid (if one then c0 else c1) = false
      ∨ (if one then c1.seq = (c0.seq + 1) % 65536 else c1.seq ≠ (c0.seq + 1) % 65536)) :
    chooseCopy c0 c1 = some one := by
  cases one <;> rcases first with other | seq <;> simp_all [chooseCopy]
  all_goals cases imageValid c0 <;> cases imageValid c1 <;> simp_all

/-- The state that the end of LOADING makes with a copy, or with none, before it runs (R202). -/
def State.loadedWith (s : State) (choice : Option Bool) : State :=
  match choice with
  | none => s.takeDefaults
  | some one => s.takeCopy one (if one then s.set.copy1 else s.set.copy0)

/-- The end of LOADING takes the copy that R202 chooses, and the ports judge requests. -/
theorem State.endLoading_eq (s : State) :
    s.endLoading =
      { s.loadedWith (chooseCopy s.set.copy0 s.set.copy1) with
        set := { (s.loadedWith (chooseCopy s.set.copy0 s.set.copy1)).set with startup := .running } } := by
  unfold State.endLoading State.loadedWith
  cases chooseCopy s.set.copy0 s.set.copy1 with
  | none => rfl
  | some one => cases one <;> rfl

/-- What either choice writes (R202). -/
theorem State.loadedWith_spec (s : State) (choice : Option Bool) :
    (s.loadedWith choice).set.settings = s.set.settings ∧ (s.loadedWith choice).set.derived = s.set.derived
      ∧ s.onlyIn (s.loadedWith choice) [.ss, .au, .set] := by
  cases choice with
  | none => exact ⟨rfl, rfl, fun b hb => by cases b <;> simp_all [State.sameBlock, State.loadedWith, State.takeDefaults]⟩
  | some one =>
    exact ⟨rfl, rfl, fun b hb => by cases b <;> simp_all [State.sameBlock, State.loadedWith, State.takeCopy]⟩

/-- Settles O28: the copy that R202 chooses is taken, and without one the defaults stay. -/
theorem loadingTakesAValidCopy : Obligations.LoadingTakesAValidCopy := by
  intro s free loading
  have next : exec .loadingEnd s = .next (s.until 40000).endLoading := by
    refine congrArg Host.Outcome.next ?_
    rw [State.unlessHeld_free _ _ free, State.loadingEnds, if_pos loading]
  refine ⟨_, next, ?_⟩
  rw [State.endLoading_eq]
  obtain ⟨settings, derived, only⟩ :=
    (s.until 40000).loadedWith_spec (chooseCopy (s.until 40000).set.copy0 (s.until 40000).set.copy1)
  refine ⟨rfl, ?_, settings, derived, fun one c hc valid first => ?_, fun invalid0 invalid1 => ?_, ?_⟩
  · exact congrArg Clock.now (only .clock (by decide))
  · subst hc
    have chosen : chooseCopy (s.until 40000).set.copy0 (s.until 40000).set.copy1 = some one :=
      chooseCopy_of_valid one valid ((first _ rfl).imp id fun seq => by cases one <;> exact seq)
    rw [chosen]
    refine ⟨rfl, rfl, rfl, rfl, fun x => State.upcoming_loaded rfl x, fun k => ?_⟩
    simp [State.loadedWith, State.takeCopy, State.stepRec, StepRecord.load]
  · have chosen : chooseCopy (s.until 40000).set.copy0 (s.until 40000).set.copy1 = none := by
      simp [chooseCopy, invalid0, invalid1]
    rw [chosen]
    refine ⟨rfl, rfl, rfl, rfl, ?_, rfl, fun k => ?_⟩
    · simp [State.alm, State.alarmCondition, State.loadedWith, State.takeDefaults, free, State.until]
    · simp [State.loadedWith, State.takeDefaults, State.stepRec, StepRecord.load, StepSetting.dflt]
  · intro b hb
    have same := only b
    cases b <;> simp_all [State.sameBlock]

end Sys2Proof.Machine
end

section
/-!
SUPPORT. What switching retains: a change flag that is set, the Trip Record, an asserted backup trip, the edge kept
for a frame, the switch event latches and the yard's own inputs.
-/
namespace Sys2Proof.Machine

/-- From `s` to `t` nothing is taken back of what only other events end: set change flags (R183), the Trip Record
(R147), an asserted backup trip (R153), the edge kept (R150), the latches (R20) and the key's and the external
trip's inputs. -/
structure State.Retains (s t : State) : Prop where
  /-- a change flag that is set -/
  flags : ∀ p, (s.portState p).changeFlag = true → (t.portState p).changeFlag = true
  /-- the Trip Record -/
  tripRecord : t.upu.tripRecord = s.upu.tripRecord
  /-- the backup trip's record -/
  backup : s.bkt = true → t.upu.backup = s.upu.backup
  /-- the external trip's edge -/
  edge : t.upu.edge = s.upu.edge
  /-- the closed-while-charged set -/
  charged : t.ss.closedWhileCharged = s.ss.closedWhileCharged
  /-- the unexpected-open set -/
  opened : t.ss.unexpectedOpen = s.ss.unexpectedOpen
  /-- the key's debouncer -/
  key : t.ss.keyIn = s.ss.keyIn
  /-- the external trip's debouncer -/
  trip : t.ss.tripIn = s.ss.tripIn

theorem State.Retains.refl (s : State) : s.Retains s := ⟨fun _ => id, rfl, fun _ => rfl, rfl, rfl, rfl, rfl, rfl⟩

theorem State.Retains.trans {s t u : State} (h : s.Retains t) (g : t.Retains u) : s.Retains u := by
  have asserted : s.bkt = true → t.bkt = true := fun b => by
    have kept := h.backup b
    rw [State.bkt] at b ⊢
    rwa [kept]
  exact ⟨fun p => g.flags p ∘ h.flags p, g.tripRecord.trans h.tripRecord,
    fun b => (g.backup (asserted b)).trans (h.backup b), g.edge.trans h.edge, g.charged.trans h.charged,
    g.opened.trans h.opened, g.key.trans h.key, g.trip.trans h.trip⟩

theorem State.Retains.ite {s t u : State} (c : Prop) [Decidable c] (h : s.Retains t) (g : s.Retains u) :
    s.Retains (if c then t else u) := by
  split
  · exact h
  · exact g

theorem State.Retains.foldl {α : Type} (f : State → α → State) (h : ∀ (s : State) a, s.Retains (f s a)) (l : List α) (s : State) :
    s.Retains (l.foldl f s) := by
  induction l generalizing s with
  | nil => exact .refl s
  | cons a l ih => exact (h s a).trans (ih (f s a))

/-- An operation that leaves the table's other parts, the flags and the UPU retains. -/
theorem State.Retains.of_same {s t : State} (table : s.SameTable t) (upu : t.upu = s.upu) (pi : t.pi = s.pi) :
    s.Retains t := by
  refine ⟨fun p => ?_, by rw [upu], fun _ => by rw [upu], by rw [upu], table.charged, table.opened, table.key, table.trip⟩
  have ports : t.portState p = s.portState p := by cases p <;> simp [State.portState, pi]
  rw [ports]
  exact id

/-- An operation that writes none of the three blocks retains. -/
theorem State.Retains.of_onlyIn {s t : State} {l : List Block} (only : s.onlyIn t l) (ss : Block.ss ∉ l)
    (upu : Block.upu ∉ l) (pi : Block.pi ∉ l) : s.Retains t :=
  .of_same (.of_ss (only .ss ss)) (only .upu upu) (only .pi pi)

/-! ## Outcomes and results -/

/-- An Outcome Record (R186) retains. -/
theorem State.insertOutcome_retains (s : State) (p : Port) (r : OutcomeRecord) : s.Retains (s.insertOutcome p r) := by
  have upu : (s.insertOutcome p r).upu = s.upu := s.insertOutcome_onlyIn p r .upu (by decide)
  have ss := s.insertOutcome_ss p r
  exact ⟨fun q set => (s.insertOutcome_changeFlag p q r).trans set, by rw [upu], fun _ => by rw [upu], by rw [upu],
    by rw [ss], by rw [ss], by rw [ss], by rw [ss]⟩

/-- A result (R75) retains. -/
theorem State.giveResult_retains (s : State) (o : Originator) (tag : Option Byte) (k : StepId) (kind : OpKind)
    (fast : Bool) (r : OutcomeResult) : s.Retains (s.giveResult o tag k kind fast r) := by
  cases o with
  | portA | portB => exact s.insertOutcome_retains _ _
  | avc => exact .of_same (.of_ss rfl) rfl rfl
  | harmonic => exact .of_onlyIn (s.detuneResult_onlyIn k r) (by decide) (by decide) (by decide)
  | unbalance | external => exact ⟨fun _ => id, rfl, fun _ => rfl, rfl, rfl, rfl, rfl, rfl⟩

theorem State.entryResult_retains (s : State) (e : Entry) (r : OutcomeResult) : s.Retains (s.entryResult e r) :=
  s.giveResult_retains _ _ _ _ _ _

theorem State.markResult_retains (s : State) (k : StepId) (m : Mark) (r : OutcomeResult) :
    s.Retains (s.markResult k m r) := s.giveResult_retains _ _ _ _ _ _

theorem State.markResultOpt_retains (s : State) (k : StepId) (m : Option Mark) (r : OutcomeResult) :
    s.Retains (s.markResultOpt k m r) := by
  cases m with
  | none => exact .refl s
  | some m => exact s.markResult_retains k m r

/-! ## Coils, the backup trip, settle starts -/

theorem State.coilsOff_retains (s : State) (k : StepId) : s.Retains (s.coilsOff k) :=
  .of_same (s.coilsOff_table k) (s.coilsOff_onlyIn k .upu (by decide)) (s.coilsOff_onlyIn k .pi (by decide))

theorem State.closeCoilOff_retains (s : State) : s.Retains s.closeCoilOff :=
  .of_same s.closeCoilOff_table (s.closeCoilOff_onlyIn .upu (by decide)) (s.closeCoilOff_onlyIn .pi (by decide))

theorem State.setFlags_retains (s : State) : s.Retains s.setFlags := by
  refine ⟨fun p _ => ?_, rfl, fun _ => rfl, rfl, rfl, rfl, rfl, rfl⟩
  cases p <;> rfl

theorem State.setFlagsIf_retains (s : State) (c : Bool) : s.Retains (s.setFlagsIf c) :=
  .ite _ s.setFlags_retains (.refl s)

/-- Asserting BKT (R151) retains: an asserted one keeps its record. -/
theorem State.assertBkt_retains (s : State) (k : StepId) (b : BackupReason) (o : Originator) :
    s.Retains (s.assertBkt k b o) := by
  unfold State.assertBkt
  split
  · exact .refl s
  · rename_i off
    refine State.Retains.trans ?_ (State.closeCoilOff_retains _)
    refine ⟨fun p _ => ?_, rfl, fun on => absurd on off, rfl, rfl, rfl, rfl, rfl⟩
    cases p <;> rfl

/-- BKT is asserted afterwards (R151). -/
theorem State.assertBkt_bkt (s : State) (k : StepId) (b : BackupReason) (o : Originator) :
    (s.assertBkt k b o).bkt = true := by
  unfold State.assertBkt
  split
  · assumption
  · exact congrArg (fun u : UpuState => u.backup.isSome) (State.closeCoilOff_onlyIn _ .upu (by decide))

theorem State.abortCapture_retains (s : State) : s.Retains s.abortCapture := by
  unfold State.abortCapture
  split
  · exact .refl s
  · exact State.Retains.trans (by exact ⟨fun _ => id, rfl, fun _ => rfl, rfl, rfl, rfl, rfl, rfl⟩)
      (State.insertOutcome_retains _ _ _)

theorem State.settleStart_retains (s : State) : s.Retains s.settleStart :=
  State.Retains.trans (by exact ⟨fun _ => id, rfl, fun _ => rfl, rfl, rfl, rfl, rfl, rfl⟩) (State.abortCapture_retains _)

/-! ## A step's change of state -/

theorem State.modStep_retains (s : State) (k : StepId) (f : StepRecord → StepRecord) : s.Retains (s.modStep k f) :=
  ⟨fun _ => id, rfl, fun _ => rfl, rfl, rfl, rfl, rfl, rfl⟩

theorem State.rotate_retains (s : State) (k : StepId) (n : StepState) : s.Retains (s.rotate k n) :=
  ⟨fun _ => id, rfl, fun _ => rfl, rfl, rfl, rfl, rfl, rfl⟩

theorem State.dropEntry_retains (s : State) (k : StepId) : s.Retains (s.dropEntry k) :=
  .of_same (s.dropEntry_table k) (s.dropEntry_onlyIn k .upu (by decide)) (s.dropEntry_onlyIn k .pi (by decide))

theorem State.fitEntry_retains (s : State) (k : StepId) : s.Retains (s.fitEntry k) := by
  have removed := fun e r => (s.dropEntry_retains k).trans (State.entryResult_retains _ e r)
  unfold State.fitEntry
  split
  · exact .refl s
  · refine .ite _ (.refl s) ?_
    split
    · exact .ite _ (.refl s) (removed _ _)
    · exact .ite _ (.refl s) (removed _ _)
    · exact .ite _ (.refl s) (.ite _ ((removed _ _).trans (State.assertBkt_retains _ _ _ _)) (removed _ _))

theorem State.endSelection_retains (s : State) (p : Port) (r : OutcomeResult) : s.Retains (s.endSelection p r) := by
  unfold State.endSelection
  split
  · exact .refl s
  · exact State.Retains.trans (.of_onlyIn (s.setSlot_onlyIn p none) (by decide) (by decide) (by decide))
      (State.insertOutcome_retains _ _ _)

theorem State.endSelectionOf_retains (s : State) (k : StepId) (r : OutcomeResult) :
    s.Retains (s.endSelectionOf k r) := by
  unfold State.endSelectionOf
  split
  · exact .refl s
  · exact s.endSelection_retains _ r

theorem State.leaveReady_retains (s : State) (k : StepId) : s.Retains (s.leaveReady k) :=
  .ite _ (.refl s) (s.endSelectionOf_retains k _)

theorem State.voidOther_retains (s : State) (k : StepId) : s.Retains (s.voidOther k) :=
  .of_onlyIn (s.voidOther_spec k).1 (by decide) (by decide) (by decide)

theorem State.leaveClosed_retains (s : State) (k : StepId) (o : Option StepState) : s.Retains (s.leaveClosed k o) := by
  have cleared := fun c f => (s.setFlagsIf_retains c).trans (State.modStep_retains _ k f)
  exact .ite _ (.ite _ ((cleared _ _).trans (State.abortCapture_retains _)) (cleared _ _)) (.refl s)

/-- The parts of a change of state after its flags are set (R3). -/
theorem State.enterParts_retains (s : State) (k : StepId) (o : Option StepState) :
    s.Retains (((((s.coilsOff k).fitEntry k).leaveReady k).voidOther k).leaveClosed k o) :=
  ((((s.coilsOff_retains k).trans (State.fitEntry_retains _ k)).trans (State.leaveReady_retains _ k)).trans
    (State.voidOther_retains _ k)).trans (State.leaveClosed_retains _ k o)

/-- A change of state (R3) retains. -/
theorem State.enter_retains (s : State) (k : StepId) (n : StepState) (l : Option LockoutCause) (f : Option FailureCause) :
    s.Retains (s.enter k n l f) :=
  (((s.modStep_retains k _).trans (State.rotate_retains _ k n)).trans (State.setFlags_retains _)).trans
    (State.enterParts_retains _ k _)

/-- A change of state sets both change flags (R3, R190). -/
theorem State.enter_flags (s : State) (k : StepId) (n : StepState) (l : Option LockoutCause) (f : Option FailureCause)
    (p : Port) : ((s.enter k n l f).portState p).changeFlag = true :=
  (State.enterParts_retains (((s.writeState k n l f).rotate k n).setFlags) k (s.stepRec k).state).flags p
    (by cases p <;> rfl)

/-! ## Admission and dispatch -/

theorem State.admitNew_retains (s : State) (p : Posting) : s.Retains (s.admitNew p) :=
  .of_same (.of_ss rfl) rfl rfl

theorem State.modEntry_retains (s : State) (k : StepId) (f : Entry → Entry) : s.Retains (s.modEntry k f) :=
  .of_same (.of_ss rfl) rfl rfl

theorem State.postClose_retains (s : State) (p : Posting) : s.Retains (s.postClose p).1 := by
  unfold State.postClose
  dsimp only
  split_ifs <;> first | exact .refl s | exact s.admitNew_retains p

theorem State.postTrip_retains (s : State) (p : Posting) : s.Retains (s.postTrip p).1 := by
  unfold State.postTrip
  split
  · exact s.admitNew_retains p
  · exact s.enter_retains _ _ _ _
  · exact s.enter_retains _ _ _ _
  · exact .refl s
  · split
    · exact .refl s
    · exact s.assertBkt_retains _ _ _
  · exact .refl s

/-- A posting (R50 to R58) retains. -/
theorem State.post_retains (s : State) (p : Posting) : s.Retains (s.post p).1 := by
  have marked : s.Retains (s.setMark p) := s.modEntry_retains _ _
  unfold State.post
  split
  · exact .refl s
  · split
    · split
      · exact s.postClose_retains p
      · unfold State.postOpen
        split <;> first | exact .refl s | exact s.admitNew_retains p
      · exact s.postTrip_retains p
    · split
      · unfold State.postOnWaitingClose
        split
        · exact (s.dropEntry_retains _).trans (State.entryResult_retains _ _ _)
        · exact ((s.dropEntry_retains _).trans (State.enter_retains _ _ _ _ _)).trans (State.entryResult_retains _ _ _)
        · exact .refl s
      · unfold State.postOnWaitingOpen
        split
        · exact (s.modEntry_retains _ _).trans (State.entryResult_retains _ _ _)
        · exact .refl s
        · exact .refl s
      · unfold State.postOnWaitingTrip
        split <;> exact .refl s
      · unfold State.postOnFlightClose
        split
        · exact .refl s
        · split
          · exact marked
          · exact .refl s
        · split
          · exact marked
          · split
            · exact .refl s
            · exact marked.trans (State.markResult_retains _ _ _ _)
      · unfold State.postOnFlightOpen
        split
        · exact .refl s
        · exact .refl s
        · split
          · exact marked
          · exact .refl s

theorem State.askPulse_retains (s : State) (k : StepId) (o : OpKind) : s.Retains (s.askPulse k o) :=
  .ite _ (s.coilsOff_retains k) (.ite _ (s.coilsOff_retains k) ⟨fun _ => id, rfl, fun _ => rfl, rfl, rfl, rfl, rfl, rfl⟩)

theorem State.startFlight_retains (s : State) : s.Retains s.startFlight := .of_same (.of_ss rfl) rfl rfl

theorem State.startOperate_retains (s : State) : s.Retains s.startOperate := .of_same (.of_ss rfl) rfl rfl

theorem State.stopOperate_retains (s : State) : s.Retains s.stopOperate := .of_same (.of_ss rfl) rfl rfl

/-- A dispatch (R62) retains. -/
theorem State.dispatchEntry_retains (s : State) (e : Entry) : s.Retains (s.dispatchEntry e) :=
  ((((s.modEntry_retains e.step _).trans (State.enter_retains _ e.step (movingState e.kind) none none)).trans
    (State.startFlight_retains _)).trans (State.askPulse_retains _ e.step e.kind)).trans (State.startOperate_retains _)

theorem State.examine_retains (s : State) : s.Retains s.examine := by
  rcases s.examine_cases with same | ⟨e, -, -, dispatched⟩
  · rw [same]
    exact .refl s
  · rw [dispatched]
    exact s.dispatchEntry_retains e

theorem State.examineIfLeft_retains (s b : State) : s.Retains (s.examineIfLeft b) := .ite _ (.refl s) s.examine_retains

theorem State.admitOne_retains (s : State) (p : Posting) : s.Retains (s.admitOne p).1 :=
  (s.post_retains p).trans (State.examine_retains _)

/-- The postings of an ALL expansion (R59) retain. -/
theorem expandOne_retains (o : Originator) (tag : Option Byte) (fast : Bool) (l : List StepId)
    (acc : State × List PostAnswer) : acc.1.Retains (l.foldl (expandOne o tag fast) acc).1 := by
  induction l generalizing acc with
  | nil => exact .refl _
  | cons k l ih => exact (acc.1.post_retains (openPosting o tag fast k)).trans (ih (expandOne o tag fast acc k))

theorem State.admitAll_retains (s : State) (o : Originator) (tag : Option Byte) (fast : Bool) :
    s.Retains (s.admitAll o tag fast).1 := by
  have posted : s.Retains (s.expandAll o tag fast).1 := expandOne_retains o tag fast allSteps (s, [])
  simp only [State.admitAll]
  exact posted.trans (State.examine_retains _)

/-! ## Removals -/

/-- Removals of waiting entries (R71, R73, R74) retain. -/
theorem State.removeEach_retains (s : State) (l : List Entry) (r : OutcomeResult) : s.Retains (s.removeEach l r) := by
  have one : ∀ (t : State) (e : Entry), t.Retains ((t.dropEntry e.step).entryResult e r) := fun t e =>
    (t.dropEntry_retains e.step).trans (State.entryResult_retains _ e r)
  exact .foldl _ one l s

end Sys2Proof.Machine
end

section
/-!
SUPPORT and PROOF. The change of state of a step whose entry, if it has one, is in flight (R3); dispatch and the
choice before it (R60 to R62).
-/
namespace Sys2Proof.Machine

/-! ## A change of state that leaves the queue (R3, R72) -/

/-- The step has no entry that waits: none at all, or one in flight. -/
def State.Quiet (s : State) (k : StepId) : Prop := ∀ e, s.entryOf k = some e → e.status = .inFlight

theorem State.Quiet.of_none {s : State} {k : StepId} (h : s.entryOf k = none) : s.Quiet k := by
  intro e found
  rw [h] at found
  cases found

theorem State.Quiet.congr {s t : State} {k : StepId} (h : s.Quiet k) (oq : t.oq = s.oq) : t.Quiet k := fun e found =>
  h e ((State.entryOf_congr oq k).symm.trans found)

theorem State.Quiet.fitEntry {s : State} {k : StepId} (h : s.Quiet k) : s.fitEntry k = s := by
  cases found : s.entryOf k with
  | none => exact s.fitEntry_none k found
  | some e => exact s.fitEntry_inFlight k e found (h e found)

theorem State.entered_oq (s : State) (k : StepId) (n : StepState) (l : Option LockoutCause) (f : Option FailureCause) :
    (s.entered k n l f).oq = s.oq := by
  rw [State.entered, State.coilsOff_oq]
  rfl

theorem State.entered_onlyIn (s : State) (k : StepId) (n : StepState) (l : Option LockoutCause)
    (f : Option FailureCause) : s.onlyIn (s.entered k n l f) [.ss, .pi] := by
  have written : s.onlyIn ((s.writeState k n l f).rotate k n).setFlags [.ss, .pi] := fun b hb => by
    cases b <;> simp_all [State.sameBlock]
  exact State.onlyIn_trans written (State.onlyIn_mono (State.coilsOff_onlyIn _ k) (by decide))

theorem State.Quiet.enter {s : State} {k : StepId} (h : s.Quiet k) (n : StepState) (l : Option LockoutCause)
    (f : Option FailureCause) :
    s.enter k n l f = (((s.entered k n l f).leaveReady k).voidOther k).leaveClosed k (s.stepRec k).state := by
  have quiet : (s.entered k n l f).Quiet k := h.congr (s.entered_oq k n l f)
  exact congrArg (fun t => ((State.leaveReady t k).voidOther k).leaveClosed k (s.stepRec k).state) quiet.fitEntry

/-- The UPU is the same but for its capture engine. -/
structure State.SameProtection (s t : State) : Prop where
  /-- the Trip Record -/
  tripRecord : t.upu.tripRecord = s.upu.tripRecord
  /-- the last trip result -/
  lastTrip : t.upu.lastTrip = s.upu.lastTrip
  /-- the backup trip's record -/
  backup : t.upu.backup = s.upu.backup
  /-- the external trip's edge -/
  edge : t.upu.edge = s.upu.edge

theorem State.SameProtection.of_upu {s t : State} (upu : t.upu = s.upu) : s.SameProtection t := by
  constructor <;> rw [upu]

theorem State.SameProtection.trans {s t u : State} (h : s.SameProtection t) (g : t.SameProtection u) :
    s.SameProtection u :=
  ⟨g.tripRecord.trans h.tripRecord, g.lastTrip.trans h.lastTrip, g.backup.trans h.backup, g.edge.trans h.edge⟩

theorem State.SameProtection.bkt {s t : State} (h : s.SameProtection t) : t.bkt = s.bkt := by
  rw [State.bkt, h.backup, State.bkt]

theorem State.abortCapture_protection (s : State) : s.SameProtection s.abortCapture := by
  unfold State.abortCapture
  split
  · exact .of_upu rfl
  · exact State.SameProtection.trans (by exact ⟨rfl, rfl, rfl, rfl⟩)
      (.of_upu (State.insertOutcome_onlyIn _ _ _ .upu (by decide)))

theorem State.leaveClosed_protection (s : State) (k : StepId) (o : Option StepState) :
    s.SameProtection (s.leaveClosed k o) := by
  have cleared : ∀ c f, s.SameProtection ((s.setFlagsIf c).modStep k f) := fun c f => .of_upu (by simp)
  unfold State.leaveClosed
  dsimp only
  split
  · split
    · exact (cleared _ _).trans (State.abortCapture_protection _)
    · exact cleared _ _
  · exact .of_upu rfl

/-- What a change of state writes when the step's entry stays (R3, R88, R143, R156, R174): the queue stays, the UPU
but for its capture engine, and the Cooldown Unit but for the armed measurement. -/
theorem State.Quiet.enter_rest {s : State} {k : StepId} (h : s.Quiet k) (n : StepState) (l : Option LockoutCause)
    (f : Option FailureCause) :
    (s.enter k n l f).oq = s.oq
      ∧ s.onlyIn (s.enter k n l f) [.ss, .cu, .upu, .au, .pi, .os]
      ∧ s.SameProtection (s.enter k n l f)
      ∧ { (s.enter k n l f).cu with armed := s.cu.armed } = s.cu := by
  rw [h.enter]
  let t := s.entered k n l f
  have entered := s.entered_onlyIn k n l f
  have ready := t.leaveReady_onlyIn k
  obtain ⟨void, armed⟩ := (t.leaveReady k).voidOther_spec k
  have closed := ((t.leaveReady k).voidOther k).leaveClosed_onlyIn k (s.stepRec k).state
  refine ⟨?_, ?_, ?_, ?_⟩
  · rw [State.leaveClosed_oq, State.voidOther_oq, State.leaveReady_oq, State.entered_oq]
  · exact State.onlyIn_trans (State.onlyIn_trans (State.onlyIn_trans (State.onlyIn_mono entered (by decide))
      (State.onlyIn_mono ready (by decide))) (State.onlyIn_mono void (by decide))) (State.onlyIn_mono closed (by decide))
  · have upu : ((t.leaveReady k).voidOther k).upu = s.upu :=
      (void .upu (by decide)).trans ((ready .upu (by decide)).trans (entered .upu (by decide)))
    exact (State.SameProtection.of_upu upu).trans (State.leaveClosed_protection _ k _)
  · have cu : (t.leaveReady k).cu = s.cu := (ready .cu (by decide)).trans (entered .cu (by decide))
    rw [closed .cu (by decide)]
    rw [cu] at armed
    exact armed

/-! ## The choice (R61) -/

theorem State.examine_of_choice {s : State} {e : Entry} (idle : s.inFlight = none) (choice : s.chooseEntry = some e) :
    s.examine = s.dispatchEntry e := by
  rw [State.examine, idle, choice]

theorem State.examine_of_no_choice {s : State} (choice : s.chooseEntry = none) : s.examine = s := by
  rcases s.examine_cases with same | ⟨e, -, chosen, -⟩
  · exact same
  · rw [choice] at chosen
    cases chosen

theorem State.chooseEntry_trip {s : State} {e : Entry} (trip : s.oldestWaiting .tripOp = some e) :
    s.chooseEntry = some e := by
  rw [State.chooseEntry, trip]

theorem State.chooseEntry_open {s : State} {e : Entry} (noTrip : s.oldestWaiting .tripOp = none)
    (settled : s.cu.settle = 0) (opening : s.oldestWaiting .openOp = some e) : s.chooseEntry = some e := by
  rw [State.chooseEntry, noTrip, if_neg (not_not.mpr settled), opening]

theorem State.chooseEntry_close {s : State} {e : Entry} (noTrip : s.oldestWaiting .tripOp = none)
    (settled : s.cu.settle = 0) (noOpen : s.oldestWaiting .openOp = none) (free : s.closeBlock = false)
    (close : s.oldestWaiting .closeOp = some e) : s.chooseEntry = some e := by
  rw [State.chooseEntry, noTrip, if_neg (not_not.mpr settled), noOpen, free, close]
  rfl

theorem State.chooseEntry_none {s : State} (noTrip : s.oldestWaiting .tripOp = none)
    (stops : s.cu.settle ≠ 0 ∨ (s.oldestWaiting .openOp = none
      ∧ (s.closeBlock = true ∨ s.oldestWaiting .closeOp = none))) : s.chooseEntry = none := by
  rw [State.chooseEntry, noTrip]
  by_cases settled : s.cu.settle = 0
  · obtain ⟨noOpen, rest⟩ := stops.resolve_left (not_not.mpr settled)
    rw [if_neg (not_not.mpr settled), noOpen]
    rcases rest with block | noClose
    · rw [block]
      rfl
    · rw [noClose, ite_self]
  · rw [if_pos settled]

/-- No close block holds when none of the five conditions does (R61). -/
theorem State.closeBlock_eq_false {s : State} (live : s.avc.line = .live) (harmonic : s.harmonicBlock = false)
    (voltage : s.overvoltageBlock = false) (bkt : s.bkt = false) (record : s.tripRecordBlock = false) :
    s.closeBlock = false := by
  simp [State.closeBlock, State.lineDead, live, harmonic, voltage, bkt, record]

theorem State.oldestWaiting_none_iff {s : State} {kind : OpKind} :
    s.oldestWaiting kind = none ↔ ∀ e ∈ s.oq.entries, ¬(e.status = .waiting ∧ e.kind = kind) := by
  rw [State.oldestWaiting, List.find?_eq_none]
  simp

theorem State.oldestWaiting_congr {s t : State} (oq : t.oq = s.oq) (kind : OpKind) :
    t.oldestWaiting kind = s.oldestWaiting kind := by
  rw [State.oldestWaiting, oq, State.oldestWaiting]

/-- While the yard settles and no TRIP waits, an examination does nothing (R61). -/
theorem State.examine_settling {s : State} (settling : s.cu.settle ≠ 0) (noTrip : s.oldestWaiting .tripOp = none) :
    s.examine = s :=
  State.examine_of_no_choice (State.chooseEntry_none noTrip (.inl settling))

/-- What is held back is not dispatched (R60, R61). -/
theorem State.examine_heldBack {s : State} (held : s.heldBack) : s.examine = s := by
  rcases held with flying | ⟨settling, noTrip⟩
  · exact s.examine_inFlight (Option.isSome_iff_ne_none.mp flying)
  · exact State.examine_settling settling (State.oldestWaiting_none_iff.mpr noTrip)

/-! ## Dispatch (R62) -/

/-- The entry that is taken is in flight (R62). -/
theorem State.takeEntry_quiet (s : State) (e : Entry) : (s.takeEntry e).Quiet e.step := by
  intro x found
  obtain ⟨mem, step⟩ := State.mem_of_entryOf found
  obtain ⟨y, -, rfl⟩ := List.mem_map.mp mem
  by_cases same : y.step = e.step
  · rw [if_pos same]
  · rw [if_neg same] at step
    exact absurd step same

/-- A dispatched step does not enter CLOSED, READY or DISCHARGING (R62). -/
theorem movingState_ne (k : OpKind) :
    movingState k ≠ .closed ∧ movingState k ≠ .ready ∧ movingState k ≠ .discharging := by
  cases k <;> decide

/-- A change of state leaves the position (R3). -/
theorem State.enter_position (s : State) (k : StepId) (n : StepState) (l : Option LockoutCause) (f : Option FailureCause) :
    ((s.enter k n l f).stepRec k).position = (s.stepRec k).position := by
  rw [(s.enter_spec k n l f).1 k, if_pos rfl]
  unfold recordAfter
  split <;> rfl

/-- A pulse that nothing forbids runs (R21, R22). -/
theorem State.askPulse_runs {s : State} {k : StepId} {o : OpKind}
    (free : o = .closeOp → (s.stepRec k).discharge = 0 ∧ s.bkt = false)
    (away : (s.stepRec k).position ≠ some (targetOf o)) :
    (s.askPulse k o).ss.pulse = some { step := k, coil := coilOf o, timer := s.timer (s.y .tpulse) } := by
  have open_ : ¬(o = .closeOp ∧ ((s.stepRec k).discharge ≠ 0 ∨ s.bkt = true)) := by
    rintro ⟨close, block⟩
    obtain ⟨discharged, bkt⟩ := free close
    simp [discharged, bkt] at block
  rw [State.askPulse, if_neg open_, if_neg away]

theorem State.askPulse_onlyIn (s : State) (k : StepId) (o : OpKind) : s.onlyIn (s.askPulse k o) [.ss] :=
  State.onlyIn_ite _ (s.coilsOff_onlyIn k) (State.onlyIn_ite _ (s.coilsOff_onlyIn k) (fun b hb => by
    cases b <;> simp_all [State.sameBlock]))

/-- What a dispatch leaves of the UPU: all but the capture engine, which a step that leaves CLOSED may end (R156). -/
theorem State.dispatchEntry_protection (s : State) (e : Entry) : s.SameProtection (s.dispatchEntry e) := by
  obtain ⟨-, -, entered, -⟩ := (s.takeEntry_quiet e).enter_rest (movingState e.kind) none none
  have asked := State.askPulse_onlyIn (((s.takeEntry e).enter e.step (movingState e.kind) none none).startFlight) e.step
    e.kind .upu (by decide)
  exact (State.SameProtection.of_upu (s := s) (t := s.takeEntry e) rfl).trans (entered.trans (.of_upu asked))

/-- A dispatch has every part of R62. -/
theorem State.dispatchEntry_dispatched {s : State} (free : s.clock.held = none) (e : Entry) :
    dispatched s (s.dispatchEntry e) e := by
  let u := (s.takeEntry e).enter e.step (movingState e.kind) none none
  let v := u.startFlight.askPulse e.step e.kind
  have took : s.onlyIn (s.takeEntry e) [.oq] := fun b hb => by cases b <;> simp_all [State.sameBlock, State.takeEntry]
  obtain ⟨oq, only, protection, -⟩ := (s.takeEntry_quiet e).enter_rest (movingState e.kind) none none
  obtain ⟨records, ready, closed⟩ := (s.takeEntry e).enter_spec e.step (movingState e.kind) none none
  obtain ⟨state, discharge, timer⟩ := (s.takeEntry e).enter_record e.step (movingState e.kind) none none
  obtain ⟨notClosed, notReady, notDischarging⟩ := movingState_ne e.kind
  have table : u.startFlight.SameTable v := State.askPulse_table _ _ _
  have asked : u.startFlight.onlyIn v [.ss] := State.askPulse_onlyIn _ _ _
  have queue : v.oq = u.startFlight.oq := State.askPulse_oq _ _ _
  have step : ∀ j, (s.dispatchEntry e).stepRec j = u.stepRec j := table.stepRec
  have entered : s.onlyIn u [.ss, .oq, .cu, .upu, .au, .pi, .os] :=
    State.onlyIn_trans (State.onlyIn_mono took (by decide)) (State.onlyIn_mono only (by decide))
  have clock : u.clock = s.clock := entered .clock (by decide)
  have set : u.set = s.set := entered .set (by decide)
  have me : u.me = s.me := entered .me (by decide)
  have flags : ∀ p, ((s.dispatchEntry e).portState p).changeFlag = true := fun p =>
    (State.Retains.trans (State.startFlight_retains u) ((State.askPulse_retains _ _ _).trans
      (State.startOperate_retains _))).flags p (State.enter_flags _ _ _ _ _ p)
  refine ⟨?_, ?_, ?_, fun j ne => ?_, ?_, ?_, ?_, ?_, ?_, flags, fun allowed away => ?_, ?_⟩
  · show v.oq.entries = _
    rw [queue]
    show u.oq.entries = _
    rw [oq]
    rfl
  · rw [step, state]
    rfl
  · rw [step, timer, if_neg (by simp [notClosed, notReady, notDischarging])]
  · rw [step, records, if_neg ne]
    rfl
  · exact (table.ready.trans ready).trans (by rw [if_neg notReady, List.append_nil]; rfl)
  · exact (table.closed.trans closed).trans (by rw [if_neg notClosed, List.append_nil]; rfl)
  · show v.oq.vPre = _
    rw [queue]
    exact congrArg MeState.lastValidAvg me
  · show v.oq.retryCount = _
    rw [queue]
    rfl
  · show some (v.timer (v.y .top)) = _
    rw [State.timer, State.y, asked .clock (by decide), asked .set (by decide)]
    show some ({ since := u.clock.now, length := u.set.settings.y .top } : Timer) = _
    rw [clock, set]
    rfl
  · have bkt : u.bkt = s.bkt := protection.bkt
    have runs := State.askPulse_runs (s := u.startFlight) (k := e.step) (o := e.kind)
      (fun close => ⟨(discharge.trans (if_neg notClosed)).trans (allowed close).1, bkt.trans (allowed close).2⟩)
      (by
        show (u.stepRec e.step).position ≠ _
        rw [State.enter_position]
        intro reached
        refine away (reached.trans ?_)
        cases e.kind <;> rfl)
    have pulse : (s.dispatchEntry e).ss.pulse = _ := runs
    have held : (s.dispatchEntry e).clock.held = none := by
      rw [(s.dispatchEntry_keeps e).clock, free]
    rw [State.coilOn, held, pulse]
    cases e.kind <;> simp [coilOf]
  · refine State.onlyIn_trans (t := v) (State.onlyIn_trans (t := u.startFlight) ?_ (State.onlyIn_mono asked (by decide))) ?_
    · exact State.onlyIn_trans entered (fun b hb => by cases b <;> simp_all [State.sameBlock, State.startFlight])
    · exact fun b hb => by cases b <;> simp_all [State.sameBlock, State.dispatchEntry, v, u]

/-- Settles O44: the choice follows R61's order, and what is chosen is dispatched. -/
theorem dispatchChoosesByKindBeforeAge : Obligations.DispatchChoosesByKindBeforeAge := by
  intro s free
  have next : exec .dispatch s = .next s.examine := congrArg Host.Outcome.next (s.unlessHeld_free _ free)
  refine ⟨fun flying => ?_, fun idle => ?_⟩
  · rw [next, s.examine_inFlight flying]
  · have chosen : ∀ e, s.chooseEntry = some e → ∃ t, exec .dispatch s = .next t ∧ dispatched s t e := fun e choice =>
      ⟨_, next, (State.examine_of_choice idle choice).symm ▸ State.dispatchEntry_dispatched free e⟩
    refine ⟨fun e trip => chosen e (State.chooseEntry_trip trip),
      fun e noTrip settled opening => chosen e (State.chooseEntry_open noTrip settled opening),
      fun e noTrip settled noOpen live harmonic voltage bkt record close => chosen e ?_, fun noTrip stops => ?_⟩
    · refine State.chooseEntry_close noTrip settled noOpen (State.closeBlock_eq_false live harmonic ?_ bkt record) close
      simpa [State.overvoltageBlock] using voltage
    · rw [next, State.examine_of_no_choice (State.chooseEntry_none noTrip stops)]

end Sys2Proof.Machine
end

section
/-!
SUPPORT and PROOF. Postings that a request makes: OPEN of one step (R52), OPERATE (R171), and the two requests that
end a close block (R147, R153).
-/
namespace Sys2Proof.Machine

/-! ## What an examination leaves (R60) -/

theorem State.examine_onlyIn (s : State) : s.onlyIn s.examine [.ss, .oq, .cu, .upu, .au, .pi, .os] := by
  rcases s.examine_cases with same | ⟨e, -, -, dispatch⟩
  · rw [same]
    exact s.onlyIn_refl _
  · rw [dispatch]
    let u := (s.takeEntry e).enter e.step (movingState e.kind) none none
    have took : s.onlyIn (s.takeEntry e) [.oq] := fun b hb => by
      cases b <;> simp_all [State.sameBlock, State.takeEntry]
    obtain ⟨-, only, -⟩ := (s.takeEntry_quiet e).enter_rest (movingState e.kind) none none
    have started : u.onlyIn u.startFlight [.oq] := fun b hb => by
      cases b <;> simp_all [State.sameBlock, State.startFlight]
    have asked := State.askPulse_onlyIn u.startFlight e.step e.kind
    have timed : (u.startFlight.askPulse e.step e.kind).onlyIn (s.dispatchEntry e) [.oq] := fun b hb => by
      cases b <;> simp_all [State.sameBlock, State.dispatchEntry, u]
    exact State.onlyIn_trans (State.onlyIn_trans (State.onlyIn_trans (State.onlyIn_trans
      (State.onlyIn_mono took (by decide)) (State.onlyIn_mono only (by decide))) (State.onlyIn_mono started (by decide)))
      (State.onlyIn_mono asked (by decide))) (State.onlyIn_mono timed (by decide))

/-- An examination leaves the UPU but for the capture engine (R60, R156). -/
theorem State.examine_protection (s : State) : s.SameProtection s.examine := by
  rcases s.examine_cases with same | ⟨e, -, -, dispatch⟩
  · rw [same]
    exact .of_upu rfl
  · rw [dispatch]
    exact s.dispatchEntry_protection e

/-! ## CLEAR_TRIP_RECORD and RESET_BACKUP (R147, R153) -/

/-- A block that ends has dispatch examined: with an operation in flight or no entry nothing follows (R60). -/
theorem State.examine_idle {s : State} (idle : s.inFlight ≠ none ∨ s.oq.entries = []) : s.examine = s :=
  idle.elim s.examine_inFlight s.examine_empty

/-- What a request does that ends a close block and has dispatch examined when the block held: `w` is the state with
the record emptied (R60, R147, R153). -/
theorem blockEnds {h : Header} {u w : State} (only : u.onlyIn w [.upu]) (free : u.clock.held = none) (held : Bool)
    (t : State) (ht : t = (if held then w.examine else w).respond h.port h.tag (.plain .done)) :
    w.SameProtection t
      ∧ (t.portState h.port).buffer = some (responseBytes h.tag { code := .done, payload := [] })
      ∧ (u.inFlight ≠ none ∨ u.oq.entries = [] →
          u.answered t h { code := .done, payload := [] } ∧ t.upu.capture = w.upu.capture ∧ u.onlyIn t [.pi, .upu])
      ∧ (∀ e, held = true → u.inFlight = none → w.chooseEntry = some e → e.kind = .closeOp →
          (t.stepRec e.step).state = some .closing)
      ∧ u.onlyIn t [.ss, .oq, .cu, .avc, .hmu, .upu, .au, .pi, .os] := by
  let v := if held then w.examine else w
  have examined : w.onlyIn v [.ss, .oq, .cu, .upu, .au, .pi, .os] := State.onlyIn_ite _ w.examine_onlyIn (w.onlyIn_refl _)
  have protection : w.SameProtection v := by
    by_cases was : held = true
    · simp only [v, was, if_true]
      exact w.examine_protection
    · simp only [v, was]
      exact .of_upu rfl
  have oq : w.oq = u.oq := only .oq (by decide)
  have flight : w.inFlight = u.inFlight := by rw [State.inFlight, oq, State.inFlight]
  have answer : v.onlyIn t [.pi] := ht ▸ v.respond_onlyIn h.port h.tag _
  refine ⟨?_, ?_, fun idle => ?_, fun e was none choice close => ?_, ?_⟩
  · exact protection.trans (.of_upu (answer .upu (by decide)))
  · rw [ht, State.respond_portState, if_pos rfl]
    rfl
  · have same : v = w := by
      by_cases was : held = true
      · simp only [v, was, if_true]
        exact State.examine_idle (by rw [flight, oq]; exact idle)
      · simp [v, was]
    obtain ⟨answered, only'⟩ := State.answered_onlyIn h (.plain .done) only (by decide)
    have ht' : t = w.respond h.port h.tag (.plain .done) := ht.trans (congrArg (fun x => State.respond x _ _ _) same)
    rw [ht']
    exact ⟨answered, by rw [State.respond_onlyIn _ _ _ _ .upu (by decide)], only'⟩
  · have free' : w.clock.held = Option.none := by rw [only .clock (by decide), free]
    have dispatch : v = w.dispatchEntry e := by
      simp only [v, was, if_true]
      exact State.examine_of_choice (flight.trans none) choice
    obtain ⟨-, state, -⟩ := State.dispatchEntry_dispatched free' e
    have step : t.stepRec e.step = v.stepRec e.step := by
      rw [State.stepRec, answer .ss (by decide), State.stepRec]
    rw [step, dispatch, state, if_pos close]
  · exact State.onlyIn_trans (State.onlyIn_trans (State.onlyIn_mono only (by decide))
      (State.onlyIn_mono examined (by decide))) (State.onlyIn_mono answer (by decide))

/-- The oldest WAITING entry of a kind is of that kind (R61). -/
theorem State.oldestWaiting_kind {s : State} {kind : OpKind} {e : Entry} (found : s.oldestWaiting kind = some e) :
    e.status = .waiting ∧ e.kind = kind := by
  simpa using List.find?_some found

/-- The state a request is judged on runs when the one it met did. -/
theorem State.serves_judged {s : State} (serves : s.serves) (h : Header) : (s.judged h).clock.held = none := by
  rw [(s.judged_keeps h).clock]
  exact serves.1

/-- Settles O32: each request empties its record; with the block gone, R61 chooses the CLOSE that only the block
held. -/
theorem protectionRecordsAreCleared : Obligations.ProtectionRecordsAreCleared := by
  intro h s u serves a hu
  have permitted : fromA h = true := by simp [fromA, a]
  have free : u.clock.held = none := hu ▸ State.serves_judged serves h
  constructor
  · let w : State := { u with upu := { u.upu with tripRecord := none } }
    have only : u.onlyIn w [.upu] := fun b hb => by cases b <;> simp_all [State.sameBlock, w]
    have next : exec (.clearTripRecord h) s = .next _ := congrArg Host.Outcome.next
      (State.request_of_judge (judge := fun s => doneWith s.clearTripRecord) serves permitted hu rfl)
    refine ⟨_, next, ?_⟩
    obtain ⟨protection, buffer, idle, dispatch, all⟩ := blockEnds (h := h) only free u.tripRecordBlock _ rfl
    refine ⟨protection.tripRecord, protection.backup, protection.lastTrip, buffer, idle,
      fun e block flight settled live harmonic voltage bkt noTrip noOpen close => ?_, all⟩
    exact dispatch e block flight (State.chooseEntry_close (s := w) noTrip settled noOpen
      (State.closeBlock_eq_false live harmonic voltage bkt rfl) close) (State.oldestWaiting_kind close).2
  · let w : State := { u with upu := { u.upu with backup := none } }
    have only : u.onlyIn w [.upu] := fun b hb => by cases b <;> simp_all [State.sameBlock, w]
    have next : exec (.resetBackup h) s = .next _ := congrArg Host.Outcome.next
      (State.request_of_judge (judge := fun s => doneWith s.clearBackup) serves permitted hu rfl)
    refine ⟨_, next, ?_⟩
    obtain ⟨protection, buffer, idle, dispatch, all⟩ := blockEnds (h := h) only free u.bkt _ rfl
    refine ⟨protection.backup, ?_, protection.tripRecord, protection.lastTrip, buffer, idle,
      fun e block flight settled live harmonic voltage record noTrip noOpen close => ?_, all⟩
    · rw [State.bktPin, State.bkt, Bool.and_eq_false_iff]
      exact .inr (congrArg Option.isSome protection.backup)
    · exact dispatch e block flight (State.chooseEntry_close (s := w) noTrip settled noOpen
        (State.closeBlock_eq_false live harmonic voltage rfl record) close) (State.oldestWaiting_kind close).2

/-! ## A new entry (R50) -/

/-- The entry that a posting becomes (R50). -/
def State.newEntry (s : State) (p : Posting) : Entry :=
  { kind := p.kind
    step := p.step
    originator := p.originator
    tag := p.tag
    admittedAt := s.clock.uptime
    status := .waiting
    mark := none
    fast := p.fast }

theorem State.admitNew_oq (s : State) (p : Posting) :
    (s.admitNew p).oq = { s.oq with entries := s.oq.entries ++ [s.newEntry p] } := rfl

/-- A new entry waits, so that what is in flight stays so. -/
theorem State.admitNew_inFlight (s : State) (p : Posting) : (s.admitNew p).inFlight = s.inFlight := by
  rw [State.inFlight, State.admitNew_oq, List.find?_append]
  simp [State.newEntry, State.inFlight]

/-- A new entry is the oldest WAITING one of its kind when none of the kind waited. -/
theorem State.admitNew_oldestWaiting (s : State) (p : Posting) (kind : OpKind) :
    (s.admitNew p).oldestWaiting kind =
      (s.oldestWaiting kind).or (if p.kind = kind then some (s.newEntry p) else none) := by
  rw [State.oldestWaiting, State.admitNew_oq, List.find?_append]
  by_cases same : p.kind = kind <;> simp [State.newEntry, State.oldestWaiting, same]

/-- What is held back stays held back when a CLOSE or an OPEN joins it (R60, R61). -/
theorem State.heldBack_admitNew {s : State} (held : s.heldBack) {p : Posting} (kind : p.kind ≠ .tripOp) :
    (s.admitNew p).heldBack := by
  rcases held with flying | ⟨settling, noTrip⟩
  · exact .inl ((s.admitNew_inFlight p).symm ▸ flying)
  · refine .inr ⟨settling, fun e he => ?_⟩
    rw [State.admitNew_oq] at he
    rcases List.mem_append.mp he with old | new
    · exact noTrip e old
    · rw [List.mem_singleton.mp new]
      exact fun both => kind both.2

/-- A posting that becomes a new entry while the list is held back waits at its tail (R50, R60). -/
theorem State.admitOne_heldBack {s : State} (held : s.heldBack) {p : Posting} (kind : p.kind ≠ .tripOp) {a : PostAnswer}
    (posted : s.post p = (s.admitNew p, a)) : s.admitOne p = (s.admitNew p, a) := by
  rw [State.admitOne, posted, State.examine_heldBack (State.heldBack_admitNew held kind)]

/-- The entry of a dispatched step is the one in flight when all entries waited and no older one is of the step. -/
theorem State.dispatched_inFlight {s t : State} {l : List Entry} {e : Entry} (entries : s.oq.entries = l ++ [e])
    (others : ∀ x ∈ l, x.status = .waiting ∧ x.step ≠ e.step) (dispatch : dispatched s t e) :
    t.inFlight = some { e with status := .inFlight } := by
  obtain ⟨moved, -⟩ := dispatch
  rw [State.inFlight, moved, entries, List.map_append, List.find?_append]
  have passed : (l.map fun x => if x.step = e.step then { x with status := .inFlight } else x).find?
      (fun x => x.status = .inFlight) = none := by
    rw [List.find?_eq_none]
    intro x hx
    obtain ⟨y, hy, rfl⟩ := List.mem_map.mp hx
    obtain ⟨waits, other⟩ := others y hy
    simp [other, waits]
  rw [passed]
  simp

/-! ## OPEN of one step (R52) -/

/-- A field that names a step is not ALL (R182). -/
theorem ne_allStepsField {b : Byte} {k : StepId} (n : names b k) : b ≠ allStepsField := by
  rintro rfl
  have := k.isLt
  have all : (15 : Nat) = k.val + 1 := n
  omega

theorem judgeOpen_names {b : Byte} {k : StepId} (n : names b k) (p : Port) (tag : Byte) :
    judgeOpen p tag b = judgeOpenOne p tag k := by
  rw [judgeOpen, if_neg (ne_allStepsField n), withStep_names n]

/-- A response leaves the coils (R178). -/
theorem State.respond_coilOn (s : State) (p : Port) (tag : Byte) (a : Answer) (k : StepId) (c : Coil) :
    (s.respond p tag a).coilOn k c = s.coilOn k c := by
  rw [State.coilOn, s.respond_onlyIn p tag a .clock (by decide), State.respond_ss, State.coilOn]

theorem State.respond_oq (s : State) (p : Port) (tag : Byte) (a : Answer) : (s.respond p tag a).oq = s.oq :=
  s.respond_onlyIn p tag a .oq (by decide)

/-- Settles O20: the OPEN joins the tail; held back it waits there, and in a settled yard with only CLOSEs before it R61
chooses it. -/
theorem openRequestIsAdmitted : Obligations.OpenRequestIsAdmitted := by
  intro h b k s u serves n hu closed entry
  let p := openPosting (portOriginator h.port) (some h.tag) false k
  have posted : u.post p = (u.admitNew p, .accepted) := by
    rw [State.post_open_of_entryOf_none (p := p) rfl entry, State.postOpen]
    simp [p, openPosting, closed]
  have next : ∀ w a, u.admitOne p = (w, a) →
      exec (.openStep h b) s = .next (w.respond h.port h.tag a.answer) := fun w a admitted => by
    refine congrArg Host.Outcome.next (State.request_of_judge serves rfl hu ?_)
    rw [judgeOpen_names n, judgeOpenOne, admitted]
  refine ⟨fun held => ?_, fun idle settled closes => ?_⟩
  · obtain ⟨answered, only⟩ := State.answered_onlyIn h (PostAnswer.accepted).answer (u.admitNew_onlyIn p) (by decide)
    refine ⟨_, next _ _ (State.admitOne_heldBack held (by simp [p, openPosting]) posted), answered, ?_, only⟩
    rw [State.respond_oq]
    rfl
  · have free : (u.admitNew p).clock.held = none := hu ▸ State.serves_judged serves h
    have noneOf : ∀ kind, kind ≠ .closeOp → u.oldestWaiting kind = none := fun kind ne =>
      State.oldestWaiting_none_iff.mpr fun e he both => ne (both.2 ▸ closes e he both.1)
    have choice : (u.admitNew p).chooseEntry = some (u.newEntry p) := by
      refine State.chooseEntry_open ?_ settled ?_
      · rw [State.admitNew_oldestWaiting, noneOf _ (by decide)]
        rfl
      · rw [State.admitNew_oldestWaiting, noneOf _ (by decide)]
        rfl
    have admitted : u.admitOne p = ((u.admitNew p).dispatchEntry (u.newEntry p), .accepted) := by
      rw [State.admitOne, posted, State.examine_of_choice ((u.admitNew_inFlight p).trans idle) choice]
    have dispatch := State.dispatchEntry_dispatched free (u.newEntry p)
    have flight := State.dispatched_inFlight (u.admitNew_oq p ▸ rfl) (fun x hx =>
      ⟨State.inFlight_none_iff.mp idle x hx, State.entryOf_none_iff.mp entry x hx⟩) dispatch
    obtain ⟨-, state, -, others, -, -, vPre, retries, operate, -, coil, only⟩ := dispatch
    refine ⟨_, next _ _ admitted, ?_, ?_, ?_, ?_, ?_, ?_, fun away => ?_, fun j ne => ?_, ?_⟩
    · rw [State.respond_portState, if_pos rfl]
      rfl
    · rw [State.respond_stepRec]
      exact state
    · rw [State.inFlight, State.respond_oq, ← State.inFlight, flight]
      rfl
    · rw [State.respond_oq]
      exact vPre
    · rw [State.respond_oq]
      exact retries
    · rw [State.respond_oq]
      exact operate
    · rw [State.respond_coilOn]
      exact coil (fun close => nomatch close) away
    · rw [State.respond_stepRec]
      exact others j ne
    · exact State.onlyIn_trans (State.onlyIn_trans (State.onlyIn_mono (u.admitNew_onlyIn p) (by decide))
        (State.onlyIn_mono only (by decide))) (State.onlyIn_mono (State.respond_onlyIn _ _ _ _) (by decide))

/-! ## OPERATE (R171) -/

/-- OPERATE of the step that the slot holds consumes the selection and posts a CLOSE; of any other step it is refused
(R171). -/
theorem judgeOperate_names {b : Byte} {k : StepId} (n : names b k) (p : Port) (tag : Byte) (u : State) :
    judgeOperate p tag b u =
      if (u.slot p).map (·.step) = some k then
        (((u.setSlot p none).admitOne (closePosting p tag k)).1,
          ((u.setSlot p none).admitOne (closePosting p tag k)).2.answer)
      else refusedWith u .notSelected := by
  rw [judgeOperate, withStep_names n]
  simp [State.holdsSelection]

/-- A CLOSE of a READY step in service without an entry is judged by the close blocks alone (R51). -/
theorem State.post_close_ready {u : State} {p : Posting} (kind : p.kind = .closeOp)
    (ready : (u.stepRec p.step).state = some .ready) (service : u.inService p.step = true)
    (entry : u.entryOf p.step = none) :
    u.post p =
      if u.lineDead then (u, .deadLine)
      else if u.harmonicBlock then (u, .blocked .harmonic)
      else if u.bkt then (u, .blocked .backupTrip)
      else if u.tripRecordBlock then (u, .blocked .tripRecord)
      else (u.admitNew p, .accepted) := by
  rw [State.post, if_neg (by simp [ready]), entry]
  simp [kind, State.postClose, ready, service]

/-- Settles O23: the slot is emptied first; the CLOSE then meets R51's blocks in order, and what is held back is not
dispatched. -/
theorem operateConsumesTheSelection : Obligations.OperateConsumesTheSelection := by
  intro h b k s u serves n hu
  have judge := judgeOperate_names n h.port h.tag u
  have next : ∀ w a, judgeOperate h.port h.tag b u = (w, a) →
      exec (.operate h b) s = .next (w.respond h.port h.tag a) := fun w a judged =>
    congrArg Host.Outcome.next (State.request_of_judge serves rfl hu judged)
  refine ⟨fun selected ready service entry => ?_, fun other => ?_⟩
  · rw [if_pos selected] at judge
    let w := u.setSlot h.port none
    let p := closePosting h.port h.tag k
    have only : u.onlyIn w [.au] := u.setSlot_onlyIn h.port none
    have slots : ∀ q, w.slot q = if q = h.port then none else u.slot q := fun q => by simp [w]
    have set : w.set = u.set := only .set (by decide)
    have step : w.stepRec k = u.stepRec k := by rw [State.stepRec, only .ss (by decide), State.stepRec]
    have served : w.inService k = u.inService k := by rw [State.inService, set, State.inService]
    have posted := State.post_close_ready (u := w) (p := p) rfl ((congrArg StepRecord.state step).trans ready)
      (served.trans service) ((State.entryOf_congr (only .oq (by decide)) k).trans entry)
    have dead : w.lineDead = decide (u.avc.line = .dead) := by simp [w, State.lineDead]
    have harmonic : w.harmonicBlock = u.harmonicBlock := by simp [w, State.harmonicBlock, State.monitorActive, State.monitor]
    have bkt : w.bkt = u.bkt := by simp [w, State.bkt]
    have record : w.tripRecordBlock = u.tripRecordBlock := by
      rw [State.tripRecordBlock, State.y, set, only .upu (by decide), State.tripRecordBlock, State.y]
    rw [dead, harmonic, bkt, record] at posted
    have held' : u.heldBack → w.heldBack := by simp [w, State.inFlight, State.heldBack]
    have refused : ∀ a, w.post p = (w, a) → u.heldBack →
        ∃ t, exec (.operate h b) s = .next t ∧ t.slot h.port = none ∧ u.answered t h a.answer
          ∧ u.onlyIn t [.pi, .au] := by
      intro a post held
      have admitted : w.admitOne p = (w, a) := by rw [State.admitOne, post, State.examine_heldBack (held' held)]
      obtain ⟨answered, only'⟩ := State.answered_onlyIn h a.answer only (by decide)
      refine ⟨_, next w a.answer ?_, by simp [slots], answered, only'⟩
      rw [judge]
      exact congrArg (fun x : State × PostAnswer => (x.1, x.2.answer)) admitted
    refine ⟨fun live h1 h2 h3 held => ?_, fun deadLine held => ?_, fun live h1 held => ?_, fun live h1 h2 held => ?_,
      fun live h1 h2 h3 held => ?_⟩
    · have post : w.post p = (w.admitNew p, .accepted) := by simpa [live, h1, h2, h3] using posted
      have admitted := State.admitOne_heldBack (held' held) (by simp [p, closePosting]) post
      have only2 : u.onlyIn (w.admitNew p) [.au, .oq] := State.onlyIn_trans (State.onlyIn_mono only (by decide))
        (State.onlyIn_mono (w.admitNew_onlyIn p) (by decide))
      obtain ⟨answered, only'⟩ := State.answered_onlyIn h (PostAnswer.accepted).answer only2 (by decide)
      have slots' : ∀ q, (w.admitNew p).slot q = w.slot q := fun q => State.slot_congr rfl q
      refine ⟨_, next (w.admitNew p) (PostAnswer.accepted).answer ?_, answered, ?_, fun q ne => ?_, ?_, ?_, only'⟩
      · rw [judge]
        exact congrArg (fun x : State × PostAnswer => (x.1, x.2.answer)) admitted
      · rw [State.respond_slot, slots', slots, if_pos rfl]
      · rw [State.respond_slot, slots', slots, if_neg ne]
      · rw [State.respond_au]
        exact u.setSlot_au h.port none
      · rw [State.respond_oq, State.admitNew_oq]
        simp [w, p, closePosting, State.newEntry]
    · exact refused .deadLine (by simpa [deadLine] using posted) held
    · exact refused (.blocked .harmonic) (by simpa [live, h1] using posted) held
    · exact refused (.blocked .backupTrip) (by simpa [live, h1, h2] using posted) held
    · exact refused (.blocked .tripRecord) (by simpa [live, h1, h2, h3] using posted) held
  · rw [if_neg other] at judge
    exact ⟨_, next _ _ judge, (u.answered_refused h _).symm⟩

end Sys2Proof.Machine
end

section
/-!
SUPPORT and PROOF. The maintenance requests that move a step: TAKE_OUT (R15), RETURN (R16) and RESET_STEP (R17).
-/
namespace Sys2Proof.Machine

/-- A step at rest is at rest in a state with the same queue, pulse and selections. -/
theorem State.AtRest.congr {s t : State} {k : StepId} (r : s.AtRest k) (oq : t.oq = s.oq) (pulse : t.ss.pulse = s.ss.pulse)
    (au : t.au = s.au) : t.AtRest k := by
  refine ⟨(State.entryOf_congr oq k).trans r.entry, fun p hp => r.pulse p (pulse ▸ hp), ?_⟩
  have selection := r.selection
  simpa [State.selectedBy, au] using selection

/-- A fault timer does not run in OUT, LOCKOUT or FAILED (R13). -/
theorem State.QueueSound.faultTimer_none {s : State} (q : s.QueueSound) {k : StepId} {n : StepState}
    (st : (s.stepRec k).state = some n) (hn : n ≠ .ready ∧ n ≠ .discharging ∧ n ≠ .closed) :
    (s.stepRec k).faultTimer = none := by
  obtain ⟨-, -, -, -, timers, -⟩ := q
  obtain ⟨notReady, notDischarging, notClosed⟩ := hn
  by_contra runs
  have := timers k (Option.isSome_iff_ne_none.mpr runs)
  simp [st, notReady, notDischarging, notClosed] at this

/-- The record of a step at rest that enters a state from one that is not CLOSED (R3). -/
theorem recordAfter_of_ne {r : StepRecord} (h : r.state ≠ some .closed) (n : StepState) (l : Option LockoutCause)
    (f : Option FailureCause) : recordAfter r n l f = enteredRecord r n l f := by
  rw [recordAfter, if_neg fun both => h both.1]

/-- What a maintenance request leaves that moves a step at rest: `w` is the state whose record of the step has been
prepared. -/
theorem movedAtRest {h : Header} {u w : State} {k : StepId} (rest : w.AtRest k) (orders : u.OrdersSound)
    (prepared : u.onlyIn w [.ss]) (others : ∀ j, j ≠ k → w.stepRec j = u.stepRec j)
    (state : (w.stepRec k).state = (u.stepRec k).state)
    (sameOrders : w.ss.readyOrder = u.ss.readyOrder ∧ w.ss.closedOrder = u.ss.closedOrder)
    (still : (u.stepRec k).state ≠ some .closed ∧ (u.stepRec k).state ≠ some .ready) (n : StepState)
    (l : Option LockoutCause) (f : Option FailureCause) (t : State)
    (ht : t = (w.enter k n l f).respond h.port h.tag (.plain .done)) :
    u.setFlags.answered t h { code := .done, payload := [] }
      ∧ t.stepRec k = enteredRecord (w.stepRec k) n l f
      ∧ (∀ j, j ≠ k → t.stepRec j = u.stepRec j)
      ∧ t.ss.readyOrder = u.ss.readyOrder ++ (if n = .ready then [k] else [])
      ∧ t.ss.closedOrder = u.ss.closedOrder ++ (if n = .closed then [k] else [])
      ∧ u.onlyIn t [.pi, .ss, .cu] := by
  obtain ⟨notClosed, notReady⟩ := still
  obtain ⟨sameReady, sameClosed⟩ := sameOrders
  obtain ⟨-, -, inReady, inClosed⟩ := orders
  have notClosed' : (w.stepRec k).state ≠ some .closed := state ▸ notClosed
  obtain ⟨only, flags, -⟩ := rest.enter_frame notClosed' n l f
  obtain ⟨records, ready, closed⟩ := w.enter_spec k n l f
  have flags' : (w.enter k n l f).pi = u.setFlags.pi := by
    rw [flags]
    show ({ a := _, b := _ } : PiState) = _
    rw [prepared .pi (by decide)]
    rfl
  refine ⟨ht ▸ State.respond_answered flags' h _, ?_, fun j ne => ?_, ?_, ?_, ?_⟩
  · rw [ht, State.respond_stepRec, records, if_pos rfl, recordAfter_of_ne notClosed']
  · rw [ht, State.respond_stepRec, records, if_neg ne, others j ne]
  · rw [ht, State.respond_ss, ready, sameReady, filter_order_of_state_ne inReady notReady]
  · rw [ht, State.respond_ss, closed, sameClosed, filter_order_of_state_ne inClosed notClosed]
  · rw [ht]
    exact State.onlyIn_trans (State.onlyIn_trans (State.onlyIn_mono prepared (by decide)) only)
      (State.onlyIn_mono (State.respond_onlyIn _ _ _ _) (by decide))

/-- The change of state of a step that was not CLOSED and has no entry leaves the queue and the UPU (R3). -/
theorem State.Quiet.enter_onlyIn {s : State} {k : StepId} (h : s.Quiet k) (notClosed : (s.stepRec k).state ≠ some .closed)
    (n : StepState) (l : Option LockoutCause) (f : Option FailureCause) :
    s.onlyIn (s.enter k n l f) [.pi, .ss, .cu, .au, .os] := by
  rw [h.enter, State.leaveClosed_of_ne _ k notClosed]
  exact State.onlyIn_trans (State.onlyIn_trans (State.onlyIn_mono (s.entered_onlyIn k n l f) (by decide))
    (State.onlyIn_mono (State.leaveReady_onlyIn _ k) (by decide))) (State.onlyIn_mono (State.voidOther_spec _ k).1 (by decide))

/-! ## RESET_STEP (R17) and RETURN (R16) -/

/-- What a request for a step does from Port A at a controller that serves: its judgement and the response. -/
theorem request_fromA {h : Header} {b : Byte} {k : StepId} {s u : State} (serves : s.serves) (a : h.port = .a)
    (n : names b k) (hu : u = s.judged h) {judge : StepId → Judge} {v : State} {x : Answer}
    (judged : judge k u = (v, x)) :
    s.request h (fromA h) (withStep b judge) = v.respond h.port h.tag x := by
  rw [withStep_names n]
  exact State.request_of_judge serves (by simp [fromA, a]) hu judged

/-- Settles O31: a FAILED or OUT step is at rest, so that its change of state touches no entry, coil or selection. -/
theorem resetStepAndReturnFollowThePosition : Obligations.ResetStepAndReturnFollowThePosition := by
  refine ⟨fun h b k s u serves a n sound hu => ?_, fun h b k s u serves a n sound hu => ?_⟩
  · have yard : u.YardSound := hu ▸ State.judged_yardSound a sound
    have next : ∀ v x, judgeResetStep k u = (v, x) →
        exec (.resetStep h b) s = .next (v.respond h.port h.tag x) := fun v x judged =>
      congrArg Host.Outcome.next (request_fromA serves a n hu judged)
    by_cases opened : (u.stepRec k).state = some .failed ∧ (u.stepRec k).position = some .atOpen
    · obtain ⟨failed, position⟩ := opened
      have rest := yard.atRest failed (by simp)
      have timer := yard.2.1.faultTimer_none failed (by simp)
      refine ⟨_, next ((u.loadDischarge k).enter k .discharging none none) (.plain .done)
        (by rw [judgeResetStep, failed, position]; rfl), ?_⟩
      rw [if_pos ⟨failed, position⟩]
      obtain ⟨answered, record, others, ready, closed, only⟩ := movedAtRest (h := h) (u := u) (w := u.loadDischarge k)
        (rest.congr rfl rfl rfl) yard.1 (u.modStep_onlyIn k _) (fun j ne => by simp [State.loadDischarge, ne])
        (by simp [State.loadDischarge]) ⟨rfl, rfl⟩ (by simp [failed]) .discharging none none _ rfl
      refine ⟨answered, record.trans ?_, ready.trans (List.append_nil _), closed.trans (List.append_nil _), others, only⟩
      simp [enteredRecord, State.loadDischarge]
    · simp only [if_neg opened]
      by_cases shut : (u.stepRec k).state = some .failed ∧ (u.stepRec k).position = some .atClosed
      · obtain ⟨failed, position⟩ := shut
        have rest := yard.atRest failed (by simp)
        refine ⟨_, next (u.enter k .closed none none) (.plain .done)
          (by rw [judgeResetStep, failed, position]; rfl), ?_⟩
        rw [if_pos ⟨failed, position⟩]
        obtain ⟨answered, record, others, ready, closed, only⟩ := movedAtRest (h := h) (u := u) (w := u) rest yard.1
          (u.onlyIn_refl _) (fun _ _ => rfl) rfl ⟨rfl, rfl⟩ (by simp [failed]) .closed none none _ rfl
        refine ⟨answered, record.trans ?_, ready.trans (List.append_nil _), closed, others, only⟩
        simp [enteredRecord]
      · have refused : judgeResetStep k u = refusedWith u .wrongState := by
          unfold judgeResetStep
          split
          · rename_i failed position
            exact absurd ⟨failed, position⟩ opened
          · rename_i failed position
            exact absurd ⟨failed, position⟩ shut
          · rfl
        refine ⟨_, next _ _ refused, ?_⟩
        rw [if_neg shut]
        exact u.answered_refused h _
  · have yard : u.YardSound := hu ▸ State.judged_yardSound a sound
    have next : ∀ v x, judgeReturn k u = (v, x) →
        exec (.returnStep h b) s = .next (v.respond h.port h.tag x) := fun v x judged =>
      congrArg Host.Outcome.next (request_fromA serves a n hu judged)
    by_cases back : (u.stepRec k).state = some .out ∧ (u.stepRec k).position = some .atOpen
    · obtain ⟨out, position⟩ := back
      have rest := yard.atRest out (by simp)
      have timer := yard.2.1.faultTimer_none out (by simp)
      obtain ⟨state, is⟩ : ∃ x, x = if (u.stepRec k).lockoutCause ≠ none then StepState.lockout
          else if 0 < (u.stepRec k).discharge then .discharging else .ready := ⟨_, rfl⟩
      have judged : judgeReturn k u = doneWith (u.enter k state (u.stepRec k).lockoutCause none) := by
        rw [judgeReturn, if_pos ⟨out, position⟩]
        cases cause : (u.stepRec k).lockoutCause with
        | some c => simp [is, cause]
        | none => simp [is, cause, availableState]
      refine ⟨_, next _ _ judged, ?_⟩
      rw [if_pos ⟨out, position⟩]
      obtain ⟨answered, record, others, ready, closed, only⟩ := movedAtRest (h := h) (u := u) (w := u) rest yard.1
        (u.onlyIn_refl _) (fun _ _ => rfl) rfl ⟨rfl, rfl⟩ (by simp [out]) state (u.stepRec k).lockoutCause none _ rfl
      have notClosed : state ≠ .closed ∧ state ≠ .out := by
        rw [is]
        split_ifs <;> decide
      refine ⟨answered, record.trans ?_, others, ready.trans ?_, closed.trans ?_, only⟩
      · rw [← is]
        simp [enteredRecord, notClosed, timer]
      · by_cases cause : (u.stepRec k).lockoutCause = none <;> by_cases left : (u.stepRec k).discharge = 0 <;>
          simp [is, cause, left, Nat.pos_iff_ne_zero]
      · rw [if_neg notClosed.1, List.append_nil]
    · refine ⟨_, next _ _ (by rw [judgeReturn, if_neg back]), ?_⟩
      rw [if_neg back]
      exact u.answered_refused h _

/-! ## TAKE_OUT (R15) -/

/-- The states that TAKE_OUT refuses (R15). -/
theorem mayTakeOut_eq_false_iff (o : Option StepState) :
    mayTakeOut o = false ↔ o = none ∨ o = some .closing ∨ o = some .closed ∨ o = some .opening ∨ o = some .out := by
  rcases o with _ | st
  · simp [mayTakeOut]
  · cases st <;> simp [mayTakeOut]

/-- selected_by is read from the Authority Unit alone. -/
theorem State.selectedBy_congr {s t : State} (au : t.au = s.au) (k : StepId) : t.selectedBy k = s.selectedBy k := by
  simp [State.selectedBy, au]

/-- Settles O30: a step without an entry keeps the queue; its selection ends as the step is no longer READY. -/
theorem takeOutMovesTheStepOut : Obligations.TakeOutMovesTheStepOut := by
  intro h b k s u serves a n sound hu
  have yard : u.YardSound := hu ▸ State.judged_yardSound a sound
  have next : ∀ v x, judgeTakeOut k u = (v, x) →
      exec (.takeOut h b) s = .next (v.respond h.port h.tag x) := fun v x judged =>
    congrArg Host.Outcome.next (request_fromA serves a n hu judged)
  by_cases refused : mayTakeOut (u.stepRec k).state = false
  · refine ⟨_, next u (.plain .wrongState) (by rw [judgeTakeOut, if_pos refused]; rfl), ?_⟩
    rw [if_pos ((mayTakeOut_eq_false_iff _).mp refused)]
    exact u.answered_refused h _
  · by_cases pending : u.entryOf k = none
    · let t := u.enter k .out (u.stepRec k).lockoutCause none
      refine ⟨_, next t (.plain .done) (by rw [judgeTakeOut, if_neg refused, if_neg (by simp [pending])]; rfl), ?_⟩
      rw [if_neg (mt (mayTakeOut_eq_false_iff _).mpr refused), if_neg (not_not.mpr pending)]
      obtain ⟨orders, queue, coils, selections⟩ := yard
      have notClosed : (u.stepRec k).state ≠ some .closed := fun closed =>
        refused ((mayTakeOut_eq_false_iff _).mpr (.inr (.inr (.inl closed))))
      obtain ⟨records, ready, closed⟩ := u.enter_spec k .out (u.stepRec k).lockoutCause none
      have entered : t.stepRec k = enteredRecord (u.stepRec k) .out (u.stepRec k).lockoutCause none := by
        rw [records, if_pos rfl, recordAfter_of_ne notClosed]
      have ended : t.selectedBy k = none :=
        (u.enter_selectionsSound k .out _ none selections).selectedBy_none (by rw [State.enter_state]; decide)
      refine ⟨?_, fun p => ?_, ?_, fun j ne => ?_, ?_, ?_, ?_, fun free => ?_, ?_⟩
      · rw [State.respond_portState, if_pos rfl]
        rfl
      · rw [State.respond_changeFlag]
        exact u.enter_flags k _ _ _ p
      · rw [State.respond_stepRec, entered]
        simp [enteredRecord]
      · rw [State.respond_stepRec, records, if_neg ne]
      · rw [State.respond_ss, ready]
        simp
      · rw [State.respond_ss, closed, filter_order_of_state_ne orders.2.2.2 notClosed]
        simp
      · rw [State.selectedBy_congr (State.respond_au _ _ _ _), ended]
      · have rest : u.AtRest k := ⟨pending, coils.pulse_step_ne pending, free⟩
        exact State.onlyIn_trans (rest.enter_frame notClosed _ _ _).1
          (State.onlyIn_mono (State.respond_onlyIn _ _ _ _) (by decide))
      · exact State.onlyIn_trans ((State.Quiet.of_none pending).enter_onlyIn notClosed _ _ _)
          (State.onlyIn_mono (State.respond_onlyIn _ _ _ _) (by decide))
    · refine ⟨_, next u (.plain .pending) ?_, ?_⟩
      · rw [judgeTakeOut, if_neg refused, if_pos (Option.isSome_iff_ne_none.mpr pending)]
        rfl
      · rw [if_neg (mt (mayTakeOut_eq_false_iff _).mpr refused), if_pos pending]
        exact u.answered_refused h _

end Sys2Proof.Machine
end

section
/-!
SUPPORT and PROOF. The yard's inputs through everything that follows from one of them: the contacts, the positions, the
key and the external trip; raw changes (R4) and accepted contacts (R5).
-/
namespace Sys2Proof.Machine

/-! ## What leaves the inputs -/

/-- The debouncers and the positions are the same. -/
structure State.SameInputs (s t : State) : Prop where
  /-- the positions -/
  position : ∀ k, (t.stepRec k).position = (s.stepRec k).position
  /-- the closed contacts -/
  closed : ∀ k, (t.stepRec k).closedContact = (s.stepRec k).closedContact
  /-- the open contacts -/
  opened : ∀ k, (t.stepRec k).openContact = (s.stepRec k).openContact
  /-- the key -/
  key : t.ss.keyIn = s.ss.keyIn
  /-- the external trip -/
  trip : t.ss.tripIn = s.ss.tripIn

theorem State.SameInputs.of_table {s t : State} (h : s.SameTable t) : s.SameInputs t :=
  ⟨fun k => by rw [h.stepRec], fun k => by rw [h.stepRec], fun k => by rw [h.stepRec], h.key, h.trip⟩

theorem State.SameInputs.of_ss {s t : State} (ss : t.ss = s.ss) : s.SameInputs t := .of_table (.of_ss ss)

theorem State.SameInputs.refl (s : State) : s.SameInputs s := .of_ss rfl

theorem State.SameInputs.trans {s t u : State} (h : s.SameInputs t) (g : t.SameInputs u) : s.SameInputs u :=
  ⟨fun k => (g.position k).trans (h.position k), fun k => (g.closed k).trans (h.closed k),
    fun k => (g.opened k).trans (h.opened k), g.key.trans h.key, g.trip.trans h.trip⟩

theorem State.SameInputs.ite {s t u : State} (c : Prop) [Decidable c] (h : s.SameInputs t) (g : s.SameInputs u) :
    s.SameInputs (if c then t else u) := by
  split
  · exact h
  · exact g

theorem State.SameInputs.foldl {α : Type} (f : State → α → State) (h : ∀ (s : State) a, s.SameInputs (f s a)) (l : List α)
    (s : State) : s.SameInputs (l.foldl f s) := by
  induction l generalizing s with
  | nil => exact .refl s
  | cons a l ih => exact (h s a).trans (ih (f s a))

/-- Every debouncer reads the same. -/
theorem State.SameInputs.debouncer {s t : State} (h : s.SameInputs t) (i : DiscreteInput) :
    t.debouncer i = s.debouncer i := by
  rcases i with ⟨k, _ | _⟩ | _ | _
  · exact h.closed k
  · exact h.opened k
  · exact h.key
  · exact h.trip

/-- A record that is written with its contacts and position as they were. -/
theorem State.modStep_sameInputs (s : State) (k : StepId) {f : StepRecord → StepRecord}
    (same : ∀ r, (f r).position = r.position ∧ (f r).closedContact = r.closedContact ∧ (f r).openContact = r.openContact) :
    s.SameInputs (s.modStep k f) := by
  refine ⟨fun j => ?_, fun j => ?_, fun j => ?_, rfl, rfl⟩ <;> by_cases h : j = k
  · subst h
    simpa using (same _).1
  · simp [h]
  · subst h
    simpa using (same _).2.1
  · simp [h]
  · subst h
    simpa using (same _).2.2
  · simp [h]

/-- A change of state (R3) leaves the inputs. -/
theorem State.enter_sameInputs (s : State) (k : StepId) (n : StepState) (l : Option LockoutCause)
    (f : Option FailureCause) : s.SameInputs (s.enter k n l f) := by
  have kept := s.enter_retains k n l f
  have own : ∀ r : StepRecord, (recordAfter r n l f).position = r.position
      ∧ (recordAfter r n l f).closedContact = r.closedContact ∧ (recordAfter r n l f).openContact = r.openContact := by
    intro r
    unfold recordAfter
    split <;> exact ⟨rfl, rfl, rfl⟩
  have records := (s.enter_spec k n l f).1
  refine ⟨fun j => ?_, fun j => ?_, fun j => ?_, kept.key, kept.trip⟩ <;> rw [records j] <;> split
  · rename_i same
    exact same ▸ (own _).1
  · rfl
  · rename_i same
    exact same ▸ (own _).2.1
  · rfl
  · rename_i same
    exact same ▸ (own _).2.2
  · rfl

theorem State.dispatchEntry_sameInputs (s : State) (e : Entry) : s.SameInputs (s.dispatchEntry e) := by
  have entered := (s.takeEntry e).enter_sameInputs e.step (movingState e.kind) none none
  have asked := State.askPulse_table (((s.takeEntry e).enter e.step (movingState e.kind) none none).startFlight) e.step e.kind
  have taken : s.SameInputs (s.takeEntry e) := .of_ss rfl
  have started : ((s.takeEntry e).enter e.step (movingState e.kind) none none).SameInputs
      (((s.takeEntry e).enter e.step (movingState e.kind) none none).startFlight) := .of_ss rfl
  exact ((taken.trans entered).trans (started.trans (.of_table asked))).trans (.of_ss rfl)

theorem State.examine_sameInputs (s : State) : s.SameInputs s.examine := by
  rcases s.examine_cases with same | ⟨e, -, -, dispatch⟩
  · rw [same]
    exact .refl s
  · rw [dispatch]
    exact s.dispatchEntry_sameInputs e

theorem State.examineIfLeft_sameInputs (s b : State) : s.SameInputs (s.examineIfLeft b) :=
  .ite _ (.refl s) s.examine_sameInputs

theorem State.postTrip_sameInputs (s : State) (p : Posting) : s.SameInputs (s.postTrip p).1 := by
  unfold State.postTrip
  split
  · exact .of_ss rfl
  · exact s.enter_sameInputs _ _ _ _
  · exact s.enter_sameInputs _ _ _ _
  · exact .refl s
  · exact .of_table (by
      split
      · exact .refl s
      · exact s.assertBkt_table _ _ _)
  · exact .refl s

/-- A posting (R50 to R58) leaves the inputs. -/
theorem State.post_sameInputs (s : State) (p : Posting) : s.SameInputs (s.post p).1 := by
  have marked : s.SameInputs (s.setMark p) := .of_ss rfl
  unfold State.post
  split
  · exact .refl s
  · split
    · split
      · unfold State.postClose
        dsimp only
        split_ifs <;> exact .of_ss rfl
      · unfold State.postOpen
        split <;> exact .of_ss rfl
      · exact s.postTrip_sameInputs p
    · split
      · unfold State.postOnWaitingClose
        have dropped := State.SameInputs.of_table (s.dropEntry_table p.step)
        split
        · exact dropped.trans (.of_ss (State.entryResult_ss _ _ _))
        · exact (dropped.trans (State.enter_sameInputs _ _ _ _ _)).trans (.of_ss (State.entryResult_ss _ _ _))
        · exact .refl s
      · unfold State.postOnWaitingOpen
        split
        · exact .of_ss (State.entryResult_ss _ _ _)
        · exact .refl s
        · exact .refl s
      · unfold State.postOnWaitingTrip
        split <;> exact .refl s
      · unfold State.postOnFlightClose
        split
        · exact .refl s
        · split
          · exact marked
          · exact .refl s
        · split
          · exact marked
          · split
            · exact .refl s
            · exact marked.trans (.of_ss (State.markResult_ss _ _ _ _))
      · unfold State.postOnFlightOpen
        split
        · exact .refl s
        · exact .refl s
        · split
          · exact marked
          · exact .refl s

theorem State.admitOne_sameInputs (s : State) (p : Posting) : s.SameInputs (s.admitOne p).1 :=
  (s.post_sameInputs p).trans (State.examine_sameInputs _)

/-! ## Completion -/

theorem State.endArmed_ss (s : State) : s.endArmed.ss = s.ss := by
  unfold State.endArmed
  split <;> rfl

theorem State.markResultOpt_ss (s : State) (k : StepId) (m : Option Mark) (r : OutcomeResult) :
    (s.markResultOpt k m r).ss = s.ss := by
  cases m with
  | none => rfl
  | some m => exact s.markResult_ss k m r

theorem State.convert_table (s : State) (k : StepId) (m : Mark) : s.SameTable (s.convert k m) :=
  State.SameTable.trans (by exact .of_ss rfl) (State.coilsOff_table _ k)

theorem State.manualHoldAfter_sameInputs (s : State) (e : Entry) : s.SameInputs (s.manualHoldAfter e) := by
  unfold State.manualHoldAfter
  split
  · exact s.modStep_sameInputs _ fun _ => ⟨rfl, rfl, rfl⟩
  · exact s.modStep_sameInputs _ fun _ => ⟨rfl, rfl, rfl⟩
  · exact .refl s

theorem State.harmonicHoldAfter_sameInputs (s : State) (e : Entry) : s.SameInputs (s.harmonicHoldAfter e) :=
  .ite _ (s.modStep_sameInputs _ fun _ => ⟨rfl, rfl, rfl⟩) (.refl s)

theorem State.loadDischarge_sameInputs (s : State) (k : StepId) : s.SameInputs (s.loadDischarge k) :=
  s.modStep_sameInputs k fun _ => ⟨rfl, rfl, rfl⟩

/-- The end of a completion (R80, R87). -/
theorem State.settleArm_sameInputs (s : State) (k : StepId) (o : OpKind) (n : StepState) (c : Bool) :
    s.SameInputs (s.settleStart.arm k o n c) := .of_ss (State.settleStart_ss s)

/-- A completed CLOSE with its step CLOSED, the close counted and the result given (R65). -/
def State.closeTold (s : State) (e : Entry) : State :=
  (((s.endArmed.stopOperate).enter e.step .closed none none).countClose e.step).entryResult e .done

/-- The entry of a completed CLOSE leaves, or becomes the entry of its mark (R65, R66). -/
def State.closeConverted (s : State) (e : Entry) : State :=
  match e.mark with
  | none => (s.closeTold e).dropEntry e.step
  | some m => (s.closeTold e).convert e.step m

theorem State.completeClose_eq (s : State) (e : Entry) :
    s.completeClose e =
      ((((s.closeConverted e).settleStart).arm e.step e.kind .closed e.mark.isSome).manualHoldAfter e).examine := rfl

theorem State.closeTold_sameInputs (s : State) (e : Entry) : s.SameInputs (s.closeTold e) := by
  have stopped : s.SameInputs s.endArmed.stopOperate := .of_ss s.endArmed_ss
  have counted := (s.endArmed.stopOperate.enter e.step .closed none none).modStep_sameInputs e.step
    (f := fun r =>
      { r with
        closeCount := min 999999 (r.closeCount + 1)
        closeHistory :=
          (if r.closeHistory.length < 8 then r.closeHistory else r.closeHistory.drop 1)
            ++ [(s.endArmed.stopOperate.enter e.step .closed none none).clock.uptime] }) fun _ => ⟨rfl, rfl, rfl⟩
  exact ((stopped.trans (State.enter_sameInputs _ e.step .closed none none)).trans counted).trans
    (.of_ss (State.entryResult_ss _ e .done))

theorem State.closeConverted_sameInputs (s : State) (e : Entry) : s.SameInputs (s.closeConverted e) := by
  have told := s.closeTold_sameInputs e
  unfold State.closeConverted
  split
  · exact told.trans (.of_table (State.dropEntry_table _ _))
  · exact told.trans (.of_table (State.convert_table _ _ _))

theorem State.completeClose_sameInputs (s : State) (e : Entry) : s.SameInputs (s.completeClose e) := by
  rw [State.completeClose_eq]
  exact (((s.closeConverted_sameInputs e).trans (State.settleArm_sameInputs _ _ _ _ _)).trans
    (State.manualHoldAfter_sameInputs _ e)).trans (State.examine_sameInputs _)

/-- A completed OPEN or TRIP with its entry gone, its step open and the results given (R67). -/
def State.openTold (s : State) (e : Entry) : State :=
  (((((s.endArmed.stopOperate).dropEntry e.step).loadDischarge e.step).enter e.step (openEndState e) (openEndCause e)
    none).entryResult e .done).markResultOpt e.step (tripMark e) .done

theorem State.completeOpen_eq (s : State) (e : Entry) :
    s.completeOpen e =
      (((((s.openTold e).settleStart).arm e.step e.kind (openEndState e) false).harmonicHoldAfter e).manualHoldAfter
        e).examine := rfl

theorem State.openTold_sameInputs (s : State) (e : Entry) : s.SameInputs (s.openTold e) := by
  have stopped : s.SameInputs s.endArmed.stopOperate := .of_ss s.endArmed_ss
  have loaded := (stopped.trans (.of_table (State.dropEntry_table _ e.step))).trans
    (State.loadDischarge_sameInputs _ e.step)
  have told := (loaded.trans (State.enter_sameInputs _ e.step (openEndState e) (openEndCause e) none)).trans
    (.of_ss (State.entryResult_ss _ e .done))
  exact told.trans (.of_ss (State.markResultOpt_ss _ e.step (tripMark e) .done))

theorem State.completeOpen_sameInputs (s : State) (e : Entry) : s.SameInputs (s.completeOpen e) := by
  rw [State.completeOpen_eq]
  exact ((((s.openTold_sameInputs e).trans (State.settleArm_sameInputs _ _ _ _ _)).trans
    (State.harmonicHoldAfter_sameInputs _ e)).trans (State.manualHoldAfter_sameInputs _ e)).trans
    (State.examine_sameInputs _)

/-! ## Moves outside an operation -/

theorem State.latchCharged_sameInputs (s : State) (k : StepId) : s.SameInputs (s.latchCharged k) :=
  .ite _ (.refl s) ⟨fun _ => rfl, fun _ => rfl, fun _ => rfl, rfl, rfl⟩

theorem State.latchOpen_sameInputs (s : State) (k : StepId) : s.SameInputs (s.latchOpen k) :=
  .ite _ (.refl s) ⟨fun _ => rfl, fun _ => rfl, fun _ => rfl, rfl, rfl⟩

theorem State.lockoutClosing_sameInputs (s : State) (k : StepId) : s.SameInputs (s.lockoutClosing k) := by
  have closed := s.enter_sameInputs k .closed none none
  unfold State.lockoutClosing
  dsimp only
  split
  · exact .ite _ (closed.trans (State.latchCharged_sameInputs _ k)) closed
  · refine State.SameInputs.trans ?_ (State.admitOne_sameInputs _ _)
    exact .ite _ (closed.trans (State.latchCharged_sameInputs _ k)) closed

theorem State.unexpectedOpening_sameInputs (s : State) (k : StepId) : s.SameInputs (s.unexpectedOpening k) := by
  have entered : ∀ n l, s.SameInputs ((s.loadDischarge k).enter k n l none) := fun n l =>
    (s.loadDischarge_sameInputs k).trans (State.enter_sameInputs _ k n l none)
  unfold State.unexpectedOpening
  dsimp only
  split <;> exact ((entered _ _).trans (State.latchOpen_sameInputs _ k)).trans (State.examineIfLeft_sameInputs _ s)

theorem State.unexpectedClosing_sameInputs (s : State) (k : StepId) : s.SameInputs (s.unexpectedClosing k) := by
  have closed := s.enter_sameInputs k .closed none none
  exact State.SameInputs.trans (.ite _ (closed.trans (State.latchCharged_sameInputs _ k)) closed)
    (State.examineIfLeft_sameInputs _ s)

theorem State.outMoved_sameInputs (s : State) (k : StepId) (p : Position) : s.SameInputs (s.outMoved k p) := by
  unfold State.outMoved
  split
  · exact s.modStep_sameInputs k fun _ => ⟨rfl, rfl, rfl⟩
  · exact .ite _ ((s.loadDischarge_sameInputs k).trans (State.modStep_sameInputs _ k fun _ => ⟨rfl, rfl, rfl⟩)) (.refl s)
  · exact .refl s

theorem State.completeIfTarget_sameInputs (s : State) (k : StepId) : s.SameInputs (s.completeIfTarget k) := by
  unfold State.completeIfTarget
  split
  · exact .refl s
  · exact .ite _ (.ite _ (s.completeClose_sameInputs _) (s.completeOpen_sameInputs _)) (.refl s)

/-- What follows from a position (1.5) leaves the inputs. -/
theorem State.positionRules_sameInputs (s : State) (k : StepId) (p : Position) : s.SameInputs (s.positionRules k p) := by
  unfold State.positionRules
  split
  · exact s.unexpectedOpening_sameInputs k
  · exact s.unexpectedClosing_sameInputs k
  · exact s.unexpectedClosing_sameInputs k
  · exact s.lockoutClosing_sameInputs k
  · exact s.outMoved_sameInputs k _
  · exact s.completeIfTarget_sameInputs k
  · exact s.completeIfTarget_sameInputs k
  · exact .refl s

/-! ## The key and the external trip -/

theorem State.setSupervision_ss (s : State) (v : Supervision) (n : Option Nat) : (s.setSupervision v n).ss = s.ss := by
  simp [State.setSupervision]

theorem State.removeCloses_table (s : State) (p : Port) : s.SameTable (s.removeCloses p) := s.removeEach_table _ _

theorem State.dropHolder_table (s : State) : s.SameTable s.dropHolder := by
  unfold State.dropHolder
  split
  · exact .refl s
  · exact State.SameTable.trans (.of_ss (State.endSelection_ss _ _ _)) (State.removeCloses_table _ _)

/-- A key value (R160) leaves the inputs. -/
theorem State.takeKey_sameInputs (s : State) (v : KeyPos) : s.SameInputs (s.takeKey v) := by
  unfold State.takeKey
  split
  · cases v <;> exact .of_ss rfl
  · have supervised : ∀ t : State, t.SameInputs (t.superviseKey v) := fun t => by
      cases v <;> exact .of_ss (State.setSupervision_ss _ _ _)
    have keyed : s.dropHolder.SameInputs (s.dropHolder.setKey v) := .of_ss rfl
    exact (((State.SameInputs.of_table s.dropHolder_table).trans keyed).trans (supervised _)).trans
      (State.examineIfLeft_sameInputs _ s)

theorem State.enterTripRecord_sameInputs (s : State) (c : LockoutCause) (k : Option StepId) (u : Option Nat)
    (re im : Option Int) : s.SameInputs (s.enterTripRecord c k u re im) := by
  unfold State.enterTripRecord
  split
  · exact State.SameInputs.trans (by exact .of_ss rfl) (State.examine_sameInputs _)
  · exact .of_ss rfl

theorem State.externalParts_sameInputs (s : State) : s.SameInputs s.externalParts := by
  have posts : s.SameInputs s.externalPosts :=
    .foldl _ (fun t k => .ite _ (t.admitOne_sameInputs _) (.refl t)) _ s
  have locks : s.externalPosts.SameInputs s.externalPosts.lockOutOpen :=
    .foldl _ (fun t k => .ite _ (t.enter_sameInputs k _ _ _) (.refl t)) _ _
  exact (posts.trans locks).trans (State.examineIfLeft_sameInputs _ _)

/-- An edge of the external trip (R149) leaves the inputs. -/
theorem State.externalEdge_sameInputs (s : State) : s.SameInputs s.externalEdge :=
  (State.SameInputs.trans (by exact .of_ss rfl) (State.enterTripRecord_sameInputs _ _ _ _ _ _)).trans
    (State.externalParts_sameInputs _)

end Sys2Proof.Machine
end

section
/-!
SUPPORT and PROOF. Raw changes (R4) and accepted contacts (R5, R13).
-/
namespace Sys2Proof.Machine

/-! ## The clock and the settings through a move of a switch -/

theorem State.latchOpen_keeps (s : State) (k : StepId) : s.Keeps (s.latchOpen k) :=
  .ite _ (.refl s) ⟨rfl, rfl, rfl, rfl, rfl⟩

theorem State.latchCharged_keeps (s : State) (k : StepId) : s.Keeps (s.latchCharged k) :=
  .ite _ (.refl s) ⟨rfl, rfl, rfl, rfl, rfl⟩

theorem State.unexpectedOpening_keeps (s : State) (k : StepId) : s.Keeps (s.unexpectedOpening k) := by
  have entered : ∀ n l, s.Keeps ((s.loadDischarge k).enter k n l none) := fun n l =>
    (s.loadDischarge_keeps k).trans (State.enter_keeps _ k n l none)
  unfold State.unexpectedOpening
  dsimp only
  split <;> exact ((entered _ _).trans (State.latchOpen_keeps _ k)).trans (State.examineIfLeft_keeps _ s)

theorem State.unexpectedClosing_keeps (s : State) (k : StepId) : s.Keeps (s.unexpectedClosing k) := by
  have closed := s.enter_keeps k .closed none none
  exact State.Keeps.trans (.ite _ (closed.trans (State.latchCharged_keeps _ k)) closed) (State.examineIfLeft_keeps _ s)

theorem State.lockoutClosing_keeps (s : State) (k : StepId) : s.Keeps (s.lockoutClosing k) := by
  have closed := s.enter_keeps k .closed none none
  unfold State.lockoutClosing
  dsimp only
  split
  · exact .ite _ (closed.trans (State.latchCharged_keeps _ k)) closed
  · refine State.Keeps.trans ?_ (State.admitOne_keeps _ _)
    exact .ite _ (closed.trans (State.latchCharged_keeps _ k)) closed

theorem State.outMoved_keeps (s : State) (k : StepId) (p : Position) : s.Keeps (s.outMoved k p) := by
  unfold State.outMoved
  split
  · exact s.modStep_keeps k _
  · exact .ite _ ((s.loadDischarge_keeps k).trans (State.modStep_keeps _ k _)) (.refl s)
  · exact .refl s

theorem State.completeIfTarget_keeps (s : State) (k : StepId) : s.Keeps (s.completeIfTarget k) := by
  unfold State.completeIfTarget
  split
  · exact .refl s
  · exact .ite _ (.ite _ (s.completeClose_keeps _) (s.completeOpen_keeps _)) (.refl s)

/-- What follows from a position (1.5) keeps the clock, the measurement, the settings and the queue of commands. -/
theorem State.positionRules_keeps (s : State) (k : StepId) (p : Position) : s.Keeps (s.positionRules k p) := by
  unfold State.positionRules
  split
  · exact s.unexpectedOpening_keeps k
  · exact s.unexpectedClosing_keeps k
  · exact s.unexpectedClosing_keeps k
  · exact s.lockoutClosing_keeps k
  · exact s.outMoved_keeps k _
  · exact s.completeIfTarget_keeps k
  · exact s.completeIfTarget_keeps k
  · exact .refl s

theorem State.derivePosition_keeps (s : State) (k : StepId) : s.Keeps (s.derivePosition k) := by
  unfold State.derivePosition
  split
  · exact .refl s
  · exact .ite _ (.refl s) ((s.modStep_keeps k _).trans (State.positionRules_keeps _ k _))

/-- What keeps the clock, the measurement and the settings writes the other blocks alone. -/
theorem State.Keeps.onlyIn {s t : State} (h : s.Keeps t) :
    s.onlyIn t [.ss, .oq, .cu, .avc, .hmu, .upu, .au, .pi, .os] := by
  intro b hb
  cases b
  case clock => exact h.clock
  case me => exact h.me
  case set => exact h.set
  all_goals exact absurd hb (by decide)

/-! ## Accepted contacts (R5) -/

/-- The derivation of a position leaves every debouncer. -/
theorem State.derivePosition_debouncer (s : State) (k : StepId) (i : DiscreteInput) :
    (s.derivePosition k).debouncer i = s.debouncer i := by
  unfold State.derivePosition
  split
  · rfl
  · rename_i p _
    split
    · rfl
    · rw [(State.positionRules_sameInputs _ k p).debouncer]
      rcases i with ⟨j, _ | _⟩ | _ | _
      · by_cases h : j = k
        · subst h
          simp [State.debouncer, State.recordPosition]
        · simp [State.debouncer, State.recordPosition, h]
      · by_cases h : j = k
        · subst h
          simp [State.debouncer, State.recordPosition]
        · simp [State.debouncer, State.recordPosition, h]
      · rfl
      · rfl

/-- What a contact's acceptance does when it is due (R4, R5). -/
theorem exec_contactDebounceAccept {k : StepId} {c : Contact} {s : State} (free : s.clock.held = none)
    (due : (s.debouncer (.contact k c)).accepted ≠ some (s.debouncer (.contact k c)).raw) :
    exec (.contactDebounceAccept k c) s = .next ((s.acceptPair k c).derivePosition k) := by
  refine congrArg Host.Outcome.next ?_
  rw [State.unlessHeld_free _ _ free, State.acceptContact, if_pos (by simpa [Debouncer.toAccept] using due)]

/-- The step's contacts after one is accepted hold the values of R5, whether its pair is accepted with it or not. -/
theorem State.acceptPair_contact {s : State} {k : StepId} {c : Contact} (x : Contact) :
    (s.acceptPair k c).debouncer (.contact k x) =
      { s.debouncer (.contact k x) with accepted := valueAfter s k c x } := by
  have instants : ∀ d, s.acceptInstant d = acceptedAt s d := fun _ => rfl
  rw [State.acceptPair_debouncer]
  by_cases own : x = c
  · subst own
    simp [valueAfter]
  · have other : x = otherContact c := by cases x <;> cases c <;> first | rfl | exact absurd rfl own
    subst other
    by_cases same : acceptedAt s (s.debouncer (.contact k (otherContact c))) = acceptedAt s (s.debouncer (.contact k c))
    · by_cases differs : (s.debouncer (.contact k (otherContact c))).toAccept = true
      · simp [valueAfter, State.acceptedTogether, instants, same, differs]
      · have accepted : (s.debouncer (.contact k (otherContact c))).accepted
            = some (s.debouncer (.contact k (otherContact c))).raw := by
          simpa [Debouncer.toAccept] using differs
        simp [valueAfter, State.acceptedTogether, instants, same, differs, own]
        rw [← accepted]
    · simp [valueAfter, State.acceptedTogether, instants, same, own]

/-- The accepted contacts of a step give its position (R5). -/
theorem positionOf_eq (a b : Option Bool) : positionOf a b = pairPosition a b := by
  rcases a with _ | _ | _ <;> rcases b with _ | _ | _ <;> rfl

theorem State.acceptPair_positionOf (s : State) (k : StepId) (c : Contact) :
    positionOf ((s.acceptPair k c).stepRec k).closedContact.accepted ((s.acceptPair k c).stepRec k).openContact.accepted
      = positionAfter s k c := by
  have closed : ((s.acceptPair k c).stepRec k).closedContact.accepted = valueAfter s k c .closedContact :=
    congrArg Debouncer.accepted (State.acceptPair_contact .closedContact)
  have opened : ((s.acceptPair k c).stepRec k).openContact.accepted = valueAfter s k c .openContact :=
    congrArg Debouncer.accepted (State.acceptPair_contact .openContact)
  rw [closed, opened, positionOf_eq, positionAfter]

/-- Two records that differ in their contacts at most. -/
def sameButContacts (r q : StepRecord) : Prop :=
  { q with closedContact := r.closedContact, openContact := r.openContact } = r

/-- A replaced debouncer leaves all of the Step Supervisor but that debouncer (R4). -/
theorem State.setDebouncer_rest (s : State) (i : DiscreteInput) (d : Debouncer) :
    s.onlyIn (s.setDebouncer i d) [.ss] ∧ (∀ j, sameButContacts (s.stepRec j) ((s.setDebouncer i d).stepRec j))
      ∧ (s.setDebouncer i d).ss.readyOrder = s.ss.readyOrder ∧ (s.setDebouncer i d).ss.closedOrder = s.ss.closedOrder
      ∧ (s.setDebouncer i d).ss.pulse = s.ss.pulse
      ∧ (s.setDebouncer i d).ss.closedWhileCharged = s.ss.closedWhileCharged
      ∧ (s.setDebouncer i d).ss.unexpectedOpen = s.ss.unexpectedOpen := by
  rcases i with ⟨k, _ | _⟩ | _ | _
  · refine ⟨s.modStep_onlyIn k _, fun j => ?_, rfl, rfl, rfl, rfl, rfl⟩
    by_cases h : j = k
    · subst h
      simp [State.setDebouncer, sameButContacts]
    · simp [State.setDebouncer, sameButContacts, h]
  · refine ⟨s.modStep_onlyIn k _, fun j => ?_, rfl, rfl, rfl, rfl, rfl⟩
    by_cases h : j = k
    · subst h
      simp [State.setDebouncer, sameButContacts]
    · simp [State.setDebouncer, sameButContacts, h]
  · exact ⟨fun b hb => by cases b <;> simp_all [State.sameBlock, State.setDebouncer], fun _ => rfl, rfl, rfl, rfl, rfl, rfl⟩
  · exact ⟨fun b hb => by cases b <;> simp_all [State.sameBlock, State.setDebouncer], fun _ => rfl, rfl, rfl, rfl, rfl, rfl⟩

/-- A state that a contact's acceptance has made of another one (R4, R5): time has passed, and the contacts of the
step may have changed. -/
structure State.AcceptedFrom (s t : State) (k : StepId) : Prop where
  /-- the blocks that differ -/
  only : s.onlyIn t [.clock, .ss]
  /-- the other steps -/
  others : ∀ j, j ≠ k → t.stepRec j = s.stepRec j
  /-- the step, but for its contacts -/
  own : sameButContacts (s.stepRec k) (t.stepRec k)
  /-- the rest of the Step Supervisor -/
  rest : { t.ss with steps := s.ss.steps } = s.ss

theorem State.AcceptedFrom.trans {s t u : State} {k : StepId} (h : s.AcceptedFrom t k) (g : t.AcceptedFrom u k) :
    s.AcceptedFrom u k := by
  refine ⟨State.onlyIn_trans h.only g.only, fun j ne => (g.others j ne).trans (h.others j ne), ?_, ?_⟩
  · have again := congrArg (fun r : StepRecord =>
      { r with closedContact := (s.stepRec k).closedContact, openContact := (s.stepRec k).openContact }) g.own
    exact Eq.trans again h.own
  · exact (congrArg (fun x : SsState => { x with steps := s.ss.steps }) g.rest).trans h.rest

theorem State.takeRaw_acceptedFrom (s : State) (k : StepId) (c : Contact) : s.AcceptedFrom (s.takeRaw (.contact k c)) k := by
  have rest : ∀ f, { (s.modStep k f).ss with steps := s.ss.steps } = s.ss := fun _ => rfl
  cases c
  · exact ⟨State.onlyIn_mono (s.modStep_onlyIn k _) (by decide), fun j ne => by simp [State.takeRaw, State.setDebouncer, ne],
      by simp [State.takeRaw, State.setDebouncer, sameButContacts], rest _⟩
  · exact ⟨State.onlyIn_mono (s.modStep_onlyIn k _) (by decide), fun j ne => by simp [State.takeRaw, State.setDebouncer, ne],
      by simp [State.takeRaw, State.setDebouncer, sameButContacts], rest _⟩

/-- A contact's acceptance, alone or with its pair (R4, R5). -/
theorem State.acceptPair_acceptedFrom (s : State) (k : StepId) (c : Contact) : s.AcceptedFrom (s.acceptPair k c) k := by
  have passed : ∀ t, s.AcceptedFrom (s.until t) k := fun t =>
    ⟨fun b hb => by cases b <;> simp_all [State.sameBlock], fun _ _ => rfl, rfl, rfl⟩
  have one := (passed (s.windowEnd (s.debouncer (.contact k c)))).trans (State.takeRaw_acceptedFrom _ k c)
  unfold State.acceptPair
  split
  · exact one.trans (State.takeRaw_acceptedFrom _ k _)
  · exact one

/-- No step's state, timer or discharge time differs, nor do the orders (R5). -/
theorem State.AcceptedFrom.stepRec_eq {s t : State} {k : StepId} (h : s.AcceptedFrom t k) (j : StepId) :
    (t.stepRec j).state = (s.stepRec j).state ∧ (t.stepRec j).position = (s.stepRec j).position
      ∧ (t.stepRec j).faultTimer = (s.stepRec j).faultTimer ∧ (t.stepRec j).discharge = (s.stepRec j).discharge := by
  by_cases same : j = k
  · subst same
    obtain own : _ = s.stepRec j := h.own
    rw [← own]
    exact ⟨rfl, rfl, rfl, rfl⟩
  · rw [h.others j same]
    exact ⟨rfl, rfl, rfl, rfl⟩

/-- A position that stays, or that is not given, has no consequence (R5). -/
theorem State.derivePosition_stays {s : State} {k : StepId} {o : Option Position}
    (derived : positionOf (s.stepRec k).closedContact.accepted (s.stepRec k).openContact.accepted = o)
    (stays : o = none ∨ o = (s.stepRec k).position) : s.derivePosition k = s := by
  cases o with
  | none => rw [State.derivePosition, derived]
  | some p =>
    rw [State.derivePosition, derived]
    exact if_pos (stays.resolve_left (Option.some_ne_none p)).symm

/-- Another position is recorded and acted on (R5, R8). -/
theorem State.derivePosition_moves {s : State} {k : StepId} {p : Position}
    (derived : positionOf (s.stepRec k).closedContact.accepted (s.stepRec k).openContact.accepted = some p)
    (moves : (s.stepRec k).position ≠ some p) : s.derivePosition k = (s.recordPosition k p).positionRules k p := by
  rw [State.derivePosition, derived]
  exact if_neg moves

/-- A change into TRAVEL or INVALID is not acted on in CLOSED, READY and DISCHARGING (R13). -/
theorem State.positionRules_between {s : State} {k : StepId} {p : Position} (between : p = .travel ∨ p = .invalid)
    (still : (s.stepRec k).state = some .closed ∨ (s.stepRec k).state = some .ready
      ∨ (s.stepRec k).state = some .discharging) : s.positionRules k p = s := by
  rcases between with rfl | rfl <;> rcases still with st | st | st <;> unfold State.positionRules <;> rw [st]

/-- The contact-fault timer that starts at a change into TRAVEL or INVALID (R13). -/
theorem State.faultTimerAt_between {s : State} {k : StepId} {p : Position} (between : p = .travel ∨ p = .invalid)
    (still : (s.stepRec k).state = some .closed ∨ (s.stepRec k).state = some .ready
      ∨ (s.stepRec k).state = some .discharging) : s.faultTimerAt k p = some (s.timer (s.y .top)) := by
  rcases between with rfl | rfl <;> rcases still with st | st | st <;> unfold State.faultTimerAt <;> rw [st]

/-- A recorded position writes its step's record, the position and the timer in it (R8, R13). -/
theorem State.recordPosition_stepRec (s : State) (k : StepId) (p : Position) (j : StepId) :
    (s.recordPosition k p).stepRec j =
      if j = k then { s.stepRec k with position := some p, faultTimer := s.faultTimerAt k p } else s.stepRec j := by
  by_cases same : j = k
  · subst same
    simp [State.recordPosition]
  · simp [State.recordPosition, same]

/-- Settles O35: the acceptance gives the contacts their values; the position that these give is recorded when it
differs, and what follows from it leaves the inputs. -/
theorem acceptedContactGivesThePosition : Obligations.AcceptedContactGivesThePosition := by
  intro k c s d free hd due
  subst hd
  have from_ := s.acceptPair_acceptedFrom k c
  have derived := s.acceptPair_positionOf k c
  have keeps := (s.acceptPair k c).derivePosition_keeps k
  refine ⟨_, exec_contactDebounceAccept free due, ?_, fun x => ?_, fun i other => ?_, ?_, fun p hp => ?_⟩
  · rw [State.derivePosition_debouncer, State.acceptPair_contact]
    simp [valueAfter]
  · rw [State.derivePosition_debouncer, State.acceptPair_contact]
  · rw [State.derivePosition_debouncer, State.acceptPair_debouncer, if_neg]
    rintro (own | ⟨pair, -⟩)
    · exact other c own
    · exact other _ pair
  · rw [keeps.clock, State.acceptPair_clock]
    rfl
  · subst hp
    have position := (from_.stepRec_eq k).2.1
    have ready := congrArg SsState.readyOrder from_.rest
    have closed := congrArg SsState.closedOrder from_.rest
    by_cases stays : positionAfter s k c = none ∨ positionAfter s k c = (s.stepRec k).position
    · rw [State.derivePosition_stays derived (position.symm ▸ stays)]
      refine ⟨?_, fun _ => ⟨fun j => ?_, ready, closed, from_.only⟩, fun differs between => ?_⟩
      · rw [position]
        rcases stays with none | same
        · rw [if_pos none]
        · rw [same, ite_self]
      · obtain ⟨state, -, timer, discharge⟩ := from_.stepRec_eq j
        exact ⟨state, timer, discharge⟩
      · rcases stays with none | same
        · rcases between with h | h <;> rw [none] at h <;> cases h
        · exact absurd same differs
    · obtain ⟨p, hp⟩ := Option.ne_none_iff_exists'.mp (not_or.mp stays).1
      rw [hp] at derived stays ⊢
      rw [State.derivePosition_moves derived (fun same => stays (.inr (position.symm.trans same).symm))]
      have inputs := ((s.acceptPair k c).recordPosition k p).positionRules_sameInputs k p
      refine ⟨?_, fun same => absurd same stays, fun _ between resting => ?_⟩
      · rw [inputs.position, State.recordPosition_stepRec, if_pos rfl]
        rfl
      · have between' : p = .travel ∨ p = .invalid := by simpa using between
        have state := (from_.stepRec_eq k).1
        have resting' := resting
        rw [← state] at resting'
        have recorded : (((s.acceptPair k c).recordPosition k p).stepRec k).state
            = ((s.acceptPair k c).stepRec k).state := by rw [State.recordPosition_stepRec, if_pos rfl]
        rw [State.positionRules_between between' (by rw [recorded]; exact resting')]
        refine ⟨?_, recorded.trans state, State.onlyIn_trans from_.only
          (State.onlyIn_mono (State.modStep_onlyIn _ k _) (by decide))⟩
        rw [State.recordPosition_stepRec, if_pos rfl]
        refine (State.faultTimerAt_between between' resting').trans ?_
        rw [State.timer, State.y, from_.only .set (by decide)]
        rfl

/-! ## Raw changes (R4) -/

/-- An input whose raw value is the accepted one has nothing to accept (R4). -/
theorem State.acceptInput_idle {s : State} {i : DiscreteInput}
    (same : (s.debouncer i).accepted = some (s.debouncer i).raw) : s.acceptInput i = s := by
  have idle : ∀ d : Debouncer, d.accepted = some d.raw → d.toAccept = false := fun d h => by
    simp [Debouncer.toAccept, h]
  rcases i with ⟨k, c⟩ | _ | _
  · show s.acceptContact k c = s
    rw [State.acceptContact, idle _ same, if_neg (by decide)]
  · have key := idle s.ss.keyIn same
    show s.acceptKey = s
    rw [State.acceptKey, key, if_neg (by decide)]
  · have trip := idle s.ss.tripIn same
    show s.acceptAssertion.acceptDeassertion = s
    rw [State.acceptAssertion, trip, if_neg (by simp), State.acceptDeassertion, trip, if_neg (by simp)]

/-- What the acceptance of an input that is due leaves in its debouncer, and the clock it leaves (R4). -/
theorem State.accept_spec (s : State) (i : DiscreteInput) :
    (s.accept i).debouncer i = { s.debouncer i with accepted := some (s.debouncer i).raw }
      ∧ (s.accept i).clock = (s.until (s.windowEnd (s.debouncer i))).clock := by
  refine ⟨?_, s.accept_clock i⟩
  rw [State.accept_debouncer, if_pos rfl]

theorem State.firstKey_keeps (s : State) (v : KeyPos) : s.Keeps (s.firstKey v) := by
  cases v <;> exact ⟨rfl, rfl, rfl, rfl, rfl⟩

theorem State.dropHolder_keeps (s : State) : s.Keeps s.dropHolder := by
  unfold State.dropHolder
  split
  · exact .refl s
  · exact (s.endSelection_keeps _ _).trans (State.removeEach_keeps _ _ _)

/-- A key value (R160) keeps the clock, the measurement, the settings and the queue of commands. -/
theorem State.takeKey_keeps (s : State) (v : KeyPos) : s.Keeps (s.takeKey v) := by
  unfold State.takeKey
  split
  · exact s.firstKey_keeps v
  · have supervised : ∀ t : State, t.Keeps (t.superviseKey v) := fun t => by
      cases v <;> exact t.setSupervision_keeps _ _
    have keyed : s.dropHolder.Keeps (s.dropHolder.setKey v) := ⟨rfl, rfl, rfl, rfl, rfl⟩
    exact ((s.dropHolder_keeps.trans keyed).trans (supervised _)).trans (State.examineIfLeft_keeps _ s)

/-- An edge of the external trip (R149) keeps them. -/
theorem State.externalEdge_keeps (s : State) : s.Keeps s.externalEdge := by
  have noted : s.Keeps s.noteEdge := ⟨rfl, rfl, rfl, rfl, rfl⟩
  exact (noted.trans (State.enterTripRecord_keeps _ _ _ _ _ _)).trans (State.externalParts_keeps _)

theorem State.acceptDeassertion_of_asserted {s : State} (asserted : (s.debouncer .externalTrip).raw = true) :
    s.acceptDeassertion = s := by
  refine if_neg fun both => ?_
  have level : s.ss.tripIn.raw = true := asserted
  simp [level] at both


/-- The command that accepts an input takes its raw level, and what follows leaves the debouncer and the clock of the
acceptance (R4). -/
theorem acceptInput_due {s : State} {i : DiscreteInput} (free : s.clock.held = none)
    (due : (s.debouncer i).accepted ≠ some (s.debouncer i).raw) :
    exec (acceptanceOf i (s.debouncer i).raw) s = .next (s.acceptInput i)
      ∧ (s.acceptInput i).debouncer i = { s.debouncer i with accepted := some (s.debouncer i).raw }
      ∧ (s.acceptInput i).clock = (s.until (s.windowEnd (s.debouncer i))).clock := by
  have accepts : (s.debouncer i).toAccept = true := by simpa [Debouncer.toAccept] using due
  obtain ⟨taken, passed⟩ := s.accept_spec i
  rcases i with ⟨k, c⟩ | _ | _
  · have accepted : s.acceptInput (.contact k c) = (s.acceptPair k c).derivePosition k :=
      if_pos (c := (s.debouncer (.contact k c)).toAccept = true) accepts
    rw [accepted]
    refine ⟨exec_contactDebounceAccept free due, ?_, ?_⟩
    · rw [State.derivePosition_debouncer, State.acceptPair_contact]
      simp [valueAfter]
    · rw [((s.acceptPair k c).derivePosition_keeps k).clock, State.acceptPair_clock]
  · have accepted : s.acceptInput .key = (s.accept .key).takeKey (keyOf s.ss.keyIn.raw) :=
      if_pos (c := s.ss.keyIn.toAccept = true) accepts
    refine ⟨congrArg Host.Outcome.next (s.unlessHeld_free _ free), ?_, ?_⟩
    · rw [accepted, (State.takeKey_sameInputs _ _).debouncer, taken]
    · rw [accepted, (State.takeKey_keeps _ _).clock, passed]
  · cases raw : s.ss.tripIn.raw with
    | true =>
      have asserted : s.acceptAssertion = (s.accept .externalTrip).externalEdge :=
        if_pos (c := s.ss.tripIn.toAccept = true ∧ s.ss.tripIn.raw = true) ⟨accepts, raw⟩
      have trip := (State.externalEdge_sameInputs (s.accept .externalTrip)).debouncer .externalTrip
      have stays : s.acceptInput .externalTrip = (s.accept .externalTrip).externalEdge := by
        show s.acceptAssertion.acceptDeassertion = _
        rw [asserted]
        refine State.acceptDeassertion_of_asserted ?_
        rw [trip, taken]
        exact raw
      have level : (s.debouncer .externalTrip).raw = true := raw
      rw [stays, level]
      refine ⟨(congrArg Host.Outcome.next (s.unlessHeld_free _ free)).trans (congrArg _ asserted), ?_, ?_⟩
      · rw [trip, taken, level]
      · rw [(State.externalEdge_keeps _).clock, passed]
    | false =>
      have asserted : s.acceptAssertion = s :=
        if_neg (c := s.ss.tripIn.toAccept = true ∧ s.ss.tripIn.raw = true) (by simp [raw])
      have deasserted : s.acceptDeassertion = s.accept .externalTrip :=
        if_pos (c := s.ss.tripIn.toAccept = true ∧ s.ss.tripIn.raw = false) ⟨accepts, raw⟩
      have stays : s.acceptInput .externalTrip = s.accept .externalTrip := by
        show s.acceptAssertion.acceptDeassertion = _
        rw [asserted, deasserted]
      have level : (s.debouncer .externalTrip).raw = false := raw
      rw [stays]
      refine ⟨?_, taken, passed⟩
      rw [level]
      exact (congrArg Host.Outcome.next (s.unlessHeld_free _ free)).trans (congrArg _ deasserted)

theorem State.pass_debouncer (s : State) (dt : Nat) (i : DiscreteInput) : (s.pass dt).debouncer i = s.debouncer i := by
  rcases i with ⟨k, _ | _⟩ | _ | _ <;> rfl

/-- A changed raw level starts its input's window again, and writes nothing else (R4). -/
theorem State.changeRaw_spec (s : State) (i : DiscreteInput) (level : Bool) :
    (s.changeRaw i level).debouncer i = { s.debouncer i with raw := level, since := s.clock.now }
      ∧ (∀ j, j ≠ i → (s.changeRaw i level).debouncer j = s.debouncer j)
      ∧ (∀ k, sameButContacts (s.stepRec k) ((s.changeRaw i level).stepRec k))
      ∧ (s.changeRaw i level).clock = s.clock ∧ s.onlyIn (s.changeRaw i level) [.ss] := by
  refine ⟨?_, fun j ne => ?_, (s.setDebouncer_rest i _).2.1, (s.setDebouncer_keeps i _).clock,
    (s.setDebouncer_rest i _).1⟩
  · rw [State.changeRaw, State.setDebouncer_debouncer, if_pos rfl]
  · rw [State.changeRaw, State.setDebouncer_debouncer, if_neg ne]

/-- What a raw change runs out of reset (R4). -/
theorem exec_rawInputChange {i : DiscreteInput} {level : Bool} {dt : Nat} {s : State} (free : s.clock.held = none)
    (changed : (s.debouncer i).raw ≠ level) :
    exec (.rawInputChange i level dt) s = .next (((s.pass dt).acceptHeld i).changeRaw i level) := by
  refine congrArg Host.Outcome.next ?_
  rw [if_neg (by simp [free]), if_neg changed]

/-- Settles O34: before the window's end, or with nothing to accept, the change writes the debouncer alone; a level that
was due is accepted first, and what follows from that leaves the debouncer. -/
theorem rawChangeRestartsTheWindow : Obligations.RawChangeRestartsTheWindow := by
  intro i level dt s
  have debouncer := s.pass_debouncer dt i
  have window : (s.pass dt).windowEnd ((s.pass dt).debouncer i) = (s.debouncer i).since + s.y .debounce * 1000 := by
    rw [debouncer]
    rfl
  refine ⟨fun free changed early => ?_, fun free changed passed due => ?_, fun free same => ?_, fun held => ?_⟩
  · have waits : (s.pass dt).acceptHeld i = s.pass dt := by
      rw [State.acceptHeld, window]
      rcases early with before | accepted
      · exact if_neg (Nat.not_le.mpr before)
      · rw [State.acceptInput_idle (by rw [debouncer]; exact accepted), ite_self]
    obtain ⟨own, others, steps, clock, only⟩ := (s.pass dt).changeRaw_spec i level
    have next := exec_rawInputChange (dt := dt) free changed
    rw [waits] at next
    refine ⟨_, next, ?_, fun j ne => ?_, fun k => ?_, clock, ?_⟩
    · rw [own, debouncer]
      rfl
    · rw [others j ne, State.pass_debouncer]
    · have own : _ = s.stepRec k := steps k
      rw [← own]
      exact ⟨rfl, rfl⟩
    · exact State.onlyIn_trans (t := s.pass dt) (fun b hb => by cases b <;> simp_all [State.sameBlock])
        (State.onlyIn_mono only (by decide))
  · have held : (s.pass dt).acceptHeld i = (s.pass dt).acceptInput i := by
      rw [State.acceptHeld, window]
      exact if_pos passed
    have free' : (s.pass dt).clock.held = none := free
    obtain ⟨run, taken, clock⟩ := acceptInput_due (i := i) free' (by rw [debouncer]; exact due)
    have now : ((s.pass dt).acceptInput i).clock.now = s.clock.now + dt := by
      rw [clock, window]
      exact max_eq_left passed
    obtain ⟨own, -⟩ := ((s.pass dt).acceptInput i).changeRaw_spec i level
    have next := exec_rawInputChange (dt := dt) free changed
    rw [held] at next
    refine ⟨_, next, ?_, (s.pass dt).acceptInput i, ?_, ?_⟩
    · rw [own, taken, debouncer, now]
    · rw [debouncer] at run
      exact run
    · rw [own]
      rfl
  · refine congrArg Host.Outcome.next ?_
    rw [if_neg (by simp [free]), if_pos same]
    rfl
  · have followed : exec (.rawInputChange i level dt) s = .next (s.changeRaw i level) := by
      refine congrArg Host.Outcome.next ?_
      rw [if_pos (Option.isSome_iff_ne_none.mpr held)]
    obtain ⟨own, -, -, -, only⟩ := s.changeRaw_spec i level
    exact ⟨_, followed, by rw [own], by rw [own], only⟩

end Sys2Proof.Machine
end

section
/-!
SUPPORT and PROOF. What a position change does outside an operation (R9 to R13, R20).
-/
namespace Sys2Proof.Machine

/-! ## The state in which a new position is acted on -/

/-- What a command leaves of a sound yard is sound. -/
theorem exec_yardSound {c : Instr} {s t : State} (run : exec c s = .next t) (y : s.YardSound) : t.YardSound := by
  obtain ⟨orders, queue, coils, selections⟩ := y
  obtain ⟨a, runA, kept⟩ := exec_keepsSound c s
  obtain ⟨b, runB, yard⟩ := exec_keepsYard c s
  obtain rfl := Host.Outcome.next.inj (run.symm.trans runA)
  obtain rfl := Host.Outcome.next.inj (run.symm.trans runB)
  have after := yard False ⟨queue, coils, False.elim⟩
  exact ⟨kept.orders orders, after.queue, after.coils, kept.selections selections⟩

/-- A step's contact has been accepted and the position that it gives recorded (R5, R8); nothing has followed from it. -/
def State.reached (s : State) (k : StepId) (c : Contact) (p : Position) : State :=
  (s.acceptPair k c).recordPosition k p

/-- What the record of a position that is reached leaves of a state. -/
structure State.ReachedFrom (s v : State) (k : StepId) (p : Position) : Prop where
  /-- the blocks that differ -/
  only : s.onlyIn v [.clock, .ss]
  /-- the other steps -/
  others : ∀ j, j ≠ k → v.stepRec j = s.stepRec j
  /-- the step, but for its contacts and its contact-fault timer -/
  own : v.stepRec k =
    { s.stepRec k with
      position := some p
      faultTimer := (v.stepRec k).faultTimer
      closedContact := (v.stepRec k).closedContact
      openContact := (v.stepRec k).openContact }
  /-- the rest of the Step Supervisor -/
  rest : { v.ss with steps := s.ss.steps } = s.ss
  /-- the uptime -/
  uptime : v.clock.uptime = s.clock.uptime

theorem State.reached_reachedFrom (s : State) (k : StepId) (c : Contact) (p : Position) :
    s.ReachedFrom (s.reached k c p) k p := by
  have from_ := s.acceptPair_acceptedFrom k c
  have recorded := (s.acceptPair k c).recordPosition_stepRec k p
  refine ⟨State.onlyIn_trans from_.only (State.onlyIn_mono (State.modStep_onlyIn _ k _) (by decide)), fun j ne => ?_, ?_,
    from_.rest, ?_⟩
  · exact (recorded j).trans ((if_neg ne).trans (from_.others j ne))
  · obtain own : _ = s.stepRec k := from_.own
    rw [State.reached, recorded k, if_pos rfl, ← own]
  · have uptime := congrArg Clock.uptime (s.acceptPair_clock k c)
    exact uptime

/-- A contact whose acceptance brings a step to a position has what the position calls for follow (R5). -/
theorem exec_reaches {s : State} {k : StepId} {c : Contact} {p : Position} (r : reaches s k c p) :
    exec (.contactDebounceAccept k c) s = .next ((s.reached k c p).positionRules k p) := by
  obtain ⟨free, due, moves, after⟩ := r
  have position := ((s.acceptPair_acceptedFrom k c).stepRec_eq k).2.1
  rw [exec_contactDebounceAccept free due, State.derivePosition_moves ((s.acceptPair_positionOf k c).trans after)
    (fun same => moves (position.symm.trans same))]
  rfl

/-- The contact-fault timer does not run at OPEN and CLOSED, nor in a state that has none (R13). -/
theorem State.reached_faultTimer {s : State} {k : StepId} {c : Contact} {p : Position}
    (stops : (p = .atOpen ∨ p = .atClosed)
      ∨ (s.stepRec k).state = some .out ∨ (s.stepRec k).state = some .failed) :
    ((s.reached k c p).stepRec k).faultTimer = none := by
  have state := ((s.acceptPair_acceptedFrom k c).stepRec_eq k).1
  rw [State.reached, State.recordPosition_stepRec, if_pos rfl]
  show (s.acceptPair k c).faultTimerAt k p = none
  unfold State.faultTimerAt
  rw [state]
  rcases stops with (rfl | rfl) | st | st
  · rfl
  · rfl
  · rw [st]
    cases p <;> rfl
  · rw [st]
    cases p <;> rfl

/-- The queue stays sound when a position is recorded (R13, R48). -/
theorem State.reached_queueSound {s : State} (k : StepId) (c : Contact) (p : Position) (y : s.YardSound) :
    (s.reached k c p).QueueSound := by
  obtain ⟨-, queue, coils, -⟩ := y
  have pair : s.SameYard (s.acceptPair k c) :=
    .ite _ ((s.accept_sameYard _).trans (State.setDebouncer_sameYard _ _ _)) (s.accept_sameYard _)
  exact (State.recordPosition_keepsYard _ k p False (pair.yard ⟨queue, coils, False.elim⟩)).queue

namespace State.ReachedFrom

variable {s v : State} {k : StepId} {p : Position} (r : s.ReachedFrom v k p)
include r

theorem state : (v.stepRec k).state = (s.stepRec k).state := by rw [r.own]

theorem oq : v.oq = s.oq := r.only .oq (by decide)

theorem entryOf (j : StepId) : v.entryOf j = s.entryOf j := State.entryOf_congr r.oq j

theorem inFlight : v.inFlight = s.inFlight := State.inFlight_congr (congrArg OqState.entries r.oq)

theorem setting (x : YardSetting) : v.y x = s.y x := by
  rw [State.y, r.only .set (by decide)]
  rfl

end State.ReachedFrom

/-! ## An entry that leaves with its step's change of state (R72) -/

/-- A WAITING entry that does not fit its step's state leaves the list; without one the list stays (R72). -/
theorem State.fitEntry_leaves {s : State} {k : StepId} (misfit : ∀ e, s.entryOf k = some e →
      e.status = .waiting ∧ (s.stepRec k).state ≠ some e.stepState) :
    (s.fitEntry k).oq = { s.oq with entries := s.oq.entries.filter (fun e => e.step ≠ k) } := by
  cases found : s.entryOf k with
  | none =>
    have absent : s.oq.entries.filter (fun e => e.step ≠ k) = s.oq.entries :=
      List.filter_eq_self.mpr fun e he => by simpa using State.entryOf_none_iff.mp found e he
    rw [s.fitEntry_none k found, absent]
  | some e =>
    obtain ⟨waits, differs⟩ := misfit e found
    have dropped : ∀ r, ((s.dropEntry k).entryResult e r).oq = (s.dropEntry k).oq := fun r => State.entryResult_oq _ e r
    rw [← State.dropEntry_oq]
    unfold State.fitEntry
    rw [found]
    cases kind : e.kind <;> simp only [Entry.stepState, waits, kind] at differs ⊢ <;> rw [if_neg (by simp), if_neg differs]
    · exact dropped _
    · exact dropped _
    · split
      · rw [State.assertBkt_oq, dropped]
      · exact dropped _

/-- A change of state removes the step's WAITING entry when it does not fit the new state (R3, R72). -/
theorem State.enter_leaves {s : State} {k : StepId} {n : StepState} (misfit : ∀ e, s.entryOf k = some e →
      e.status = .waiting ∧ e.stepState ≠ n) (l : Option LockoutCause) (f : Option FailureCause) :
    (s.enter k n l f).oq = { s.oq with entries := s.oq.entries.filter (fun e => e.step ≠ k) } := by
  have state : ((s.entered k n l f).stepRec k).state = some n := (s.entered_spec k n l f).2
  have left : ((s.entered k n l f).fitEntry k).oq = _ := State.fitEntry_leaves (k := k) fun e found => by
    obtain ⟨waits, differs⟩ := misfit e ((State.entryOf_congr (s.entered_oq k n l f) k).symm.trans found)
    exact ⟨waits, fun same => differs (Option.some.inj (same.symm.trans state))⟩
  rw [s.entered_oq] at left
  show ((((s.entered k n l f).fitEntry k).leaveReady k |>.voidOther k).leaveClosed k (s.stepRec k).state).oq = _
  rw [State.leaveClosed_oq, State.voidOther_oq, State.leaveReady_oq, left]

/-- A dispatch leaves the steps that are not dispatched, and no entry leaves the list or joins it (R62). -/
theorem State.dispatchEntry_ne (s : State) (e : Entry) :
    (∀ j, j ≠ e.step → (s.dispatchEntry e).stepRec j = s.stepRec j)
      ∧ (s.dispatchEntry e).oq.entries =
          s.oq.entries.map (fun x => if x.step = e.step then { x with status := .inFlight } else x) := by
  let u := (s.takeEntry e).enter e.step (movingState e.kind) none none
  obtain ⟨oq, -⟩ := (s.takeEntry_quiet e).enter_rest (movingState e.kind) none none
  have table : u.startFlight.SameTable (u.startFlight.askPulse e.step e.kind) := State.askPulse_table _ _ _
  refine ⟨fun j ne => ?_, ?_⟩
  · have asked : (s.dispatchEntry e).stepRec j = u.stepRec j := table.stepRec j
    rw [asked, State.enter_stepRec_ne _ j _ _ _ _ ne]
    rfl
  · show (u.startFlight.askPulse e.step e.kind).oq.entries = _
    rw [State.askPulse_oq]
    show u.oq.entries = _
    rw [oq]
    rfl

/-- An examination leaves a step that has no entry (R60). -/
theorem State.examine_of_entryOf_none {s : State} {k : StepId} (free : s.entryOf k = none) :
    s.examine.stepRec k = s.stepRec k ∧ s.examine.entryOf k = none := by
  rcases s.examine_cases with same | ⟨e, -, chosen, dispatch⟩
  · rw [same]
    exact ⟨rfl, free⟩
  · rw [State.entryOf_none_iff] at free
    obtain ⟨others, entries⟩ := s.dispatchEntry_ne e
    rw [dispatch]
    refine ⟨others k (free e (s.chooseEntry_waits e chosen).1).symm, State.entryOf_none_iff.mpr fun x mem => ?_⟩
    rw [entries] at mem
    obtain ⟨y, old, rfl⟩ := List.mem_map.mp mem
    split
    · exact free y old
    · exact free y old

/-- The examination that follows the removal of a step's WAITING entry leaves that step; it does nothing when no
entry has left or an operation is in flight (R60). -/
theorem State.examineIfLeft_after {w x : State} {k : StepId}
    (gone : x.oq = { w.oq with entries := w.oq.entries.filter (fun e => e.step ≠ k) })
    (waits : ∀ e ∈ w.oq.entries, e.step = k → e.status = .waiting) :
    (x.examineIfLeft w).stepRec k = x.stepRec k ∧ (x.examineIfLeft w).entryOf k = none
      ∧ (w.entryOf k = none ∨ w.inFlight ≠ none → x.examineIfLeft w = x) := by
  have free : x.entryOf k = none := State.entryOf_none_iff.mpr (by rw [gone]; simp)
  obtain ⟨record, entry⟩ := State.examine_of_entryOf_none free
  refine ⟨?_, ?_, fun still => ?_⟩
  · unfold State.examineIfLeft
    split
    · rfl
    · exact record
  · unfold State.examineIfLeft
    split
    · exact free
    · exact entry
  · unfold State.examineIfLeft
    rcases still with none_ | flying
    · have same : w.oq.entries.filter (fun e => e.step ≠ k) = w.oq.entries :=
        List.filter_eq_self.mpr fun e he => by simpa using State.entryOf_none_iff.mp none_ e he
      rw [if_pos (by rw [gone, same])]
    · rw [State.examine_inFlight _ ?_, ite_self]
      obtain ⟨e, flies⟩ := Option.ne_none_iff_exists'.mp flying
      obtain ⟨mem, status⟩ := State.mem_of_inFlight flies
      intro idle
      have := State.inFlight_none_iff.mp idle e (by
        rw [gone]
        refine List.mem_filter.mpr ⟨mem, ?_⟩
        simp only [ne_eq, decide_not, Bool.not_eq_true', decide_eq_false_iff_not]
        intro own
        rw [waits e mem own] at status
        cases status)
      rw [this] at status
      cases status

/-! ## Unexpected moves (R9 to R12) -/

/-- A latched switch event joins its set and raises no flag that was down, nor lowers one (R20). -/
theorem State.latchOpen_spec (s : State) (k : StepId) :
    k ∈ (s.latchOpen k).ss.unexpectedOpen ∧ (s.latchOpen k).oq = s.oq ∧ (∀ j, (s.latchOpen k).stepRec j = s.stepRec j)
      ∧ ((∀ p, (s.portState p).changeFlag = true) → ∀ p, ((s.latchOpen k).portState p).changeFlag = true) := by
  unfold State.latchOpen
  split
  · rename_i latched
    exact ⟨latched, rfl, fun _ => rfl, id⟩
  · refine ⟨by simp, rfl, fun _ => rfl, fun _ p => ?_⟩
    cases p <;> rfl

theorem State.latchCharged_spec (s : State) (k : StepId) :
    (∀ j, j ∈ (s.latchCharged k).ss.closedWhileCharged ↔ j ∈ s.ss.closedWhileCharged ∨ j = k)
      ∧ (s.latchCharged k).oq = s.oq ∧ (∀ j, (s.latchCharged k).stepRec j = s.stepRec j)
      ∧ (s.latchCharged k).upu = s.upu
      ∧ ((∀ p, (s.portState p).changeFlag = true) → ∀ p, ((s.latchCharged k).portState p).changeFlag = true) := by
  unfold State.latchCharged
  split
  · rename_i latched
    exact ⟨fun j => ⟨.inl, fun h => h.elim id fun same => same ▸ latched⟩, rfl, fun _ => rfl, rfl, id⟩
  · refine ⟨fun j => by simp, rfl, fun _ => rfl, rfl, fun _ p => ?_⟩
    cases p <;> rfl

/-- The state and the lockout cause that a CLOSED step takes when its switch opens, by its entry (R9). -/
def openedInto : Option Entry → StepState × Option LockoutCause
  | some e => if e.kind = .tripOp then (.lockout, some (lockoutCauseOf e.originator)) else (.discharging, none)
  | none => (.discharging, none)

/-- The TRIP that waits for a step is its entry (R48). -/
theorem State.waitingTrip_eq {s : State} {k : StepId} (nodup : (s.oq.entries.map (·.step)).Nodup)
    (waits : ∀ e ∈ s.oq.entries, e.step = k → e.status = .waiting) :
    s.waitingTrip k = (s.entryOf k).filter (fun e => e.kind = .tripOp) := by
  cases found : s.entryOf k with
  | none =>
    refine List.find?_eq_none.mpr fun e mem => ?_
    simp [State.entryOf_none_iff.mp found e mem]
  | some e =>
    obtain ⟨mem, step⟩ := State.mem_of_entryOf found
    have unique : ∀ x ∈ s.oq.entries, x.step = k → x = e := fun x hx same =>
      entry_unique nodup hx mem (same.trans step.symm)
    by_cases trip : e.kind = .tripOp
    · have some_ : (s.waitingTrip k).isSome := List.find?_isSome.mpr ⟨e, mem, by simp [step, waits e mem step, trip]⟩
      obtain ⟨x, hx⟩ := Option.isSome_iff_exists.mp some_
      have own : x.step = k := by
        have := List.find?_some hx
        simp only [decide_eq_true_eq] at this
        exact this.1
      rw [hx, unique x (List.mem_of_find?_eq_some hx) own]
      simp [Option.filter, trip]
    · have none_ : s.waitingTrip k = none := List.find?_eq_none.mpr fun x hx => by
        simp only [decide_eq_true_eq]
        rintro ⟨own, -, isTrip⟩
        exact trip (unique x hx own ▸ isTrip)
      rw [none_]
      simp [Option.filter, trip]

/-- What an unexpected open writes (R9). -/
theorem State.unexpectedOpening_eq {s : State} {k : StepId} (queue : s.QueueSound)
    (closed : (s.stepRec k).state = some .closed) :
    s.unexpectedOpening k =
      (((s.loadDischarge k).enter k (openedInto (s.entryOf k)).1 (openedInto (s.entryOf k)).2 none).latchOpen
        k).examineIfLeft s := by
  have waits := queue.waits (k := k) (by rw [closed]; simp)
  have trip := State.waitingTrip_eq queue.1 fun e mem own => (waits e mem own).1
  unfold State.unexpectedOpening openedInto
  rw [trip]
  cases s.entryOf k with
  | none => rfl
  | some e => by_cases isTrip : e.kind = .tripOp <;> simp [Option.filter, isTrip]

/-- A step that enters READY, DISCHARGING, LOCKOUT or CLOSED from a state at rest keeps its counts (R3). -/
theorem recordAfter_kept (r : StepRecord) (n : StepState) (l : Option LockoutCause) (f : Option FailureCause) :
    (recordAfter r n l f).manualHold = r.manualHold ∧ (recordAfter r n l f).closeCount = r.closeCount
      ∧ (recordAfter r n l f).closeHistory = r.closeHistory ∧ (recordAfter r n l f).harmonicHold = r.harmonicHold
      ∧ (recordAfter r n l f).lockoutCause = l ∧ (recordAfter r n l f).failureCause = f
      ∧ (recordAfter r n l f).learnedRise = r.learnedRise := by
  unfold recordAfter
  split <;> exact ⟨rfl, rfl, rfl, rfl, rfl, rfl, rfl⟩

theorem openedInto_cases (o : Option Entry) :
    (openedInto o).1 = .discharging ∨ (openedInto o).1 = .lockout := by
  unfold openedInto
  split
  · split
    · exact .inr rfl
    · exact .inl rfl
  · exact .inl rfl

theorem State.loadDischarge_stepRec (s : State) (k j : StepId) :
    (s.loadDischarge k).stepRec j = if j = k then { s.stepRec k with discharge := s.y .tdis } else s.stepRec j := by
  by_cases same : j = k
  · subst same
    simp [State.loadDischarge]
  · simp [State.loadDischarge, same]

/-- A CLOSED step whose position becomes OPEN (R9, R20, R72). -/
theorem closedStepOpens {k : StepId} {c : Contact} {s : State} (sound : s.YardSound) (r : reaches s k c .atOpen)
    (closed : (s.stepRec k).state = some .closed) :
    ∃ t, exec (.contactDebounceAccept k c) s = .next t
      ∧ (t.stepRec k).position = some .atOpen ∧ (t.stepRec k).discharge = s.y .tdis
      ∧ (t.stepRec k).manualHold = (s.stepRec k).manualHold
      ∧ (t.stepRec k).faultTimer = none ∧ t.entryOf k = none
      ∧ k ∈ t.ss.unexpectedOpen ∧ k ∉ t.ss.closedOrder
      ∧ (∀ p, (t.portState p).changeFlag = true)
      ∧ (s.entryOf k = none ∨ s.inFlight ≠ none → ∀ j, j ≠ k → t.stepRec j = s.stepRec j)
      ∧ s.onlyIn t [.clock, .ss, .oq, .cu, .avc, .hmu, .upu, .au, .pi, .os]
      ∧ (t.stepRec k).state = some (openedInto (s.entryOf k)).1
      ∧ (t.stepRec k).lockoutCause = (openedInto (s.entryOf k)).2 := by
  have run := exec_reaches r
  have after := exec_yardSound run sound
  have from_ := s.reached_reachedFrom k c .atOpen
  have timer : ((s.reached k c .atOpen).stepRec k).faultTimer = none := State.reached_faultTimer (.inl (.inl rfl))
  have queue := s.reached_queueSound k c .atOpen sound
  generalize s.reached k c .atOpen = v at run after from_ timer queue
  have state := from_.state.trans closed
  have waits := queue.waits (k := k) (by rw [state]; simp)
  have moved : v.positionRules k .atOpen = v.unexpectedOpening k := by
    unfold State.positionRules
    rw [state]
  rw [moved] at run after
  have only := State.onlyIn_trans (State.onlyIn_mono from_.only (by decide))
    (State.onlyIn_mono (v.unexpectedOpening_keeps k).onlyIn (by decide) :
      v.onlyIn (v.unexpectedOpening k) [.clock, .ss, .oq, .cu, .avc, .hmu, .upu, .au, .pi, .os])
  rw [State.unexpectedOpening_eq queue state, from_.entryOf] at run after only
  generalize openedInto (s.entryOf k) = n, openedInto_cases (s.entryOf k) = ends at run after only ⊢
  have notClosed : n.1 ≠ .closed := by rcases ends with h | h <;> rw [h] <;> decide
  have misfit : ∀ e, v.entryOf k = some e → e.status = .waiting ∧ e.stepState ≠ n.1 := fun e found => by
    obtain ⟨mem, step⟩ := State.mem_of_entryOf found
    refine ⟨(waits e mem step).1, fun same => notClosed ?_⟩
    have fits := (queue.2.2.1 e mem).1
    rw [step, state] at fits
    exact same ▸ (Option.some.inj fits).symm
  let u := (v.loadDischarge k).enter k n.1 n.2 none
  have loaded : (v.loadDischarge k).stepRec k = { v.stepRec k with discharge := v.y .tdis } :=
    (v.loadDischarge_stepRec k k).trans (if_pos rfl)
  have left : (u.latchOpen k).oq = _ :=
    (State.latchOpen_spec u k).2.1.trans (State.enter_leaves (s := v.loadDischarge k) misfit n.2 none)
  obtain ⟨latched, -, records, flags⟩ := u.latchOpen_spec k
  obtain ⟨record, noEntry, still⟩ := State.examineIfLeft_after (w := v) left fun e mem own => (waits e mem own).1
  have retained := (u.latchOpen k).examineIfLeft_retains v
  have own : (((u.latchOpen k).examineIfLeft v).stepRec k) = recordAfter ((v.loadDischarge k).stepRec k) n.1 n.2 none := by
    rw [record, records, ((v.loadDischarge k).enter_spec k n.1 n.2 none).1 k, if_pos rfl]
  obtain ⟨state', discharge, timer'⟩ := (v.loadDischarge k).enter_record k n.1 n.2 none
  obtain ⟨manualHold, -, -, -, cause, -⟩ := recordAfter_kept ((v.loadDischarge k).stepRec k) n.1 n.2 none
  refine ⟨_, run, ?_, ?_, ?_, ?_, noEntry, retained.opened ▸ latched, ?_, fun p => retained.flags p ?_, fun none_ j ne => ?_,
    only, ?_, ?_⟩
  · rw [record, records, State.enter_position, loaded, from_.own]
  · rw [record, records, discharge, if_neg notClosed, loaded, from_.setting]
  · rw [own, manualHold, loaded, from_.own]
  · rw [record, records, timer', loaded, timer, ite_self]
  · rw [after.1.2.2.2 k, record, records, state']
    simpa using notClosed
  · exact flags (State.enter_flags _ _ _ _ _) p
  · rw [still (by rw [from_.entryOf, from_.inFlight]; exact none_), records, State.enter_stepRec_ne _ _ _ _ _ _ ne,
      State.loadDischarge_stepRec, if_neg ne, from_.others j ne]
  · rw [record, records, state']
  · rw [own, cause]

/-- What an unexpected close writes before the examination (R10). -/
def State.closedUnexpectedly (s : State) (k : StepId) : State :=
  if (s.stepRec k).state = some .discharging then (s.enter k .closed none none).latchCharged k
  else s.enter k .closed none none

/-- A READY or DISCHARGING step whose position becomes CLOSED (R10, R20, R72). -/
theorem openStepCloses {k : StepId} {c : Contact} {s : State} (sound : s.YardSound) (r : reaches s k c .atClosed)
    (opened : (s.stepRec k).state = some .ready ∨ (s.stepRec k).state = some .discharging) :
    ∃ t, exec (.contactDebounceAccept k c) s = .next t
      ∧ (t.stepRec k).position = some .atClosed ∧ (t.stepRec k).state = some .closed
      ∧ (t.stepRec k).discharge = 0
      ∧ (t.stepRec k).closeCount = (s.stepRec k).closeCount
      ∧ (t.stepRec k).closeHistory = (s.stepRec k).closeHistory
      ∧ k ∈ t.ss.closedOrder ∧ k ∉ t.ss.readyOrder ∧ t.entryOf k = none ∧ t.selectedBy k = none
      ∧ (k ∈ t.ss.closedWhileCharged ↔
          k ∈ s.ss.closedWhileCharged ∨ (s.stepRec k).state = some .discharging)
      ∧ (s.entryOf k = none ∨ s.inFlight ≠ none → ∀ j, j ≠ k → t.stepRec j = s.stepRec j)
      ∧ s.onlyIn t [.clock, .ss, .oq, .cu, .avc, .hmu, .upu, .au, .pi, .os]
      ∧ ∀ p, (t.portState p).changeFlag = true := by
  have run := exec_reaches r
  have after := exec_yardSound run sound
  have from_ := s.reached_reachedFrom k c .atClosed
  have queue := s.reached_queueSound k c .atClosed sound
  generalize s.reached k c .atClosed = v at run after from_ queue
  have state : (v.stepRec k).state = some .ready ∨ (v.stepRec k).state = some .discharging := by
    rw [from_.state]
    exact opened
  have waits := queue.waits (k := k) (by rcases state with h | h <;> rw [h] <;> simp)
  have moved : v.positionRules k .atClosed = (v.closedUnexpectedly k).examineIfLeft v := by
    unfold State.positionRules
    rcases state with h | h <;> rw [h] <;> rfl
  have only := State.onlyIn_trans (State.onlyIn_mono from_.only (by decide))
    (State.onlyIn_mono (v.positionRules_keeps k .atClosed).onlyIn (by decide) :
      v.onlyIn (v.positionRules k .atClosed) [.clock, .ss, .oq, .cu, .avc, .hmu, .upu, .au, .pi, .os])
  rw [moved] at run after only
  have misfit : ∀ e, v.entryOf k = some e → e.status = .waiting ∧ e.stepState ≠ .closed := fun e found => by
    obtain ⟨mem, step⟩ := State.mem_of_entryOf found
    refine ⟨(waits e mem step).1, fun same => ?_⟩
    have fits := (queue.2.2.1 e mem).1
    rw [step, same] at fits
    rw [fits] at state
    simp at state
  let u := v.enter k .closed none none
  have charged := (v.enter_retains k .closed none none).charged
  have entered : (v.closedUnexpectedly k).oq = u.oq ∧ (∀ j, (v.closedUnexpectedly k).stepRec j = u.stepRec j)
      ∧ (∀ p, ((v.closedUnexpectedly k).portState p).changeFlag = true)
      ∧ (k ∈ (v.closedUnexpectedly k).ss.closedWhileCharged ↔
          k ∈ v.ss.closedWhileCharged ∨ (v.stepRec k).state = some .discharging) := by
    obtain ⟨joined, oq, records, -, flags⟩ := u.latchCharged_spec k
    unfold State.closedUnexpectedly
    split
    · rename_i discharging
      refine ⟨oq, records, flags (State.enter_flags _ _ _ _ _), ?_⟩
      rw [joined, charged]
      simp [discharging]
    · rename_i other
      refine ⟨rfl, fun _ => rfl, State.enter_flags _ _ _ _ _, ?_⟩
      rw [charged]
      simp [other]
  obtain ⟨oq, records, flags, latched⟩ := entered
  have left : (v.closedUnexpectedly k).oq = _ := oq.trans (State.enter_leaves misfit none none)
  obtain ⟨record, noEntry, still⟩ := State.examineIfLeft_after left fun e mem own => (waits e mem own).1
  have retained := (v.closedUnexpectedly k).examineIfLeft_retains v
  have own : (((v.closedUnexpectedly k).examineIfLeft v).stepRec k) = recordAfter (v.stepRec k) .closed none none := by
    rw [record, records, (v.enter_spec k .closed none none).1 k, if_pos rfl]
  obtain ⟨state', discharge, -⟩ := v.enter_record k .closed none none
  obtain ⟨-, closeCount, closeHistory, -⟩ := recordAfter_kept (v.stepRec k) .closed none none
  have closed : (((v.closedUnexpectedly k).examineIfLeft v).stepRec k).state = some .closed := by
    rw [record, records, state']
  obtain ⟨⟨-, -, inReady, inClosed⟩, -, -, selections⟩ := after
  refine ⟨_, run, ?_, closed, ?_, ?_, ?_, (inClosed k).mpr closed, ?_, noEntry, selections.selectedBy_none ?_, ?_,
    fun none_ j ne => ?_, only, fun p => retained.flags p (flags p)⟩
  · rw [record, records, State.enter_position, from_.own]
  · rw [record, records, discharge, if_pos rfl]
  · rw [own, closeCount, from_.own]
  · rw [own, closeHistory, from_.own]
  · rw [inReady, closed]
    decide
  · rw [closed]
    decide
  · rw [retained.charged, latched, from_.state]
    have same := congrArg SsState.closedWhileCharged from_.rest
    exact Iff.of_eq (congrArg (fun x => k ∈ x ∨ _) same)
  · rw [still (by rw [from_.entryOf, from_.inFlight]; exact none_), records, State.enter_stepRec_ne _ _ _ _ _ _ ne,
      from_.others j ne]

/-- What an OUT step's record takes at a position (R12). -/
def movedOut (p : Position) (tdis : Nat) (r : StepRecord) : StepRecord :=
  { r with
    closedWhileOut := if p = .atClosed then true else if p = .atOpen then false else r.closedWhileOut
    discharge := if p = .atOpen ∧ r.closedWhileOut = true then tdis else r.discharge }

/-- An OUT step's record is all that its move writes (R12). -/
theorem State.outMoved_spec (s : State) (k : StepId) (p : Position) :
    (s.outMoved k p).stepRec k = movedOut p (s.y .tdis) (s.stepRec k)
      ∧ (∀ j, j ≠ k → (s.outMoved k p).stepRec j = s.stepRec j)
      ∧ { (s.outMoved k p).ss with steps := s.ss.steps } = s.ss ∧ s.onlyIn (s.outMoved k p) [.ss] := by
  have same : s.onlyIn s [.ss] := fun b _ => by cases b <;> rfl
  cases p
  case atClosed =>
    exact ⟨by simp [State.outMoved, movedOut], fun j ne => by simp [State.outMoved, ne], rfl, s.modStep_onlyIn k _⟩
  case atOpen =>
    by_cases closed : (s.stepRec k).closedWhileOut = true
    · have written : s.outMoved k .atOpen = (s.loadDischarge k).modStep k (fun r => { r with closedWhileOut := false }) :=
        if_pos closed
      rw [written]
      refine ⟨?_, fun j ne => ?_, rfl, State.onlyIn_trans (s.modStep_onlyIn k _) (State.modStep_onlyIn _ k _)⟩
      · simp [movedOut, closed, State.loadDischarge_stepRec]
      · simp [ne, State.loadDischarge_stepRec]
    · have stays : s.outMoved k .atOpen = s := if_neg closed
      rw [stays]
      refine ⟨?_, fun _ _ => rfl, rfl, same⟩
      generalize s.stepRec k = r at closed
      obtain ⟨⟩ := r
      simp_all [movedOut]
  case travel => exact ⟨rfl, fun _ _ => rfl, rfl, same⟩
  case invalid => exact ⟨rfl, fun _ _ => rfl, rfl, same⟩

/-- Settles O36: an entry that does not fit leaves before the examination, which then leaves its step; a step in OUT or
FAILED has its record written and nothing else. -/
theorem unexpectedMovesChangeTheState : Obligations.UnexpectedMovesChangeTheState := by
  refine ⟨fun k c s sound r closed => ?_, fun k c s sound r opened => openStepCloses sound r opened,
    fun k c s p r still => ?_⟩
  · obtain ⟨t, run, position, discharge, hold, timer, entry, latched, order, flags, others, only, state, cause⟩ :=
      closedStepOpens sound r closed
    refine ⟨t, run, position, discharge, hold, timer, entry, latched, order, flags, others, only, ?_⟩
    cases found : s.entryOf k with
    | none => rw [state, found]; rfl
    | some e =>
      rw [found] at state cause
      by_cases trip : e.kind = .tripOp
      · simpa [openedInto, trip] using And.intro state cause
      · simpa [openedInto, trip] using state
  · have from_ := s.reached_reachedFrom k c p
    have timer : ((s.reached k c p).stepRec k).faultTimer = none := State.reached_faultTimer (.inr still)
    have run := exec_reaches r
    generalize s.reached k c p = v at run from_ timer
    have own := from_.own
    rw [timer] at own
    rcases still with out | failed
    · have moved : v.positionRules k p = v.outMoved k p := by
        have state := from_.state.trans out
        unfold State.positionRules
        rw [state]
      obtain ⟨record, others, rest, only⟩ := v.outMoved_spec k p
      rw [moved] at run
      refine ⟨_, run, ?_, fun j ne => (others j ne).trans (from_.others j ne), ?_,
        State.onlyIn_trans from_.only (State.onlyIn_mono only (by decide))⟩
      · rw [record, from_.setting, own]
        simp [movedOut, out]
      · have kept := congrArg (fun x : SsState => { x with steps := s.ss.steps }) rest
        exact kept.trans from_.rest
    · have moved : v.positionRules k p = v := by
        have state := from_.state.trans failed
        unfold State.positionRules
        rw [state]
      rw [moved] at run
      refine ⟨v, run, ?_, from_.others, from_.rest, from_.only⟩
      rw [own]
      simp [failed]

end Sys2Proof.Machine
end

section
/-!
SUPPORT and PROOF. A locked-out step whose switch closes (R11).
-/
namespace Sys2Proof.Machine

/-- An examination leaves a step's record, or dispatches the step: its lockout cause is then gone (R62). -/
theorem State.examine_record (s : State) (k : StepId) :
    s.examine.stepRec k = s.stepRec k
      ∨ ∃ o, s.examine.stepRec k = recordAfter (s.stepRec k) (movingState o) none none := by
  rcases s.examine_cases with same | ⟨e, -, -, dispatch⟩
  · exact .inl (by rw [same])
  · rw [dispatch]
    by_cases own : k = e.step
    · let u := (s.takeEntry e).enter e.step (movingState e.kind) none none
      have table : u.startFlight.SameTable (u.startFlight.askPulse e.step e.kind) := State.askPulse_table _ _ _
      have asked : (s.dispatchEntry e).stepRec k = u.stepRec k := table.stepRec k
      refine .inr ⟨e.kind, ?_⟩
      rw [asked, own, ((s.takeEntry e).enter_spec e.step (movingState e.kind) none none).1 e.step, if_pos rfl]
      rfl
    · exact .inl ((s.dispatchEntry_ne e).1 k own)

/-- A step with no discharge time left has none after a change of state (R79). -/
theorem recordAfter_discharge {r : StepRecord} (empty : r.discharge = 0) (n : StepState) (l : Option LockoutCause)
    (f : Option FailureCause) : (recordAfter r n l f).discharge = 0 := by
  unfold recordAfter
  split <;> simp [stagesCleared, enteredRecord, empty]

/-- The step that is dispatched moves (R62). -/
theorem State.dispatchEntry_state (s : State) (e : Entry) :
    ((s.dispatchEntry e).stepRec e.step).state = some (movingState e.kind) := by
  let u := (s.takeEntry e).enter e.step (movingState e.kind) none none
  have table : u.startFlight.SameTable (u.startFlight.askPulse e.step e.kind) := State.askPulse_table _ _ _
  have asked : (s.dispatchEntry e).stepRec e.step = u.stepRec e.step := table.stepRec e.step
  rw [asked, State.enter_state]

/-- A TRIP for a CLOSED step with no pending entry is admitted (R53). -/
theorem State.post_trip_closed {s : State} {p : Posting} (kind : p.kind = .tripOp) (entry : s.entryOf p.step = none)
    (closed : (s.stepRec p.step).state = some .closed) : s.post p = (s.admitNew p, .accepted) := by
  simp [State.post, closed, entry, kind, State.postTrip]

/-- What follows from the close of a locked-out step before its TRIP is posted (R11). -/
def State.closedAgain (s : State) (k : StepId) : State :=
  if (s.stepRec k).discharge ≠ 0 then (s.enter k .closed none none).latchCharged k else s.enter k .closed none none

/-- The TRIP that is posted for a locked-out step whose switch closes (R11). -/
def retrip (k : StepId) (c : LockoutCause) : Posting :=
  { kind := .tripOp, step := k, originator := causeOriginator c, tag := none, fast := false }

theorem State.closedAgain_spec (s : State) (k : StepId) :
    (s.closedAgain k).oq = (s.enter k .closed none none).oq
      ∧ (∀ j, (s.closedAgain k).stepRec j = (s.enter k .closed none none).stepRec j)
      ∧ (s.closedAgain k).upu.tripRecord = s.upu.tripRecord
      ∧ ((s.stepRec k).discharge ≠ 0 → k ∈ (s.closedAgain k).ss.closedWhileCharged)
      ∧ (s.closedAgain k).clock = s.clock := by
  have retained := s.enter_retains k .closed none none
  have kept := s.enter_keeps k .closed none none
  obtain ⟨joined, oq, records, upu, -⟩ := (s.enter k .closed none none).latchCharged_spec k
  unfold State.closedAgain
  split
  · exact ⟨oq, records, by rw [upu, retained.tripRecord], fun _ => (joined k).mpr (.inr rfl),
      ((State.latchCharged_keeps _ k).clock).trans kept.clock⟩
  · rename_i zero
    exact ⟨rfl, fun _ => rfl, retained.tripRecord, fun h => absurd h zero, kept.clock⟩

/-- Settles O37: the step has no entry, so that its TRIP is admitted as a new one, the oldest TRIP when no other
waits. -/
theorem lockedOutStepIsTrippedAgain : Obligations.LockedOutStepIsTrippedAgain := by
  intro k c s x sound r lockout cause
  have run := exec_reaches r
  have from_ := s.reached_reachedFrom k c .atClosed
  have queue := s.reached_queueSound k c .atClosed sound
  generalize s.reached k c .atClosed = v at run from_ queue
  have state := from_.state.trans lockout
  have entry : v.entryOf k = none := queue.entryOf_none state (by simp)
  let u := v.closedAgain k
  obtain ⟨oq, records, trip, charged, clock⟩ := v.closedAgain_spec k
  have queue' : u.oq = s.oq := (oq.trans (State.enter_oq_none _ _ _ _ _ entry)).trans from_.oq
  have closed : (u.stepRec k).state = some .closed := by rw [records, State.enter_state]
  have noEntry : u.entryOf k = none := (State.entryOf_congr (queue'.trans from_.oq.symm) k).trans entry
  have posted : u.post (retrip k x) = (u.admitNew (retrip k x), .accepted) := State.post_trip_closed rfl noEntry closed
  let w := u.admitNew (retrip k x)
  have moved : v.positionRules k .atClosed = w.examine := by
    have rules : v.positionRules k .atClosed = v.lockoutClosing k := by
      unfold State.positionRules
      rw [state]
    have held : (v.stepRec k).lockoutCause = some x := by rw [from_.own]; exact cause
    rw [rules]
    unfold State.lockoutClosing
    rw [held]
    exact congrArg (fun y : State × PostAnswer => y.1.examine) posted
  have only := State.onlyIn_trans (State.onlyIn_mono from_.only (by decide))
    (State.onlyIn_mono (v.positionRules_keeps k .atClosed).onlyIn (by decide) :
      v.onlyIn (v.positionRules k .atClosed) [.clock, .ss, .oq, .cu, .avc, .hmu, .upu, .au, .pi, .os])
  rw [moved] at run only
  have record : w.stepRec k = recordAfter (v.stepRec k) .closed none none :=
    (records k).trans (((v.enter_spec k .closed none none).1 k).trans (if_pos rfl))
  obtain ⟨-, discharge, -⟩ := v.enter_record k .closed none none
  have empty : (w.stepRec k).discharge = 0 := by
    have same : w.stepRec k = (v.enter k .closed none none).stepRec k := records k
    rw [same, discharge, if_pos rfl]
  have retained := w.examine_retains
  refine ⟨_, run, ?_, ?_, ?_, fun left => ?_, fun flying => ?_, fun idle noTrip => ?_, fun flying j ne => ?_, only⟩
  · rcases w.examine_record k with same | ⟨o, dispatched⟩
    · rw [same, record, (recordAfter_kept _ _ _ _).2.2.2.2.1]
    · rw [dispatched, (recordAfter_kept _ _ _ _).2.2.2.2.1]
  · rcases w.examine_record k with same | ⟨o, dispatched⟩
    · rw [same, empty]
    · rw [dispatched]
      exact recordAfter_discharge empty _ _ _
  · rw [retained.tripRecord, State.admitNew_onlyIn u _ .upu (by decide), trip, from_.only .upu (by decide)]
  · rw [retained.charged]
    exact charged (by rw [from_.own]; exact left)
  · have flies : w.inFlight ≠ none := by
      rw [State.admitNew_inFlight, State.inFlight_congr (congrArg OqState.entries queue')]
      exact flying
    rw [w.examine_inFlight flies]
    refine ⟨closed, ?_⟩
    show u.oq.entries ++ [u.newEntry (retrip k x)] = _
    have uptime : u.clock.uptime = s.clock.uptime := (congrArg Clock.uptime clock).trans from_.uptime
    rw [queue', State.newEntry, uptime]
    cases x <;> rfl
  · have chosen : w.chooseEntry = some (u.newEntry (retrip k x)) := by
      refine State.chooseEntry_trip ?_
      rw [State.admitNew_oldestWaiting, State.oldestWaiting_congr queue', noTrip]
      rfl
    have still : w.inFlight = none := by
      rw [State.admitNew_inFlight, State.inFlight_congr (congrArg OqState.entries queue')]
      exact idle
    rw [State.examine_of_choice still chosen]
    exact (w.dispatchEntry_state _).trans rfl
  · have flies : w.inFlight ≠ none := by
      rw [State.admitNew_inFlight, State.inFlight_congr (congrArg OqState.entries queue')]
      exact flying
    rw [w.examine_inFlight flies]
    show u.stepRec j = _
    rw [records, State.enter_stepRec_ne _ _ _ _ _ _ ne, from_.others j ne]

end Sys2Proof.Machine
end

section
/-!
SUPPORT and PROOF. The completion of an OPEN or a TRIP (R67), with what the examination at its end leaves.
-/
namespace Sys2Proof.Machine

/-! ## The Cooldown Unit through a change of state and a dispatch (R80, R88) -/

/-- A measurement as it was armed (R87), whatever has voided it since (R88). -/
def Armed.unvoided (a : Armed) : Armed := { a with voided := none }

/-- The Cooldown Unit is the same, but that the armed measurement may have been voided. -/
structure State.SameCooldown (s t : State) : Prop where
  /-- settle_remaining -/
  settle : t.cu.settle = s.cu.settle
  /-- the armed measurement -/
  armed : t.cu.armed.map Armed.unvoided = s.cu.armed.map Armed.unvoided
  /-- the last rise result -/
  lastRise : t.cu.lastRise = s.cu.lastRise

theorem State.SameCooldown.of_cu {s t : State} (cu : t.cu = s.cu) : s.SameCooldown t := by
  constructor <;> rw [cu]

theorem State.SameCooldown.trans {s t u : State} (h : s.SameCooldown t) (g : t.SameCooldown u) : s.SameCooldown u :=
  ⟨g.settle.trans h.settle, g.armed.trans h.armed, g.lastRise.trans h.lastRise⟩

theorem State.voidOther_cooldown (s : State) (k : StepId) : s.SameCooldown (s.voidOther k) := by
  unfold State.voidOther
  split
  · exact .of_cu rfl
  · rename_i a armed
    split
    · exact .of_cu rfl
    · exact ⟨rfl, by rw [armed]; rfl, rfl⟩

/-- A change of state writes no more of the Cooldown Unit than what voids the armed measurement (R3, R88). -/
theorem State.enter_cooldown (s : State) (k : StepId) (n : StepState) (l : Option LockoutCause) (f : Option FailureCause) :
    s.SameCooldown (s.enter k n l f) := by
  let u := ((s.entered k n l f).fitEntry k).leaveReady k
  have before : u.cu = s.cu := (State.leaveReady_onlyIn _ k .cu (by decide)).trans
    ((State.fitEntry_onlyIn _ k .cu (by decide)).trans (s.entered_onlyIn k n l f .cu (by decide)))
  have after : (s.enter k n l f).cu = (u.voidOther k).cu := State.leaveClosed_onlyIn _ k _ .cu (by decide)
  exact ((State.SameCooldown.of_cu before).trans (u.voidOther_cooldown k)).trans (.of_cu after)

/-- A dispatch writes no more of it either (R62, R88). -/
theorem State.examine_cooldown (s : State) : s.SameCooldown s.examine := by
  rcases s.examine_cases with same | ⟨e, -, -, dispatch⟩
  · rw [same]
    exact .of_cu rfl
  · rw [dispatch]
    let u := (s.takeEntry e).enter e.step (movingState e.kind) none none
    have asked := u.startFlight.askPulse_onlyIn e.step e.kind .cu (by decide)
    have taken : s.SameCooldown (s.takeEntry e) := .of_cu rfl
    exact (taken.trans (State.enter_cooldown _ e.step (movingState e.kind) none none)).trans (.of_cu asked)

/-! ## The end of a completion -/

/-- manual_hold after a completion: a port's OPEN sets it and a port's CLOSE clears it (R168). -/
def heldAfter (e : Entry) (old : Bool) : Bool :=
  if originatorPort e.originator = none ∨ e.kind = .tripOp then old else decide (e.kind = .openOp)

theorem State.manualHoldAfter_spec (s : State) (e : Entry) :
    (s.manualHoldAfter e).stepRec e.step =
        { s.stepRec e.step with manualHold := heldAfter e (s.stepRec e.step).manualHold }
      ∧ (∀ j, j ≠ e.step → (s.manualHoldAfter e).stepRec j = s.stepRec j)
      ∧ s.onlyIn (s.manualHoldAfter e) [.ss] := by
  have same : s.onlyIn s [.ss] := fun b _ => by cases b <;> rfl
  unfold State.manualHoldAfter heldAfter
  split
  · rename_i port kind
    exact ⟨by simp [port, kind], fun j ne => by simp [ne], s.modStep_onlyIn _ _⟩
  · rename_i port kind
    exact ⟨by simp [port, kind], fun j ne => by simp [ne], s.modStep_onlyIn _ _⟩
  · rename_i notOpen notClose
    refine ⟨?_, fun _ _ => rfl, same⟩
    rw [if_pos]
    cases port : originatorPort e.originator with
    | none => exact .inl rfl
    | some p =>
      cases kind : e.kind with
      | closeOp => exact absurd kind (notClose p port)
      | openOp => exact absurd kind (notOpen p port)
      | tripOp => exact .inr rfl

theorem State.harmonicHoldAfter_spec (s : State) (e : Entry) :
    (s.harmonicHoldAfter e).stepRec e.step =
        { s.stepRec e.step with
          harmonicHold := if e.kind = .openOp ∧ e.originator = .harmonic then s.y .thhold
            else (s.stepRec e.step).harmonicHold }
      ∧ (∀ j, j ≠ e.step → (s.harmonicHoldAfter e).stepRec j = s.stepRec j)
      ∧ s.onlyIn (s.harmonicHoldAfter e) [.ss] := by
  unfold State.harmonicHoldAfter
  split
  · exact ⟨by simp, fun j ne => by simp [ne], s.modStep_onlyIn _ _⟩
  · exact ⟨rfl, fun _ _ => rfl, fun b _ => by cases b <;> rfl⟩

/-- A settle start (R80) takes TSETTLE; the capture it may abort is not of the Cooldown Unit. -/
theorem State.settleStart_spec (s : State) :
    s.settleStart.cu = { s.cu with settle := s.y .tsettle } ∧ s.settleStart.upu.capture = none
      ∧ s.settleStart.ss = s.ss ∧ s.settleStart.oq = s.oq ∧ s.settleStart.set = s.set := by
  have started := State.abortCapture_onlyIn { s with cu := { s.cu with settle := s.y .tsettle } }
  refine ⟨started .cu (by decide), ?_, started .ss (by decide), started .oq (by decide), started .set (by decide)⟩
  unfold State.settleStart State.abortCapture
  split
  · assumption
  · exact congrArg UpuState.capture (State.insertOutcome_onlyIn _ _ _ .upu (by decide))

/-- A measurement armed after a settle start (R80, R87). -/
theorem State.settleArm_spec (s : State) (k : StepId) (o : OpKind) (n : StepState) (c : Bool) :
    (s.settleStart.arm k o n c).cu.settle = s.y .tsettle
      ∧ (s.settleStart.arm k o n c).cu.armed =
          some { step := k, kind := o, target := n, vPre := s.oq.vPre, converted := c, voided := none }
      ∧ (s.settleStart.arm k o n c).ss = s.ss ∧ (s.settleStart.arm k o n c).oq = s.oq
      ∧ (s.settleStart.arm k o n c).set = s.set := by
  obtain ⟨cu, -, ss, oq, set⟩ := s.settleStart_spec
  refine ⟨congrArg CuState.settle cu, ?_, ss, oq, set⟩
  show some ({ step := k, kind := o, target := n, vPre := s.settleStart.oq.vPre, converted := c, voided := none } : Armed) = _
  rw [oq]

/-- The end of a measurement that was armed leaves the settings and the queue (R87). -/
theorem State.endArmed_onlyIn (s : State) : s.onlyIn s.endArmed [.cu] := by
  unfold State.endArmed
  split
  · exact s.onlyIn_refl _
  · exact fun b hb => by cases b <;> simp_all [State.sameBlock, State.recordRise]

/-! ## An OPEN or a TRIP completes (R67) -/

/-- A completed OPEN or TRIP before the examination at its end (R67, R68). -/
def State.openEnded (s : State) (e : Entry) : State :=
  ((((s.openTold e).settleStart).arm e.step e.kind (openEndState e) false).harmonicHoldAfter e).manualHoldAfter e

/-- The record of a step whose OPEN or TRIP completes (R67). -/
def openedRecord (e : Entry) (tdis : Nat) (r : StepRecord) : StepRecord :=
  enteredRecord { r with discharge := tdis } (openEndState e) (openEndCause e) none

theorem State.openTold_spec {s : State} {e : Entry} (moving : (s.stepRec e.step).state ≠ some .closed) :
    (s.openTold e).oq = { s.oq with operate := none, entries := s.oq.entries.filter (fun x => x.step ≠ e.step) }
      ∧ (s.openTold e).stepRec e.step = openedRecord e (s.y .tdis) (s.stepRec e.step)
      ∧ (∀ j, j ≠ e.step → (s.openTold e).stepRec j = s.stepRec j) ∧ (s.openTold e).set = s.set := by
  let a := ((s.endArmed.stopOperate).dropEntry e.step).loadDischarge e.step
  have stopped : ∀ j, s.endArmed.stopOperate.stepRec j = s.stepRec j := fun j => by
    rw [State.stepRec, State.stepRec]
    exact congrArg (fun x : SsState => x.steps[j]) s.endArmed_ss
  have dropped : ∀ j, ((s.endArmed.stopOperate).dropEntry e.step).stepRec j = s.stepRec j := fun j =>
    (State.SameTable.stepRec (State.dropEntry_table _ _) j).trans (stopped j)
  have kept : s.Keeps a := ((s.endArmed_keeps.trans (State.stopOperate_keeps _)).trans (State.dropEntry_keeps _ _)).trans
    (State.loadDischarge_keeps _ _)
  have oq : a.oq = { s.oq with operate := none, entries := s.oq.entries.filter (fun x => x.step ≠ e.step) } := by
    show ((s.endArmed.stopOperate).dropEntry e.step).oq = _
    have stoppedOq : s.endArmed.stopOperate.oq = { s.oq with operate := none } :=
      congrArg (fun x : OqState => { x with operate := none }) (s.endArmed_onlyIn .oq (by decide))
    rw [State.dropEntry_oq, stoppedOq]
  have free : a.entryOf e.step = none := State.entryOf_none_iff.mpr (by rw [oq]; simp)
  let u := a.enter e.step (openEndState e) (openEndCause e) none
  have told : (s.openTold e).ss = u.ss := (State.markResultOpt_ss _ e.step (tripMark e) .done).trans (State.entryResult_ss _ e .done)
  have tdis : (s.endArmed.stopOperate.dropEntry e.step).y .tdis = s.y .tdis := by
    rw [State.y, (s.endArmed_keeps.trans (State.stopOperate_keeps _) |>.trans (State.dropEntry_keeps _ e.step)).set, State.y]
  have loaded : a.stepRec e.step = { s.stepRec e.step with discharge := s.y .tdis } := by
    rw [State.loadDischarge_stepRec, if_pos rfl, dropped, tdis]
  have records := (a.enter_spec e.step (openEndState e) (openEndCause e) none).1
  have table : ∀ j, (s.openTold e).stepRec j = u.stepRec j := fun j => congrArg (fun x : SsState => x.steps[j]) told
  refine ⟨?_, ?_, fun j ne => ?_, ?_⟩
  · rw [State.openTold, State.markResultOpt_oq, State.entryResult_oq, State.enter_oq_none _ _ _ _ _ free, oq]
  · have moving' : (a.stepRec e.step).state ≠ some .closed := by rw [loaded]; exact moving
    rw [table, records, if_pos rfl, recordAfter_of_ne moving', loaded]
    rfl
  · rw [table, records, if_neg ne, State.loadDischarge_stepRec, if_neg ne, dropped]
  · exact (((kept.trans (State.enter_keeps _ e.step (openEndState e) (openEndCause e) none)).trans
      (State.entryResult_keeps _ e .done)).trans (State.markResultOpt_keeps _ e.step (tripMark e) .done)).set

/-- What a completed OPEN or TRIP writes before the examination (R67, R68, R80, R85, R87, R168). -/
theorem State.openEnded_spec {s : State} {e : Entry} (moving : (s.stepRec e.step).state ≠ some .closed) :
    (s.openEnded e).oq = { s.oq with operate := none, entries := s.oq.entries.filter (fun x => x.step ≠ e.step) }
      ∧ (s.openEnded e).stepRec e.step =
          { openedRecord e (s.y .tdis) (s.stepRec e.step) with
            harmonicHold := if e.kind = .openOp ∧ e.originator = .harmonic then s.y .thhold
              else (s.stepRec e.step).harmonicHold
            manualHold := heldAfter e (s.stepRec e.step).manualHold }
      ∧ (∀ j, j ≠ e.step → (s.openEnded e).stepRec j = s.stepRec j)
      ∧ (s.openEnded e).cu.settle = s.y .tsettle
      ∧ (s.openEnded e).cu.armed =
          some { step := e.step, kind := e.kind, target := openEndState e, vPre := s.oq.vPre, converted := false
                 voided := none } := by
  obtain ⟨oq, own, others, set⟩ := State.openTold_spec moving
  obtain ⟨settle, armed, ss, oq', set'⟩ := (s.openTold e).settleArm_spec e.step e.kind (openEndState e) false
  let w := ((s.openTold e).settleStart).arm e.step e.kind (openEndState e) false
  obtain ⟨harmonic, harmonicNe, onlyH⟩ := w.harmonicHoldAfter_spec e
  obtain ⟨manual, manualNe, onlyM⟩ := (w.harmonicHoldAfter e).manualHoldAfter_spec e
  have table : ∀ j, w.stepRec j = (s.openTold e).stepRec j := fun j => congrArg (fun x : SsState => x.steps[j]) ss
  have setting : ∀ x, w.y x = s.y x := fun x => by rw [State.y, set', set, State.y]
  have setting' : (s.openTold e).y .tsettle = s.y .tsettle := by rw [State.y, set, State.y]
  have cu : (s.openEnded e).cu = w.cu := (onlyM .cu (by decide)).trans (onlyH .cu (by decide))
  refine ⟨?_, ?_, fun j ne => ?_, ?_, ?_⟩
  · rw [← oq, ← oq']
    exact (onlyM .oq (by decide)).trans (onlyH .oq (by decide))
  · rw [State.openEnded, manual, harmonic, table, own, setting]
    rfl
  · rw [State.openEnded, manualNe j ne, harmonicNe j ne, table, others j ne]
  · rw [cu, settle, setting']
  · rw [cu, armed, oq]

/-- The entry of another step stays when a step's entries leave the list. -/
theorem State.entryOf_of_filter {s t : State} {k : StepId}
    (entries : t.oq.entries = s.oq.entries.filter (fun e => e.step ≠ k)) {j : StepId} (ne : j ≠ k) :
    t.entryOf j = s.entryOf j := by
  rw [State.entryOf, entries, List.find?_filter, State.entryOf]
  congr 1
  funext e
  by_cases own : e.step = j
  · simp [own, ne]
  · simp [own]

theorem openEndState_ne_closed (e : Entry) : openEndState e ≠ .closed := by
  unfold openEndState
  split <;> simp

/-- An operation in flight whose step reaches its target completes (R63). -/
theorem State.positionRules_completes {s : State} {k : StepId} {p : Position} {e : Entry}
    (moving : (s.stepRec k).state = some .closing ∨ (s.stepRec k).state = some .opening) (flies : s.inFlight = some e)
    (own : e.step = k) (there : (s.stepRec k).position = some p) (target : targetOf e.kind = p) :
    s.positionRules k p = if e.kind = .closeOp then s.completeClose e else s.completeOpen e := by
  have rules : s.positionRules k p = s.completeIfTarget k := by
    unfold State.positionRules
    rcases moving with st | st <;> rw [st]
  rw [rules, State.completeIfTarget, flies]
  exact if_pos ⟨own, by rw [there, target]⟩

/-- Settles O39: the entry has left, so that the examination leaves the step; while the yard settles and no TRIP waits
it does nothing. -/
theorem openCompletesAtOpen : Obligations.OpenCompletesAtOpen := by
  intro k c s e sound r flies own kind
  subst own
  have run := exec_reaches r
  have from_ := s.reached_reachedFrom e.step c .atOpen
  have queue := s.reached_queueSound e.step c .atOpen sound
  generalize s.reached e.step c .atOpen = v at run from_ queue
  have flies' : v.inFlight = some e := from_.inFlight.trans flies
  obtain ⟨mem, status⟩ := State.mem_of_inFlight flies'
  have state : (v.stepRec e.step).state = some .opening := by
    rw [(queue.2.2.1 e mem).1, Entry.stepState, status]
    cases h : e.kind
    · exact absurd h kind
    · rfl
    · rfl
  have target : targetOf e.kind = .atOpen := by
    cases h : e.kind
    · exact absurd h kind
    · rfl
    · rfl
  have moved : v.positionRules e.step .atOpen = (v.openEnded e).examine := by
    rw [State.positionRules_completes (.inr state) flies' rfl (by rw [from_.own]) target, if_neg kind]
    rfl
  have only := State.onlyIn_trans (State.onlyIn_mono from_.only (by decide))
    (State.onlyIn_mono (v.positionRules_keeps e.step .atOpen).onlyIn (by decide) :
      v.onlyIn (v.positionRules e.step .atOpen) [.clock, .ss, .oq, .cu, .avc, .hmu, .upu, .au, .pi, .os])
  rw [moved] at run only
  obtain ⟨oq, record, others, settle, armed⟩ := State.openEnded_spec (s := v) (e := e) (by rw [state]; decide)
  have entries := congrArg OqState.entries oq
  have free : (v.openEnded e).entryOf e.step = none := State.entryOf_none_iff.mpr (by rw [entries]; simp)
  obtain ⟨record', entry⟩ := State.examine_of_entryOf_none free
  have cooldown := (v.openEnded e).examine_cooldown
  rw [record] at record'
  have vPre : v.oq.vPre = s.oq.vPre := congrArg OqState.vPre from_.oq
  refine ⟨_, run, entry, ?_, ?_, ?_, fun isOpen noTrip => ?_, fun isTrip => ?_, fun m isOpen marked trip => ?_, ?_, ?_,
    fun noTrip settles j ne => ?_, only, ?_⟩
  · rw [record']
    simp [openedRecord, enteredRecord, openEndState_ne_closed, from_.setting]
  · rw [cooldown.settle, settle, from_.setting]
  · have same := congrArg (Option.map fun a : Armed => (a.step, a.kind, a.vPre, a.converted)) cooldown.armed
    rw [armed, Option.map_map] at same
    exact same.trans (congrArg (fun x => some (e.step, e.kind, x, false)) vPre)
  · have noMark : tripMark e = none := by
      unfold tripMark
      split
      · rename_i m marked
        exact if_neg (noTrip m marked)
      · rfl
    rw [record']
    simp [openedRecord, enteredRecord, openEndState, openEndCause, isOpen, noMark]
  · rw [record']
    simp [openedRecord, enteredRecord, openEndState, openEndCause, isTrip]
  · have isMark : tripMark e = some m := by
      unfold tripMark
      rw [marked]
      exact if_pos trip
    rw [record']
    simp [openedRecord, enteredRecord, openEndState, openEndCause, isOpen, isMark]
  · have kept : (v.stepRec e.step).harmonicHold = (s.stepRec e.step).harmonicHold := by rw [from_.own]
    rw [record']
    simp only [from_.setting, kept]
  · rw [record', from_.own]
    unfold heldAfter
    cases h : e.kind
    · exact absurd h kind
    · by_cases port : originatorPort e.originator = none <;> simp [port]
    · simp
  · have quiet : (v.openEnded e).oldestWaiting .tripOp = none := by
      rw [State.oldestWaiting_none_iff] at noTrip ⊢
      intro x hx
      rw [entries, List.mem_filter, from_.oq] at hx
      exact noTrip x hx.1
    rw [State.examine_settling (by rw [settle, from_.setting]; exact settles) quiet, others j ne, from_.others j ne,
      State.entryOf_of_filter entries ne, from_.entryOf]
    exact ⟨rfl, rfl⟩
  · rw [record', from_.own]
    rfl

end Sys2Proof.Machine
end

section
/-!
SUPPORT and PROOF. The completion of a CLOSE and its conversion (R65, R66); a record that has just been posted is not the
one that a full list loses (R186).
-/
namespace Sys2Proof.Machine

/-! ## A record that stays in its list (R186) -/

/-- A port's list holds a record, with `n` later ones at most. -/
def State.HoldsRecent (s : State) (p : Port) (r : OutcomeRecord) (n : Nat) : Prop :=
  ∃ before slot later, s.outcomes p = before ++ (slot, r) :: later ∧ later.length ≤ n

theorem State.HoldsRecent.mem {s : State} {p : Port} {r : OutcomeRecord} {n : Nat} (h : s.HoldsRecent p r n) :
    ∃ slot, (slot, r) ∈ s.outcomes p := by
  obtain ⟨before, slot, later, list, -⟩ := h
  exact ⟨slot, by rw [list]; simp⟩

theorem State.HoldsRecent.of_os {s t : State} {p : Port} {r : OutcomeRecord} {n : Nat} (h : s.HoldsRecent p r n)
    (os : t.os = s.os) : t.HoldsRecent p r n := by
  have same : t.outcomes p = s.outcomes p := by cases p <;> simp [State.outcomes, os]
  rw [State.HoldsRecent, same]
  exact h

theorem State.HoldsRecent.mono {s : State} {p : Port} {r : OutcomeRecord} {n m : Nat} (h : s.HoldsRecent p r n)
    (le : n ≤ m) : s.HoldsRecent p r m := by
  obtain ⟨before, slot, later, list, short⟩ := h
  exact ⟨before, slot, later, list, short.trans le⟩

/-- What is posted is the latest record of its list. -/
theorem State.insertOutcome_holdsRecent (s : State) (p : Port) (r : OutcomeRecord) :
    (s.insertOutcome p r).HoldsRecent p r 0 := by
  rcases s.insertOutcome_cases p r with ⟨-, e⟩ | ⟨-, -, e⟩ | ⟨-, -, slot, -, rest, -, e⟩ <;> rw [e]
  · exact ⟨s.outcomes p, .shared, [], by cases p <;> rfl, le_rfl⟩
  · exact ⟨s.outcomes p, .reserve, [], by cases p <;> rfl, le_rfl⟩
  · exact ⟨rest, slot, [], by cases p <;> rfl, le_rfl⟩

/-- A further record takes the slot of the oldest of three records or more, not of one of the two latest. -/
theorem State.HoldsRecent.insertOutcome {s : State} {p q : Port} {r x : OutcomeRecord} {n : Nat}
    (h : s.HoldsRecent p r n) (short : n ≤ 1) : (s.insertOutcome q x).HoldsRecent p r (n + 1) := by
  obtain ⟨before, slot, later, list, length⟩ := h
  by_cases own : p = q
  · subst own
    have full : 3 ≤ s.reserveUsed p → before ≠ [] := by
      rintro many rfl
      have : s.reserveUsed p ≤ (s.outcomes p).length := List.countP_le_length
      rw [list] at this
      simp only [List.nil_append, List.length_cons] at this
      omega
    have appended : ∀ (t : State) (y : Slot × OutcomeRecord), t.outcomes p = s.outcomes p ++ [y] →
        t.HoldsRecent p r (n + 1) := fun t y ht => ⟨before, slot, later ++ [y], by rw [ht, list]; simp, by simpa using length⟩
    rcases s.insertOutcome_cases p x with ⟨-, e⟩ | ⟨-, -, e⟩ | ⟨-, many, slot', old, rest, oldest, e⟩ <;> rw [e]
    · exact appended _ (.shared, x) (by cases p <;> rfl)
    · exact appended _ (.reserve, x) (by cases p <;> rfl)
    · obtain ⟨b, tail, rfl⟩ := List.exists_cons_of_ne_nil (full many)
      rw [list] at oldest
      simp only [List.cons_append, List.cons.injEq] at oldest
      refine ⟨tail, slot, later ++ [(slot', x)], ?_, by simpa using length⟩
      have new : ((s.setOutcomes p (rest ++ [(slot', x)])).addLost p 1).outcomes p = rest ++ [(slot', x)] := by
        cases p <;> rfl
      rw [new, ← oldest.2]
      simp
  · exact ⟨before, slot, later, (s.insertOutcome_outcomes_ne own x).trans list, by omega⟩

/-- An aborted capture posts one record at most (R156). -/
theorem State.HoldsRecent.settleStart {s : State} {p : Port} {r : OutcomeRecord} {n : Nat} (h : s.HoldsRecent p r n)
    (short : n ≤ 1) : s.settleStart.HoldsRecent p r (n + 1) := by
  unfold State.settleStart State.abortCapture
  split
  · exact (h.mono (Nat.le_succ n)).of_os rfl
  · refine State.HoldsRecent.insertOutcome ?_ short
    exact h.of_os rfl

theorem State.leaveClosed_os {s : State} (idle : s.upu.capture = none) (k : StepId) (o : Option StepState) :
    (s.leaveClosed k o).os = s.os := by
  unfold State.leaveClosed
  dsimp only
  split
  · split
    · rename_i running
      have none_ : ((s.setFlagsIf (s.stepRec k).alarmFlag).modStep k (fun r =>
          { r with alarmCount := 0, tripCount := 0, alarmFlag := false })).upu.capture = none := by simpa using idle
      rw [none_] at running
      cases running
    · simp
  · rfl

/-- A dispatch ends one selection at most; with no capture running it posts no other record (R62, R174). -/
theorem State.HoldsRecent.examine {s : State} {p : Port} {r : OutcomeRecord} {n : Nat} (h : s.HoldsRecent p r n)
    (short : n ≤ 1) (idle : s.upu.capture = none) : s.examine.HoldsRecent p r (n + 1) := by
  rcases s.examine_cases with same | ⟨e, -, -, dispatch⟩
  · rw [same]
    exact h.mono (Nat.le_succ n)
  · rw [dispatch]
    let t := s.takeEntry e
    let u := t.entered e.step (movingState e.kind) none none
    have before : u.HoldsRecent p r n := (h.of_os (t := t) rfl).of_os (t.entered_onlyIn _ _ _ _ .os (by decide))
    have ready : (u.leaveReady e.step).HoldsRecent p r (n + 1) := by
      unfold State.leaveReady State.endSelectionOf State.endSelection
      split
      · exact before.mono (Nat.le_succ n)
      · split
        · exact before.mono (Nat.le_succ n)
        · split
          · exact before.mono (Nat.le_succ n)
          · exact (before.of_os (State.setSlot_onlyIn _ _ _ .os (by decide))).insertOutcome short
    have entered : (t.enter e.step (movingState e.kind) none none).HoldsRecent p r (n + 1) := by
      rw [(s.takeEntry_quiet e).enter]
      have capture : ((u.leaveReady e.step).voidOther e.step).upu = s.upu :=
        ((State.voidOther_spec _ _).1 .upu (by decide)).trans ((State.leaveReady_onlyIn _ _ .upu (by decide)).trans
          (t.entered_onlyIn _ _ _ _ .upu (by decide)))
      refine HoldsRecent.of_os ?_ (State.leaveClosed_os (by rw [capture]; exact idle) _ _)
      exact ready.of_os ((State.voidOther_spec _ _).1 .os (by decide))
    exact (entered.of_os (t := (t.enter e.step (movingState e.kind) none none).startFlight) rfl).of_os
      (State.askPulse_onlyIn _ _ _ .os (by decide))

/-! ## A CLOSE completes (R65, R66) -/

/-- The record of a step whose CLOSE completes (R65). -/
def closedRecord (uptime : Nat) (r : StepRecord) : StepRecord :=
  { enteredRecord r .closed none none with
    closeCount := min 999999 (r.closeCount + 1)
    closeHistory := (if r.closeHistory.length < 8 then r.closeHistory else r.closeHistory.drop 1) ++ [uptime] }

theorem State.closeTold_spec {s : State} {e : Entry} (entry : s.entryOf e.step = some e) (status : e.status = .inFlight) :
    (s.closeTold e).oq = { s.oq with operate := none }
      ∧ (s.closeTold e).stepRec e.step = closedRecord s.clock.uptime (s.stepRec e.step)
      ∧ (∀ j, j ≠ e.step → (s.closeTold e).stepRec j = s.stepRec j)
      ∧ (s.closeTold e).set = s.set ∧ (s.closeTold e).clock = s.clock := by
  let a := s.endArmed.stopOperate
  have kept : s.Keeps a := s.endArmed_keeps.trans (State.stopOperate_keeps _)
  have oq : a.oq = { s.oq with operate := none } :=
    congrArg (fun x : OqState => { x with operate := none }) (s.endArmed_onlyIn .oq (by decide))
  have table : ∀ j, a.stepRec j = s.stepRec j := fun j => congrArg (fun x : SsState => x.steps[j]) s.endArmed_ss
  have flies : a.entryOf e.step = some e := by
    rw [State.entryOf, oq]
    exact entry
  let u := a.enter e.step .closed none none
  have kept' : s.Keeps u := kept.trans (State.enter_keeps _ e.step .closed none none)
  have told : (s.closeTold e).ss = (u.countClose e.step).ss := State.entryResult_ss _ e .done
  have records := (a.enter_spec e.step .closed none none).1
  have told' : ∀ j, (s.closeTold e).stepRec j = (u.countClose e.step).stepRec j := fun j =>
    congrArg (fun x : SsState => x.steps[j]) told
  have keeps := (kept'.trans (State.countClose_keeps _ e.step)).trans (State.entryResult_keeps _ e .done)
  refine ⟨?_, ?_, fun j ne => ?_, keeps.set, keeps.clock⟩
  · rw [State.closeTold, State.entryResult_oq, ← oq]
    exact State.enter_oq_inFlight a e.step .closed none none e flies status
  · have entered : u.stepRec e.step = enteredRecord (s.stepRec e.step) .closed none none := by
      rw [records, if_pos rfl, table, recordAfter, if_neg (by simp)]
    rw [told', State.countClose, State.stepRec_modStep_same, entered, kept'.clock]
    rfl
  · rw [told']
    have other : (u.countClose e.step).stepRec j = u.stepRec j := by simp [State.countClose, ne]
    rw [other, records, if_neg ne, table]

/-- The entries that a completed CLOSE leaves: its mark's entry at the head, and the others (R65, R66). -/
def State.closedEntries (s : State) (e : Entry) : List Entry :=
  (e.mark.map (s.converted e.step)).toList ++ s.oq.entries.filter (fun x => x.step ≠ e.step)

theorem State.closeConverted_spec {s : State} {e : Entry} (entry : s.entryOf e.step = some e)
    (status : e.status = .inFlight) :
    (s.closeConverted e).oq.entries = s.closedEntries e ∧ (s.closeConverted e).oq.vPre = s.oq.vPre
      ∧ (∀ j, (s.closeConverted e).stepRec j = (s.closeTold e).stepRec j)
      ∧ (s.closeTold e).onlyIn (s.closeConverted e) [.oq, .ss] := by
  obtain ⟨oq, -, -, -, clock⟩ := State.closeTold_spec entry status
  have left := (s.closeTold e).dropEntry_oq e.step
  rw [oq] at left
  have vPre : ((s.closeTold e).dropEntry e.step).oq.vPre = s.oq.vPre := by rw [left]
  unfold State.closeConverted State.closedEntries
  split
  · rename_i noMark
    refine ⟨?_, vPre, (State.dropEntry_table _ _).stepRec, State.dropEntry_onlyIn _ _⟩
    rw [noMark]
    exact congrArg OqState.entries left
  · rename_i m marked
    rw [State.convert_eq]
    refine ⟨?_, vPre, (State.dropEntry_table _ _).stepRec, ?_⟩
    · rw [marked]
      have head : (s.closeTold e).converted e.step m = s.converted e.step m := by
        rw [State.converted, clock]
        rfl
      show (s.closeTold e).converted e.step m :: ((s.closeTold e).dropEntry e.step).oq.entries = _
      rw [head, left]
      rfl
    · exact State.onlyIn_trans (State.dropEntry_onlyIn _ e.step) (fun b hb => by cases b <;> simp_all [State.sameBlock])

/-- A completed CLOSE before the examination at its end (R65, R66, R68). -/
def State.closeEnded (s : State) (e : Entry) : State :=
  (((s.closeConverted e).settleStart).arm e.step e.kind .closed e.mark.isSome).manualHoldAfter e

theorem State.closeEnded_spec {s : State} {e : Entry} (entry : s.entryOf e.step = some e) (status : e.status = .inFlight) :
    (s.closeEnded e).oq.entries = s.closedEntries e
      ∧ (s.closeEnded e).stepRec e.step =
          { closedRecord s.clock.uptime (s.stepRec e.step) with
            manualHold := heldAfter e (s.stepRec e.step).manualHold }
      ∧ (∀ j, j ≠ e.step → (s.closeEnded e).stepRec j = s.stepRec j)
      ∧ (s.closeEnded e).cu.settle = s.y .tsettle
      ∧ (s.closeEnded e).cu.armed =
          some { step := e.step, kind := e.kind, target := .closed, vPre := s.oq.vPre, converted := e.mark.isSome
                 voided := none }
      ∧ (s.closeEnded e).upu.capture = none := by
  obtain ⟨-, own, others, set, -⟩ := State.closeTold_spec entry status
  obtain ⟨entries, vPre, table, only⟩ := State.closeConverted_spec entry status
  let x := s.closeConverted e
  obtain ⟨settle, armed, ss, oq, -⟩ := x.settleArm_spec e.step e.kind .closed e.mark.isSome
  let w := x.settleStart.arm e.step e.kind .closed e.mark.isSome
  obtain ⟨manual, manualNe, onlyM⟩ := w.manualHoldAfter_spec e
  have table' : ∀ j, w.stepRec j = (s.closeTold e).stepRec j := fun j =>
    (congrArg (fun y : SsState => y.steps[j]) ss).trans (table j)
  have setting : x.y .tsettle = s.y .tsettle := by rw [State.y, only .set (by decide), set, State.y]
  have cu : (s.closeEnded e).cu = w.cu := onlyM .cu (by decide)
  refine ⟨?_, ?_, fun j ne => ?_, ?_, ?_, ?_⟩
  · rw [← entries, ← congrArg OqState.entries oq]
    exact congrArg OqState.entries (onlyM .oq (by decide))
  · rw [State.closeEnded, manual, table', own]
    rfl
  · rw [State.closeEnded, manualNe j ne, table', others j ne]
  · rw [cu, settle, setting]
  · rw [cu, armed, vPre]
  · have idle : w.upu.capture = none := x.settleStart_spec.2.1
    exact (congrArg UpuState.capture (onlyM .upu (by decide))).trans idle

/-- The DONE of a port's CLOSE is the latest record of its list when it is posted (R65, R75). -/
theorem State.closeTold_holdsRecent {s : State} {e : Entry} {p : Port} (entry : s.entryOf e.step = some e)
    (status : e.status = .inFlight) (kind : e.kind = .closeOp) (port : e.originator = portOriginator p) :
    (s.closeTold e).HoldsRecent p
      { tag := e.tag.getD 0
        step := some e.step
        what := .closeOp
        result := .done
        state := some .closed
        uptime := s.clock.uptime } 0 := by
  obtain ⟨-, own, -, -, clock⟩ := State.closeTold_spec entry status
  let w := ((s.endArmed.stopOperate).enter e.step .closed none none).countClose e.step
  have told : s.closeTold e = w.insertOutcome p (w.outcomeOf (e.tag.getD 0) e.step .closeOp .done) := by
    show w.entryResult e .done = _
    rw [State.entryResult, port, kind]
    cases p <;> rfl
  have record : (w.stepRec e.step).state = some .closed := by
    have same : (s.closeTold e).stepRec e.step = w.stepRec e.step := by
      rw [State.stepRec, State.stepRec]
      exact congrArg (fun x : SsState => x.steps[e.step]) (State.entryResult_ss w e .done)
    rw [← same, own]
    rfl
  have uptime : w.clock.uptime = s.clock.uptime := by
    rw [← congrArg Clock.uptime clock]
    exact (congrArg Clock.uptime (State.entryResult_keeps w e .done).clock).symm
  rw [told, State.outcomeOf, record, uptime]
  exact w.insertOutcome_holdsRecent p _

/-- The DONE is still in the list at the end of the completion. -/
theorem State.closeEnded_holdsRecent {s : State} {e : Entry} {p : Port} {r : OutcomeRecord}
    (entry : s.entryOf e.step = some e) (status : e.status = .inFlight) (h : (s.closeTold e).HoldsRecent p r 0) :
    (s.closeEnded e).examine.HoldsRecent p r 2 := by
  obtain ⟨-, -, -, only⟩ := State.closeConverted_spec entry status
  obtain ⟨-, -, -, -, -, idle⟩ := State.closeEnded_spec entry status
  have started := (h.of_os (only .os (by decide))).settleStart (Nat.zero_le 1)
  have armed := started.of_os (t := (s.closeConverted e).settleStart.arm e.step e.kind .closed e.mark.isSome) rfl
  exact (armed.of_os ((State.manualHoldAfter_spec _ e).2.2 .os (by decide))).examine le_rfl idle

/-- A CLOSE whose step reaches CLOSED completes, in a state that the record of the position has made (R63). -/
theorem closeReaches {s : State} {e : Entry} {c : Contact} (sound : s.YardSound) (r : reaches s e.step c .atClosed)
    (flies : s.inFlight = some e) (kind : e.kind = .closeOp) :
    ∃ v, exec (.contactDebounceAccept e.step c) s = .next (v.closeEnded e).examine ∧ s.ReachedFrom v e.step .atClosed
      ∧ v.QueueSound ∧ v.entryOf e.step = some e ∧ e.status = .inFlight
      ∧ s.onlyIn (v.closeEnded e).examine [.clock, .ss, .oq, .cu, .avc, .hmu, .upu, .au, .pi, .os] := by
  have run := exec_reaches r
  have from_ := s.reached_reachedFrom e.step c .atClosed
  have queue := s.reached_queueSound e.step c .atClosed sound
  generalize s.reached e.step c .atClosed = v at run from_ queue
  have flies' : v.inFlight = some e := from_.inFlight.trans flies
  obtain ⟨mem, status⟩ := State.mem_of_inFlight flies'
  have state : (v.stepRec e.step).state = some .closing := by
    rw [(queue.2.2.1 e mem).1, Entry.stepState, status, kind]
  have moved : v.positionRules e.step .atClosed = (v.closeEnded e).examine := by
    rw [State.positionRules_completes (.inl state) flies' rfl (by rw [from_.own]) (by rw [kind]; rfl), if_pos kind]
    rfl
  have only := State.onlyIn_trans (State.onlyIn_mono from_.only (by decide))
    (State.onlyIn_mono (v.positionRules_keeps e.step .atClosed).onlyIn (by decide) :
      v.onlyIn (v.positionRules e.step .atClosed) [.clock, .ss, .oq, .cu, .avc, .hmu, .upu, .au, .pi, .os])
  rw [moved] at run only
  exact ⟨v, run, from_, queue, State.entryOf_eq queue.1 mem, status, only⟩

/-- A dispatch changes no entry but in its status (R62). -/
theorem State.examine_entries {α : Type} (f : Entry → α) (blind : ∀ x : Entry, f { x with status := .inFlight } = f x)
    (s : State) : s.examine.oq.entries.map f = s.oq.entries.map f := by
  rcases s.examine_cases with same | ⟨e, -, -, dispatch⟩
  · rw [same]
  · rw [dispatch, (s.dispatchEntry_ne e).2, List.map_map]
    refine List.map_congr_left fun x _ => ?_
    by_cases own : x.step = e.step
    · exact (congrArg f (if_pos own)).trans (blind x)
    · exact congrArg f (if_neg own)

/-- An unmarked CLOSE completes (R65, R68). -/
theorem unmarkedCloseCompletes {c : Contact} {s : State} {e : Entry} (sound : s.YardSound)
    (r : reaches s e.step c .atClosed) (flies : s.inFlight = some e) (kind : e.kind = .closeOp) (noMark : e.mark = none) :
    ∃ t, exec (.contactDebounceAccept e.step c) s = .next t
      ∧ (t.stepRec e.step).state = some .closed ∧ e.step ∈ t.ss.closedOrder ∧ t.entryOf e.step = none
      ∧ (t.stepRec e.step).closeCount = min 999999 ((s.stepRec e.step).closeCount + 1)
      ∧ (t.stepRec e.step).closeHistory =
          (if (s.stepRec e.step).closeHistory.length < 8 then (s.stepRec e.step).closeHistory
            else (s.stepRec e.step).closeHistory.drop 1) ++ [s.clock.uptime]
      ∧ (t.stepRec e.step).manualHold = heldAfter e (s.stepRec e.step).manualHold
      ∧ t.cu.settle = s.y .tsettle
      ∧ (∃ v, t.cu.armed =
          some { step := e.step, kind := .closeOp, target := .closed, vPre := s.oq.vPre
                 converted := false, voided := v })
      ∧ (s.oldestWaiting .tripOp = none → s.y .tsettle ≠ 0 → ∀ j, j ≠ e.step →
          t.stepRec j = s.stepRec j ∧ t.entryOf j = s.entryOf j)
      ∧ s.onlyIn t [.clock, .ss, .oq, .cu, .avc, .hmu, .upu, .au, .pi, .os]
      ∧ (∀ p, e.originator = portOriginator p → ∃ slot,
          (slot, ({ tag := e.tag.getD 0
                    step := some e.step
                    what := .closeOp
                    result := .done
                    state := some .closed
                    uptime := s.clock.uptime } : OutcomeRecord)) ∈ t.outcomes p) := by
  obtain ⟨v, run, from_, queue, entry, status, only⟩ := closeReaches sound r flies kind
  obtain ⟨⟨-, -, -, inClosed⟩, -⟩ := exec_yardSound run sound
  obtain ⟨entries, record, others, settle, armed, -⟩ := State.closeEnded_spec entry status
  have left : (v.closeEnded e).oq.entries = v.oq.entries.filter (fun x => x.step ≠ e.step) := by
    rw [entries, State.closedEntries, noMark]
    rfl
  have free : (v.closeEnded e).entryOf e.step = none := State.entryOf_none_iff.mpr (by rw [left]; simp)
  obtain ⟨record', noEntry⟩ := State.examine_of_entryOf_none free
  have cooldown := (v.closeEnded e).examine_cooldown
  rw [record] at record'
  have closed : ((v.closeEnded e).examine.stepRec e.step).state = some .closed := by
    rw [record']
    rfl
  refine ⟨_, run, closed, (inClosed _).mpr closed, noEntry, ?_, ?_, ?_, ?_, ?_, fun noTrip settles j ne => ?_, only,
    fun p port => ?_⟩
  · rw [record', from_.own]
    rfl
  · have history : (v.stepRec e.step).closeHistory = (s.stepRec e.step).closeHistory := by rw [from_.own]
    rw [record']
    show (if (v.stepRec e.step).closeHistory.length < 8 then _ else _) ++ [v.clock.uptime] = _
    rw [history, from_.uptime]
  · have hold : (v.stepRec e.step).manualHold = (s.stepRec e.step).manualHold := by rw [from_.own]
    rw [record', ← hold]
  · rw [cooldown.settle, settle, from_.setting]
  · have same := cooldown.armed
    rw [armed, noMark, kind] at same
    obtain ⟨a, ha, unvoided⟩ := Option.map_eq_some_iff.mp same
    refine ⟨a.voided, ha.trans (congrArg some ?_)⟩
    have vPre : v.oq.vPre = s.oq.vPre := congrArg OqState.vPre from_.oq
    rw [← vPre]
    exact congrArg (fun x : Armed => { x with voided := a.voided }) unvoided
  · have quiet : (v.closeEnded e).oldestWaiting .tripOp = none := by
      rw [State.oldestWaiting_none_iff] at noTrip ⊢
      intro x hx
      rw [left, List.mem_filter, from_.oq] at hx
      exact noTrip x hx.1
    rw [State.examine_settling (by rw [settle, from_.setting]; exact settles) quiet, others j ne, from_.others j ne,
      State.entryOf_of_filter left ne, from_.entryOf]
    exact ⟨rfl, rfl⟩
  · rw [← from_.uptime]
    exact (State.closeEnded_holdsRecent entry status (State.closeTold_holdsRecent entry status kind port)).mem

/-- A settle period of no length is no setting's (R194). -/
theorem State.SettingsSound.tsettle_ne {s : State} (sound : s.SettingsSound) : s.y .tsettle ≠ 0 := by
  have low := ((SettingId.inRange_eq (i := .yard .tsettle) (by simp) _).mp
    ((Settings.inRange_iff _).mp sound.1 (.yard .tsettle))).1
  have bound : 30 ≤ s.y .tsettle := low
  omega

/-- A marked CLOSE is converted (R66). -/
theorem markedCloseConverts {c : Contact} {s : State} {e : Entry} {m : Mark} (sound : s.YardSound)
    (settings : s.SettingsSound) (r : reaches s e.step c .atClosed) (flies : s.inFlight = some e)
    (kind : e.kind = .closeOp) (marked : e.mark = some m) :
    ∃ t, exec (.contactDebounceAccept e.step c) s = .next t
      ∧ (t.stepRec e.step).closeCount = min 999999 ((s.stepRec e.step).closeCount + 1)
      ∧ t.cu.settle = s.y .tsettle ∧ (t.cu.armed.map (·.converted)) = some true
      ∧ (t.oq.entries.head?.map
            (fun x => (x.kind, x.step, x.originator, x.tag, x.admittedAt, x.mark, x.fast))) =
          some (m.kind, e.step, m.originator, m.tag, s.clock.uptime, none, m.fast)
      ∧ (m.kind = .tripOp → (t.stepRec e.step).state = some .opening
          ∧ (t.inFlight.map (·.step)) = some e.step)
      ∧ (m.kind = .openOp → s.oldestWaiting .tripOp = none →
          (t.stepRec e.step).state = some .closed ∧ t.inFlight = none) := by
  obtain ⟨v, run, from_, queue, entry, status, -⟩ := closeReaches sound r flies kind
  obtain ⟨entries, record, -, settle, armed, -⟩ := State.closeEnded_spec entry status
  let w := v.closeEnded e
  let rest := v.oq.entries.filter (fun x => x.step ≠ e.step)
  have list : w.oq.entries = v.converted e.step m :: rest := by
    rw [entries, State.closedEntries, marked]
    rfl
  have waits : ∀ x ∈ w.oq.entries, x.status = .waiting := by
    intro x hx
    rw [list] at hx
    rcases List.mem_cons.mp hx with rfl | old
    · rfl
    · obtain ⟨mem, other⟩ := List.mem_filter.mp old
      by_contra moves
      have flying : x.status = .inFlight := by cases h : x.status <;> simp_all
      have found : v.inFlight = some x := inFlight_unique queue.2.1 mem flying
      rw [from_.inFlight, flies] at found
      obtain rfl := Option.some.inj found
      simp at other
  have idle : w.inFlight = none := State.inFlight_none_iff.mpr waits
  have cooldown := w.examine_cooldown
  have count : (w.stepRec e.step).closeCount = min 999999 ((s.stepRec e.step).closeCount + 1) := by
    rw [record, from_.own]
    rfl
  refine ⟨_, run, ?_, ?_, ?_, ?_, fun trip => ?_, fun opening noTrip => ?_⟩
  · rcases w.examine_record e.step with same | ⟨o, dispatched⟩
    · rw [same, count]
    · rw [dispatched, (recordAfter_kept _ _ _ _).2.1, count]
  · rw [cooldown.settle, settle, from_.setting]
  · have same := congrArg (Option.map Armed.converted) cooldown.armed
    rw [armed, marked, Option.map_map] at same
    exact same
  · have head := congrArg List.head?
      (w.examine_entries (fun x => (x.kind, x.step, x.originator, x.tag, x.admittedAt, x.mark, x.fast)) fun _ => rfl)
    rw [list, List.head?_map] at head
    rw [head, ← from_.uptime]
    rfl
  · have chosen : w.chooseEntry = some (v.converted e.step m) := by
      refine State.chooseEntry_trip ?_
      rw [State.oldestWaiting, list]
      exact List.find?_cons_of_pos (by simp [State.converted, trip])
    rw [State.examine_of_choice idle chosen]
    refine ⟨(w.dispatchEntry_state _).trans (by simp [State.converted, trip, movingState]), ?_⟩
    rw [State.inFlight, (w.dispatchEntry_ne _).2, list, List.map_cons, if_pos rfl, List.find?_cons_of_pos (by simp)]
    rfl
  · have quiet : w.oldestWaiting .tripOp = none := by
      rw [State.oldestWaiting_none_iff] at noTrip ⊢
      intro x hx
      rw [list] at hx
      rcases List.mem_cons.mp hx with rfl | old
      · simp [State.converted, opening]
      · exact noTrip x (by rw [← from_.oq]; exact (List.mem_filter.mp old).1)
    have settling : w.cu.settle ≠ 0 := by
      rw [settle, from_.setting]
      exact settings.tsettle_ne
    rw [State.examine_settling settling quiet, record]
    exact ⟨rfl, idle⟩

/-- Settles O38: an unmarked CLOSE leaves no entry of its step, so that the examination leaves the step; a marked one
leaves the entry of its mark at the head, which is the oldest TRIP when it is one. -/
theorem closeCompletesAtClosed : Obligations.CloseCompletesAtClosed := by
  refine ⟨fun k c s e sound r flies own kind noMark => ?_, fun k c s e m sound settings r flies own kind marked => ?_⟩
  · subst own
    obtain ⟨t, run, state, order, entry, count, history, hold, settle, armed, others, only, done⟩ :=
      unmarkedCloseCompletes sound r flies kind noMark
    refine ⟨t, run, state, order, entry, count, history, hold.trans ?_, settle, armed, others, only, done⟩
    unfold heldAfter
    cases originatorPort e.originator with
    | none => simp
    | some p => simp [kind]
  · subst own
    exact markedCloseConverts sound settings r flies kind marked

end Sys2Proof.Machine
end

section
/-!
SUPPORT and PROOF. The contact-fault timer (R13), the end of a coil pulse (R22) and the operate timer (R64, R69, R70).
-/
namespace Sys2Proof.Machine

/-! ## The backup trip's record through a change of state (R72, R151) -/

/-- A result leaves the backup trip's record (R75). -/
theorem State.giveResult_backup (s : State) (o : Originator) (tag : Option Byte) (k : StepId) (kind : OpKind)
    (fast : Bool) (r : OutcomeResult) : (s.giveResult o tag k kind fast r).upu.backup = s.upu.backup := by
  have posted : ∀ p x, (s.insertOutcome p x).upu.backup = s.upu.backup := fun p x =>
    congrArg UpuState.backup (s.insertOutcome_onlyIn p x .upu (by decide))
  cases o
  case portA => exact posted _ _
  case portB => exact posted _ _
  case harmonic => exact congrArg UpuState.backup (s.detuneResult_onlyIn k r .upu (by decide))
  all_goals rfl

theorem State.markResultOpt_backup (s : State) (k : StepId) (m : Option Mark) (r : OutcomeResult) :
    (s.markResultOpt k m r).upu.backup = s.upu.backup := by
  cases m with
  | none => rfl
  | some m => exact s.giveResult_backup _ _ _ _ _ _

/-- What a change of state leaves of the backup trip's record is what the removal of the step's entry leaves (R3). -/
theorem State.enter_backup (s : State) (k : StepId) (n : StepState) (l : Option LockoutCause) (f : Option FailureCause) :
    (s.enter k n l f).upu.backup = ((s.entered k n l f).fitEntry k).upu.backup := by
  have before : ((((s.entered k n l f).fitEntry k).leaveReady k).voidOther k).upu = ((s.entered k n l f).fitEntry k).upu :=
    ((State.voidOther_spec _ k).1 .upu (by decide)).trans (State.leaveReady_onlyIn _ k .upu (by decide))
  exact (State.leaveClosed_protection _ k _).backup.trans (congrArg UpuState.backup before)

/-- Only a WAITING TRIP that leaves asserts BKT (R72). -/
theorem State.fitEntry_backup {s : State} {k : StepId} (noTrip : ∀ e, s.entryOf k = some e → e.kind ≠ .tripOp) :
    (s.fitEntry k).upu.backup = s.upu.backup := by
  have dropped : ∀ (e : Entry) r, ((s.dropEntry k).entryResult e r).upu.backup = s.upu.backup := fun e r =>
    (State.giveResult_backup _ _ _ _ _ _ _).trans (congrArg UpuState.backup (s.dropEntry_onlyIn k .upu (by decide)))
  unfold State.fitEntry
  split
  · rfl
  · rename_i e found
    split
    · rfl
    · split
      · split
        · rfl
        · exact dropped _ _
      · split
        · rfl
        · exact dropped _ _
      · rename_i trip
        exact absurd trip (noTrip e found)

/-- A WAITING TRIP whose step fails asserts BKT (R72, R151). -/
theorem State.fitEntry_bkt {s : State} {k : StepId} {e : Entry} (found : s.entryOf k = some e) (waits : e.status = .waiting)
    (trip : e.kind = .tripOp) (failed : (s.stepRec k).state = some .failed) : (s.fitEntry k).bkt = true := by
  unfold State.fitEntry
  rw [found]
  simp only [waits, trip, failed]
  rw [if_neg (by decide), if_neg (by decide), if_pos trivial]
  exact State.assertBkt_bkt _ _ _ _

/-! ## The contact-fault timer (R13) -/

/-- A contact-fault timer that reaches its limit (R13, R72, R151). -/
theorem faultTimerFails {k : StepId} {s : State} {tm : Timer} (sound : s.YardSound) (free : s.clock.held = none)
    (running : (s.stepRec k).faultTimer = some tm) :
    ∃ t, exec (.contactFaultExpiry k) s = .next t
      ∧ (t.stepRec k).state = some .failed
      ∧ (t.stepRec k).failureCause = some .contactInvalid
      ∧ (t.stepRec k).faultTimer = none
      ∧ (t.stepRec k).position = (s.stepRec k).position
      ∧ k ∉ t.ss.readyOrder ∧ k ∉ t.ss.closedOrder ∧ t.entryOf k = none ∧ t.selectedBy k = none
      ∧ t.clock = { s.clock with now := max s.clock.now (tm.since + tm.length * 1000) }
      ∧ (∀ e, s.entryOf k = some e → e.kind = .tripOp → t.bkt = true)
      ∧ (s.entryOf k = none ∨ s.inFlight ≠ none → ∀ j, j ≠ k → t.stepRec j = s.stepRec j)
      ∧ s.onlyIn t [.clock, .ss, .oq, .cu, .avc, .hmu, .upu, .au, .pi, .os]
      ∧ ((∀ e, s.entryOf k = some e → e.kind ≠ .tripOp) → t.upu.backup = s.upu.backup) := by
  let v := s.until tm.due
  let u := v.enter k .failed none (some .contactInvalid)
  have run : exec (.contactFaultExpiry k) s = .next (u.examineIfLeft s) := by
    refine congrArg Host.Outcome.next ?_
    rw [State.unlessHeld_free _ _ free, State.faultExpires, running]
    rfl
  have after := exec_yardSound run sound
  obtain ⟨⟨-, -, inReady, inClosed⟩, -, -, selections⟩ := after
  have queue := sound.2.1
  have still := queue.2.2.2.2.1 k (by simp [running])
  have waits := queue.waits (k := k) (by rcases still with h | h | h <;> rw [h] <;> simp)
  have misfit : ∀ e, v.entryOf k = some e → e.status = .waiting ∧ e.stepState ≠ .failed := fun e found => by
    obtain ⟨mem, step⟩ := State.mem_of_entryOf found
    refine ⟨(waits e mem step).1, ?_⟩
    unfold Entry.stepState
    split <;> simp
  have left : u.oq = _ := State.enter_leaves misfit none (some .contactInvalid)
  obtain ⟨record, noEntry, others⟩ := State.examineIfLeft_after (w := s) left fun e mem own => (waits e mem own).1
  obtain ⟨state, -, timer⟩ := v.enter_record k .failed none (some .contactInvalid)
  have keeps := (v.enter_keeps k .failed none (some .contactInvalid)).trans (u.examineIfLeft_keeps s)
  have passed : s.onlyIn v [.clock] := fun b hb => by cases b <;> simp_all [State.sameBlock, v]
  have failed : ((u.examineIfLeft s).stepRec k).state = some .failed := by rw [record, state]
  have own : u.stepRec k = recordAfter (v.stepRec k) .failed none (some .contactInvalid) :=
    ((v.enter_spec k .failed none (some .contactInvalid)).1 k).trans (if_pos rfl)
  have backup : (u.examineIfLeft s).upu.backup = u.upu.backup := by
    unfold State.examineIfLeft
    split
    · rfl
    · exact u.examine_protection.backup
  have entry : (v.entered k .failed none (some .contactInvalid)).entryOf k = s.entryOf k :=
    State.entryOf_congr (s := s) (v.entered_oq k .failed none (some .contactInvalid)) k
  refine ⟨_, run, failed, ?_, ?_, ?_, ?_, ?_, noEntry, selections.selectedBy_none ?_, keeps.clock, fun e found trip => ?_,
    fun quiet j ne => ?_, State.onlyIn_trans (State.onlyIn_mono passed (by decide)) (State.onlyIn_mono keeps.onlyIn (by decide)),
    fun noTrip => ?_⟩
  · rw [record, own, (recordAfter_kept _ _ _ _).2.2.2.2.2.1]
  · rw [record, timer, if_neg (by simp)]
  · rw [record, State.enter_position]
    rfl
  · rw [inReady, failed]
    decide
  · rw [inClosed, failed]
    decide
  · rw [failed]
    decide
  · obtain ⟨mem, step⟩ := State.mem_of_entryOf found
    have asserted := State.fitEntry_bkt (entry.trans found) (waits e mem step).1 trip
      (v.entered_spec k .failed none (some .contactInvalid)).2
    rw [State.bkt, backup, State.enter_backup]
    exact asserted
  · rw [others quiet, State.enter_stepRec_ne _ _ _ _ _ _ ne]
    rfl
  · rw [backup, State.enter_backup, State.fitEntry_backup (by rw [entry]; exact noTrip),
      v.entered_onlyIn k _ _ _ .upu (by decide)]
    rfl

/-- Settles O42: the removal of the entry is what asserts BKT; the end of a pulse writes the pulse and the count. -/
theorem faultTimerFailsAndPulseEndStartsNothing : Obligations.FaultTimerFailsAndPulseEndStartsNothing := by
  refine ⟨fun k s tm sound free running => faultTimerFails sound free running, fun s p free runs => ?_⟩
  have run : exec .coilPulseEnd s = .next { s.until p.timer.due with ss := { s.ss with pulse := none } } := by
    refine congrArg Host.Outcome.next ?_
    rw [State.unlessHeld_free _ _ free, State.pulseEnds, runs]
  refine ⟨_, run, fun k c => ?_, rfl, rfl, fun b hb => by cases b <;> simp_all [State.sameBlock]⟩
  simp [State.coilOn]

/-! ## An operation that fails (R69, R70) -/

/-- An ended operation before the examination at its end: its entry gone, its step FAILED, its results given, BKT
asserted when it carried a TRIP, and a settle period started (R69, R70, R80). -/
def State.failEnded (s : State) (e : Entry) (cause : FailureCause) (m : Option Mark) (trip : Option Originator)
    (reason : BackupReason) : State :=
  let t := (((s.stopOperate.dropEntry e.step).enter e.step .failed none (some cause)).entryResult e
    .switchFailed).markResultOpt e.step m .switchFailed
  (match trip with
    | none => t
    | some o => t.assertBkt e.step reason o).settleStart

theorem State.failClose_eq (s : State) (e : Entry) :
    s.failClose e =
      (s.failEnded e .closeTimeout e.mark ((tripMark e).map (·.originator)) .closeTimeout).examine := by
  unfold State.failClose State.failEnded
  cases tripMark e <;> rfl

theorem State.failOpen_eq (s : State) (e : Entry) :
    s.failOpen e = (s.failEnded e .openTimeout (tripMark e) (tripOriginator e) .openTimeout).examine := rfl

/-- What an ended operation writes before the examination. -/
theorem State.failEnded_spec (s : State) (e : Entry) (cause : FailureCause) (m : Option Mark) (trip : Option Originator)
    (reason : BackupReason) :
    (s.failEnded e cause m trip reason).oq =
        { s.oq with operate := none, entries := s.oq.entries.filter (fun x => x.step ≠ e.step) }
      ∧ (s.failEnded e cause m trip reason).stepRec e.step = recordAfter (s.stepRec e.step) .failed none (some cause)
      ∧ (∀ j, j ≠ e.step → (s.failEnded e cause m trip reason).stepRec j = s.stepRec j)
      ∧ (s.failEnded e cause m trip reason).cu.settle = s.y .tsettle
      ∧ (s.failEnded e cause m trip reason).cu.armed.map Armed.unvoided = s.cu.armed.map Armed.unvoided
      ∧ (s.failEnded e cause m trip reason).cu.lastRise = s.cu.lastRise
      ∧ (trip.isSome = true → (s.failEnded e cause m trip reason).bkt = true)
      ∧ (trip = none → (s.failEnded e cause m trip reason).upu.backup = s.upu.backup) := by
  let a := s.stopOperate.dropEntry e.step
  let u := a.enter e.step .failed none (some cause)
  let t := (u.entryResult e .switchFailed).markResultOpt e.step m .switchFailed
  let w := match trip with
    | none => t
    | some o => t.assertBkt e.step reason o
  have droppedOnly : s.stopOperate.onlyIn a [.oq, .ss] := State.dropEntry_onlyIn _ _
  have oqA : a.oq = { s.oq with operate := none, entries := s.oq.entries.filter (fun x => x.step ≠ e.step) } :=
    State.dropEntry_oq s.stopOperate e.step
  have free : a.entryOf e.step = none := State.entryOf_none_iff.mpr (by rw [oqA]; simp)
  have tableA : ∀ j, a.stepRec j = s.stepRec j := (State.dropEntry_table s.stopOperate e.step).stepRec
  have records := (a.enter_spec e.step .failed none (some cause)).1
  have ssT : t.ss = u.ss := (State.markResultOpt_ss _ e.step m _).trans (State.entryResult_ss _ e _)
  have toldOnly : u.onlyIn t [.pi, .os, .avc, .hmu, .upu] :=
    State.onlyIn_trans (State.entryResult_onlyIn _ e _) (State.markResultOpt_onlyIn _ e.step m _)
  have bktOnly : t.onlyIn w [.upu, .pi, .ss] := by
    cases trip with
    | none => exact t.onlyIn_refl _
    | some o => exact State.assertBkt_onlyIn t e.step reason o
  have tableW : ∀ j, w.stepRec j = t.stepRec j := by
    cases trip with
    | none => exact fun _ => rfl
    | some o => exact (State.assertBkt_table t e.step reason o).stepRec
  have tableT : ∀ j, t.stepRec j = u.stepRec j := fun j => congrArg (fun x : SsState => x.steps[j]) ssT
  obtain ⟨cu, -, ss, oq, -⟩ := w.settleStart_spec
  have tableF : ∀ j, (s.failEnded e cause m trip reason).stepRec j = u.stepRec j := fun j =>
    (congrArg (fun x : SsState => x.steps[j]) ss).trans ((tableW j).trans (tableT j))
  have cooldown : s.SameCooldown w := by
    have start : s.SameCooldown a := .of_cu (droppedOnly .cu (by decide))
    exact (start.trans (State.enter_cooldown a e.step .failed none (some cause))).trans
      (.of_cu ((bktOnly .cu (by decide)).trans (toldOnly .cu (by decide))))
  have set : w.set = s.set := ((bktOnly .set (by decide)).trans (toldOnly .set (by decide))).trans
    ((State.enter_keeps a e.step .failed none (some cause)).set.trans (droppedOnly .set (by decide)))
  have backupT : t.upu.backup = s.upu.backup := by
    rw [State.markResultOpt_backup, State.entryResult, State.giveResult_backup, State.enter_backup,
      State.fitEntry_backup (by
        rw [State.entryOf_congr (a.entered_oq e.step .failed none (some cause)), free]
        exact fun _ h => nomatch h),
      a.entered_onlyIn e.step _ _ _ .upu (by decide), droppedOnly .upu (by decide)]
    rfl
  have backup : (s.failEnded e cause m trip reason).upu.backup = w.upu.backup :=
    (State.abortCapture_protection { w with cu := { w.cu with settle := w.y .tsettle } }).backup
  refine ⟨?_, ?_, fun j ne => ?_, ?_, ?_, ?_, fun isTrip => ?_, fun isNone => ?_⟩
  · have queue : w.oq = a.oq := by
      rw [bktOnly .oq (by decide), toldOnly .oq (by decide), State.enter_oq_none _ _ _ _ _ free]
    exact oq.trans (queue.trans oqA)
  · rw [tableF, records, if_pos rfl, tableA]
  · rw [tableF, records, if_neg ne, tableA]
  · have taken := congrArg CuState.settle cu
    rw [State.y, set] at taken
    exact taken
  · exact (congrArg (fun x : CuState => x.armed.map Armed.unvoided) cu).trans cooldown.armed
  · exact (congrArg CuState.lastRise cu).trans cooldown.lastRise
  · obtain ⟨o, rfl⟩ := Option.isSome_iff_exists.mp isTrip
    rw [State.bkt, backup]
    exact State.assertBkt_bkt t e.step reason o
  · subst isNone
    rw [backup]
    exact backupT

theorem recordAfter_state (r : StepRecord) (n : StepState) (l : Option LockoutCause) (f : Option FailureCause) :
    (recordAfter r n l f).state = some n ∧ (recordAfter r n l f).position = r.position := by
  unfold recordAfter
  split <;> exact ⟨rfl, rfl⟩

theorem recordAfter_discharge_of_ne (r : StepRecord) {n : StepState} (notClosed : n ≠ .closed) (l : Option LockoutCause)
    (f : Option FailureCause) : (recordAfter r n l f).discharge = r.discharge := by
  unfold recordAfter
  split <;> exact if_neg notClosed

/-- What an ended operation leaves after the examination at its end (R60, R69, R70). -/
theorem State.failEnded_examined (s : State) (e : Entry) (cause : FailureCause) (m : Option Mark) (trip : Option Originator)
    (reason : BackupReason) {t : State} (ht : t = (s.failEnded e cause m trip reason).examine) :
    t.stepRec e.step = recordAfter (s.stepRec e.step) .failed none (some cause) ∧ t.entryOf e.step = none
      ∧ t.cu.settle = s.y .tsettle ∧ (s.cu.armed = none → t.cu.armed = none) ∧ t.cu.lastRise = s.cu.lastRise
      ∧ (trip.isSome = true → t.bkt = true) ∧ (trip = none → t.upu.backup = s.upu.backup)
      ∧ (s.oldestWaiting .tripOp = none → s.y .tsettle ≠ 0 → ∀ j, j ≠ e.step → t.stepRec j = s.stepRec j) := by
  subst ht
  obtain ⟨oq, own, others, settle, armed, rise, asserted, backup⟩ := s.failEnded_spec e cause m trip reason
  have entries := congrArg OqState.entries oq
  have free : (s.failEnded e cause m trip reason).entryOf e.step = none :=
    State.entryOf_none_iff.mpr (by rw [entries]; simp)
  obtain ⟨record, noEntry⟩ := State.examine_of_entryOf_none free
  have cooldown := (s.failEnded e cause m trip reason).examine_cooldown
  have protection := (s.failEnded e cause m trip reason).examine_protection
  refine ⟨record.trans own, noEntry, cooldown.settle.trans settle, fun none_ => ?_, cooldown.lastRise.trans rise,
    fun isTrip => protection.bkt.trans (asserted isTrip), fun isNone => protection.backup.trans (backup isNone),
    fun noTrip settles j ne => ?_⟩
  · have same := cooldown.armed.trans armed
    rw [none_] at same
    exact Option.map_eq_none_iff.mp same
  · have quiet : (s.failEnded e cause m trip reason).oldestWaiting .tripOp = none := by
      rw [State.oldestWaiting_none_iff] at noTrip ⊢
      intro x hx
      rw [entries, List.mem_filter] at hx
      exact noTrip x hx.1
    rw [State.examine_settling (by rw [settle]; exact settles) quiet, others j ne]

/-- A step without an entry has no coil energised in a sound yard (R21). -/
theorem State.YardSound.coilOn_false {s : State} (y : s.YardSound) {k : StepId} (free : s.entryOf k = none) (c : Coil) :
    s.coilOn k c = false := by
  have away := y.2.2.1.pulse_step_ne free
  unfold State.coilOn
  split
  · simp
  · rename_i p runs
    simp [away p runs]

/-- A retry of an OPEN or a TRIP (R64, R80). -/
theorem State.retryOpen_spec (s : State) {e : Entry} (kind : e.kind ≠ .closeOp) :
    (s.retryOpen e).oq =
        { s.oq with retryCount := s.oq.retryCount + 1, operate := some (s.timer (s.y .top)) }
      ∧ (s.retryOpen e).ss.steps = s.ss.steps
      ∧ (s.retryOpen e).cu = { s.cu with settle := s.y .tsettle }
      ∧ ((s.stepRec e.step).position ≠ some .atOpen → (s.retryOpen e).ss.pulse =
          some { step := e.step, coil := .openCoil, timer := s.timer (s.y .tpulse) })
      ∧ s.onlyIn (s.retryOpen e) [.ss, .oq, .cu, .upu, .os, .pi] := by
  let a : State := { s with oq := { s.oq with retryCount := s.oq.retryCount + 1 } }
  let b := a.askPulse e.step e.kind
  have asked : a.onlyIn b [.ss] := a.askPulse_onlyIn e.step e.kind
  have table : a.SameTable b := State.askPulse_table _ _ _
  have counted : s.onlyIn a [.oq] := fun x hx => by cases x <;> simp_all [State.sameBlock, a]
  have started : b.onlyIn b.startOperate [.oq] := fun x hx => by
    cases x <;> simp_all [State.sameBlock, State.startOperate]
  obtain ⟨cu, -, ss, oq, -⟩ := b.startOperate.settleStart_spec
  have setting : b.startOperate.y .tsettle = s.y .tsettle := by
    rw [State.y, started .set (by decide), asked .set (by decide)]
    rfl
  have timer : b.timer (b.y .top) = s.timer (s.y .top) := by
    rw [State.timer, State.y, asked .set (by decide), asked .clock (by decide)]
    rfl
  have queue : b.oq = a.oq := asked .oq (by decide)
  refine ⟨?_, ?_, ?_, fun away => ?_, ?_⟩
  · refine oq.trans ?_
    show ({ b.oq with operate := some (b.timer (b.y .top)) } : OqState) = _
    rw [queue, timer]
  · exact (congrArg SsState.steps ss).trans table.steps
  · refine cu.trans ?_
    rw [setting]
    show ({ b.cu with settle := _ } : CuState) = _
    rw [asked .cu (by decide)]
  · have target : targetOf e.kind = .atOpen ∧ coilOf e.kind = .openCoil := by
      cases h : e.kind
      · exact absurd h kind
      · exact ⟨rfl, rfl⟩
      · exact ⟨rfl, rfl⟩
    have runs := State.askPulse_runs (s := a) (k := e.step) (o := e.kind) (fun close => absurd close kind)
      (by rw [target.1]; exact away)
    rw [target.2] at runs
    exact (congrArg SsState.pulse ss).trans runs
  · exact State.onlyIn_trans (State.onlyIn_mono counted (by decide)) (State.onlyIn_trans
      (State.onlyIn_mono asked (by decide)) (State.onlyIn_trans (State.onlyIn_mono started (by decide))
        (State.onlyIn_mono (State.settleStart_onlyIn _) (by decide))))

/-- Settles O43: the entry of a failed operation has left before the examination, which then leaves its step. -/
theorem operateTimeoutsRetryOrFail : Obligations.OperateTimeoutsRetryOrFail := by
  refine ⟨fun s e tm sound free flies kind runs => ?_, fun s e tm sound free flies kind runs => ?_⟩
  · have run : exec .closeOperateTimeout s = .next ((s.until tm.due).failClose e) := by
      refine congrArg Host.Outcome.next ?_
      rw [State.unlessHeld_free _ _ free, State.closeTimesOut, flies, runs]
      exact if_pos kind
    have after := exec_yardSound run sound
    have keeps := (s.until tm.due).failClose_keeps e
    have passed : s.onlyIn (s.until tm.due) [.clock] := fun b hb => by cases b <;> simp_all [State.sameBlock]
    obtain ⟨record, entry, settle, armed, rise, asserted, backup, others⟩ :=
      State.failEnded_examined _ e _ _ _ _ (State.failClose_eq (s.until tm.due) e)
    obtain ⟨-, count, history, -, -, cause, -⟩ :=
      recordAfter_kept ((s.until tm.due).stepRec e.step) .failed none (some .closeTimeout)
    have state := recordAfter_state ((s.until tm.due).stepRec e.step) .failed none (some .closeTimeout)
    refine ⟨_, run, by rw [record, state.1], by rw [record, cause], by rw [record, state.2]; rfl, by rw [record, count]; rfl,
      by rw [record, history]; rfl, entry, after.coilOn_false entry, settle, armed, rise, fun m marked trip => asserted ?_,
      fun noTrip => backup ?_, others, State.onlyIn_trans (State.onlyIn_mono passed (by decide))
        (State.onlyIn_mono keeps.onlyIn (by decide)), keeps.clock⟩
    · rw [tripMark, marked]
      simp [trip]
    · unfold tripMark
      split
      · rename_i m marked
        simp [noTrip m marked]
      · rfl
  · have passed : s.onlyIn (s.until tm.due) [.clock] := fun b hb => by cases b <;> simp_all [State.sameBlock]
    by_cases retries : s.oq.retryCount < s.y .nretry
    · have run : exec .openOperateTimerExpiry s = .next ((s.until tm.due).retryOpen e) := by
        refine congrArg Host.Outcome.next ?_
        rw [State.unlessHeld_free _ _ free, State.openTimesOut, flies, runs]
        exact (if_neg kind).trans (if_pos retries)
      obtain ⟨oq, steps, cu, pulse, only⟩ := (s.until tm.due).retryOpen_spec kind
      have clock : ((s.until tm.due).retryOpen e).clock = (s.until tm.due).clock := only .clock (by decide)
      refine ⟨_, run, clock, congrArg CuState.settle cu, ?_⟩
      rw [if_pos retries]
      obtain ⟨mem, status⟩ := State.mem_of_inFlight flies
      have state : (s.stepRec e.step).state = some .opening := by
        rw [(sound.2.1.2.2.1 e mem).1, Entry.stepState, status]
        cases h : e.kind
        · exact absurd h kind
        · rfl
        · rfl
      have same : ((s.until tm.due).retryOpen e).stepRec e.step = s.stepRec e.step :=
        congrArg (fun x : Vector StepRecord 8 => x[e.step]) steps
      have entries : ((s.until tm.due).retryOpen e).oq.entries = s.oq.entries := by rw [oq]; rfl
      have armed : ((s.until tm.due).retryOpen e).cu.armed = s.cu.armed := by rw [cu]; rfl
      refine ⟨congrArg OqState.retryCount oq, entries, ?_, by rw [same, state], fun away => ?_, steps,
        armed, State.onlyIn_trans (State.onlyIn_mono passed (by decide))
          (State.onlyIn_mono only (by decide))⟩
      · rw [clock]
        exact congrArg OqState.operate oq
      · have held : ((s.until tm.due).retryOpen e).clock.held = none := by
          rw [clock]
          exact free
        rw [State.coilOn, held, pulse away]
        simp
    · have run : exec .openOperateTimerExpiry s = .next ((s.until tm.due).failOpen e) := by
        refine congrArg Host.Outcome.next ?_
        rw [State.unlessHeld_free _ _ free, State.openTimesOut, flies, runs]
        exact (if_neg kind).trans (if_neg retries)
      have after := exec_yardSound run sound
      have keeps := (s.until tm.due).failOpen_keeps e
      obtain ⟨record, entry, settle, armed, -, asserted, backup, others⟩ :=
        State.failEnded_examined _ e _ _ _ _ (State.failOpen_eq (s.until tm.due) e)
      obtain ⟨-, -, -, -, -, cause, -⟩ :=
        recordAfter_kept ((s.until tm.due).stepRec e.step) .failed none (some .openTimeout)
      have state := recordAfter_state ((s.until tm.due).stepRec e.step) .failed none (some .openTimeout)
      have discharge := recordAfter_discharge_of_ne ((s.until tm.due).stepRec e.step) (n := .failed) (by decide) none
        (some .openTimeout)
      refine ⟨_, run, keeps.clock, settle, ?_⟩
      rw [if_neg retries]
      refine ⟨by rw [record, state.1], by rw [record, cause], by rw [record, discharge]; rfl, entry,
        after.coilOn_false entry, armed, fun trip => asserted ?_, fun isOpen noTrip => backup ?_, others,
        State.onlyIn_trans (State.onlyIn_mono passed (by decide)) (State.onlyIn_mono keeps.onlyIn (by decide))⟩
      · unfold tripOriginator
        split
        · rfl
        · rename_i notTrip
          obtain ⟨m, marked, isTrip⟩ := trip.resolve_left notTrip
          simp [tripMark, marked, isTrip]
      · unfold tripOriginator tripMark
        rw [if_neg (by rw [isOpen]; decide)]
        split
        · rename_i m marked
          simp [noTrip m marked]
        · rfl

end Sys2Proof.Machine
end

section
/-!
SUPPORT and PROOF. The authority through switching, the removal of a port's WAITING CLOSEs (R74) and the key (R160).
-/
namespace Sys2Proof.Machine

/-! ## The authority through switching (R174) -/

/-- The key, AUTO and supervision are the same; a slot is the same or emptied. -/
structure State.SameAuthority (s t : State) : Prop where
  /-- the key -/
  key : t.au.key = s.au.key
  /-- AUTO -/
  auto : t.au.auto = s.au.auto
  /-- the supervision state -/
  supervision : t.au.supervision = s.au.supervision
  /-- the supervision timer -/
  remaining : t.au.remaining = s.au.remaining
  /-- the slots -/
  slots : ∀ p, t.slot p = none ∨ t.slot p = s.slot p

theorem State.SameAuthority.of_au {s t : State} (au : t.au = s.au) : s.SameAuthority t :=
  ⟨by rw [au], by rw [au], by rw [au], by rw [au], fun p => .inr (State.slot_congr au p)⟩

theorem State.SameAuthority.trans {s t u : State} (h : s.SameAuthority t) (g : t.SameAuthority u) : s.SameAuthority u :=
  ⟨g.key.trans h.key, g.auto.trans h.auto, g.supervision.trans h.supervision, g.remaining.trans h.remaining,
    fun p => (g.slots p).elim .inl fun same => (h.slots p).imp same.trans same.trans⟩

/-- An empty slot stays empty. -/
theorem State.SameAuthority.slot_none {s t : State} (h : s.SameAuthority t) {p : Port} (none_ : s.slot p = none) :
    t.slot p = none := (h.slots p).elim id fun same => same.trans none_

theorem State.endSelection_authority (s : State) (p : Port) (r : OutcomeResult) : s.SameAuthority (s.endSelection p r) := by
  have au := s.endSelection_au p r
  have key := congrArg AuState.key au
  have auto := congrArg AuState.auto au
  have supervision := congrArg AuState.supervision au
  have remaining := congrArg AuState.remaining au
  refine ⟨key, auto, supervision, remaining, fun q => ?_⟩
  rw [State.endSelection_slot]
  split
  · exact .inl rfl
  · exact .inr rfl

theorem State.leaveReady_authority (s : State) (k : StepId) : s.SameAuthority (s.leaveReady k) := by
  unfold State.leaveReady State.endSelectionOf
  split
  · exact .of_au rfl
  · split
    · exact .of_au rfl
    · exact s.endSelection_authority _ _

/-- A change of state (R3) ends a selection at most. -/
theorem State.enter_authority (s : State) (k : StepId) (n : StepState) (l : Option LockoutCause) (f : Option FailureCause) :
    s.SameAuthority (s.enter k n l f) := by
  have fitted : s.SameAuthority ((s.entered k n l f).fitEntry k) :=
    .of_au ((State.fitEntry_onlyIn _ k .au (by decide)).trans (s.entered_onlyIn k n l f .au (by decide)))
  exact (fitted.trans (State.leaveReady_authority _ k)).trans
    (.of_au ((State.leaveClosed_onlyIn _ k _ .au (by decide)).trans ((State.voidOther_spec _ k).1 .au (by decide))))

/-- A dispatch (R62) ends a selection at most. -/
theorem State.examine_authority (s : State) : s.SameAuthority s.examine := by
  rcases s.examine_cases with same | ⟨e, -, -, dispatch⟩
  · rw [same]
    exact .of_au rfl
  · rw [dispatch]
    let u := (s.takeEntry e).enter e.step (movingState e.kind) none none
    have taken : s.SameAuthority (s.takeEntry e) := .of_au rfl
    have asked := u.startFlight.askPulse_onlyIn e.step e.kind .au (by decide)
    exact (taken.trans (State.enter_authority _ e.step (movingState e.kind) none none)).trans (.of_au asked)

theorem State.examineIfLeft_authority (s b : State) : s.SameAuthority (s.examineIfLeft b) := by
  unfold State.examineIfLeft
  split
  · exact .of_au rfl
  · exact s.examine_authority

/-! ## Removals (R71, R73, R74) -/

/-- An entry that waits after an examination waited before it (R62). -/
theorem State.examine_waiting (s : State) : ∀ e ∈ s.examine.oq.entries, e.status = .waiting → e ∈ s.oq.entries := by
  intro e he waits
  rcases s.examine_cases with same | ⟨x, -, -, dispatch⟩
  · rwa [same] at he
  · rw [dispatch, (s.dispatchEntry_ne x).2] at he
    obtain ⟨y, old, rfl⟩ := List.mem_map.mp he
    by_cases own : y.step = x.step
    · rw [if_pos own] at waits
      cases waits
    · rw [if_neg own]
      exact old

theorem State.examineIfLeft_waiting (s b : State) :
    ∀ e ∈ (s.examineIfLeft b).oq.entries, e.status = .waiting → e ∈ s.oq.entries := by
  unfold State.examineIfLeft
  split
  · exact fun _ he _ => he
  · exact s.examine_waiting

/-- What is removed has left the list. -/
theorem State.removeEach_gone {s : State} {l : List Entry} (r : OutcomeResult) {e : Entry} (listed : e ∈ l) :
    e ∉ (s.removeEach l r).oq.entries := by
  rw [State.removeEach_entries]
  intro stays
  have := (List.mem_filter.mp stays).2
  simp only [List.all_eq_true] at this
  simpa using this e listed

/-- What stays was there. -/
theorem State.removeEach_sub {s : State} {l : List Entry} (r : OutcomeResult) {e : Entry}
    (stays : e ∈ (s.removeEach l r).oq.entries) : e ∈ s.oq.entries := by
  rw [State.removeEach_entries] at stays
  exact (List.mem_filter.mp stays).1

/-- In a sound queue the operation in flight stays when WAITING entries are removed (R48). -/
theorem State.removeEach_inFlight {s : State} (nodup : (s.oq.entries.map (·.step)).Nodup) {l : List Entry}
    (waiting : ∀ x ∈ l, x ∈ s.oq.entries ∧ x.status = .waiting) (r : OutcomeResult) (flying : s.inFlight ≠ none) :
    (s.removeEach l r).inFlight ≠ none := by
  obtain ⟨e, flies⟩ := Option.ne_none_iff_exists'.mp flying
  obtain ⟨mem, status⟩ := State.mem_of_inFlight flies
  intro idle
  have stays : e ∈ (s.removeEach l r).oq.entries := by
    rw [State.removeEach_entries]
    refine List.mem_filter.mpr ⟨mem, List.all_eq_true.mpr fun x hx => ?_⟩
    obtain ⟨listed, waits⟩ := waiting x hx
    simp only [decide_eq_true_eq]
    intro same
    rw [entry_unique nodup mem listed same, waits] at status
    cases status
  have waits := State.inFlight_none_iff.mp idle e stays
  rw [waits] at status
  cases status

theorem State.removeCloses_gone (s : State) (p : Port) : ∀ e ∈ (s.removeCloses p).oq.entries,
    ¬(e.status = .waiting ∧ e.kind = .closeOp ∧ e.originator = portOriginator p) := by
  intro e stays listed
  exact State.removeEach_gone _ (List.mem_filter.mpr ⟨State.removeEach_sub _ stays, by simpa using listed⟩) stays

theorem State.removeCloses_inFlight {s : State} (nodup : (s.oq.entries.map (·.step)).Nodup) (p : Port)
    (flying : s.inFlight ≠ none) : (s.removeCloses p).inFlight ≠ none := by
  refine State.removeEach_inFlight nodup (fun x hx => ?_) _ flying
  obtain ⟨mem, listed⟩ := List.mem_filter.mp hx
  simp only [decide_eq_true_eq] at listed
  exact ⟨mem, listed.1⟩

/-- Nothing is examined for while an operation is in flight (R60). -/
theorem State.examineIfLeft_inFlight {s : State} (flying : s.inFlight ≠ none) (b : State) : s.examineIfLeft b = s := by
  rw [State.examineIfLeft, s.examine_inFlight flying, ite_self]

/-! ## The key (R160) -/

/-- What the previous holder's departure leaves (R160, R174): its slot and its WAITING CLOSEs are gone. -/
theorem State.dropHolder_spec (s : State) :
    (∀ p, s.holder = some p → s.dropHolder.slot p = none ∧ ∀ e ∈ s.dropHolder.oq.entries,
        ¬(e.status = .waiting ∧ e.kind = .closeOp ∧ e.originator = portOriginator p))
      ∧ s.SameAuthority s.dropHolder
      ∧ (s.QueueSound → s.inFlight ≠ none → s.dropHolder.inFlight ≠ none) := by
  unfold State.dropHolder
  split
  · rename_i noHolder
    rw [noHolder]
    exact ⟨fun _ h => (nomatch h), .of_au rfl, fun _ h => h⟩
  · rename_i q holder
    let a := s.endSelection q (.cancelled .authorityLost)
    have removed : (a.removeCloses q).au = a.au := a.removeCloses_onlyIn q .au (by decide)
    have oq : a.oq = s.oq := s.endSelection_onlyIn q _ .oq (by decide)
    refine ⟨fun p holds => ?_, (s.endSelection_authority q _).trans (.of_au removed), fun queue flying => ?_⟩
    · obtain rfl := Option.some.inj (holder.symm.trans holds)
      exact ⟨by rw [State.slot_congr removed, State.endSelection_slot, if_pos rfl], a.removeCloses_gone q⟩
    · exact State.removeCloses_inFlight (by rw [oq]; exact queue.1) q
        (by rw [State.inFlight_congr (congrArg OqState.entries oq)]; exact flying)

/-- The supervision that a key position brings (R160). -/
theorem State.superviseKey_spec (s : State) (v : KeyPos) :
    (s.superviseKey v).au =
        { s.au with
          supervision := if v = .loc then .ok else s.au.supervision
          remaining := if v = .loc then none else some (s.y .tsup) }
      ∧ s.onlyIn (s.superviseKey v) [.au, .pi]
      ∧ (v = .loc → s.au.supervision ≠ .ok → ∀ p, ((s.superviseKey v).portState p).changeFlag = true) := by
  cases v
  · refine ⟨s.setSupervision_au .ok none, s.setSupervision_onlyIn .ok none, fun _ differs p => ?_⟩
    show ((s.setSupervision .ok none).portState p).changeFlag = true
    rw [State.setSupervision_portState]
    simp [differs]
  · exact ⟨s.setSupervision_au _ _, s.setSupervision_onlyIn _ _, fun loc => nomatch loc⟩

/-- An accepted key value is handed to the Authority Unit (R6, R160). -/
theorem exec_keyAccept {s : State} {v : KeyPos} (free : s.clock.held = none)
    (due : s.ss.keyIn.accepted ≠ some s.ss.keyIn.raw) (hv : v = if s.ss.keyIn.raw then .remote else .loc) :
    exec .keyAccept s = .next ((s.accept .key).takeKey v) := by
  have toAccept : s.ss.keyIn.toAccept = true := by simpa [Debouncer.toAccept] using due
  refine congrArg Host.Outcome.next ?_
  rw [State.unlessHeld_free _ _ free, State.acceptKey, if_pos toAccept, hv]
  rfl

/-- What the acceptance of the key leaves (R4, R6). -/
theorem State.acceptKey_rest (s : State) : s.onlyIn (s.accept .key) [.clock, .ss] ∧ (s.accept .key).ss.steps = s.ss.steps :=
  ⟨fun b hb => by cases b <;> simp_all [State.sameBlock, State.accept, State.takeRaw, State.setDebouncer], rfl⟩

/-- A later key value (R160, R161, R174). -/
theorem laterKeyValue {s : State} {v : KeyPos} (free : s.clock.held = none)
    (due : s.ss.keyIn.accepted ≠ some s.ss.keyIn.raw) (hv : v = if s.ss.keyIn.raw then .remote else .loc)
    (known : s.au.key ≠ none) :
    ∃ t, exec .keyAccept s = .next t
      ∧ t.au.key = some v ∧ t.au.auto = s.au.auto
      ∧ t.au.supervision = (if v = .loc then .ok else s.au.supervision)
      ∧ t.au.remaining = (if v = .loc then none else some (s.y .tsup))
      ∧ (v = .loc → t.holder = some .a)
      ∧ (∀ p, s.holder = some p → t.slot p = none
          ∧ ∀ e ∈ t.oq.entries, ¬(e.status = .waiting ∧ e.kind = .closeOp
              ∧ e.originator = portOriginator p))
      ∧ (v = .loc → s.au.supervision ≠ .ok → ∀ p, (t.portState p).changeFlag = true)
      ∧ t.ss.keyIn = { s.ss.keyIn with accepted := some s.ss.keyIn.raw }
      ∧ (s.QueueSound → s.inFlight ≠ none → t.ss.steps = s.ss.steps)
      ∧ s.onlyIn t [.clock, .ss, .oq, .cu, .avc, .hmu, .upu, .au, .pi, .os] := by
  let w := s.accept .key
  let d := w.dropHolder
  let k := d.setKey v
  let m := k.superviseKey v
  obtain ⟨accepted, steps⟩ := s.acceptKey_rest
  obtain ⟨gone, dropped, flies⟩ := w.dropHolder_spec
  obtain ⟨au, supervised, flags⟩ := k.superviseKey_spec v
  have after := m.examineIfLeft_authority w
  have setM : m.set = s.set := by
    rw [supervised .set (by decide)]
    exact w.dropHolder_keeps.set
  have tsup : k.y .tsup = s.y .tsup := by
    rw [State.y, State.y]
    exact congrArg (fun x : SetState => x.settings.y .tsup) w.dropHolder_keeps.set
  have oq : m.oq = d.oq := supervised .oq (by decide)
  have slots : ∀ p, m.slot p = d.slot p := fun p => by
    cases p <;> rw [State.slot, au] <;> rfl
  have key : (m.examineIfLeft w).au.key = some v := by
    rw [after.key, au]
    rfl
  have taken : w.takeKey v = m.examineIfLeft w := by
    obtain ⟨old, keyS⟩ := Option.ne_none_iff_exists'.mp known
    have keyW : w.au.key = some old := keyS
    rw [State.takeKey, keyW]
    rfl
  have inputs := w.takeKey_sameInputs v
  rw [taken] at inputs
  have run : exec .keyAccept s = .next (m.examineIfLeft w) := by rw [exec_keyAccept free due hv, taken]
  have keeps : s.onlyIn (m.examineIfLeft w) [.clock, .ss, .oq, .cu, .avc, .hmu, .upu, .au, .pi, .os] := by
    have kept := w.takeKey_keeps v
    rw [taken] at kept
    exact State.onlyIn_trans (State.onlyIn_mono accepted (by decide)) (State.onlyIn_mono kept.onlyIn (by decide))
  refine ⟨_, run, key, ?_, ?_, ?_, fun loc => ?_, fun p holds => ?_, fun loc differs p => ?_, ?_,
    fun queue flying => ?_, keeps⟩
  · rw [after.auto, au]
    exact dropped.auto
  · rw [after.supervision, au]
    exact congrArg (fun x => if v = .loc then Supervision.ok else x) dropped.supervision
  · rw [after.remaining, au]
    exact congrArg (fun x => if v = .loc then none else some x) tsup
  · rw [State.holder, key, loc]
  · obtain ⟨empty, none_⟩ := gone p holds
    refine ⟨after.slot_none ((slots p).trans empty), fun e mem close => none_ e ?_ close⟩
    rw [← oq]
    exact m.examineIfLeft_waiting w e mem close.1
  · refine (m.examineIfLeft_retains w).flags p (flags loc ?_ p)
    have same : k.au.supervision = s.au.supervision := dropped.supervision
    rw [same]
    exact differs
  · rw [inputs.key]
    rfl
  · have moves : m.inFlight ≠ none := by
      rw [State.inFlight_congr (congrArg OqState.entries oq)]
      exact flies queue flying
    rw [State.examineIfLeft_inFlight moves, supervised .ss (by decide)]
    exact w.dropHolder_table.steps.trans steps

/-- Settles O40: the slot that is emptied stays empty, and what is removed does not come back, whatever the
examination then dispatches. -/
theorem keyValuesMoveTheAuthority : Obligations.KeyValuesMoveTheAuthority := by
  intro s v free due hv
  refine ⟨fun first => ?_, fun known => laterKeyValue free due hv known⟩
  obtain ⟨accepted, steps⟩ := s.acceptKey_rest
  have keyW : (s.accept .key).au.key = none := first
  have run : exec .keyAccept s = .next ((s.accept .key).firstKey v) := by
    rw [exec_keyAccept free due hv, State.takeKey, keyW]
  have only : (s.accept .key).onlyIn ((s.accept .key).firstKey v) [.au] := by
    cases v <;> exact fun b hb => by cases b <;> simp_all [State.sameBlock, State.firstKey, State.setKey]
  refine ⟨_, run, ?_, State.onlyIn_trans (State.onlyIn_mono accepted (by decide)) (State.onlyIn_mono only (by decide)), ?_⟩
  · cases v <;> rfl
  · exact (congrArg SsState.steps (only .ss (by decide))).trans steps

end Sys2Proof.Machine
end

section
/-!
SUPPORT and PROOF. The ends of an elapsed second as events of their own: a discharge, a hold, an old WAITING CLOSE and a
selection (R14, R71, R86, R173); the expiry of the supervision timer (R165, R166).
-/
namespace Sys2Proof.Machine

/-! ## Removals and the coils (R21) -/

/-- A removal leaves the Step Supervisor when the running pulse is not the step's (R21). -/
theorem State.dropEntry_ss {s : State} {k : StepId} (away : ∀ p, s.ss.pulse = some p → p.step ≠ k) :
    (s.dropEntry k).ss = s.ss := by
  unfold State.dropEntry State.coilsOff
  split
  · rfl
  · rename_i p runs
    rw [if_neg (away p runs)]

/-- Removals of WAITING entries leave the Step Supervisor while the coils are sound (R21, R71). -/
theorem State.removeEach_ss {s : State} {l : List Entry} (away : ∀ x ∈ l, ∀ p, s.ss.pulse = some p → p.step ≠ x.step)
    (r : OutcomeResult) : (s.removeEach l r).ss = s.ss := by
  induction l generalizing s with
  | nil => rfl
  | cons x l ih =>
    have ss : ((s.dropEntry x.step).entryResult x r).ss = s.ss :=
      (State.entryResult_ss _ x r).trans (State.dropEntry_ss (away x (List.mem_cons_self ..)))
    refine (ih fun y hy p runs => away y (List.mem_cons_of_mem _ hy) p ?_).trans ss
    rw [← ss]
    exact runs

/-- The running pulse is not that of a WAITING entry's step (R21, R48). -/
theorem State.CoilsSound.away {s : State} (coils : s.CoilsSound) (nodup : (s.oq.entries.map (·.step)).Nodup) {x : Entry}
    (mem : x ∈ s.oq.entries) (waits : x.status = .waiting) (p : Pulse) (runs : s.ss.pulse = some p) : p.step ≠ x.step := by
  obtain ⟨⟨e, flies, step, -⟩, -⟩ := (s.coilsSound_iff.mp coils) p runs
  obtain ⟨memE, status⟩ := State.mem_of_inFlight flies
  intro same
  rw [entry_unique nodup memE mem (step.trans same), waits] at status
  cases status

/-! ## The ends of a second -/

/-- A WAITING CLOSE older than TSTALE (R71). -/
def State.isStale (s : State) (e : Entry) : Bool :=
  decide (e.status = .waiting) && decide (e.kind = .closeOp)
    && decide (s.y .tstale < (s.clock.uptime + 4294967296 - e.admittedAt) % 4294967296)

theorem State.removeStale_eq (s : State) : s.removeStale = s.removeEach (s.oq.entries.filter s.isStale) .stale := by
  unfold State.removeStale State.isStale
  congr 2
  funext e
  rw [Bool.eq_iff_iff, decide_eq_true_iff]
  simp [age, wrap32, and_assoc]

/-- In a queue of one entry for each step, what leaves by its step is what is listed. -/
theorem State.removeEach_filter {s : State} (nodup : (s.oq.entries.map (·.step)).Nodup) (f : Entry → Bool)
    (r : OutcomeResult) :
    (s.removeEach (s.oq.entries.filter f) r).oq.entries = s.oq.entries.filter (fun e => !f e) := by
  rw [State.removeEach_entries]
  refine List.filter_congr fun e mem => ?_
  rw [Bool.eq_iff_iff, List.all_eq_true]
  simp only [decide_eq_true_eq, Bool.not_eq_true']
  constructor
  · intro apart
    by_contra listed
    exact apart e (List.mem_filter.mpr ⟨mem, by simpa using listed⟩) rfl
  · intro not_ x hx same
    obtain ⟨memX, listed⟩ := List.mem_filter.mp hx
    obtain rfl := entry_unique nodup mem memX same
    rw [not_] at listed
    cases listed

theorem State.examineIfLeft_entries {α : Type} (f : Entry → α)
    (blind : ∀ x : Entry, f { x with status := .inFlight } = f x) (s b : State) :
    (s.examineIfLeft b).oq.entries.map f = s.oq.entries.map f := by
  unfold State.examineIfLeft
  split
  · rfl
  · exact s.examine_entries f blind

theorem State.examineIfLeft_onlyIn (s b : State) : s.onlyIn (s.examineIfLeft b) [.ss, .oq, .cu, .upu, .au, .pi, .os] :=
  State.onlyIn_ite _ (s.onlyIn_refl _) s.examine_onlyIn

/-- The removal of what is stale (R71). -/
theorem staleEntriesLeave {s : State} (queue : s.QueueSound) (free : s.clock.held = none) :
    ∃ t, exec .stale s = .next t
      ∧ t.oq.entries.map (fun e => (e.step, e.kind, e.originator, e.tag, e.admittedAt)) =
          (s.oq.entries.filter (fun e => !s.isStale e)).map
            (fun e => (e.step, e.kind, e.originator, e.tag, e.admittedAt))
      ∧ (s.CoilsSound → s.inFlight ≠ none → t.ss = s.ss)
      ∧ s.onlyIn t [.ss, .oq, .cu, .avc, .hmu, .upu, .au, .pi, .os]
      ∧ (∀ e, s.oq.entries = [e] → s.isStale e = true → ∀ p, e.originator = portOriginator p →
            ((t.outcomes p).getLast?.map (·.2)) =
              some { tag := e.tag.getD 0
                     step := some e.step
                     what := .closeOp
                     result := .stale
                     state := (s.stepRec e.step).state
                     uptime := s.clock.uptime }) := by
  have run : exec .stale s = .next (s.removeStale.examineIfLeft s) := congrArg Host.Outcome.next (s.unlessHeld_free _ free)
  have waiting : ∀ x ∈ s.oq.entries.filter s.isStale, x ∈ s.oq.entries ∧ x.status = .waiting := fun x hx => by
    obtain ⟨mem, listed⟩ := List.mem_filter.mp hx
    simp only [State.isStale, Bool.and_eq_true, decide_eq_true_eq] at listed
    exact ⟨mem, listed.1.1⟩
  rw [State.removeStale_eq] at run
  refine ⟨_, run, ?_, fun coils flying => ?_, ?_, fun e only stale p port => ?_⟩
  · rw [State.examineIfLeft_entries _ fun _ => rfl, State.removeEach_filter queue.1]
  · rw [State.examineIfLeft_inFlight (State.removeEach_inFlight queue.1 waiting _ flying)]
    exact State.removeEach_ss (fun x hx p runs => coils.away queue.1 (waiting x hx).1 (waiting x hx).2 p runs) _
  · exact State.onlyIn_trans (State.onlyIn_mono (State.removeEach_onlyIn s _ _) (by decide))
      (State.onlyIn_mono (State.examineIfLeft_onlyIn _ s) (by decide))
  · have listed : s.oq.entries.filter s.isStale = [e] := by rw [only, List.filter_cons_of_pos stale, List.filter_nil]
    have close : e.kind = .closeOp := by
      simp only [State.isStale, Bool.and_eq_true, decide_eq_true_eq] at stale
      exact stale.1.2
    have told : s.removeEach [e] .stale
        = (s.dropEntry e.step).insertOutcome p ((s.dropEntry e.step).outcomeOf (e.tag.getD 0) e.step .closeOp .stale) := by
      show (s.dropEntry e.step).entryResult e .stale = _
      rw [State.entryResult, port, close]
      cases p <;> rfl
    have empty : (s.removeEach [e] .stale).oq.entries = [] := by
      rw [State.removeEach_entries, only]
      simp
    have rests : (s.removeEach [e] .stale).examineIfLeft s = s.removeEach [e] .stale := by
      rw [State.examineIfLeft, State.examine_idle (.inr empty), ite_self]
    have state := (State.dropEntry_table s e.step).stepRec e.step
    have clock : (s.dropEntry e.step).clock = s.clock := s.dropEntry_onlyIn e.step .clock (by decide)
    rw [listed, rests, told, State.insertOutcome_getLast, State.outcomeOf, state, clock]

/-- A DISCHARGING step whose discharge ends (R14). -/
theorem dischargeEndsInReady {k : StepId} {s : State} (sound : s.YardSound) (free : s.clock.held = none)
    (discharging : (s.stepRec k).state = some .discharging) (last : (s.stepRec k).discharge ≤ 1) :
    ∃ t, exec (.dischargeEnd k) s = .next t
      ∧ t.stepRec k =
          { s.stepRec k with
            state := some .ready
            discharge := 0
            lockoutCause := none
            failureCause := none
            closedWhileOut := false }
      ∧ (∀ j, j ≠ k → t.stepRec j = s.stepRec j)
      ∧ t.ss.readyOrder = s.ss.readyOrder ++ [k] ∧ t.ss.closedOrder = s.ss.closedOrder
      ∧ (∀ p, (t.portState p).changeFlag = true) ∧ s.onlyIn t [.ss, .cu, .pi] := by
  let c := s.modStep k (fun r => { r with discharge := r.discharge - 1 })
  have counted : c.stepRec k = { s.stepRec k with discharge := 0 } := by
    have zero : (s.stepRec k).discharge - 1 = 0 := by omega
    simp [c, zero]
  have run : exec (.dischargeEnd k) s = .next (c.enter k .ready none none) := by
    refine congrArg Host.Outcome.next ?_
    rw [State.unlessHeld_free _ _ free, State.dischargeEnds, if_pos ⟨discharging, last⟩]
    have count : s.countDischarge k = c := by
      unfold State.countDischarge
      rw [discharging]
    rw [count, State.endDischarge, if_pos]
    rw [counted]
    exact ⟨discharging, rfl⟩
  have rest : c.AtRest k := (sound.atRest discharging (by simp)).congr rfl rfl rfl
  have notClosed : (c.stepRec k).state ≠ some .closed := by
    rw [counted]
    simp [discharging]
  obtain ⟨only, flags, -⟩ := rest.enter_frame notClosed .ready none none
  obtain ⟨records, ready, closed⟩ := c.enter_spec k .ready none none
  obtain ⟨⟨-, -, inReady, inClosed⟩, -⟩ := sound
  refine ⟨_, run, ?_, fun j ne => ?_, ?_, ?_, fun p => ?_, ?_⟩
  · rw [records, if_pos rfl, recordAfter_of_ne notClosed, counted]
    rfl
  · rw [records, if_neg ne]
    simp [c, ne]
  · rw [ready, if_pos rfl]
    exact congrArg (· ++ [k]) (filter_order_of_state_ne inReady (by rw [discharging]; decide))
  · rw [closed, if_neg (by decide), List.append_nil]
    exact filter_order_of_state_ne inClosed (by rw [discharging]; decide)
  · exact c.enter_flags k _ _ _ p
  · exact State.onlyIn_trans (State.onlyIn_mono (s.modStep_onlyIn k _) (by decide)) (State.onlyIn_mono only (by decide))

/-- A harmonic hold that ends (R86). -/
theorem harmonicHoldEnds {k : StepId} {s : State} (free : s.clock.held = none) (last : (s.stepRec k).harmonicHold = 1)
    (idle : s.detuneActive = false) :
    ∃ t, exec (.harmonicHoldEnd k) s = .next t
      ∧ t.stepRec k = { s.stepRec k with harmonicHold := 0 }
      ∧ (∀ j, j ≠ k → t.stepRec j = s.stepRec j)
      ∧ t.ss.readyOrder = s.ss.readyOrder ∧ t.ss.closedOrder = s.ss.closedOrder
      ∧ s.onlyIn t [.ss] := by
  have run : exec (.harmonicHoldEnd k) s
      = .next (s.modStep k (fun r => { r with harmonicHold := r.harmonicHold - 1 })) := by
    refine congrArg Host.Outcome.next ?_
    rw [State.unlessHeld_free _ _ free, State.holdEnds, if_pos last, State.countHold, idle]
    rfl
  exact ⟨_, run, by simp [last], fun j ne => by simp [ne], rfl, rfl, s.modStep_onlyIn k _⟩

/-- A selection whose expiry time is reached (R173, R174). -/
theorem selectionExpires {p : Port} {x : Selection} {s : State} (free : s.clock.held = none) (filled : s.slot p = some x)
    (reached : x.expiry ≤ s.clock.uptime) :
    ∃ t, exec (.selectExpired p) s = .next t ∧ t.slot p = none
      ∧ (∀ q, q ≠ p → t.slot q = s.slot q ∧ t.outcomes q = s.outcomes q)
      ∧ ((t.outcomes p).getLast?.map (·.2)) =
          some { tag := x.tag
                 step := some x.step
                 what := .select
                 result := .selectExpired
                 state := (s.stepRec x.step).state
                 uptime := s.clock.uptime }
      ∧ (∀ q, (t.portState q).changeFlag = (s.portState q).changeFlag)
      ∧ s.onlyIn t [.au, .os, .pi] := by
  have run : exec (.selectExpired p) s = .next (s.endSelection p .selectExpired) := by
    refine congrArg Host.Outcome.next ?_
    rw [State.unlessHeld_free _ _ free, State.expireSelection, filled]
    exact if_pos reached
  refine ⟨_, run, ?_, fun q ne => ⟨?_, s.endSelection_outcomes_ne ne _⟩, State.endSelection_getLast filled _,
    fun q => s.endSelection_changeFlag p q _, State.onlyIn_mono (s.endSelection_onlyIn p _) (by decide)⟩
  · rw [State.endSelection_slot, if_pos rfl]
  · rw [State.endSelection_slot, if_neg ne]

/-- Settles O57: each row is its event alone. -/
theorem countdownsAndAgesEnd : Obligations.CountdownsAndAgesEnd := by
  refine ⟨fun k s sound free => ⟨fun discharging last => dischargeEndsInReady sound free discharging last,
    fun last idle => harmonicHoldEnds free last idle⟩, fun s queue free => ?_,
    fun p x s free filled reached => selectionExpires free filled reached⟩
  obtain ⟨t, run, entries, coils, only, posted⟩ := staleEntriesLeave queue free
  refine ⟨t, run, entries, coils, only, fun e single waits close old p port => posted e single ?_ p port⟩
  simp [State.isStale, waits, close, old]

/-! ## Lost records (R188, R189) -/

/-- A lost-outcome counter does not fall but by its saturation at 255. -/
def State.LosesOn (s t : State) : Prop := ∀ p, min 255 (s.portState p).lost ≤ min 255 (t.portState p).lost

theorem State.LosesOn.of_pi {s t : State} (pi : t.pi = s.pi) : s.LosesOn t := fun p => by
  have same : t.portState p = s.portState p := by cases p <;> simp [State.portState, pi]
  rw [same]

theorem State.LosesOn.trans {s t u : State} (h : s.LosesOn t) (g : t.LosesOn u) : s.LosesOn u := fun p => (h p).trans (g p)

/-- The lost-outcome counter of a port and the records that it holds, as R188 counts them when they are discarded. -/
def State.accounted (s : State) (p : Port) : Nat := min 255 ((s.portState p).lost + (s.outcomes p).length)

/-- A record that is posted is held, or takes the place of one that is counted as lost (R186, R189). -/
theorem State.insertOutcome_accounted (s : State) (p q : Port) (r : OutcomeRecord) :
    s.accounted q ≤ (s.insertOutcome p r).accounted q
      ∧ min 255 (s.portState q).lost ≤ min 255 ((s.insertOutcome p r).portState q).lost := by
  rcases s.insertOutcome_cases p r with ⟨-, e⟩ | ⟨-, -, e⟩ | ⟨-, -, slot, old, rest, list, e⟩ <;> rw [e]
  · cases p <;> cases q <;> simp [State.accounted, State.outcomes, State.setOutcomes, State.portState]
  · cases p <;> cases q <;> simp [State.accounted, State.outcomes, State.setOutcomes, State.portState]
  · cases p <;> cases q <;> simp [State.outcomes] at list <;>
      simp [State.accounted, State.outcomes, State.setOutcomes, State.addLost, State.portState, State.setPort, list] <;> omega

/-- No record is lost uncounted. -/
def State.Accounts (s t : State) : Prop := ∀ q, s.accounted q ≤ t.accounted q

theorem State.Accounts.trans {s t u : State} (h : s.Accounts t) (g : t.Accounts u) : s.Accounts u :=
  fun q => (h q).trans (g q)

theorem State.Accounts.of_same {s t : State} (lost : ∀ p, (t.portState p).lost = (s.portState p).lost) (os : t.os = s.os) :
    s.Accounts t := fun q => by
  have list : t.outcomes q = s.outcomes q := by cases q <;> simp [State.outcomes, os]
  rw [State.accounted, State.accounted, lost, list]

theorem State.Accounts.of_onlyIn {s t : State} {l : List Block} (only : s.onlyIn t l) (pi : Block.pi ∉ l)
    (os : Block.os ∉ l) : s.Accounts t :=
  .of_same (fun p => by
    have same : t.pi = s.pi := only .pi pi
    cases p <;> simp [State.portState, same]) (only .os os)

theorem State.endSelection_accounts (s : State) (p : Port) (r : OutcomeResult) : s.Accounts (s.endSelection p r) := by
  unfold State.endSelection
  split
  · exact fun _ => le_rfl
  · exact (State.Accounts.of_onlyIn (s.setSlot_onlyIn p none) (by decide) (by decide)).trans
      fun q => (State.insertOutcome_accounted _ p q _).1

theorem State.entryResult_accounts (s : State) (e : Entry) (r : OutcomeResult) : s.Accounts (s.entryResult e r) := by
  unfold State.entryResult State.giveResult
  split
  · exact fun q => (s.insertOutcome_accounted _ q _).1
  · exact fun q => (s.insertOutcome_accounted _ q _).1
  · refine .of_same (fun p => ?_) ?_
    · cases p <;> rfl
    · rfl
  · exact .of_onlyIn (s.detuneResult_onlyIn _ _) (by decide) (by decide)
  · refine .of_same (fun p => ?_) ?_
    · cases p <;> rfl
    · rfl
  · refine .of_same (fun p => ?_) ?_
    · cases p <;> rfl
    · rfl

theorem State.removeEach_accounts (s : State) (l : List Entry) (r : OutcomeResult) : s.Accounts (s.removeEach l r) := by
  induction l generalizing s with
  | nil => exact fun _ => le_rfl
  | cons e l ih =>
    exact ((State.Accounts.of_onlyIn (s.dropEntry_onlyIn e.step) (by decide) (by decide)).trans
      (State.entryResult_accounts _ e r)).trans (ih _)

theorem State.insertOutcome_losesOn (s : State) (p : Port) (r : OutcomeRecord) : s.LosesOn (s.insertOutcome p r) :=
  fun q => (s.insertOutcome_accounted p q r).2

theorem State.setFlagsIf_losesOn (s : State) (c : Bool) : s.LosesOn (s.setFlagsIf c) := fun p => by
  rw [State.setFlagsIf_portState]

theorem State.abortCapture_losesOn (s : State) : s.LosesOn s.abortCapture := by
  unfold State.abortCapture
  split
  · exact fun _ => le_rfl
  · refine State.LosesOn.trans ?_ (State.insertOutcome_losesOn _ _ _)
    exact .of_pi rfl

theorem State.leaveReady_losesOn (s : State) (k : StepId) : s.LosesOn (s.leaveReady k) := by
  unfold State.leaveReady State.endSelectionOf State.endSelection
  split
  · exact fun _ => le_rfl
  · split
    · exact fun _ => le_rfl
    · split
      · exact fun _ => le_rfl
      · exact State.LosesOn.trans (.of_pi (s.setSlot_onlyIn _ none .pi (by decide))) (State.insertOutcome_losesOn _ _ _)

theorem State.leaveClosed_losesOn (s : State) (k : StepId) (o : Option StepState) : s.LosesOn (s.leaveClosed k o) := by
  have cleared : ∀ c f, s.LosesOn ((s.setFlagsIf c).modStep k f) := fun c f =>
    (s.setFlagsIf_losesOn c).trans (.of_pi rfl)
  unfold State.leaveClosed
  dsimp only
  split
  · split
    · exact (cleared _ _).trans (State.abortCapture_losesOn _)
    · exact cleared _ _
  · exact fun _ => le_rfl

/-- An examination loses no count (R62). -/
theorem State.examine_losesOn (s : State) : s.LosesOn s.examine := by
  rcases s.examine_cases with same | ⟨e, -, -, dispatch⟩
  · rw [same]
    exact fun _ => le_rfl
  · rw [dispatch]
    let t := s.takeEntry e
    let u := t.entered e.step (movingState e.kind) none none
    have entered : s.LosesOn u := fun p => by
      have flags : u.pi = t.setFlags.pi := (State.coilsOff_onlyIn _ e.step .pi (by decide)).trans rfl
      have lost : (u.portState p).lost = (s.portState p).lost := by
        cases p <;> simp only [State.portState, flags] <;> rfl
      rw [lost]
    have after : s.LosesOn (t.enter e.step (movingState e.kind) none none) := by
      rw [(s.takeEntry_quiet e).enter]
      exact ((entered.trans (State.leaveReady_losesOn _ _)).trans (.of_pi ((State.voidOther_spec _ _).1 .pi (by decide)))).trans
        (State.leaveClosed_losesOn _ _ _)
    exact after.trans (.of_pi (State.askPulse_onlyIn _ _ _ .pi (by decide)))

/-! ## The supervision timer (R165, R166) -/

theorem exec_supervisionTimerExpiry {s : State} {n : Nat} (free : s.clock.held = none) (runs : s.au.remaining = some n)
    (last : n ≤ 1) : exec .supervisionTimerExpiry s = .next s.superviseExpiry := by
  refine congrArg Host.Outcome.next ?_
  rw [State.unlessHeld_free _ _ free, State.supervisionEnds, runs]
  exact if_pos last

/-- The entry into LOST before its examination (R166). -/
def State.lostEntered (s : State) : State :=
  (((((s.setSupervision .lost none).endSelection .b (.cancelled .authorityLost)).removeCloses .b).autoOn).discardB).setFlags

/-- The discarded records are counted (R188), with every record that the entry into LOST has posted. -/
theorem State.discardB_spec (s : State) :
    s.discardB.outcomes .b = [] ∧ (s.discardB.portState .b).lost = s.accounted .b ∧ s.onlyIn s.discardB [.pi, .os] := by
  have cleared : s.onlyIn (s.setOutcomes .b []) [.pi, .os] :=
    State.onlyIn_mono (s.setOutcomes_onlyIn .b []) (by decide)
  exact ⟨rfl, rfl, State.onlyIn_trans cleared (State.onlyIn_mono (State.setPort_onlyIn _ _ _) (by decide))⟩

/-- What the entry into LOST writes before its examination (R166, R188). -/
theorem State.lostEntered_spec (s : State) :
    s.lostEntered.au.supervision = .lost ∧ s.lostEntered.au.remaining = none ∧ s.lostEntered.au.auto = true
      ∧ s.lostEntered.au.key = s.au.key ∧ (∀ p, s.lostEntered.slot p = none)
      ∧ (∀ e ∈ s.lostEntered.oq.entries, ¬(e.status = .waiting ∧ e.kind = .closeOp ∧ e.originator = .portB))
      ∧ s.accounted .b ≤ (s.lostEntered.portState .b).lost ∧ s.lostEntered.outcomes .b = []
      ∧ (∀ p, (s.lostEntered.portState p).changeFlag = true)
      ∧ (s.YardSound → s.inFlight ≠ none → s.lostEntered.inFlight ≠ none ∧ s.lostEntered.ss = s.ss)
      ∧ s.onlyIn s.lostEntered [.ss, .oq, .avc, .hmu, .upu, .au, .pi, .os] := by
  let a := s.setSupervision .lost none
  let b := a.endSelection .b (.cancelled .authorityLost)
  let c := b.removeCloses .b
  let d := c.autoOn
  have auA := s.setSupervision_au .lost none
  have onlyA := s.setSupervision_onlyIn .lost none
  have onlyB := a.endSelection_onlyIn .b (.cancelled .authorityLost)
  have onlyC := b.removeCloses_onlyIn .b
  obtain ⟨onlyD', auD, slots⟩ := (c.setAuto true).cancelSelections_spec
  have onlyD : c.onlyIn d [.au, .pi, .os] :=
    State.onlyIn_trans (State.onlyIn_mono (c.setAuto_onlyIn true) (by decide)) onlyD'
  obtain ⟨empty, lost, onlyE⟩ := d.discardB_spec
  have flags : d.discardB.onlyIn s.lostEntered [.pi] := State.setFlags_onlyIn _
  have au : s.lostEntered.au = d.au := (flags .au (by decide)).trans (onlyE .au (by decide))
  have oq : s.lostEntered.oq = c.oq :=
    (flags .oq (by decide)).trans ((onlyE .oq (by decide)).trans (onlyD .oq (by decide)))
  have before := (a.endSelection_authority .b (.cancelled .authorityLost)).trans (.of_au (onlyC .au (by decide)))
  have accounts : s.Accounts d := by
    have supervised : s.Accounts a := .of_same (fun p => by rw [State.setSupervision_portState]) (onlyA .os (by decide))
    have auto : c.Accounts (c.setAuto true) := .of_same (fun _ => rfl) rfl
    exact ((supervised.trans (a.endSelection_accounts .b _)).trans (b.removeEach_accounts _ _)).trans
      (auto.trans ((State.endSelection_accounts _ .a _).trans (State.endSelection_accounts _ .b _)))
  have supervision : d.au.supervision = c.au.supervision := by have h := congrArg AuState.supervision auD; exact h
  have remaining : d.au.remaining = c.au.remaining := by have h := congrArg AuState.remaining auD; exact h
  have key : d.au.key = c.au.key := by have h := congrArg AuState.key auD; exact h
  have auto : d.au.auto = true := by have h := congrArg AuState.auto auD; exact h
  refine ⟨?_, ?_, ?_, ?_, fun p => ?_, fun e mem => ?_, ?_, ?_, fun p => ?_, fun sound flying => ?_, ?_⟩
  · rw [au, supervision, before.supervision, auA]
  · rw [au, remaining, before.remaining, auA]
  · rw [au, auto]
  · rw [au, key, before.key, auA]
  · rw [State.slot_congr au]
    exact (slots p).1
  · rw [oq] at mem
    exact b.removeCloses_gone .b e mem
  · have counted : (s.lostEntered.portState .b).lost = d.accounted .b := lost
    rw [counted]
    exact accounts .b
  · exact empty
  · cases p <;> rfl
  · obtain ⟨-, queue, coils, -⟩ := sound
    have oqB : b.oq = s.oq := (onlyB .oq (by decide)).trans (onlyA .oq (by decide))
    have ssB : b.ss = s.ss := (onlyB .ss (by decide)).trans (onlyA .ss (by decide))
    have nodup : (b.oq.entries.map (·.step)).Nodup := by rw [oqB]; exact queue.1
    have flyingB : b.inFlight ≠ none := by rw [State.inFlight_congr (congrArg OqState.entries oqB)]; exact flying
    have ssC : c.ss = b.ss := by
      refine State.removeEach_ss (fun x hx p runs => ?_) _
      obtain ⟨mem, listed⟩ := List.mem_filter.mp hx
      simp only [decide_eq_true_eq] at listed
      rw [oqB] at mem
      rw [ssB] at runs
      exact coils.away queue.1 mem listed.1 p runs
    have ss : s.lostEntered.ss = c.ss :=
      (flags .ss (by decide)).trans ((onlyE .ss (by decide)).trans (onlyD .ss (by decide)))
    refine ⟨?_, ss.trans (ssC.trans ssB)⟩
    rw [State.inFlight_congr (congrArg OqState.entries oq)]
    exact State.removeCloses_inFlight nodup .b flyingB
  · exact State.onlyIn_trans (State.onlyIn_mono onlyA (by decide)) (State.onlyIn_trans (State.onlyIn_mono onlyB (by decide))
      (State.onlyIn_trans (State.onlyIn_mono onlyC (by decide)) (State.onlyIn_trans (State.onlyIn_mono onlyD (by decide))
        (State.onlyIn_trans (State.onlyIn_mono onlyE (by decide)) (State.onlyIn_mono flags (by decide))))))

/-- Settles O58: what is removed or emptied at the entry into LOST does not come back, and no count falls, whatever
the examination then dispatches. -/
theorem supervisionExpiresToLateThenLost : Obligations.SupervisionExpiresToLateThenLost := by
  intro s n free runs last
  have run := exec_supervisionTimerExpiry free runs last
  refine ⟨fun ok => ?_, fun late => ?_⟩
  · have expiry : s.superviseExpiry = s.setSupervision .late (some (s.y .tsup)) := by
      unfold State.superviseExpiry
      rw [ok]
    rw [expiry] at run
    have au := s.setSupervision_au .late (some (s.y .tsup))
    have only := s.setSupervision_onlyIn .late (some (s.y .tsup))
    refine ⟨_, run, au, fun p => ?_, ?_, only⟩
    · rw [State.setSupervision_portState]
      simp [ok]
    · have clock := only .clock (by decide)
      have held : (s.setSupervision .late (some (s.y .tsup))).clock.held = none :=
        (congrArg Clock.held clock).trans free
      rw [State.alm, held, State.alarmCondition, au]
      simp
  · have expiry : s.superviseExpiry = s.lostEntered.examineIfLeft s := by
      unfold State.superviseExpiry
      rw [late]
      rfl
    rw [expiry] at run
    obtain ⟨supervision, remaining, auto, key, slots, gone, counted, empty, flags, sound, only⟩ := s.lostEntered_spec
    have after := s.lostEntered.examineIfLeft_authority s
    have retained := s.lostEntered.examineIfLeft_retains s
    have lost : s.lostEntered.LosesOn (s.lostEntered.examineIfLeft s) := by
      unfold State.examineIfLeft
      split
      · exact fun _ => le_rfl
      · exact State.examine_losesOn _
    refine ⟨_, run, after.supervision.trans supervision, after.remaining.trans remaining, after.auto.trans auto,
      after.key.trans key, fun p => after.slot_none (slots p), fun remote => ?_, fun e mem close => ?_, ?_,
      fun yard flying => ?_, ?_, fun p => retained.flags p (flags p)⟩
    · rw [State.holder, after.key, key, remote, after.supervision, supervision]
    · exact gone e (s.lostEntered.examineIfLeft_waiting s e mem close.1) close
    · have kept := lost .b
      have bound : s.accounted .b ≤ 255 := Nat.min_le_left _ _
      have most : s.accounted .b ≤ min 255 (s.lostEntered.portState .b).lost := Nat.le_min.mpr ⟨bound, counted⟩
      exact (most.trans kept).trans (Nat.min_le_right _ _)
    · obtain ⟨flies, ss⟩ := sound yard flying
      rw [State.examineIfLeft_inFlight flies]
      exact ⟨empty, ss⟩
    · exact State.onlyIn_trans (State.onlyIn_mono only (by decide))
        (State.onlyIn_mono (State.examineIfLeft_onlyIn _ s) (by decide))

end Sys2Proof.Machine
end

section
/-!
SUPPORT and PROOF. An elapsed second in every order of its parts (R14, R71, R78, R83, R86, R164, R173; log entry 4).
-/
namespace Sys2Proof.Machine

/-! ## The monitors through a result (R130) -/

/-- No monitor turns active or inactive. -/
def State.SameActive (s t : State) : Prop := ∀ m, (t.monitor m).active = (s.monitor m).active

theorem State.SameActive.of_hmu {s t : State} (hmu : t.hmu = s.hmu) : s.SameActive t := fun m => by
  rw [State.monitor, hmu]
  rfl

theorem State.SameActive.trans {s t u : State} (h : s.SameActive t) (g : t.SameActive u) : s.SameActive u :=
  fun m => (g m).trans (h m)

theorem State.detuneResult_active (s : State) (k : StepId) (r : OutcomeResult) : s.SameActive (s.detuneResult k r) := by
  unfold State.detuneResult
  split
  · exact .of_hmu rfl
  · rename_i m _
    intro j
    by_cases same : m = j
    · subst same
      simp [State.monitor, State.setMonitor]
    · have apart : m.val ≠ j.val := fun h => same (Fin.ext h)
      simp [State.monitor, State.setMonitor, Vector.getElem_set_ne _ _ apart]

theorem State.entryResult_active (s : State) (e : Entry) (r : OutcomeResult) : s.SameActive (s.entryResult e r) := by
  unfold State.entryResult State.giveResult
  split
  · exact .of_hmu (s.insertOutcome_onlyIn _ _ .hmu (by decide))
  · exact .of_hmu (s.insertOutcome_onlyIn _ _ .hmu (by decide))
  · exact .of_hmu rfl
  · exact s.detuneResult_active _ _
  · exact .of_hmu rfl
  · exact .of_hmu rfl

theorem State.removeEach_active (s : State) (l : List Entry) (r : OutcomeResult) : s.SameActive (s.removeEach l r) := by
  induction l generalizing s with
  | nil => exact .of_hmu rfl
  | cons e l ih =>
    exact ((State.SameActive.of_hmu (s.dropEntry_onlyIn e.step .hmu (by decide))).trans (State.entryResult_active _ e r)).trans
      (ih _)

theorem State.fitEntry_active (s : State) (k : StepId) : s.SameActive (s.fitEntry k) := by
  have told : ∀ e r, s.SameActive ((s.dropEntry k).entryResult e r) := fun e r =>
    (State.SameActive.of_hmu (s.dropEntry_onlyIn k .hmu (by decide))).trans (State.entryResult_active _ e r)
  have asserted : ∀ e r b o, s.SameActive (((s.dropEntry k).entryResult e r).assertBkt k b o) := fun e r b o =>
    (told e r).trans (.of_hmu (State.assertBkt_onlyIn _ k b o .hmu (by decide)))
  unfold State.fitEntry
  split
  · exact .of_hmu rfl
  · split
    · exact .of_hmu rfl
    · split
      · split
        · exact .of_hmu rfl
        · exact told _ _
      · split
        · exact .of_hmu rfl
        · exact told _ _
      · split
        · exact .of_hmu rfl
        · split
          · exact asserted _ _ _ _
          · exact told _ _

theorem State.enter_active (s : State) (k : StepId) (n : StepState) (l : Option LockoutCause) (f : Option FailureCause) :
    s.SameActive (s.enter k n l f) := by
  have entered : s.SameActive (s.entered k n l f) := .of_hmu (s.entered_onlyIn k n l f .hmu (by decide))
  exact (entered.trans (State.fitEntry_active _ k)).trans (.of_hmu ((State.leaveClosed_onlyIn _ k _ .hmu (by decide)).trans
    (((State.voidOther_spec _ k).1 .hmu (by decide)).trans (State.leaveReady_onlyIn _ k .hmu (by decide)))))

/-- The detune condition is read from the settings and from what is active (R86). -/
theorem State.SameActive.detuneActive {s t : State} (h : s.SameActive t) (set : t.set = s.set) :
    t.detuneActive = s.detuneActive := by
  unfold State.detuneActive State.monitorActive
  rw [set]
  simp only [h _]

/-! ## The parts of a second that move no step but by a dispatch -/

/-- From `u` to `v` no step moves, no entry joins the list and no slot is filled. -/
structure State.MovesNothing (u v : State) : Prop where
  /-- the table of steps -/
  table : u.SameTable v
  /-- the entries -/
  sub : ∀ e ∈ v.oq.entries, e ∈ u.oq.entries
  /-- the clock, the measurement and the settings -/
  keeps : u.Keeps v
  /-- the slots -/
  slots : ∀ p, v.slot p = none ∨ v.slot p = u.slot p
  /-- the monitors -/
  active : u.SameActive v

theorem State.MovesNothing.refl (s : State) : s.MovesNothing s :=
  ⟨.refl s, fun _ h => h, .refl s, fun _ => .inr rfl, .of_hmu rfl⟩

theorem State.MovesNothing.trans {s t u : State} (h : s.MovesNothing t) (g : t.MovesNothing u) : s.MovesNothing u :=
  ⟨h.table.trans g.table, fun e mem => h.sub e (g.sub e mem), h.keeps.trans g.keeps,
    fun p => (g.slots p).elim .inl fun same => (h.slots p).imp same.trans same.trans, h.active.trans g.active⟩

/-- What writes the authority, the ports, the outcomes and the UPU alone, and fills no slot, moves nothing. -/
theorem State.MovesNothing.of_onlyIn {u v : State} (only : u.onlyIn v [.au, .pi, .os, .upu, .avc]) (keeps : u.Keeps v)
    (slots : ∀ p, v.slot p = none ∨ v.slot p = u.slot p) : u.MovesNothing v :=
  ⟨.of_ss (only .ss (by decide)), fun e mem => by
    rw [only .oq (by decide)] at mem
    exact mem, keeps, slots, .of_hmu (only .hmu (by decide))⟩

theorem State.endSelection_movesNothing (s : State) (p : Port) (r : OutcomeResult) : s.MovesNothing (s.endSelection p r) :=
  .of_onlyIn (State.onlyIn_mono (s.endSelection_onlyIn p r) (by decide)) (s.endSelection_keeps p r)
    (s.endSelection_authority p r).slots

theorem State.removeEach_movesNothing (s : State) (l : List Entry) (r : OutcomeResult) :
    s.MovesNothing (s.removeEach l r) :=
  ⟨s.removeEach_table l r, fun _ mem => State.removeEach_sub r mem, s.removeEach_keeps l r,
    fun p => .inr (State.slot_congr (s.removeEach_onlyIn l r .au (by decide)) p), s.removeEach_active l r⟩

theorem State.setSupervision_movesNothing (s : State) (v : Supervision) (n : Option Nat) :
    s.MovesNothing (s.setSupervision v n) :=
  .of_onlyIn (State.onlyIn_mono (s.setSupervision_onlyIn v n) (by decide)) (s.setSupervision_keeps v n) fun p => .inr (by
    cases p <;> rw [State.slot, State.setSupervision_au] <;> rfl)

theorem State.autoOn_movesNothing (s : State) : s.MovesNothing s.autoOn := by
  have auto : s.MovesNothing (s.setAuto true) :=
    .of_onlyIn (State.onlyIn_mono (s.setAuto_onlyIn true) (by decide)) ⟨rfl, rfl, rfl, rfl, rfl⟩ fun p => .inr (by
      cases p <;> rfl)
  exact auto.trans ((State.endSelection_movesNothing _ .a _).trans (State.endSelection_movesNothing _ .b _))

theorem State.discardB_movesNothing (s : State) : s.MovesNothing s.discardB :=
  .of_onlyIn (State.onlyIn_mono s.discardB_spec.2.2 (by decide)) s.discardB_keeps fun p => .inr
    (State.slot_congr (s.discardB_spec.2.2 .au (by decide)) p)

theorem State.setFlags_movesNothing (s : State) : s.MovesNothing s.setFlags :=
  .of_onlyIn (State.onlyIn_mono s.setFlags_onlyIn (by decide)) s.setFlags_keeps fun p => .inr (by cases p <;> rfl)

theorem State.lostEntered_movesNothing (s : State) : s.MovesNothing s.lostEntered :=
  (((((s.setSupervision_movesNothing .lost none).trans (State.endSelection_movesNothing _ .b _)).trans
    (State.removeEach_movesNothing _ _ _)).trans (State.autoOn_movesNothing _)).trans
    (State.discardB_movesNothing _)).trans (State.setFlags_movesNothing _)

theorem State.expireSelection_movesNothing (s : State) (p : Port) : s.MovesNothing (s.expireSelection p) := by
  unfold State.expireSelection
  split
  · exact .refl s
  · split
    · exact s.endSelection_movesNothing p _
    · exact .refl s

/-- From `u` to `v` no step moves but one that is dispatched, and no slot is filled. -/
structure State.DispatchesOnly (u v : State) : Prop where
  /-- a step's record -/
  record : ∀ k, v.stepRec k = u.stepRec k ∨ ∃ o, v.stepRec k = recordAfter (u.stepRec k) (movingState o) none none
  /-- a step without an entry -/
  still : ∀ k, u.entryOf k = none → v.stepRec k = u.stepRec k ∧ v.entryOf k = none
  /-- the clock, the measurement and the settings -/
  keeps : u.Keeps v
  /-- the slots -/
  slots : ∀ p, v.slot p = none ∨ v.slot p = u.slot p
  /-- the monitors -/
  active : u.SameActive v

theorem State.MovesNothing.entryOf_none {u v : State} (h : u.MovesNothing v) {k : StepId} (free : u.entryOf k = none) :
    v.entryOf k = none :=
  State.entryOf_none_iff.mpr fun e mem => State.entryOf_none_iff.mp free e (h.sub e mem)

theorem State.MovesNothing.dispatchesOnly {u v : State} (h : u.MovesNothing v) : u.DispatchesOnly v :=
  ⟨fun k => .inl (h.table.stepRec k), fun k free => ⟨h.table.stepRec k, h.entryOf_none free⟩, h.keeps, h.slots, h.active⟩

/-- The examination after it. -/
theorem State.MovesNothing.examineIfLeft {u v : State} (h : u.MovesNothing v) (b : State) :
    u.DispatchesOnly (v.examineIfLeft b) := by
  unfold State.examineIfLeft
  split
  · exact h.dispatchesOnly
  · refine ⟨fun k => ?_, fun k free => ?_, h.keeps.trans v.examine_keeps, fun p => ?_,
      h.active.trans (.of_hmu (v.examine_onlyIn .hmu (by decide)))⟩
    · rw [← h.table.stepRec k]
      exact v.examine_record k
    · rw [← h.table.stepRec k]
      exact State.examine_of_entryOf_none (h.entryOf_none free)
    · exact (v.examine_authority.slots p).elim .inl fun same => (h.slots p).imp same.trans same.trans

theorem State.superviseSecond_dispatchesOnly (s : State) : s.DispatchesOnly s.superviseSecond := by
  unfold State.superviseSecond
  split
  · exact (State.MovesNothing.refl s).dispatchesOnly
  · split
    · unfold State.superviseExpiry
      split
      · exact (s.setSupervision_movesNothing _ _).dispatchesOnly
      · exact s.lostEntered_movesNothing.examineIfLeft s
      · exact (s.setSupervision_movesNothing _ _).dispatchesOnly
    · refine State.MovesNothing.dispatchesOnly (.of_onlyIn (fun b hb => ?_) ?_ fun p => .inr ?_)
      · cases b <;> simp_all [State.sameBlock]
      · exact ⟨rfl, rfl, rfl, rfl, rfl⟩
      · cases p <;> rfl

/-- Three of the four parts of a second move no step but one that they have dispatched (R71, R164, R173). -/
theorem State.secondPart_dispatchesOnly (s : State) {p : SecondPart} (other : p ≠ .cooldown) :
    s.DispatchesOnly (s.secondPart p) := by
  cases p with
  | cooldown => exact absurd rfl other
  | stale => exact (s.removeEach_movesNothing _ _).examineIfLeft s
  | selections => exact ((s.expireSelection_movesNothing .a).trans (State.expireSelection_movesNothing _ .b)).dispatchesOnly
  | supervision => exact s.superviseSecond_dispatchesOnly

/-! ## The Cooldown Unit's part (R14, R78, R83, R86) -/

/-- A step's discharge time after the count of a second (R78). -/
def countedDischarge (r : StepRecord) : Nat :=
  if r.state = some .discharging ∨ r.state = some .lockout ∨ r.state = some .out then r.discharge - 1 else r.discharge

/-- A step's record after the counts of a second (R78, R83, R86). -/
def countedRecord (detune : Bool) (now window : Nat) (r : StepRecord) : StepRecord :=
  { r with
    discharge := countedDischarge r
    harmonicHold := if detune then r.harmonicHold else r.harmonicHold - 1
    closeHistory := ageHistory now window r.closeHistory }

/-- A step's record after the discharge ends of a second (R14). -/
def endedRecord (r : StepRecord) : StepRecord :=
  if r.state = some .discharging ∧ r.discharge = 0 then recordAfter r .ready none none else r

/-- What writes one step's record and nothing else. -/
structure State.WritesStep (s t : State) (k : StepId) (r : StepRecord) : Prop where
  /-- the records -/
  record : ∀ j, t.stepRec j = if j = k then r else s.stepRec j
  /-- the blocks that differ -/
  only : s.onlyIn t [.ss]
  /-- the clock, the measurement and the settings -/
  keeps : s.Keeps t

theorem State.modStep_writes (s : State) (k : StepId) (f : StepRecord → StepRecord) :
    s.WritesStep (s.modStep k f) k (f (s.stepRec k)) := by
  refine ⟨fun j => ?_, s.modStep_onlyIn k f, s.modStep_keeps k f⟩
  by_cases same : j = k
  · subst same
    simp
  · simp [same]

theorem State.countDischarge_writes (s : State) (k : StepId) :
    s.WritesStep (s.countDischarge k) k { s.stepRec k with discharge := countedDischarge (s.stepRec k) } := by
  have counted := s.modStep_writes k (fun r => { r with discharge := r.discharge - 1 })
  unfold State.countDischarge countedDischarge
  split
  · rename_i st
    simpa [st] using counted
  · rename_i st
    simpa [st] using counted
  · rename_i st
    simpa [st] using counted
  · rename_i a b c
    rw [if_neg (by rintro (h | h | h) <;> contradiction)]
    exact ⟨fun j => by by_cases h : j = k <;> simp [h], s.onlyIn_refl _, .refl s⟩

theorem State.countHold_writes (s : State) (k : StepId) :
    s.WritesStep (s.countHold k) k
      { s.stepRec k with
        harmonicHold := if s.detuneActive then (s.stepRec k).harmonicHold else (s.stepRec k).harmonicHold - 1 } := by
  unfold State.countHold
  split
  · exact ⟨fun j => by by_cases h : j = k <;> simp [h], s.onlyIn_refl _, .refl s⟩
  · exact s.modStep_writes k _

theorem State.ageStep_writes (s : State) (k : StepId) :
    s.WritesStep (s.ageStep k) k
      { s.stepRec k with closeHistory := ageHistory s.clock.uptime s.rateWindow (s.stepRec k).closeHistory } :=
  s.modStep_writes k _

/-- The counts of one step (R78, R83, R86). -/
def State.countStep (s : State) (k : StepId) : State := ((s.countDischarge k).countHold k).ageStep k

theorem State.countStep_writes (s : State) (k : StepId) :
    s.WritesStep (s.countStep k) k (countedRecord s.detuneActive s.clock.uptime s.rateWindow (s.stepRec k)) := by
  have a := s.countDischarge_writes k
  have b := (s.countDischarge k).countHold_writes k
  have c := ((s.countDischarge k).countHold k).ageStep_writes k
  have detune : (s.countDischarge k).detuneActive = s.detuneActive :=
    (State.SameActive.of_hmu (a.only .hmu (by decide))).detuneActive a.keeps.set
  have kept := a.keeps.trans b.keeps
  have window : ((s.countDischarge k).countHold k).rateWindow = s.rateWindow := by
    rw [State.rateWindow, State.y, kept.set]
    rfl
  have own : ((s.countDischarge k).countHold k).stepRec k =
      { s.stepRec k with
        discharge := countedDischarge (s.stepRec k)
        harmonicHold := if s.detuneActive then (s.stepRec k).harmonicHold else (s.stepRec k).harmonicHold - 1 } := by
    rw [b.record, if_pos rfl, a.record, if_pos rfl, detune]
  refine ⟨fun j => ?_, State.onlyIn_trans a.only (State.onlyIn_trans b.only c.only), kept.trans c.keeps⟩
  show (((s.countDischarge k).countHold k).ageStep k).stepRec j = _
  by_cases same : j = k
  · have aged := (c.record j).trans (if_pos same)
    rw [own, kept.clock, window] at aged
    rw [if_pos same]
    exact aged
  · rw [if_neg same]
    exact (c.record j).trans ((if_neg same).trans ((b.record j).trans ((if_neg same).trans
      ((a.record j).trans (if_neg same)))))

/-- The counts of a list of steps. -/
theorem State.countSteps_spec (l : List StepId) (nodup : l.Nodup) (s : State) :
    (∀ j, (l.foldl State.countStep s).stepRec j =
        if j ∈ l then countedRecord s.detuneActive s.clock.uptime s.rateWindow (s.stepRec j) else s.stepRec j)
      ∧ s.onlyIn (l.foldl State.countStep s) [.ss] ∧ s.Keeps (l.foldl State.countStep s) := by
  induction l generalizing s with
  | nil => exact ⟨fun j => by simp, s.onlyIn_refl _, .refl s⟩
  | cons k l ih =>
    obtain ⟨fresh, nodup'⟩ := List.nodup_cons.mp nodup
    obtain ⟨records, only, keeps⟩ := ih nodup' (s.countStep k)
    have one := s.countStep_writes k
    have detune : (s.countStep k).detuneActive = s.detuneActive :=
      (State.SameActive.of_hmu (one.only .hmu (by decide))).detuneActive one.keeps.set
    have window : (s.countStep k).rateWindow = s.rateWindow := by
      rw [State.rateWindow, State.y, one.keeps.set]
      rfl
    refine ⟨fun j => ?_, State.onlyIn_trans one.only only, one.keeps.trans keeps⟩
    rw [List.foldl_cons, records, detune, window, one.keeps.clock, one.record]
    by_cases same : j = k
    · subst same
      simp [fresh]
    · simp [same]

/-- A discharge end of one step (R14): it joins no selection and fills no slot. -/
theorem State.endDischarge_spec (s : State) (k : StepId) :
    (∀ j, (s.endDischarge k).stepRec j = if j = k then endedRecord (s.stepRec k) else s.stepRec j)
      ∧ s.Keeps (s.endDischarge k) ∧ (s.endDischarge k).au = s.au ∧ s.SameActive (s.endDischarge k)
      ∧ ∀ e ∈ (s.endDischarge k).oq.entries, e ∈ s.oq.entries := by
  unfold State.endDischarge endedRecord
  split
  · have ready : (((s.entered k .ready none none).fitEntry k).stepRec k).state = some .ready := by
      rw [(State.fitEntry_table _ k).stepRec]
      exact (s.entered_spec k .ready none none).2
    have stays : ((s.entered k .ready none none).fitEntry k).leaveReady k = (s.entered k .ready none none).fitEntry k :=
      if_pos ready
    have au : (s.enter k .ready none none).au = s.au := by
      show (((((s.entered k .ready none none).fitEntry k).leaveReady k).voidOther k).leaveClosed k _).au = s.au
      rw [stays, State.leaveClosed_onlyIn _ k _ .au (by decide), (State.voidOther_spec _ k).1 .au (by decide),
        State.fitEntry_onlyIn _ k .au (by decide), s.entered_onlyIn k _ _ _ .au (by decide)]
    refine ⟨(s.enter_spec k .ready none none).1, s.enter_keeps k _ _ _, au, s.enter_active k _ _ _, fun e mem => ?_⟩
    rcases s.enter_oq k .ready none none with same | left
    · rwa [same] at mem
    · rw [left] at mem
      exact (List.mem_filter.mp mem).1
  · exact ⟨fun j => by by_cases h : j = k <;> simp [h], .refl s, rfl, .of_hmu rfl, fun _ h => h⟩

theorem State.endDischarges_spec (l : List StepId) (nodup : l.Nodup) (s : State) :
    (∀ j, (l.foldl State.endDischarge s).stepRec j = if j ∈ l then endedRecord (s.stepRec j) else s.stepRec j)
      ∧ s.Keeps (l.foldl State.endDischarge s) ∧ (l.foldl State.endDischarge s).au = s.au
      ∧ s.SameActive (l.foldl State.endDischarge s)
      ∧ ∀ e ∈ (l.foldl State.endDischarge s).oq.entries, e ∈ s.oq.entries := by
  induction l generalizing s with
  | nil => exact ⟨fun j => by simp, .refl s, rfl, .of_hmu rfl, fun _ h => h⟩
  | cons k l ih =>
    obtain ⟨fresh, nodup'⟩ := List.nodup_cons.mp nodup
    obtain ⟨records, keeps, au, active, sub⟩ := ih nodup' (s.endDischarge k)
    obtain ⟨one, keepsOne, auOne, activeOne, subOne⟩ := s.endDischarge_spec k
    refine ⟨fun j => ?_, keepsOne.trans keeps, au.trans auOne, activeOne.trans active, fun e mem => subOne e (sub e mem)⟩
    rw [List.foldl_cons, records, one]
    by_cases same : j = k
    · subst same
      simp [fresh]
    · simp [same]

/-- The Cooldown Unit's part of a second (R14, R78, R83, R86). -/
theorem State.cooldownSecond_spec (s : State) :
    (∀ k, s.cooldownSecond.stepRec k =
        endedRecord (countedRecord s.detuneActive s.clock.uptime s.rateWindow (s.stepRec k)))
      ∧ s.Keeps s.cooldownSecond ∧ s.cooldownSecond.au = s.au ∧ s.SameActive s.cooldownSecond
      ∧ ∀ e ∈ s.cooldownSecond.oq.entries, e ∈ s.oq.entries := by
  have nodup : allSteps.Nodup := by decide
  obtain ⟨counted, only, keepsC⟩ := State.countSteps_spec allSteps nodup s
  have two : s.cooldownSecond = allSteps.foldl State.endDischarge (allSteps.foldl State.countStep s) := rfl
  rw [two]
  generalize allSteps.foldl State.countStep s = c at counted only keepsC
  obtain ⟨ended, keepsE, au, active, sub⟩ := State.endDischarges_spec allSteps nodup c
  refine ⟨fun k => ?_, keepsC.trans keepsE, au.trans (only .au (by decide)),
    (State.SameActive.of_hmu (only .hmu (by decide))).trans active, fun e mem => ?_⟩
  · have record := (ended k).trans (if_pos (mem_allSteps k))
    rw [counted, if_pos (mem_allSteps k)] at record
    exact record
  · have before := sub e mem
    rwa [only .oq (by decide)] at before

/-! ## The parts one after another -/

/-- Two records hold the same of what a second does not touch. -/
structure UntouchedBySecond (r q : StepRecord) : Prop where
  /-- the position -/
  position : q.position = r.position
  /-- manual_hold -/
  manualHold : q.manualHold = r.manualHold
  /-- close_count -/
  closeCount : q.closeCount = r.closeCount
  /-- learned_rise -/
  learnedRise : q.learnedRise = r.learnedRise
  /-- the compensation -/
  compensation : q.compensation = r.compensation

theorem UntouchedBySecond.trans {r q p : StepRecord} (h : UntouchedBySecond r q) (g : UntouchedBySecond q p) :
    UntouchedBySecond r p :=
  ⟨g.position.trans h.position, g.manualHold.trans h.manualHold, g.closeCount.trans h.closeCount,
    g.learnedRise.trans h.learnedRise, g.compensation.trans h.compensation⟩

theorem recordAfter_untouched (r : StepRecord) (n : StepState) (l : Option LockoutCause) (f : Option FailureCause) :
    UntouchedBySecond r (recordAfter r n l f) := by
  unfold recordAfter
  split <;> exact ⟨rfl, rfl, rfl, rfl, rfl⟩

theorem endedRecord_untouched (r : StepRecord) : UntouchedBySecond r (endedRecord r) := by
  unfold endedRecord
  split
  · exact recordAfter_untouched r _ _ _
  · exact ⟨rfl, rfl, rfl, rfl, rfl⟩

/-- A discharge end leaves the counts. -/
theorem endedRecord_counts (r : StepRecord) :
    (endedRecord r).discharge = r.discharge ∧ (endedRecord r).harmonicHold = r.harmonicHold
      ∧ (endedRecord r).closeHistory = r.closeHistory := by
  unfold endedRecord
  split
  · obtain ⟨-, -, history, hold, -⟩ := recordAfter_kept r .ready none none
    exact ⟨recordAfter_discharge_of_ne r (by decide) none none, hold, history⟩
  · exact ⟨rfl, rfl, rfl⟩

/-- What holds of the state `u` that the parts in `done` have made of the state `b` at the tick of the second. -/
structure State.SecondRun (b u : State) (done : List SecondPart) : Prop where
  /-- the yard is sound -/
  yard : u.YardSound
  /-- the clock and the settings -/
  keeps : b.Keeps u
  /-- the monitors -/
  active : b.SameActive u
  /-- what no part touches -/
  untouched : ∀ k, UntouchedBySecond (b.stepRec k) (u.stepRec k)
  /-- the discharge times (R78) -/
  discharge : ∀ k, (u.stepRec k).discharge =
    if .cooldown ∈ done then countedDischarge (b.stepRec k) else (b.stepRec k).discharge
  /-- the harmonic holds (R86) -/
  hold : ∀ k, (u.stepRec k).harmonicHold =
    if .cooldown ∈ done ∧ b.detuneActive = false then (b.stepRec k).harmonicHold - 1 else (b.stepRec k).harmonicHold
  /-- the close histories (R83) -/
  history : ∀ k, (u.stepRec k).closeHistory =
    if .cooldown ∈ done then ageHistory b.clock.uptime b.rateWindow (b.stepRec k).closeHistory
    else (b.stepRec k).closeHistory
  /-- a DISCHARGING step has no entry, and is READY when its discharge has ended (R14) -/
  discharging : ∀ k, (b.stepRec k).state = some .discharging → u.entryOf k = none
    ∧ (u.stepRec k).state = some (if .cooldown ∈ done ∧ (b.stepRec k).discharge ≤ 1 then .ready else .discharging)
  /-- until the count, the same steps have their discharge time counted -/
  counts : .cooldown ∉ done → ∀ k, countedDischarge (u.stepRec k) = countedDischarge (b.stepRec k)
  /-- the slots -/
  slots : ∀ p, u.slot p = none ∨ u.slot p = b.slot p
  /-- the expired selections (R173) -/
  expired : .selections ∈ done → ∀ p x, b.slot p = some x → x.expiry ≤ b.clock.uptime → u.slot p = none
  /-- a running supervision timer (R164) -/
  timer : ∀ n, b.au.remaining = some n → 1 < n →
    u.au.remaining = some (if .supervision ∈ done then n - 1 else n) ∧ u.au.supervision = b.au.supervision
  /-- a stopped supervision timer -/
  stopped : b.au.remaining = none → u.au.remaining = none

theorem State.SecondRun.start {b : State} (yard : b.YardSound) : b.SecondRun b [] := by
  refine ⟨yard, .refl b, .of_hmu rfl, fun _ => ⟨rfl, rfl, rfl, rfl, rfl⟩, fun _ => rfl, fun k => by simp, fun _ => rfl,
    fun k st => ⟨yard.2.1.entryOf_none st (by simp), by simpa using st⟩, fun _ _ => rfl, fun _ => .inr rfl,
    fun h => absurd h (by simp), fun n runs _ => ⟨by simpa using runs, rfl⟩, id⟩

/-- A part of a second keeps the yard sound. -/
theorem State.secondPart_yardSound {u : State} (yard : u.YardSound) (p : SecondPart) : (u.secondPart p).YardSound := by
  obtain ⟨orders, queue, coils, selections⟩ := yard
  have kept := u.secondPart_keepsSound p
  have after := u.secondPart_keepsYard p False ⟨queue, coils, False.elim⟩
  exact ⟨kept.orders orders, after.queue, after.coils, kept.selections selections⟩

/-- The Cooldown Unit's part (R14, R78, R83, R86). -/
theorem State.SecondRun.cooldown {b u : State} {done : List SecondPart} (r : b.SecondRun u done)
    (fresh : .cooldown ∉ done) : b.SecondRun u.cooldownSecond (done ++ [.cooldown]) := by
  obtain ⟨records, keeps, au, active, sub⟩ := u.cooldownSecond_spec
  have detune : u.detuneActive = b.detuneActive := r.active.detuneActive r.keeps.set
  have window : u.rateWindow = b.rateWindow := by
    rw [State.rateWindow, State.y, r.keeps.set]
    rfl
  have slot : ∀ p, u.cooldownSecond.slot p = u.slot p := State.slot_congr au
  have part : u.secondPart .cooldown = u.cooldownSecond := rfl
  have yard := State.secondPart_yardSound r.yard .cooldown
  rw [part] at yard
  refine ⟨yard, r.keeps.trans keeps, r.active.trans active, fun k => ?_, fun k => ?_,
    fun k => ?_, fun k => ?_, fun k st => ⟨?_, ?_⟩, fun no => absurd (by simp) no, fun p => ?_, fun ended p x => ?_,
    fun n => ?_, fun none_ => ?_⟩
  · rw [records]
    have counted : UntouchedBySecond (u.stepRec k)
        (countedRecord u.detuneActive u.clock.uptime u.rateWindow (u.stepRec k)) := ⟨rfl, rfl, rfl, rfl, rfl⟩
    exact (r.untouched k).trans (counted.trans (endedRecord_untouched _))
  · rw [records, (endedRecord_counts _).1, if_pos (by simp), ← r.counts fresh k]
    rfl
  · have before := r.hold k
    rw [if_neg fun both => fresh both.1] at before
    rw [records, (endedRecord_counts _).2.1]
    simp only [countedRecord, detune, before]
    cases b.detuneActive <;> simp
  · have before := r.history k
    rw [if_neg fresh] at before
    rw [records, (endedRecord_counts _).2.2, if_pos (by simp)]
    simp only [countedRecord, before, window, r.keeps.clock]
  · exact State.entryOf_none_iff.mpr fun e mem =>
      State.entryOf_none_iff.mp (r.discharging k st).1 e (sub e mem)
  · have state := (r.discharging k st).2
    have before := r.discharge k
    rw [if_neg fun both => fresh both.1] at state
    rw [if_neg fresh] at before
    rw [records]
    by_cases ends : (b.stepRec k).discharge ≤ 1
    · have zero : (u.stepRec k).discharge - 1 = 0 := by omega
      rw [if_pos ⟨by simp, ends⟩, endedRecord, if_pos]
      · exact (recordAfter_state _ .ready none none).1
      · exact ⟨state, by simp [countedRecord, countedDischarge, state, zero]⟩
    · have left : (u.stepRec k).discharge - 1 ≠ 0 := by omega
      rw [if_neg fun both => ends both.2, endedRecord, if_neg]
      · exact state
      · rintro ⟨-, none_⟩
        simp only [countedRecord, countedDischarge, state, true_or, if_true] at none_
        exact left none_
  · rw [slot]
    exact r.slots p
  · rw [slot]
    exact r.expired (by simpa using ended) p x
  · rw [au]
    simpa using r.timer n
  · rw [au]
    exact r.stopped none_

theorem State.expireSelection_authority (s : State) (p : Port) : s.SameAuthority (s.expireSelection p) := by
  unfold State.expireSelection
  split
  · exact .of_au rfl
  · split
    · exact s.endSelection_authority p _
    · exact .of_au rfl

/-- A slot whose expiry time is reached is emptied (R173). -/
theorem State.expireSelection_slot {s : State} {p : Port}
    (old : ∀ x, s.slot p = some x → x.expiry ≤ s.clock.uptime) : (s.expireSelection p).slot p = none := by
  unfold State.expireSelection
  split
  · assumption
  · rename_i x filled
    rw [if_pos (old x filled), State.endSelection_slot, if_pos rfl]

/-- The selections' part of a second (R173). -/
theorem State.selectionSecond_slot {s : State} {p : Port}
    (old : ∀ x, s.slot p = some x → x.expiry ≤ s.clock.uptime) : s.selectionSecond.slot p = none := by
  have kept := (s.expireSelection_movesNothing .a).keeps
  cases p with
  | a =>
    have first := State.expireSelection_slot old
    exact (State.expireSelection_authority _ .b).slot_none first
  | b =>
    refine State.expireSelection_slot fun x filled => ?_
    rw [kept.clock]
    rcases (s.expireSelection_movesNothing .a).slots .b with empty | same
    · rw [empty] at filled
      cases filled
    · exact old x (same.symm.trans filled)

/-- Neither the removals nor the selections touch supervision. -/
theorem State.secondPart_authority (s : State) {p : SecondPart} (other : p ≠ .supervision) :
    s.SameAuthority (s.secondPart p) := by
  cases p with
  | cooldown => exact .of_au s.cooldownSecond_spec.2.2.1
  | stale =>
    exact (State.SameAuthority.of_au (s.removeEach_onlyIn _ _ .au (by decide))).trans (State.examineIfLeft_authority _ s)
  | selections => exact (s.expireSelection_authority .a).trans (State.expireSelection_authority _ .b)
  | supervision => exact absurd rfl other

/-- The supervision timer's part of a second (R164). -/
theorem State.superviseSecond_au (s : State) :
    (s.au.remaining = none → s.superviseSecond = s)
      ∧ ∀ n, s.au.remaining = some n → 1 < n →
          s.superviseSecond.au.remaining = some (n - 1) ∧ s.superviseSecond.au.supervision = s.au.supervision := by
  refine ⟨fun none_ => by rw [State.superviseSecond, none_], fun n runs more => ?_⟩
  have counted : s.superviseSecond = { s with au := { s.au with remaining := some (n - 1) } } := by
    rw [State.superviseSecond, runs]
    exact if_neg (Nat.not_le.mpr more)
  rw [counted]
  exact ⟨rfl, rfl⟩

/-- The discharge time of a step that a part may have dispatched is counted as before (R78). -/
theorem State.DispatchesOnly.countedDischarge {u v : State} (d : u.DispatchesOnly v) (queue : u.QueueSound) (k : StepId) :
    Machine.countedDischarge (v.stepRec k) = Machine.countedDischarge (u.stepRec k) := by
  by_cases counts : (u.stepRec k).state = some .discharging ∨ (u.stepRec k).state = some .lockout
      ∨ (u.stepRec k).state = some .out
  · have free : u.entryOf k = none := by
      rcases counts with st | st | st
      · exact queue.entryOf_none st (by simp)
      · exact queue.entryOf_none st (by simp)
      · exact queue.entryOf_none st (by simp)
    rw [(d.still k free).1]
  · rcases d.record k with same | ⟨o, moved⟩
    · rw [same]
    · obtain ⟨notClosed, notReady, notDischarging⟩ := movingState_ne o
      have state := (recordAfter_state (u.stepRec k) (movingState o) none none).1
      have away : ¬((v.stepRec k).state = some .discharging ∨ (v.stepRec k).state = some .lockout
          ∨ (v.stepRec k).state = some .out) := by
        rw [moved, state]
        cases o <;> simp [movingState]
      rw [Machine.countedDischarge, Machine.countedDischarge, if_neg away, if_neg counts, moved,
        recordAfter_discharge_of_ne _ notClosed]

/-- Each of the other parts (R71, R164, R173). -/
theorem State.SecondRun.other {b u : State} {done : List SecondPart} (r : b.SecondRun u done) {p : SecondPart}
    (other : p ≠ .cooldown) (fresh : p ∉ done) : b.SecondRun (u.secondPart p) (done ++ [p]) := by
  have d := u.secondPart_dispatchesOnly other
  have cooled : .cooldown ∈ done ++ [p] ↔ .cooldown ∈ done := by simp [Ne.symm other]
  have counts : ∀ k, ((u.secondPart p).stepRec k).discharge = (u.stepRec k).discharge
      ∧ ((u.secondPart p).stepRec k).harmonicHold = (u.stepRec k).harmonicHold
      ∧ ((u.secondPart p).stepRec k).closeHistory = (u.stepRec k).closeHistory
      ∧ UntouchedBySecond (u.stepRec k) ((u.secondPart p).stepRec k) := fun k => by
    rcases d.record k with same | ⟨o, moved⟩
    · rw [same]
      exact ⟨rfl, rfl, rfl, rfl, rfl, rfl, rfl, rfl⟩
    · rw [moved]
      obtain ⟨-, -, history, hold, -⟩ := recordAfter_kept (u.stepRec k) (movingState o) none none
      exact ⟨recordAfter_discharge_of_ne _ (movingState_ne o).1 none none, hold, history, recordAfter_untouched _ _ _ _⟩
  refine ⟨State.secondPart_yardSound r.yard p, r.keeps.trans d.keeps, r.active.trans d.active,
    fun k => (r.untouched k).trans (counts k).2.2.2, fun k => ?_, fun k => ?_, fun k => ?_, fun k st => ?_,
    fun no k => ?_, fun q => ?_, fun ended q x filled old => ?_, fun n runs more => ?_, fun none_ => ?_⟩
  · simp only [cooled]
    exact (counts k).1.trans (r.discharge k)
  · simp only [cooled]
    exact (counts k).2.1.trans (r.hold k)
  · simp only [cooled]
    exact (counts k).2.2.1.trans (r.history k)
  · simp only [cooled]
    obtain ⟨free, state⟩ := r.discharging k st
    obtain ⟨same, still⟩ := d.still k free
    exact ⟨still, by rw [same, state]⟩
  · rw [d.countedDischarge r.yard.2.1 k]
    exact r.counts (fun h => no (cooled.mpr h)) k
  · exact (d.slots q).elim .inl fun same => (r.slots q).imp same.trans same.trans
  · by_cases now : p = .selections
    · subst now
      refine State.selectionSecond_slot (s := u) fun y held => ?_
      rw [r.keeps.clock]
      rcases r.slots q with empty | same
      · rw [empty] at held
        cases held
      · obtain rfl := Option.some.inj (held.symm.trans (same.trans filled))
        exact old
    · have before := r.expired (by simpa [Ne.symm now] using ended) q x filled old
      exact (d.slots q).elim id fun same => same.trans before
  · obtain ⟨runs', supervision⟩ := r.timer n runs more
    by_cases now : p = .supervision
    · subst now
      rw [if_neg fresh] at runs'
      obtain ⟨counted, same⟩ := u.superviseSecond_au.2 n runs' more
      rw [if_pos (by simp)]
      exact ⟨counted, same.trans supervision⟩
    · have authority := u.secondPart_authority now
      have still : .supervision ∈ done ++ [p] ↔ .supervision ∈ done := by simp [Ne.symm now]
      simp only [still]
      exact ⟨authority.remaining.trans runs', authority.supervision.trans supervision⟩
  · have before := r.stopped none_
    by_cases now : p = .supervision
    · subst now
      have same : u.secondPart .supervision = u := u.superviseSecond_au.1 before
      rw [same]
      exact before
    · exact (u.secondPart_authority now).remaining.trans before

theorem State.SecondRun.foldl {b : State} (l : List SecondPart) {u : State} {done : List SecondPart}
    (r : b.SecondRun u done) (nodup : (done ++ l).Nodup) :
    b.SecondRun (l.foldl (fun t p => t.secondPart p) u) (done ++ l) := by
  induction l generalizing u done with
  | nil => simpa using r
  | cons p l ih =>
    have fresh : p ∉ done := fun mem => List.disjoint_of_nodup_append nodup mem (List.mem_cons_self ..)
    have next : b.SecondRun (u.secondPart p) (done ++ [p]) := by
      by_cases cooldown : p = .cooldown
      · subst cooldown
        exact r.cooldown fresh
      · exact r.other cooldown fresh
    have rest := ih next (by simpa using nodup)
    simpa using rest

/-- The order of a second takes each part once. -/
theorem secondOrder_spec (l : List SecondPart) : (secondOrder l).Nodup ∧ ∀ p, p ∈ secondOrder l := by
  refine ⟨?_, fun p => ?_⟩
  · refine List.Nodup.append l.nodup_dedup (List.Nodup.filter _ (by decide)) fun p listed left => ?_
    simp only [List.mem_filter, decide_eq_true_eq] at left
    exact left.2 (List.mem_dedup.mp listed)
  · by_cases listed : p ∈ l
    · exact List.mem_append_left _ (List.mem_dedup.mpr listed)
    · refine List.mem_append_right _ (List.mem_filter.mpr ⟨?_, by simpa using listed⟩)
      cases p <;> decide

/-- Settles O56: what each part does is kept by the parts after it, so that the order does not matter. -/
theorem elapsedSecondCountsDown : Obligations.ElapsedSecondCountsDown := by
  intro parts s sound free
  have run : exec (.elapsedSecond parts) s = .next (s.secondElapses parts) :=
    congrArg Host.Outcome.next (s.unlessHeld_free _ free)
  have ticked : s.tick.YardSound := by
    have same : s.SameYard s.tick := .of_blocks rfl rfl rfl rfl
    have yard := same.yard (d := False) ⟨sound.2.1, sound.2.2.1, False.elim⟩
    exact ⟨sound.1, yard.queue, yard.coils, sound.2.2.2⟩
  obtain ⟨nodup, all⟩ := secondOrder_spec parts
  have r := State.SecondRun.foldl (secondOrder parts) (State.SecondRun.start ticked) nodup
  simp only [List.nil_append] at r
  have cooled := all .cooldown
  refine ⟨_, run, ?_, ?_, ?_, fun k => ?_, fun k st => ?_, fun k => ?_, fun p x filled old => ?_, fun n runs more => ?_,
    fun none_ => r.stopped none_, fun k => ?_, fun k => ?_, ?_⟩
  · exact congrArg Clock.uptime r.keeps.clock
  · exact congrArg Clock.nextSecond r.keeps.clock
  · exact congrArg Clock.now r.keeps.clock
  · exact (r.discharge k).trans (if_pos cooled)
  · have state := (r.discharging k st).2
    simp only [cooled, true_and] at state
    exact state
  · have hold := r.hold k
    have detune : s.tick.detuneActive = s.detuneActive := rfl
    rw [detune] at hold
    refine hold.trans ?_
    cases s.detuneActive
    · rw [if_pos ⟨cooled, rfl⟩]
      rfl
    · rw [if_neg (by simp)]
      rfl
  · exact r.expired (all .selections) p x filled old
  · have timer := r.timer n runs more
    rw [if_pos (all .supervision)] at timer
    exact timer
  · obtain ⟨position, manualHold, closeCount, learnedRise, compensation⟩ := r.untouched k
    exact Prod.ext position (Prod.ext manualHold (Prod.ext closeCount (Prod.ext learnedRise compensation)))
  · have history := r.history k
    rw [if_pos cooled] at history
    refine history.trans ?_
    have window : s.tick.rateWindow = 3600 * s.y .whours := Nat.mul_comm _ _
    rw [window]
    rfl
  · have passed : s.onlyIn s.tick [.clock] := fun b hb => by cases b <;> simp_all [State.sameBlock, State.tick]
    exact State.onlyIn_trans (State.onlyIn_mono passed (by decide)) (State.onlyIn_mono r.keeps.onlyIn (by decide))

end Sys2Proof.Machine
end

section
/-!
PROOF. The quantities of a frame: the integer square root is Mathlib's, and each quantity is its
formula (R34 to R40, R138).
-/
namespace Sys2Proof.Machine

/-- The two numbers whose squares enclose `x` when the fuel covers the bits of `x`. -/
theorem isqrtAux_bounds : ∀ (fuel x : Nat), x < 4 ^ fuel →
    isqrtAux fuel x * isqrtAux fuel x ≤ x ∧ x < (isqrtAux fuel x + 1) * (isqrtAux fuel x + 1)
  | 0, x, small => by
    obtain rfl : x = 0 := by simpa using small
    simp [isqrtAux]
  | fuel + 1, x, small => by
    have quarter : x / 4 < 4 ^ fuel := by rw [pow_succ] at small; omega
    obtain ⟨below, above⟩ := isqrtAux_bounds fuel (x / 4) quarter
    simp only [isqrtAux]
    generalize isqrtAux fuel (x / 4) = r at below above
    have low : 2 * r * (2 * r) ≤ x := by
      have : 2 * r * (2 * r) = 4 * (r * r) := by ring
      omega
    have high : x < (2 * r + 2) * (2 * r + 2) := by
      have : (2 * r + 2) * (2 * r + 2) = 4 * ((r + 1) * (r + 1)) := by ring
      omega
    split
    · next odd => exact ⟨odd, high⟩
    · next even => exact ⟨low, Nat.lt_of_not_le even⟩

theorem lt_four_pow_log2 (x : Nat) : x < 4 ^ (x.log2 / 2 + 1) := by
  have within : x < 2 ^ (x.log2 + 1) := Nat.lt_log2_self
  calc x < 2 ^ (x.log2 + 1) := within
    _ ≤ 2 ^ (2 * (x.log2 / 2 + 1)) := Nat.pow_le_pow_right (by decide) (by omega)
    _ = 4 ^ (x.log2 / 2 + 1) := pow_mul 2 2 _

theorem isqrt_bounds (x : Nat) :
    isqrt x * isqrt x ≤ x ∧ x < (isqrt x + 1) * (isqrt x + 1) :=
  isqrtAux_bounds _ x (lt_four_pow_log2 x)

theorem isqrt_eq_sqrt (x : Nat) : isqrt x = Nat.sqrt x :=
  Nat.eq_sqrt.mpr (isqrt_bounds x)

theorem magnitude_eq (x : Channel) (h : Nat) :
    magnitude x h = min 32767 (Nat.sqrt (corrRe x h ^ 2 + corrIm x h ^ 2).toNat / 4096) := by
  simp only [magnitude, isqrt_eq_sqrt, pow_two]

theorem distortion_eq (h3 h5 h7 h11 h13 : Nat) :
    distortion h3 h5 h7 h11 h13
      = min 9999 (Nat.sqrt (h3 ^ 2 + h5 ^ 2 + h7 ^ 2 + h11 ^ 2 + h13 ^ 2)) := by
  simp only [distortion, isqrt_eq_sqrt, pow_two]

theorem harmonicRatio_low {vnom m1 : Nat} (low : lowSignalAt vnom m1 = true) (mh : Nat) :
    harmonicRatio vnom m1 mh = 0 := by
  rw [harmonicRatio, if_pos low]

theorem harmonicRatio_of_signal {vnom m1 : Nat} (signal : lowSignalAt vnom m1 = false) (mh : Nat) :
    harmonicRatio vnom m1 mh = min 9999 (mh * 10000 / m1) := by
  rw [harmonicRatio, if_neg (by simp [signal])]

theorem unbalanceOf_clipped (irated : Nat) (dre dim : Int) :
    unbalanceOf irated dre dim true = 9999 := rfl

theorem unbalanceOf_unclipped (irated : Nat) (dre dim : Int) :
    unbalanceOf irated dre dim false
      = min 9999 (Nat.sqrt (dre ^ 2 + dim ^ 2).toNat * 10000 / (16 * irated)) := by
  simp [unbalanceOf, isqrt_eq_sqrt, pow_two]

theorem uOf_of_not_closed {s : State} {k : StepId} (away : (s.stepRec k).state ≠ some .closed)
    (x : Channel) (vAvg : Nat) : s.uOf k x vAvg = 0 := if_neg away

theorem uOf_of_closed {s : State} {k : StepId} (closed : (s.stepRec k).state = some .closed)
    (x : Channel) (vAvg : Nat) :
    s.uOf k x vAvg = unbalanceOf (s.set.settings.s .irated k)
      (diffRe (s.stepRec k).compensation (neutralRe x) vAvg)
      (diffIm (s.stepRec k).compensation (neutralIm x) vAvg) (clipped x) := if_pos closed

/-- Settles O48: the square root by induction on its fuel, the rest formula by formula. -/
theorem frameQuantitiesFollowTheCorrelations :
    Obligations.FrameQuantitiesFollowTheCorrelations := by
  refine ⟨isqrt_bounds, magnitude_eq, fun vnom x _ => ⟨rfl, rfl, fun low => ?_, fun signal => ?_,
    distortion_eq ..⟩, fun s k x vAvg => ⟨rfl, rfl, fun away => uOf_of_not_closed away x vAvg,
    fun closed clip => ?_, fun closed unclipped absent => ?_, fun c closed unclipped stored => ?_⟩⟩
  · have zero : ∀ mh, harmonicRatio vnom (magnitude x 1) mh = 0 := harmonicRatio_low low
    exact ⟨zero _, zero _, zero _, zero _, zero _, by simp [phaseFrame, zero, distortion_eq]⟩
  · have ratio : ∀ mh, harmonicRatio vnom (magnitude x 1) mh
        = min 9999 (mh * 10000 / magnitude x 1) := harmonicRatio_of_signal signal
    exact ⟨ratio _, ratio _, ratio _, ratio _, ratio _⟩
  · exact (uOf_of_closed closed x vAvg).trans (by rw [clip, unbalanceOf_clipped])
  · exact (uOf_of_closed closed x vAvg).trans
      (by rw [unclipped, unbalanceOf_unclipped, absent]; rfl)
  · exact (uOf_of_closed closed x vAvg).trans
      (by rw [unclipped, unbalanceOf_unclipped, stored]; rfl)

end Sys2Proof.Machine
end

section
/-!
PROOF. Crossings and the start of a frame (R26 to R29, R33).
-/
namespace Sys2Proof.Machine

/-! ## Detectors -/

theorem State.setDetector_onlyIn (s : State) (p : Phase) (d : Detector) :
    s.onlyIn (s.setDetector p d) [.me] := by
  intro b hb
  cases b <;> simp_all [State.sameBlock]

/-- Replacing a detector leaves the rest of the measurement record. -/
theorem State.setDetector_rest (s : State) (p : Phase) (d : Detector) :
    let t := s.setDetector p d
    (t.me.measurement, t.me.period, t.me.reference, t.me.sampling, t.me.frame)
      = (s.me.measurement, s.me.period, s.me.reference, s.me.sampling, s.me.frame) := by
  cases p <;> rfl

theorem State.recognise_onlyIn (s : State) (p : Phase) : s.onlyIn (s.recognise p) [.me] := by
  refine State.onlyIn_trans (t := { s with me := { s.me with measurement := s.measurementAfter p } })
    (fun b hb => ?_) (State.setDetector_onlyIn _ p _)
  cases b <;> simp_all [State.sameBlock]

theorem State.recognise_detector (s : State) (p q : Phase) :
    (s.recognise p).detector q
      = if q = p then { armed := false
                        stamp := some s.clock.now
                        recent := (s.detector p).recent ++ [s.clock.now] }
        else s.detector q := by
  rw [State.recognise, State.detector_setDetector]
  cases q <;> rfl

theorem State.recognise_me (s : State) (p : Phase) :
    ((s.recognise p).me.measurement, (s.recognise p).me.period, (s.recognise p).me.reference,
      (s.recognise p).me.sampling, (s.recognise p).me.frame)
      = (s.measurementAfter p, s.me.period, s.me.reference, s.me.sampling, s.me.frame) :=
  State.setDetector_rest _ p _

theorem State.measurementAfter_fresh {s : State} {p : Phase} {old : Nat}
    (reference : s.me.reference = some p) (stamp : (s.detector p).stamp = some old)
    (fresh : s.clock.now - old ≤ 2 * nominalPeriod s.me.fsel) :
    s.measurementAfter p = some (s.clock.now - old) := by
  simp [State.measurementAfter, State.interval, reference, stamp, staleInterval, fresh]

theorem State.measurementAfter_other {s : State} {p : Phase}
    (other : s.me.reference ≠ some p ∨ (s.detector p).stamp = none
      ∨ ∃ old, (s.detector p).stamp = some old
          ∧ 2 * nominalPeriod s.me.fsel < s.clock.now - old) :
    s.measurementAfter p = s.me.measurement := by
  rw [State.measurementAfter]
  rcases other with away | absent | ⟨old, stamp, stale⟩
  · rw [if_neg away]
  · simp [State.interval, absent]
  · simp [State.interval, stamp, staleInterval, Nat.not_le.mpr stale]

theorem State.pass_onlyIn (s : State) (dt : Nat) : s.onlyIn (s.pass dt) [.clock] := by
  intro b hb
  cases b <;> simp_all [State.sameBlock]

theorem State.crossing_armed {s : State} {p : Phase} (armed : (s.detector p).armed = true) :
    s.crossing p = s.recognise p := if_pos armed

theorem State.crossing_disarmed {s : State} {p : Phase} (disarmed : ¬(s.detector p).armed = true) :
    s.crossing p = s := if_neg disarmed

theorem State.crossing_onlyIn (s : State) (p : Phase) : s.onlyIn (s.crossing p) [.me] :=
  State.onlyIn_ite _ (s.recognise_onlyIn p) (s.onlyIn_refl _)

theorem State.crossing_detector_ne (s : State) {p q : Phase} (other : q ≠ p) :
    (s.crossing p).detector q = s.detector q := by
  unfold State.crossing
  split
  · rw [State.recognise_detector, if_neg other]
  · rfl

theorem State.crossing_me (s : State) (p : Phase) :
    ((s.crossing p).me.period, (s.crossing p).me.reference, (s.crossing p).me.sampling,
      (s.crossing p).me.frame) = (s.me.period, s.me.reference, s.me.sampling, s.me.frame) := by
  unfold State.crossing
  split
  · exact congrArg Prod.snd (s.recognise_me p)
  · rfl

/-! ## The earliest instant -/

theorem foldl_min_spec : ∀ (l : List Nat) (u : Nat),
    ∃ t, l.foldl (fun acc t => match acc with
        | none => some t
        | some u => some (min u t)) (some u) = some t
      ∧ (t = u ∨ t ∈ l) ∧ t ≤ u ∧ ∀ x ∈ l, t ≤ x
  | [], u => ⟨u, rfl, .inl rfl, Nat.le_refl _, fun x h => absurd h List.not_mem_nil⟩
  | y :: l, u => by
    obtain ⟨t, folded, found, least, below⟩ := foldl_min_spec l (min u y)
    refine ⟨t, folded, ?_, by omega, List.forall_mem_cons.mpr ⟨by omega, below⟩⟩
    rcases found with rfl | found
    · rcases Nat.le_total u y with h | h
      · exact .inl (Nat.min_eq_left h)
      · exact .inr (by rw [Nat.min_eq_right h]; exact List.mem_cons_self)
    · exact .inr (List.mem_cons_of_mem _ found)

theorem earliest_some {l : List Nat} {t : Nat} (found : earliest l = some t) :
    t ∈ l ∧ ∀ x ∈ l, t ≤ x := by
  cases l with
  | nil => exact absurd found (by simp [earliest])
  | cons y l =>
    obtain ⟨u, folded, place, first, below⟩ := foldl_min_spec l y
    obtain rfl : u = t := Option.some.inj (folded.symm.trans found)
    exact ⟨List.mem_cons.mpr place, List.forall_mem_cons.mpr ⟨first, below⟩⟩

theorem earliest_none {l : List Nat} (absent : earliest l = none) : l = [] := by
  cases l with
  | nil => rfl
  | cons y l =>
    obtain ⟨u, folded, -⟩ := foldl_min_spec l y
    exact absurd (folded.symm.trans absent) (by simp)

/-! ## The start of a frame -/

theorem startsAfter_eq (s : State) (p : Phase) :
    startsAfter s p = (s.detector p).recent.map (· + startOffset s.me.period p) := by
  cases p <;> rfl

theorem mem_startPoints (s : State) (p : Phase) (t : Nat) :
    t ∈ s.startPoints p ↔ t ∈ startsAfter s p ∧ s.me.lastArrival ≤ t
      ∧ t ≤ s.me.lastArrival + s.me.period := by
  rw [State.startPoints, List.mem_filter, startsAfter_eq]
  simp

theorem State.nextSampling_contiguous {s : State} (absent : s.me.reference = none) :
    s.nextSampling = { start := s.me.lastArrival + s.me.period / 32, period := s.me.period,
                       freeStarted := false } := by
  simp [State.nextSampling, absent]

theorem State.nextSampling_synchronised {s : State} {p : Phase} {t : Nat}
    (reference : s.me.reference = some p) (found : earliest (s.startPoints p) = some t) :
    s.nextSampling = { start := t, period := s.me.period, freeStarted := false } := by
  simp [State.nextSampling, reference, found]

theorem State.nextSampling_free {s : State} {p : Phase}
    (reference : s.me.reference = some p) (absent : earliest (s.startPoints p) = none) :
    s.nextSampling = { start := s.me.lastArrival + s.me.period, period := s.me.period,
                       freeStarted := true } := by
  simp [State.nextSampling, reference, absent]

theorem State.nextSampling_period (s : State) : s.nextSampling.period = s.me.period := by
  cases reference : s.me.reference with
  | none => rw [State.nextSampling_contiguous reference]
  | some p =>
    cases found : earliest (s.startPoints p) with
    | none => rw [State.nextSampling_free reference found]
    | some t => rw [State.nextSampling_synchronised reference found]

theorem State.startFrame_of_none {s : State} (idle : s.me.sampling = none) :
    s.startFrame = { (s.until s.nextSampling.start) with
      me := { s.me with sampling := some s.nextSampling } } := by
  simp [State.startFrame, idle]

/-- A synchronised start is the earliest start point within a period of the previous arrival; a free start
has none. -/
theorem State.nextSampling_of_reference {s : State} {p : Phase} (reference : s.me.reference = some p) :
    (s.nextSampling.freeStarted = false →
      s.nextSampling.start ∈ startsAfter s p ∧ s.me.lastArrival ≤ s.nextSampling.start
        ∧ s.nextSampling.start ≤ s.me.lastArrival + s.me.period
        ∧ ∀ x ∈ startsAfter s p, s.me.lastArrival ≤ x → s.nextSampling.start ≤ x)
    ∧ (s.nextSampling.freeStarted = true →
        s.nextSampling.start = s.me.lastArrival + s.me.period
          ∧ ∀ x ∈ startsAfter s p,
              x < s.me.lastArrival ∨ s.me.lastArrival + s.me.period < x) := by
  cases found : earliest (s.startPoints p) with
  | none =>
    rw [State.nextSampling_free reference found]
    refine ⟨fun h => absurd h.symm Bool.false_ne_true, fun _ => ⟨rfl, fun x hx => ?_⟩⟩
    have gone : x ∉ s.startPoints p := by rw [earliest_none found]; exact List.not_mem_nil
    have outside : ¬(s.me.lastArrival ≤ x ∧ x ≤ s.me.lastArrival + s.me.period) :=
      fun h => gone ((mem_startPoints s p x).mpr ⟨hx, h⟩)
    omega
  | some t =>
    rw [State.nextSampling_synchronised reference found]
    obtain ⟨member, least⟩ := earliest_some found
    obtain ⟨point, after, before⟩ := (mem_startPoints s p t).mp member
    refine ⟨fun _ => ⟨point, after, before, fun x hx late => ?_⟩, fun h => absurd h Bool.false_ne_true⟩
    by_cases within : x ≤ s.me.lastArrival + s.me.period
    · exact least x ((mem_startPoints s p x).mpr ⟨hx, late, within⟩)
    · exact Nat.le_trans before (Nat.le_of_not_le within)

/-- Settles O45: a recognised crossing and an arming write one detector, and the start is the least of the start points. -/
theorem crossingsTimeTheFrames : Obligations.CrossingsTimeTheFrames := by
  refine ⟨fun p dt s running => ⟨⟨(s.pass dt).crossing p, ?_, ?_, fun q other => ?_, ?_, ?_, ?_⟩,
    s.armDetector p, ?_, ?_, fun q other => ?_, ?_, ?_⟩, fun s running idle => ?_⟩
  · exact congrArg _ (State.unlessHeld_free s _ running)
  · exact State.crossing_onlyIn _ p .clock (by decide)
  · exact State.crossing_detector_ne (s.pass dt) other
  · split
    · next armed =>
      have moved : (s.pass dt).crossing p = (s.pass dt).recognise p := State.crossing_armed armed
      have own := State.recognise_detector (s.pass dt) p p
      have measured : ((s.pass dt).recognise p).me.measurement = (s.pass dt).measurementAfter p :=
        congrArg Prod.fst (State.recognise_me (s.pass dt) p)
      rw [moved, own, if_pos rfl, measured]
      exact ⟨rfl, rfl, fun old reference stamp fresh =>
        State.measurementAfter_fresh (s := s.pass dt) reference stamp fresh,
        fun other => State.measurementAfter_other (s := s.pass dt) other⟩
    · next disarmed => rw [State.crossing_disarmed (s := s.pass dt) disarmed]; rfl
  · exact State.crossing_me (s.pass dt) p
  · exact State.onlyIn_trans (State.onlyIn_mono (s.pass_onlyIn dt) (by decide))
      (State.onlyIn_mono (State.crossing_onlyIn _ p) (by decide))
  · exact congrArg _ (State.unlessHeld_free s _ running)
  · rw [State.armDetector, State.detector_setDetector, if_pos rfl]
  · rw [State.armDetector, State.detector_setDetector, if_neg other]
  · exact State.setDetector_rest s p _
  · exact s.setDetector_onlyIn p _
  · refine ⟨s.startFrame, s.nextSampling, congrArg _ (State.unlessHeld_free s _ running), ?_,
      s.nextSampling_period, fun n _ => ?_, ?_, ?_, fun absent => ?_, fun p reference => ?_⟩
    · rw [State.startFrame_of_none idle]
    · rw [Sampling.instant, s.nextSampling_period]
    · rw [State.startFrame_of_none idle]; rfl
    · rw [State.startFrame_of_none idle]
      intro b hb
      cases b <;> simp_all [State.sameBlock]
    · rw [State.nextSampling_contiguous absent]; exact ⟨rfl, rfl⟩
    · exact State.nextSampling_of_reference reference

end Sys2Proof.Machine
end

section
/-!
PROOF. The settle end and the measurement it takes (R81, R89 to R91).
-/
namespace Sys2Proof.Machine

/-! ## The rise a measurement gives -/

theorem dist_eq (p q : Nat) : dist q p = max p q - min p q := by
  unfold dist
  omega

theorem targetOf_eq (o : OpKind) : targetOf o = if o = .closeOp then .atClosed else .atOpen := by
  cases o <;> rfl

/-- Nothing skips a measurement exactly when none of the conditions of R89 holds. -/
theorem State.skipCause_none_iff (s : State) (a : Armed) :
    s.skipCause a = none ↔ a.converted = false ∧ a.voided = none
      ∧ (s.stepRec a.step).state = some a.target ∧ (s.stepRec a.step).position = some (targetOf a.kind)
      ∧ ∃ p q, a.vPre = some p ∧ s.vPost = some q ∧ dist q p ≤ 200 := by
  unfold State.skipCause
  by_cases converted : a.converted = true
  · simp [converted]
  by_cases voided : a.voided = none
  · by_cases there : (s.stepRec a.step).state = some a.target
        ∧ (s.stepRec a.step).position = some (targetOf a.kind)
    · cases before : a.vPre <;> cases after : s.vPost <;> simp_all
    · rw [if_neg converted, if_neg (by simp [voided]), if_pos (by tauto)]
      simp only [reduceCtorEq, false_iff]
      tauto
  · have taken : a.voided.isSome = true := Option.isSome_iff_ne_none.mpr voided
    simp [converted, voided, taken]

/-- Between two rises within 200 the clamp of R90 changes nothing. -/
theorem riseUpdate_within {r d : Nat} (hr : r ≤ 200) (hd : d ≤ 200) :
    riseUpdate r d = ((r : Int) + ((d : Int) - r).tdiv 4).toNat := by
  unfold riseUpdate
  rcases Nat.le_total r d with up | down
  · rw [Int.tdiv_eq_ediv_of_nonneg (by omega)]
    omega
  · have turned : ((d : Int) - r).tdiv 4 = -((r : Int) - d).tdiv 4 := by
      rw [← Int.neg_tdiv, Int.neg_sub]
    rw [turned, Int.tdiv_eq_ediv_of_nonneg (by omega)]
    omega

theorem State.vPost_eq (s : State) :
    s.vPost = if s.me.frame.noRef = true ∨ s.me.frame.vtLoss = true then none
      else some s.me.frame.vAvg := rfl

theorem State.riseAfter_skipped {s : State} {a : Armed} (skipped : s.skipCause a ≠ none) :
    s.riseAfter a = (s.stepRec a.step).learnedRise := by
  obtain ⟨c, cause⟩ := Option.ne_none_iff_exists'.mp skipped
  simp [State.riseAfter, cause]

/-- The model's rise after a measurement is the one R89 and R90 give. -/
theorem State.riseAfter_eq {s : State} {a : Armed} (bound : (s.stepRec a.step).learnedRise ≤ 200) :
    s.riseAfter a = riseTaken s a := by
  unfold riseTaken
  rw [← s.vPost_eq, ← targetOf_eq]
  by_cases skip : s.skipCause a = none
  · obtain ⟨converted, voided, state, position, p, q, before, after, near⟩ :=
      (s.skipCause_none_iff a).mp skip
    have near' : max p q - min p q ≤ 200 := dist_eq p q ▸ near
    simp only [before, after]
    rw [if_pos ⟨converted, voided, state, position, near'⟩, ← riseUpdate_within bound near',
      ← dist_eq]
    simp [State.riseAfter, skip, before, after]
  · rw [State.riseAfter_skipped skip]
    split
    · next p q before after =>
      rw [if_neg]
      rintro ⟨converted, voided, state, position, near⟩
      exact skip ((s.skipCause_none_iff a).mpr
        ⟨converted, voided, state, position, p, q, before, after, (dist_eq p q).symm ▸ near⟩)
    · rfl

theorem State.skipCause_converted {s : State} {a : Armed} (h : a.converted = true) :
    s.skipCause a = some .converted := by
  simp [State.skipCause, h]

theorem State.skipCause_voided {s : State} {a : Armed} {v : SkipCause} (h : a.converted = false)
    (voided : a.voided = some v) : s.skipCause a = some v := by
  simp [State.skipCause, h, voided]

/-! ## The settle end -/

/-- The settle count at 0, before the measurement is taken. -/
def State.settled (s : State) : State := { s with cu := { s.cu with settle := 0 } }

theorem State.cuFrame_settleEnd {s : State} (one : s.cu.settle = 1) :
    s.cuFrame = s.settled.takeMeasurement := by
  rw [State.cuFrame, if_neg (by omega), if_pos one]
  rfl

theorem State.settled_onlyIn (s : State) : s.onlyIn s.settled [.cu] := by
  intro b hb
  cases b <;> simp_all [State.sameBlock, State.settled]

theorem State.takeMeasurement_none {s : State} (absent : s.cu.armed = none) : s.takeMeasurement = s := by
  simp [State.takeMeasurement, absent]

theorem State.takeMeasurement_some {s : State} {a : Armed} (armed : s.cu.armed = some a) :
    s.takeMeasurement = (s.recordRise a s.vPost (s.riseAfter a) (s.skipCause a)).modStep a.step
      (fun r => { r with learnedRise := s.riseAfter a }) := by
  simp [State.takeMeasurement, armed]

theorem State.takeMeasurement_cu (s : State) :
    s.takeMeasurement.cu.settle = s.cu.settle ∧ s.takeMeasurement.cu.armed = none := by
  cases armed : s.cu.armed with
  | none => rw [State.takeMeasurement_none armed]; exact ⟨rfl, armed⟩
  | some a => rw [State.takeMeasurement_some armed]; exact ⟨rfl, rfl⟩

theorem State.takeMeasurement_onlyIn (s : State) : s.onlyIn s.takeMeasurement [.cu, .ss] := by
  cases armed : s.cu.armed with
  | none => rw [State.takeMeasurement_none armed]; exact s.onlyIn_refl _
  | some a =>
    rw [State.takeMeasurement_some armed]
    refine State.onlyIn_trans (t := s.recordRise a s.vPost (s.riseAfter a) (s.skipCause a))
      (fun b hb => ?_) (State.onlyIn_mono (State.modStep_onlyIn _ _ _) (by decide))
    cases b <;> simp_all [State.sameBlock]

/-- Taking a measurement writes the learned rise of its step and nothing else of a step. -/
theorem State.takeMeasurement_stepRec {s : State} {a : Armed} (armed : s.cu.armed = some a) (k : StepId) :
    s.takeMeasurement.stepRec k
      = if k = a.step then { s.stepRec k with learnedRise := s.riseAfter a } else s.stepRec k := by
  rw [State.takeMeasurement_some armed]
  split
  · next own => subst own; exact State.stepRec_setStep_same _ _ _
  · next other => exact State.stepRec_setStep_ne _ _ _ _ other

theorem State.takeMeasurement_rest (s : State) (k : StepId) :
    { s.takeMeasurement.stepRec k with learnedRise := (s.stepRec k).learnedRise } = s.stepRec k := by
  cases armed : s.cu.armed with
  | none => rw [State.takeMeasurement_none armed]
  | some a => rw [State.takeMeasurement_stepRec armed]; split <;> rfl

/-- A dispatch leaves every learned rise (R62). -/
theorem State.examine_learnedRise (s : State) (k : StepId) :
    (s.examine.stepRec k).learnedRise = (s.stepRec k).learnedRise := by
  rcases s.examine_record k with same | ⟨o, moved⟩
  · rw [same]
  · rw [moved]
    exact (recordAfter_kept _ _ _ _).2.2.2.2.2.2

/-- Settles O50: the count reaches 0, the measurement is taken, and the examination that follows leaves
both. -/
theorem settleEndTakesTheMeasurement : Obligations.SettleEndTakesTheMeasurement := by
  intro s running one
  let w := s.settled.takeMeasurement
  have run : exec .settleEnd s = .next w.examine := by
    refine congrArg Host.Outcome.next ((State.unlessHeld_free s _ running).trans ?_)
    rw [State.settleEnds, if_pos one, State.cuFrame_settleEnd one]
  obtain ⟨settle, armed, lastRise⟩ := w.examine_cooldown
  obtain ⟨settled, taken⟩ := s.settled.takeMeasurement_cu
  rw [show w.cu.armed = none from taken, Option.map_none, Option.map_eq_none_iff] at armed
  refine ⟨w.examine, run, settle.trans settled, armed, fun idle => ?_, fun absent => ?_,
    fun a present bound => ?_⟩
  · have queue : w.oq = s.oq := s.settled.takeMeasurement_onlyIn .oq (by decide)
    have still : w.examine = w := State.examine_idle (by rwa [State.inFlight, queue])
    rw [still]
    exact ⟨State.onlyIn_trans (State.onlyIn_mono s.settled_onlyIn (by decide))
      s.settled.takeMeasurement_onlyIn, s.settled.takeMeasurement_rest⟩
  · have same : w = s.settled := State.takeMeasurement_none (s := s.settled) absent
    exact ⟨lastRise.trans (by rw [same]; rfl), fun k => (w.examine_learnedRise k).trans (by rw [same]; rfl)⟩
  · have present' : s.settled.cu.armed = some a := present
    have risen : s.settled.riseAfter a = riseTaken s a := State.riseAfter_eq (s := s) bound
    have record := State.takeMeasurement_stepRec present'
    have result : w.cu.lastRise = _ := congrArg (·.cu.lastRise) (State.takeMeasurement_some present')
    refine ⟨(w.examine_learnedRise _).trans ?_, fun k other => (w.examine_learnedRise k).trans ?_,
      _, lastRise.trans result, rfl, rfl, rfl, rfl, risen, rfl, fun converted => ?_,
      fun v plain voided => ?_⟩
    · rw [record, if_pos rfl]; exact risen
    · rw [record, if_neg other]; rfl
    · exact State.skipCause_converted converted
    · exact State.skipCause_voided plain voided

end Sys2Proof.Machine
end

section
/-!
PROOF. The capture of inherent unbalance (R154, R155).
-/
namespace Sys2Proof.Machine

theorem State.setCapture_onlyIn (s : State) (c : Option Capture) : s.onlyIn (s.setCapture c) [.upu] := by
  intro b hb
  cases b <;> simp_all [State.sameBlock]

/-- The checks of CAPTURE_INHERENT, in R154's order. -/
theorem judgeCaptureStep_eq (tag : Byte) (k : StepId) (s : State) :
    judgeCaptureStep tag k s =
      if s.set.save ≠ none ∨ s.upu.capture ≠ none then refusedWith s .busy
      else if (s.stepRec k).state ≠ some .closed then refusedWith s .wrongState
      else if s.cu.settle ≠ 0 then refusedWith s .busy
      else (s.setCapture (some { step := k, tag := tag, count := 0, sumRe := 0, sumIm := 0, sumV := 0 }),
        .plain .accepted) := by
  unfold judgeCaptureStep
  cases save : s.set.save <;> cases capture : s.upu.capture <;> simp [Nat.pos_iff_ne_zero]

/-- The state after a completed capture, before its Outcome Record (R155). -/
def State.compensated (s : State) (c : Capture) : State :=
  (s.modStep c.step (fun r =>
    { r with
      compensation := some (captured c.sumRe c.sumIm c.sumV)
      alarmCount := 0
      tripCount := 0
      alarmFlag := false })).setFlagsIf (s.stepRec c.step).alarmFlag

theorem State.compensated_onlyIn (s : State) (c : Capture) : s.onlyIn (s.compensated c) [.ss, .pi] :=
  State.onlyIn_trans (State.onlyIn_mono (s.modStep_onlyIn c.step _) (by decide))
    (State.onlyIn_mono (State.setFlagsIf_onlyIn _ _) (by decide))

/-- A change of state that sets the flags sets both (R182). -/
theorem State.setFlags_changeFlag (s : State) (p : Port) : (s.setFlags.portState p).changeFlag = true := by
  cases p <;> rfl

theorem State.setFlagsIf_changeFlag {s : State} {c : Bool} (set : c = true) (p : Port) :
    ((s.setFlagsIf c).portState p).changeFlag = true := by
  rw [State.setFlagsIf, if_pos set]
  exact s.setFlags_changeFlag p

theorem State.completeCapture_eq (s : State) (c : Capture) :
    s.completeCapture c = ((s.compensated c).insertOutcome .a
      ((s.compensated c).outcomeOf c.tag c.step .capture .captured)).setCapture none := rfl

theorem State.completeCapture_ss (s : State) (c : Capture) :
    (s.completeCapture c).ss = (s.modStep c.step (fun r =>
      { r with
        compensation := some (captured c.sumRe c.sumIm c.sumV)
        alarmCount := 0
        tripCount := 0
        alarmFlag := false })).ss := by
  refine ((State.setCapture_onlyIn _ none .ss (by decide)).trans
    (State.insertOutcome_onlyIn _ .a _ .ss (by decide))).trans ?_
  exact State.setFlagsIf_ss _ _

theorem State.compensated_outcomes (s : State) (c : Capture) (p : Port) :
    (s.compensated c).outcomes p = s.outcomes p := by
  have os : (s.compensated c).os = s.os := s.compensated_onlyIn c .os (by decide)
  cases p <;> simp [State.outcomes, os]

/-- The CAPTURED record tells the state the step had, which the capture leaves (R155). -/
theorem State.compensated_record (s : State) (c : Capture) :
    (s.compensated c).outcomeOf c.tag c.step .capture .captured
      = { tag := c.tag
          step := some c.step
          what := .capture
          result := .captured
          state := (s.stepRec c.step).state
          uptime := s.clock.uptime } := by
  have uptime : (s.compensated c).clock = s.clock := s.compensated_onlyIn c .clock (by decide)
  have state : ((s.compensated c).stepRec c.step).state = (s.stepRec c.step).state := by
    rw [State.stepRec, State.compensated, State.setFlagsIf_ss]
    exact (congrArg StepRecord.state (State.stepRec_setStep_same s c.step _)).trans rfl
  rw [State.outcomeOf, state, uptime]

/-- Settles O55: the judgement is the chain of R154, and the sixteenth frame is the end of the engine alone. -/
theorem captureTakesSixteenFrames : Obligations.CaptureTakesSixteenFrames := by
  refine ⟨fun h b k s u serves a n hu => ?_, fun s c running capture sixteenth noRef settling clip => ?_⟩
  · have next : exec (.captureInherent h b) s
        = .next ((judgeCaptureStep h.tag k u).1.respond h.port h.tag (judgeCaptureStep h.tag k u).2) :=
      congrArg Host.Outcome.next (request_fromA serves a n hu rfl)
    rw [judgeCaptureStep_eq] at next
    refine ⟨_, next, ?_⟩
    split
    · exact u.answered_refused h _
    · split
      · exact u.answered_refused h _
      · split
        · exact u.answered_refused h _
        · obtain ⟨answered, only⟩ := State.answered_onlyIn h (.plain .accepted)
            (u.setCapture_onlyIn (some { step := k, tag := h.tag, count := 0, sumRe := 0, sumIm := 0, sumV := 0 }))
            (by decide)
          exact ⟨answered, State.respond_onlyIn _ h.port h.tag _ .upu (by decide), only⟩
  · let d := s.captureAdd c
    have run : exec .captureComplete s = .next (s.completeCapture d) := by
      refine congrArg Host.Outcome.next ((State.unlessHeld_free s _ running).trans ?_)
      rw [State.captureCompletes, capture]
      exact if_pos ⟨Nat.succ_le_succ sixteenth, noRef, settling, clip⟩
    have steps : ∀ j, (s.completeCapture d).stepRec j = _ :=
      fun j => congrArg (fun x : SsState => x.steps[j]) (s.completeCapture_ss d)
    have flags : ∀ p, ((s.completeCapture d).portState p).changeFlag
        = ((s.compensated d).portState p).changeFlag := fun p =>
      State.insertOutcome_changeFlag _ .a p _
    refine ⟨s.completeCapture d, run, (steps _).trans (State.stepRec_setStep_same _ _ _),
      fun j other => (steps j).trans (State.stepRec_setStep_ne _ _ _ _ other), ?_, ?_,
      fun alarm p => (flags p).trans (State.setFlagsIf_changeFlag alarm p), ?_, ?_⟩
    · have upu : ((s.compensated d).insertOutcome .a
          ((s.compensated d).outcomeOf d.tag d.step .capture .captured)).upu = s.upu :=
        (State.insertOutcome_onlyIn _ .a _ .upu (by decide)).trans (s.compensated_onlyIn d .upu (by decide))
      exact congrArg (fun v : UpuState => { v with capture := none }) upu
    · exact (State.insertOutcome_getLast _ .a _).trans (congrArg some (s.compensated_record d))
    · exact (State.insertOutcome_outcomes_ne _ (by decide) _).trans (s.compensated_outcomes d .b)
    · rw [s.completeCapture_eq]
      exact State.onlyIn_trans (State.onlyIn_mono (s.compensated_onlyIn d) (by decide))
        (State.onlyIn_trans (State.onlyIn_mono (State.insertOutcome_onlyIn _ .a _) (by decide))
          (State.onlyIn_mono (State.setCapture_onlyIn _ none) (by decide)))

end Sys2Proof.Machine
end

section
/-!
PROOF. Postings of the controller itself that become entries (R50, R52, R60), and the activation and the
clearing of a monitor (R123 to R125, R128, R129).
-/
namespace Sys2Proof.Machine

/-! ## A posting that becomes an entry -/

/-- An entry without what a dispatch writes (R62). -/
def Entry.unstated (e : Entry) : Entry := { e with status := .waiting }

/-- A dispatch changes no pending entry but its status (R62). -/
theorem State.examine_entryOf (s : State) (k : StepId) :
    (s.examine.entryOf k).map Entry.unstated = (s.entryOf k).map Entry.unstated := by
  have found : ∀ t : State, (t.entryOf k).map Entry.unstated
      = (t.oq.entries.map Entry.unstated).find? (fun e => e.step = k) := fun t => by
    rw [List.find?_map]
    rfl
  rw [found, found, s.examine_entries Entry.unstated fun _ => rfl]

/-- The pending entry that a posting has become. -/
def Entry.Carries (e : Entry) (p : Posting) : Prop :=
  e.kind = p.kind ∧ e.originator = p.originator ∧ e.tag = p.tag ∧ e.fast = p.fast

theorem State.admitNew_entryOf {s : State} {p : Posting} (entry : s.entryOf p.step = none) :
    (s.admitNew p).entryOf p.step = some (s.newEntry p) := by
  rw [State.entryOf] at entry
  rw [State.entryOf, State.admitNew_oq, List.find?_append, entry]
  simp [State.newEntry]

/-- A new entry stands for its step after the examination, dispatched or not (R60). -/
theorem State.admitNew_stands {s : State} {p : Posting} (entry : s.entryOf p.step = none) :
    ∃ e, (s.admitNew p).examine.entryOf p.step = some e ∧ e.Carries p := by
  have stated := (s.admitNew p).examine_entryOf p.step
  rw [State.admitNew_entryOf entry, Option.map_some, Option.map_eq_some_iff] at stated
  obtain ⟨e, found, same⟩ := stated
  exact ⟨e, found, (congrArg Entry.kind same :), (congrArg Entry.originator same :),
    (congrArg Entry.tag same :), (congrArg Entry.fast same :)⟩

theorem State.postOpen_closed {s : State} {p : Posting} (closed : (s.stepRec p.step).state = some .closed) :
    s.postOpen p = (s.admitNew p, .accepted) := by
  simp [State.postOpen, closed]

theorem State.postOpen_onlyIn (s : State) (p : Posting) : s.onlyIn (s.postOpen p).1 [.oq] := by
  unfold State.postOpen
  split
  · exact s.admitNew_onlyIn p
  · exact s.onlyIn_refl _
  · exact s.onlyIn_refl _
  · exact s.onlyIn_refl _

theorem State.postOpen_inFlight (s : State) (p : Posting) : (s.postOpen p).1.inFlight = s.inFlight := by
  unfold State.postOpen
  split
  · exact s.admitNew_inFlight p
  · rfl
  · rfl
  · rfl

section
variable {s : State} {p : Posting} (kind : p.kind = .openOp) (entry : s.entryOf p.step = none)
include kind entry

/-- An OPEN of a step without an entry writes the queue, and what a dispatch writes (R52, R60). -/
theorem State.admitOpen_onlyIn : s.onlyIn (s.admitOne p).1 [.ss, .oq, .cu, .upu, .au, .pi, .os] := by
  rw [State.admitOne, State.post_open_of_entryOf_none kind entry]
  exact State.onlyIn_trans (State.onlyIn_mono (s.postOpen_onlyIn p) (by decide)) (State.examine_onlyIn _)

theorem State.admitOpen_flying (flying : s.inFlight ≠ none) : s.onlyIn (s.admitOne p).1 [.oq] := by
  rw [State.admitOne, State.post_open_of_entryOf_none kind entry,
    State.examine_idle (.inl (by rwa [State.postOpen_inFlight]))]
  exact s.postOpen_onlyIn p

theorem State.admitOpen_closed (closed : (s.stepRec p.step).state = some .closed) :
    s.admitOne p = ((s.admitNew p).examine, .accepted) := by
  rw [State.admitOne, State.post_open_of_entryOf_none kind entry, State.postOpen_closed closed]

theorem State.admitOpen_stands (closed : (s.stepRec p.step).state = some .closed) :
    ∃ e, (s.admitOne p).1.entryOf p.step = some e ∧ e.Carries p := by
  rw [State.admitOpen_closed kind entry closed]
  exact State.admitNew_stands entry

end

/-! ## A monitor that activates (R124) -/

theorem State.setMonitor_onlyIn (s : State) (m : MonitorId) (v : Monitor) : s.onlyIn (s.setMonitor m v) [.hmu] := by
  intro b hb
  cases b <;> simp_all [State.sameBlock]

/-- The monitor is active and counted, with both change flags set; its action has not followed yet
(R124). -/
def State.raised (s : State) (m : MonitorId) : State :=
  (s.setMonitor m
    { s.monitor m with
      active := true
      assertCount := min 65535 ((s.monitor m).assertCount + 1) }).setFlags

theorem State.activate_alarm {s : State} {m : MonitorId} (action : s.set.settings.action m = .alarm) :
    s.activate m = s.raised m := by
  simp only [State.activate, action]
  rfl

theorem State.activate_blockClose {s : State} {m : MonitorId}
    (action : s.set.settings.action m = .blockClose) :
    s.activate m = (s.raised m).examineIfBlockMoved s := by
  simp only [State.activate, action]
  rfl

theorem State.activate_detune {s : State} {m : MonitorId} (action : s.set.settings.action m = .detune) :
    s.activate m = (s.raised m).detune m := by
  simp only [State.activate, action]
  rfl

theorem State.raised_monitor (s : State) (m : MonitorId) :
    (s.raised m).monitor m
      = { s.monitor m with
          active := true
          assertCount := min 65535 ((s.monitor m).assertCount + 1) } :=
  s.monitor_setMonitor_same m _

theorem State.raised_monitor_ne (s : State) {m j : MonitorId} (other : j ≠ m) :
    (s.raised m).monitor j = s.monitor j :=
  s.monitor_setMonitor_ne j m _ other

theorem State.raised_onlyIn (s : State) (m : MonitorId) : s.onlyIn (s.raised m) [.hmu, .pi] :=
  State.onlyIn_trans (State.onlyIn_mono (s.setMonitor_onlyIn m _) (by decide))
    (State.onlyIn_mono (State.setFlags_onlyIn _) (by decide))

theorem State.setAccumulator_onlyIn (s : State) (m : MonitorId) (n : Nat) :
    s.onlyIn (s.setAccumulator m n) [.hmu] := s.setMonitor_onlyIn m _

/-- An enabled active monitor with action BLOCK_CLOSE is a close block (R128). -/
theorem State.harmonicBlock_of_active {s : State} {m : MonitorId} (enabled : s.set.settings.enabled m = true)
    (active : (s.monitor m).active = true) (action : s.set.settings.action m = .blockClose) :
    s.harmonicBlock = true :=
  List.any_eq_true.mpr ⟨m, List.mem_finRange m, by simp [State.monitorActive, enabled, active, action]⟩

theorem State.examineIfBlockMoved_onlyIn (s before : State) :
    s.onlyIn (s.examineIfBlockMoved before) [.ss, .oq, .cu, .upu, .au, .pi, .os] :=
  State.onlyIn_ite _ (s.onlyIn_refl _) s.examine_onlyIn

theorem State.examineIfBlockMoved_retains (s before : State) : s.Retains (s.examineIfBlockMoved before) :=
  .ite _ (.refl s) s.examine_retains

theorem State.examineIfBlockMoved_idle {s : State} (idle : s.inFlight ≠ none ∨ s.oq.entries = [])
    (before : State) : s.examineIfBlockMoved before = s := by
  rw [State.examineIfBlockMoved, State.examine_idle idle, ite_self]

theorem State.onlyIn.monitor {s t : State} {l : List Block} (only : s.onlyIn t l) (away : Block.hmu ∉ l)
    (m : MonitorId) : t.monitor m = s.monitor m := by
  rw [State.monitor, only .hmu away, State.monitor]

theorem State.onlyIn.inFlight {s t : State} {l : List Block} (only : s.onlyIn t l) (away : Block.oq ∉ l) :
    t.inFlight = s.inFlight := State.inFlight_congr (congrArg OqState.entries (only .oq away))

/-! ## Detune (R129) -/

/-- The OPEN that detunes (R129). -/
def detuneOpen (k : StepId) : Posting :=
  { kind := .openOp, step := k, originator := .harmonic, tag := none, fast := false }

theorem State.detune_none {s : State} (m : MonitorId) (absent : s.detuneTarget = none) :
    s.detune m = s.setDetune m (.noneAvailable s.clock.uptime s.me.frame.number) := by
  simp [State.detune, absent]

theorem State.detune_some {s : State} (m : MonitorId) {k : StepId} (target : s.detuneTarget = some k) :
    s.detune m = ((s.setDetune m (.target k s.clock.uptime s.me.frame.number none)).admitOne
      (detuneOpen k)).1 := by
  simp [State.detune, target, detuneOpen]

theorem State.setDetune_onlyIn (s : State) (m : MonitorId) (d : LastDetune) :
    s.onlyIn (s.setDetune m d) [.hmu] := s.setMonitor_onlyIn m _

theorem State.setDetune_monitor (s : State) (m : MonitorId) (d : LastDetune) :
    (s.setDetune m d).monitor m = { s.monitor m with lastDetune := some d } :=
  s.monitor_setMonitor_same m _

/-- A detune target is a step of the Closed Order without an entry (R129). -/
theorem State.detuneTarget_spec {s : State} {k : StepId} (target : s.detuneTarget = some k) :
    k ∈ s.ss.closedOrder ∧ s.entryOf k = none := by
  refine ⟨List.mem_reverse.mp (List.mem_of_find?_eq_some target), ?_⟩
  simpa using List.find?_some target

/-! ## The activation as a whole -/

/-- Whatever its action, an activation leaves the monitor raised but for its last_detune, and the flags
set. -/
theorem State.activate_raised (s : State) (m : MonitorId) :
    { (s.activate m).monitor m with lastDetune := (s.monitor m).lastDetune } = (s.raised m).monitor m
      ∧ (s.raised m).Retains (s.activate m) := by
  have own := s.raised_monitor m
  cases action : s.set.settings.action m with
  | alarm =>
    rw [State.activate_alarm action, own]
    exact ⟨rfl, .refl _⟩
  | blockClose =>
    have kept := (State.examineIfBlockMoved_onlyIn (s.raised m) s).monitor (by decide) m
    rw [State.activate_blockClose action, kept, own]
    exact ⟨rfl, State.examineIfBlockMoved_retains _ s⟩
  | detune =>
    have named : ∀ d, (s.raised m).Retains ((s.raised m).setDetune m d) := fun d =>
      .of_onlyIn (State.setDetune_onlyIn _ m d) (by decide) (by decide) (by decide)
    rw [State.activate_detune action, own]
    cases target : (s.raised m).detuneTarget with
    | none =>
      rw [State.detune_none m target, State.setDetune_monitor, own]
      exact ⟨rfl, named _⟩
    | some k =>
      let r := s.raised m
      let w := r.setDetune m (.target k r.clock.uptime r.me.frame.number none)
      have kept := (State.admitOpen_onlyIn (s := w) (p := detuneOpen k) rfl
        (State.detuneTarget_spec target).2).monitor (by decide) m
      rw [State.detune_some m target]
      refine ⟨?_, (named _).trans (State.admitOne_retains w (detuneOpen k))⟩
      rw [kept, State.setDetune_monitor, own]

/-- At an exceeding frame that the monitor is not held at, its accumulator rises to at most twice the pickup
(R123). -/
theorem State.accumulatorAfter_exceeding {s : State} {m : MonitorId} {v : Nat}
    (compared : s.comparedValue m = some v) (above : s.set.settings.m .threshold m < v) :
    s.exceeding m = true
      ∧ s.accumulatorAfter m = min ((s.monitor m).accumulator + 1) (2 * s.pickup m) := by
  have exceeds : s.exceeding m = true := by simp [State.exceeding, compared, above]
  exact ⟨exceeds, by rw [State.accumulatorAfter, if_pos exceeds]⟩

theorem State.accumulatorAfter_below {s : State} {m : MonitorId} {v : Nat}
    (compared : s.comparedValue m = some v) (below : v ≤ s.set.settings.m .threshold m) :
    s.exceeding m = false ∧ s.accumulatorAfter m = (s.monitor m).accumulator - 1 := by
  have under : s.exceeding m = false := by simp [State.exceeding, compared, below]
  exact ⟨under, by rw [State.accumulatorAfter, if_neg (by simp [under])]⟩

/-- Settles O53: the monitor is raised with its flags, and its action then follows. -/
theorem monitorsActivateAndClear : Obligations.MonitorsActivateAndClear := by
  intro m s v running enabled settling noRef offFreq compared
  have free : s.monitorHeld m = false := by simp [State.monitorHeld, settling, noRef, offFreq, compared]
  refine ⟨fun above idle reached => ?_, fun below active low => ?_⟩
  · obtain ⟨exceeds, after⟩ := State.accumulatorAfter_exceeding compared above
    let u := s.setAccumulator m (s.accumulatorAfter m)
    let w := u.raised m
    have counted : s.onlyIn u [.hmu] := s.setAccumulator_onlyIn m _
    have only : s.onlyIn w [.hmu, .pi] :=
      State.onlyIn_trans (State.onlyIn_mono counted (by decide)) (u.raised_onlyIn m)
    have run : exec (.monitorActivation m) s = .next (u.activate m) := by
      refine congrArg Host.Outcome.next ((State.unlessHeld_free s _ running).trans ?_)
      rw [State.monitorActivates, if_pos ⟨enabled, free, exceeds, idle, after ▸ reached⟩]
    have before : u.monitor m = { s.monitor m with accumulator := s.accumulatorAfter m } :=
      s.monitor_setMonitor_same m _
    have own : w.monitor m = { s.monitor m with
        active := true
        accumulator := s.accumulatorAfter m
        assertCount := min 65535 ((s.monitor m).assertCount + 1) } := by
      rw [u.raised_monitor m, before]
    obtain ⟨raised, retained⟩ := u.activate_raised m
    rw [show (u.raised m).monitor m = w.monitor m from rfl, own] at raised
    refine ⟨u.activate m, run, (congrArg Monitor.active raised :),
      (congrArg Monitor.accumulator raised :).trans after, (congrArg Monitor.assertCount raised :),
      fun p => retained.flags p (State.setFlags_changeFlag _ p), fun action => ?_, fun action => ?_,
      fun action => ⟨fun absent => ?_, fun k target => ?_⟩⟩
    · rw [State.activate_alarm (s := u) action]
      refine ⟨(congrArg Monitor.lastDetune own :), fun j other => ?_, only⟩
      exact (u.raised_monitor_ne other).trans (s.monitor_setMonitor_ne j m _ other)
    · have examined := State.examineIfBlockMoved_onlyIn w u
      rw [State.activate_blockClose (s := u) action]
      refine ⟨State.harmonicBlock_of_active (m := m) ?_ ?_ ?_, fun still => ?_⟩
      · rw [examined .set (by decide)]; exact enabled
      · rw [examined.monitor (by decide), own]
      · rw [examined .set (by decide)]; exact action
      · rwa [State.examineIfBlockMoved_idle (s := w) still]
    · rw [State.activate_detune (s := u) action, State.detune_none m (s := w) absent,
        State.setDetune_monitor]
      rfl
    · have entry : s.entryOf k = none := (State.detuneTarget_spec (s := s) target).2
      let d := w.setDetune m (.target k s.clock.uptime s.me.frame.number none)
      have named : s.onlyIn d [.hmu, .pi] := State.onlyIn_trans only
        (State.onlyIn_mono (w.setDetune_onlyIn m _) (by decide))
      have admitted := State.admitOpen_onlyIn (s := d) (p := detuneOpen k) rfl entry
      rw [State.activate_detune (s := u) action, State.detune_some m (s := w) target]
      refine ⟨?_, fun sound => ?_, fun flying => ?_⟩
      · exact (congrArg Monitor.lastDetune ((admitted.monitor (by decide) m).trans
          (w.setDetune_monitor m _)) :)
      · have closed : (s.stepRec k).state = some .closed :=
          (sound.2.2.2 k).mp (State.detuneTarget_spec (s := s) target).1
        obtain ⟨e, stands, kind, originator, -, -⟩ :=
          State.admitOpen_stands (s := d) (p := detuneOpen k) rfl entry closed
        exact ⟨e, stands, kind, originator⟩
      · exact State.onlyIn_trans (State.onlyIn_mono named (by decide))
          (State.onlyIn_mono (State.admitOpen_flying (s := d) (p := detuneOpen k) rfl entry flying) (by decide))
  · obtain ⟨under, after⟩ := State.accumulatorAfter_below compared below
    have zero : s.accumulatorAfter m = 0 := by omega
    let u := s.setAccumulator m 0
    let w := (u.setMonitor m { u.monitor m with active := false }).setFlags
    have run : exec (.monitorClearing m) s = .next (w.examineIfBlockMoved u) := by
      refine congrArg Host.Outcome.next ((State.unlessHeld_free s _ running).trans ?_)
      rw [State.monitorClears, if_pos ⟨enabled, free, under, active, zero⟩]
      rfl
    have only : s.onlyIn w [.hmu, .pi] := State.onlyIn_trans
      (State.onlyIn_mono (s.setAccumulator_onlyIn m 0) (by decide))
      (State.onlyIn_trans (State.onlyIn_mono (u.setMonitor_onlyIn m _) (by decide))
        (State.onlyIn_mono (State.setFlags_onlyIn _) (by decide)))
    have examined := State.examineIfBlockMoved_onlyIn w u
    have cleared : w.monitor m = { u.monitor m with active := false } := u.monitor_setMonitor_same m _
    have counted : u.monitor m = { s.monitor m with accumulator := 0 } := s.monitor_setMonitor_same m _
    refine ⟨_, run, ?_, fun p => ?_, fun j other => ?_, fun still => ?_⟩
    · rw [examined.monitor (by decide), cleared, counted]
    · exact (State.examineIfBlockMoved_retains w u).flags p (State.setFlags_changeFlag _ p)
    · rw [examined.monitor (by decide)]
      exact (u.monitor_setMonitor_ne j m _ other).trans (s.monitor_setMonitor_ne j m _ other)
    · rwa [State.examineIfBlockMoved_idle (s := w) still]

end Sys2Proof.Machine
end

section
/-!
SUPPORT. Postings judged by the pending entry they meet (R50 to R58).
-/
namespace Sys2Proof.Machine

/-! ## What a posting is judged by (R50) -/

theorem State.post_absent {s : State} {p : Posting} (absent : (s.stepRec p.step).state = none) :
    s.post p = (s, .wrongState) := by
  rw [State.post, if_pos absent]

theorem State.post_trip {s : State} {p : Posting} (kind : p.kind = .tripOp)
    (entry : s.entryOf p.step = none) : s.post p = s.postTrip p := by
  by_cases absent : (s.stepRec p.step).state = none
  · rw [State.post_absent absent]
    simp [State.postTrip, absent]
  · simp [State.post, absent, entry, kind]

section
variable {s : State} {p : Posting} {e : Entry} (present : (s.stepRec p.step).state ≠ none)
  (entry : s.entryOf p.step = some e)
include present entry

theorem State.post_onWaitingClose (waits : e.status = .waiting) (kind : e.kind = .closeOp) :
    s.post p = s.postOnWaitingClose e p := by
  simp [State.post, present, entry, waits, kind]

theorem State.post_onWaitingOpen (waits : e.status = .waiting) (kind : e.kind = .openOp) :
    s.post p = s.postOnWaitingOpen e p := by
  simp [State.post, present, entry, waits, kind]

theorem State.post_onWaitingTrip (waits : e.status = .waiting) (kind : e.kind = .tripOp) :
    s.post p = s.postOnWaitingTrip p := by
  simp [State.post, present, entry, waits, kind]

theorem State.post_onFlightClose (flies : e.status = .inFlight) (kind : e.kind = .closeOp) :
    s.post p = s.postOnFlightClose e p := by
  simp [State.post, present, entry, flies, kind]

theorem State.post_onFlightOpen (flies : e.status = .inFlight) (kind : e.kind ≠ .closeOp) :
    s.post p = s.postOnFlightOpen e p := by
  cases is : e.kind with
  | closeOp => exact absurd is kind
  | openOp => simp [State.post, present, entry, flies, is]
  | tripOp => simp [State.post, present, entry, flies, is]

end

/-! ## Results -/

/-- A result stands where its originator looks for it (R75, R114). -/
theorem State.giveResult_gives {s u : State} (clock : u.clock = s.clock) (o : Originator)
    (tag : Option Byte) (k : StepId) (kind : OpKind) (fast : Bool) (r : OutcomeResult) :
    givesResult s (u.giveResult o tag k kind fast r) o tag k (whatOf kind) r := by
  constructor
  · rintro p rfl
    refine ⟨(u.stepRec k).state, ?_⟩
    rw [← clock]
    cases p <;> exact State.insertOutcome_getLast _ _ _
  · rintro rfl
    exact ⟨_, rfl, rfl, rfl, congrArg Clock.uptime clock⟩

theorem State.entryResult_gives {s u : State} (clock : u.clock = s.clock) (e : Entry) (r : OutcomeResult) :
    givesResult s (u.entryResult e r) e.originator e.tag e.step (whatOf e.kind) r :=
  State.giveResult_gives clock _ _ _ _ _ _

theorem State.markResult_gives {s u : State} (clock : u.clock = s.clock) (k : StepId) (m : Mark)
    (r : OutcomeResult) : givesResult s (u.markResult k m r) m.originator m.tag k (whatOf m.kind) r :=
  State.giveResult_gives clock _ _ _ _ _ _

/-! ## Entries changed in place -/

theorem State.modEntry_onlyIn (s : State) (k : StepId) (f : Entry → Entry) :
    s.onlyIn (s.modEntry k f) [.oq] := by
  intro b hb
  cases b <;> simp_all [State.sameBlock, State.modEntry]

theorem State.setMark_onlyIn (s : State) (p : Posting) : s.onlyIn (s.setMark p) [.oq] :=
  s.modEntry_onlyIn p.step _

/-- A removed entry leaves the step without one. -/
theorem State.dropEntry_entryOf (s : State) (k : StepId) : (s.dropEntry k).entryOf k = none :=
  State.entryOf_none_iff.mpr fun e mem => by
    rw [State.dropEntry_oq] at mem
    simpa using (List.mem_filter.mp mem).2

theorem State.coilsOff_steps (s : State) (k : StepId) : (s.coilsOff k).ss.steps = s.ss.steps := by
  unfold State.coilsOff
  split
  · rfl
  · split <;> rfl

theorem State.assertBkt_steps (s : State) (k : StepId) (b : BackupReason) (o : Originator) :
    (s.assertBkt k b o).ss.steps = s.ss.steps := (s.assertBkt_table k b o).steps

/-! ## A TRIP that meets no entry (R53) -/

/-- A TRIP of a READY or DISCHARGING step without an entry locks it out and leaves its discharge time
(R53). -/
theorem State.postTrip_locksOut {s : State} {p : Posting} (entry : s.entryOf p.step = none)
    (away : (s.stepRec p.step).state = some .ready ∨ (s.stepRec p.step).state = some .discharging) :
    (s.postTrip p).2 = .done
      ∧ ((s.postTrip p).1.stepRec p.step).state = some .lockout
      ∧ ((s.postTrip p).1.stepRec p.step).lockoutCause = some (lockoutCauseOf p.originator)
      ∧ ((s.postTrip p).1.stepRec p.step).discharge = (s.stepRec p.step).discharge
      ∧ (∀ j, j ≠ p.step → (s.postTrip p).1.stepRec j = s.stepRec j)
      ∧ s.onlyIn (s.postTrip p).1 [.ss, .cu, .au, .pi, .os] := by
  let t := s.enter p.step .lockout (some (lockoutCauseOf p.originator)) none
  have posted : s.postTrip p = (t, .done) := by
    rcases away with ready | discharging
    · simp [State.postTrip, ready, t]
    · simp [State.postTrip, discharging, t]
  have notClosed : (s.stepRec p.step).state ≠ some .closed := by
    rcases away with ready | discharging
    · simp [ready]
    · simp [discharging]
  have own : t.stepRec p.step = recordAfter (s.stepRec p.step) .lockout
      (some (lockoutCauseOf p.originator)) none :=
    ((s.enter_spec p.step _ _ _).1 p.step).trans (if_pos rfl)
  have record := s.enter_record p.step .lockout (some (lockoutCauseOf p.originator)) none
  rw [posted]
  exact ⟨rfl, s.enter_state _ _ _ _, by rw [own, (recordAfter_kept _ _ _ _).2.2.2.2.1], record.2.1,
    fun j other => s.enter_stepRec_ne _ _ _ _ _ other,
    State.onlyIn_mono ((State.Quiet.of_none entry).enter_onlyIn notClosed _ _ _) (by decide)⟩

/-- A TRIP of a FAILED step is refused, and asserts BKT unless the switch is open (R53, R151). -/
theorem State.postTrip_failed {s : State} {p : Posting}
    (failed : (s.stepRec p.step).state = some .failed) :
    s.postTrip p = if (s.stepRec p.step).position = some .atOpen then (s, .wrongState)
      else (s.assertBkt p.step .failedStep p.originator, .wrongState) := by
  simp [State.postTrip, failed]

theorem State.assertBkt_backup_none {s : State} (off : s.bkt = false) (k : StepId) (b : BackupReason)
    (o : Originator) : (s.assertBkt k b o).upu.backup
      = some { step := k, reason := b, originator := o, uptime := s.clock.uptime } := by
  rw [State.assertBkt, if_neg (by simp [off]), State.closeCoilOff_onlyIn _ .upu (by decide)]
  rfl

/-- What a TRIP does that meets no pending entry (R53). -/
theorem State.post_trip_table (s : State) (p : Posting) (kind : p.kind = .tripOp)
    (entry : s.entryOf p.step = none) :
    ((s.stepRec p.step).state = some .closed →
        (s.post p).2 = .accepted
          ∧ (s.post p).1.oq = { s.oq with entries := s.oq.entries ++ [s.newEntry p] }
          ∧ s.onlyIn (s.post p).1 [.oq])
      ∧ ((s.stepRec p.step).state = some .lockout → s.post p = (s, .done))
      ∧ ((s.stepRec p.step).state = some .out → s.post p = (s, .wrongState))
      ∧ ((s.stepRec p.step).state = some .failed →
          (s.post p).2 = .wrongState
            ∧ ((s.stepRec p.step).position = some .atOpen → (s.post p).1 = s)
            ∧ ((s.stepRec p.step).position ≠ some .atOpen →
                (s.post p).1.bkt = true ∧ (s.post p).1.ss.steps = s.ss.steps
                  ∧ s.onlyIn (s.post p).1 [.ss, .upu, .pi]
                  ∧ (s.bkt = false → (s.post p).1.upu.backup =
                      some { step := p.step, reason := .failedStep, originator := p.originator
                             uptime := s.clock.uptime }))) := by
  refine ⟨fun closed => ?_, fun locked => ?_, fun out => ?_, fun failed => ?_⟩
  · rw [State.post_trip_closed kind entry closed]
    exact ⟨rfl, rfl, s.admitNew_onlyIn p⟩
  · rw [State.post_trip kind entry]
    simp [State.postTrip, locked]
  · rw [State.post_trip kind entry]
    simp [State.postTrip, out]
  · rw [State.post_trip kind entry, State.postTrip_failed failed]
    by_cases opened : (s.stepRec p.step).position = some .atOpen
    · rw [if_pos opened]
      exact ⟨rfl, fun _ => rfl, fun away => absurd opened away⟩
    · rw [if_neg opened]
      exact ⟨rfl, fun there => absurd there opened, fun _ => ⟨State.assertBkt_bkt _ _ _ _,
        s.assertBkt_steps _ _ _, State.onlyIn_mono (s.assertBkt_onlyIn _ _ _) (by decide),
        fun off => State.assertBkt_backup_none off _ _ _⟩⟩

/-! ## A posting that meets a WAITING CLOSE (R54) -/

/-- An OPEN removes a WAITING CLOSE with CANCELLED and changes no step (R54). -/
theorem State.postOnWaitingClose_open {s : State} {p : Posting} {e : Entry} (kind : p.kind = .openOp)
    (entry : s.entryOf p.step = some e) (waits : e.status = .waiting) (close : e.kind = .closeOp) :
    (s.postOnWaitingClose e p).2 = .done
      ∧ (s.postOnWaitingClose e p).1.oq
          = { s.oq with entries := s.oq.entries.filter (fun x => x.step ≠ p.step) }
      ∧ givesResult s (s.postOnWaitingClose e p).1 e.originator e.tag e.step .closeOp
          (.cancelled .openedByRequest)
      ∧ (s.postOnWaitingClose e p).1.ss.steps = s.ss.steps
      ∧ s.onlyIn (s.postOnWaitingClose e p).1 [.ss, .oq, .os, .pi, .avc, .hmu, .upu]
      ∧ (s.QueueSound → s.CoilsSound → (s.postOnWaitingClose e p).1.ss = s.ss) := by
  let d := s.dropEntry p.step
  have posted : s.postOnWaitingClose e p = (d.entryResult e (.cancelled .openedByRequest), .done) := by
    simp [State.postOnWaitingClose, kind, d]
  have result := d.entryResult_onlyIn e (.cancelled .openedByRequest)
  have dropped := s.dropEntry_onlyIn p.step
  have gives := State.entryResult_gives (dropped .clock (by decide)) e (.cancelled .openedByRequest)
  rw [close] at gives
  rw [posted]
  refine ⟨rfl, (result .oq (by decide)).trans (s.dropEntry_oq _), gives, ?_, ?_, fun queue coils => ?_⟩
  · rw [result .ss (by decide)]
    exact State.coilsOff_steps _ _
  · exact State.onlyIn_trans (State.onlyIn_mono dropped (by decide)) (State.onlyIn_mono result (by decide))
  · obtain ⟨mem, step⟩ := State.mem_of_entryOf entry
    rw [result .ss (by decide)]
    exact State.dropEntry_ss fun x runs => step ▸ coils.away queue.1 mem waits x runs

/-- A TRIP removes a WAITING CLOSE with CANCELLED and locks the step out (R54). -/
theorem State.postOnWaitingClose_trip {s : State} {p : Posting} {e : Entry} (kind : p.kind = .tripOp)
    (close : e.kind = .closeOp) :
    (s.postOnWaitingClose e p).2 = .done
      ∧ (s.postOnWaitingClose e p).1.oq
          = { s.oq with entries := s.oq.entries.filter (fun x => x.step ≠ p.step) }
      ∧ ((s.postOnWaitingClose e p).1.stepRec p.step).state = some .lockout
      ∧ ((s.postOnWaitingClose e p).1.stepRec p.step).lockoutCause = some (lockoutCauseOf p.originator)
      ∧ (∀ j, j ≠ p.step → (s.postOnWaitingClose e p).1.stepRec j = s.stepRec j)
      ∧ givesResult s (s.postOnWaitingClose e p).1 e.originator e.tag e.step .closeOp
          (.cancelled .lockout)
      ∧ s.onlyIn (s.postOnWaitingClose e p).1 [.ss, .oq, .cu, .au, .os, .pi, .avc, .hmu, .upu] := by
  let d := s.dropEntry p.step
  let w := d.enter p.step .lockout (some (lockoutCauseOf p.originator)) none
  have posted : s.postOnWaitingClose e p = (w.entryResult e (.cancelled .lockout), .done) := by
    simp [State.postOnWaitingClose, kind, d, w]
  have result := w.entryResult_onlyIn e (.cancelled .lockout)
  have dropped := s.dropEntry_onlyIn p.step
  have left : d.entryOf p.step = none := s.dropEntry_entryOf p.step
  obtain ⟨queue, entered, -⟩ := (State.Quiet.of_none left).enter_rest .lockout
    (some (lockoutCauseOf p.originator)) none
  have records : ∀ j, (w.entryResult e (.cancelled .lockout)).stepRec j = w.stepRec j := fun j =>
    congrArg (fun x : SsState => x.steps[j]) (result .ss (by decide))
  have before : ∀ j, d.stepRec j = s.stepRec j := fun j =>
    congrArg (fun x : Vector StepRecord 8 => x[j]) (State.coilsOff_steps _ _)
  have own := ((d.enter_spec p.step .lockout (some (lockoutCauseOf p.originator)) none).1 p.step).trans
    (if_pos rfl)
  have gives := State.entryResult_gives ((entered .clock (by decide)).trans (dropped .clock (by decide))) e
    (.cancelled .lockout)
  rw [close] at gives
  rw [posted]
  refine ⟨rfl, ?_, ?_, ?_, fun j other => ?_, gives, ?_⟩
  · exact (result .oq (by decide)).trans (queue.trans (s.dropEntry_oq _))
  · rw [records]; exact d.enter_state _ _ _ _
  · rw [records, own, (recordAfter_kept _ _ _ _).2.2.2.2.1]
  · rw [records, ← before j]; exact d.enter_stepRec_ne _ _ _ _ _ other
  · exact State.onlyIn_trans (State.onlyIn_mono dropped (by decide)) (State.onlyIn_trans
      (State.onlyIn_mono entered (by decide)) (State.onlyIn_mono result (by decide)))

/-! ## A TRIP that meets a WAITING OPEN (R55), and the marks (R57, R58) -/

/-- The entry that a TRIP makes of a WAITING OPEN (R55). -/
def Entry.upgraded (e : Entry) (p : Posting) : Entry :=
  { e with kind := .tripOp, originator := p.originator, tag := p.tag, fast := p.fast }

theorem State.postOnWaitingOpen_trip {s : State} {p : Posting} (kind : p.kind = .tripOp) (e : Entry) :
    s.postOnWaitingOpen e p
      = ((s.modEntry p.step (fun x => x.upgraded p)).entryResult e .superseded, .accepted) := by
  simp [State.postOnWaitingOpen, kind, Entry.upgraded]

theorem State.postOnFlightClose_marks {s : State} {p : Posting} {e : Entry}
    (kind : p.kind = .openOp ∨ p.kind = .tripOp) (unmarked : e.mark = none) :
    s.postOnFlightClose e p = (s.setMark p, .accepted) := by
  rcases kind with kind | kind <;> simp [State.postOnFlightClose, kind, unmarked]

theorem State.postOnFlightClose_replaces {s : State} {p : Posting} {e : Entry} {m : Mark}
    (kind : p.kind = .tripOp) (marked : e.mark = some m) (opens : m.kind = .openOp) :
    s.postOnFlightClose e p = ((s.setMark p).markResult p.step m .superseded, .accepted) := by
  simp [State.postOnFlightClose, kind, marked, opens]

end Sys2Proof.Machine
end

section
/-!
PROOF. The Trip Record (R145), the decision that meets an external trip edge (R150), and the table of
postings (R50 to R58).
-/
namespace Sys2Proof.Machine

/-! ## The Trip Record (R145) -/

/-- What a protection trip fills an empty Trip Record with (R145). -/
def State.tripRecordOf (s : State) (cause : LockoutCause) (step : Option StepId) (u : Option Nat)
    (dre dim : Option Int) : TripRecord :=
  { cause := cause
    step := step
    uptime := s.clock.uptime
    frame := s.me.frame.number
    u := u
    dre := dre
    dim := dim
    vAvg := s.me.frame.vAvg
    di := s.me.frame.largestDi
    further := 0 }

theorem entersTripRecord_empty {s t : State} {r : TripRecord} (empty : s.upu.tripRecord = none)
    (filled : t.upu.tripRecord = some r) (flags : ∀ p, (t.portState p).changeFlag = true) :
    entersTripRecord s t r := by
  simp only [entersTripRecord, empty]
  exact ⟨filled, flags⟩

theorem entersTripRecord_held {s t : State} {r old : TripRecord} (held : s.upu.tripRecord = some old)
    (counted : t.upu.tripRecord = some { old with further := min 255 (old.further + 1) }) :
    entersTripRecord s t r := by
  simp only [entersTripRecord, held]
  exact counted

/-- What follows keeps the entry in the Trip Record, and what comes before leaves the record. -/
theorem entersTripRecord.mono {s w t u : State} {r : TripRecord} (enters : entersTripRecord w t r)
    (before : w.upu.tripRecord = s.upu.tripRecord) (after : t.Retains u) : entersTripRecord s u r := by
  cases held : w.upu.tripRecord with
  | none =>
    simp only [entersTripRecord, held] at enters
    obtain ⟨filled, flags⟩ := enters
    exact entersTripRecord_empty (before.symm.trans held) (after.tripRecord.trans filled)
      fun p => after.flags p (flags p)
  | some old =>
    simp only [entersTripRecord, held] at enters
    exact entersTripRecord_held (before.symm.trans held) (after.tripRecord.trans enters)

/-- A protection trip enters the Trip Record, and dispatch may be examined then (R145, R146). -/
theorem State.enterTripRecord_cases (s : State) (cause : LockoutCause) (step : Option StepId)
    (u : Option Nat) (dre dim : Option Int) :
    ∃ w, s.onlyIn w [.upu, .pi] ∧ { w.upu with tripRecord := s.upu.tripRecord } = s.upu
      ∧ entersTripRecord s w (s.tripRecordOf cause step u dre dim)
      ∧ (s.enterTripRecord cause step u dre dim = w
          ∨ s.enterTripRecord cause step u dre dim = w.examine) := by
  have written : ∀ r, s.onlyIn { s with upu := { s.upu with tripRecord := r } } [.upu, .pi] := fun r b hb => by
    cases b <;> simp_all [State.sameBlock]
  cases held : s.upu.tripRecord with
  | none =>
    refine ⟨({ s with upu := { s.upu with
      tripRecord := some (s.tripRecordOf cause step u dre dim) } } : State).setFlags,
      State.onlyIn_trans (written _) (State.onlyIn_mono (State.setFlags_onlyIn _) (by decide)), ?_,
      entersTripRecord_empty held rfl (State.setFlags_changeFlag _), .inr ?_⟩
    · rw [← held]
      rfl
    · simp only [State.enterTripRecord, held]
      rfl
  | some old =>
    refine ⟨{ s with upu := { s.upu with
      tripRecord := some { old with further := min 255 (old.further + 1) } } }, written _, ?_,
      entersTripRecord_held held rfl, .inl ?_⟩
    · rw [← held]
    · simp only [State.enterTripRecord, held]

theorem State.enterTripRecord_enters (s : State) (cause : LockoutCause) (step : Option StepId)
    (u : Option Nat) (dre dim : Option Int) :
    entersTripRecord s (s.enterTripRecord cause step u dre dim)
      (s.tripRecordOf cause step u dre dim) := by
  obtain ⟨w, -, -, enters, same | examined⟩ := s.enterTripRecord_cases cause step u dre dim
  · rw [same]; exact enters
  · rw [examined]; exact entersTripRecord.mono enters rfl w.examine_retains

theorem State.enterTripRecord_onlyIn (s : State) (cause : LockoutCause) (step : Option StepId)
    (u : Option Nat) (dre dim : Option Int) :
    s.onlyIn (s.enterTripRecord cause step u dre dim) [.ss, .oq, .cu, .upu, .au, .pi, .os] := by
  obtain ⟨w, only, -, -, same | examined⟩ := s.enterTripRecord_cases cause step u dre dim
  · rw [same]; exact State.onlyIn_mono only (by decide)
  · rw [examined]; exact State.onlyIn_trans (State.onlyIn_mono only (by decide)) w.examine_onlyIn

/-- With an operation in flight a trip writes the Trip Record and the flags alone (R145). -/
theorem State.enterTripRecord_idle {s : State} (idle : s.inFlight ≠ none ∨ s.oq.entries = [])
    (cause : LockoutCause) (step : Option StepId) (u : Option Nat) (dre dim : Option Int) :
    s.onlyIn (s.enterTripRecord cause step u dre dim) [.upu, .pi] := by
  obtain ⟨w, only, -, -, same | examined⟩ := s.enterTripRecord_cases cause step u dre dim
  · rw [same]; exact only
  · have queue : w.oq = s.oq := only .oq (by decide)
    rw [examined, State.examine_idle (by rwa [State.inFlight, queue])]
    exact only

theorem State.enterTripRecord_edge (s : State) (cause : LockoutCause) (step : Option StepId)
    (u : Option Nat) (dre dim : Option Int) :
    (s.enterTripRecord cause step u dre dim).upu.edge = s.upu.edge := by
  obtain ⟨w, -, upu, -, same | examined⟩ := s.enterTripRecord_cases cause step u dre dim
  · rw [same]; exact (congrArg UpuState.edge upu :)
  · rw [examined, w.examine_retains.edge]; exact (congrArg UpuState.edge upu :)

/-! ## An unbalance trip decision (R142, R145) -/

/-- The state in which the TRIP of a decision is posted: the step's trip count is 0 (R142). -/
theorem State.decideTrip_eq (s : State) (k : StepId) (u : Nat) (dre dim : Int) :
    s.decideTrip k u dre dim
      = (((s.setTripCount k 0).admitOne (unbalanceTrip k)).1).enterTripRecord .unbalance (some k)
          (some u) (some dre) (some dim) := rfl

theorem State.setTripCount_onlyIn (s : State) (k : StepId) (n : Nat) : s.onlyIn (s.setTripCount k n) [.ss] :=
  s.modStep_onlyIn k _

theorem State.setTripCount_same (s : State) (k : StepId) (n : Nat) :
    (s.setTripCount k n).stepRec k = { s.stepRec k with tripCount := n } :=
  State.stepRec_setStep_same _ _ _

theorem State.setTripCount_ne (s : State) {k j : StepId} (other : j ≠ k) (n : Nat) :
    (s.setTripCount k n).stepRec j = s.stepRec j :=
  State.stepRec_setStep_ne _ _ _ _ other

/-- A decision enters the Trip Record (R145). -/
theorem State.decideTrip_enters (s : State) (k : StepId) (u : Nat) (dre dim : Int) :
    entersTripRecord s (s.decideTrip k u dre dim)
      (s.tripRecordOf .unbalance (some k) (some u) (some dre) (some dim)) := by
  let w := ((s.setTripCount k 0).admitOne (unbalanceTrip k)).1
  have retained : s.Retains w :=
    (State.modStep_retains s k _).trans (State.admitOne_retains _ (unbalanceTrip k))
  have kept : s.Keeps w := (s.setTripCount_keeps k 0).trans (State.admitOne_keeps _ (unbalanceTrip k))
  have enters := w.enterTripRecord_enters .unbalance (some k) (some u) (some dre) (some dim)
  have same : w.tripRecordOf .unbalance (some k) (some u) (some dre) (some dim)
      = s.tripRecordOf .unbalance (some k) (some u) (some dre) (some dim) := by
    simp only [State.tripRecordOf, kept.me, kept.clock]
  rw [same] at enters
  exact entersTripRecord.mono enters retained.tripRecord (.refl _)

/-! ## The edge and the frame of one instant (R150) -/

theorem unbalanceAt_eq (s : State) (k : StepId) : unbalanceAt s k = (s.dreNow k, s.dimNow k, s.uNow k) := by
  have re : (unbalanceAt s k).1 = s.dreNow k := by
    unfold unbalanceAt State.dreNow
    cases (s.stepRec k).compensation with
    | none => exact Int.sub_zero _
    | some c => rfl
  have im : (unbalanceAt s k).2.1 = s.dimNow k := by
    unfold unbalanceAt State.dimNow
    cases (s.stepRec k).compensation with
    | none => exact Int.sub_zero _
    | some c => rfl
  have level : (unbalanceAt s k).2.2 = if s.me.frame.neutrals[k].clip then 9999
      else min 9999 (isqrt ((unbalanceAt s k).1 ^ 2 + (unbalanceAt s k).2.1 ^ 2).toNat * 10000
        / (16 * s.set.settings.s .irated k)) := rfl
  rw [re, im, pow_two, pow_two] at level
  exact Prod.ext re (Prod.ext im level)

theorem State.edgeCount_some {s : State} {k : StepId} {g : TripEdge} {n : Nat} (edge : s.upu.edge = some g)
    (now : g.instant = s.clock.now) (found : g.counts.find? (fun x => x.1 = k) = some (k, n)) :
    s.edgeCount k = some n := by
  simp [State.edgeCount, edge, now, found]

theorem State.edgeCount_none {s : State} {k : StepId}
    (away : ∀ g, s.upu.edge = some g →
      g.instant ≠ s.clock.now ∨ g.counts.find? (fun x => x.1 = k) = none) : s.edgeCount k = none := by
  unfold State.edgeCount
  split
  · rfl
  · next g edge =>
    rcases away g edge with earlier | absent
    · rw [if_neg earlier]
    · rw [absent, Option.map_none, ite_self]

theorem State.tripInFlight_iff (s : State) (k : StepId) :
    s.tripInFlight k = true ↔ (s.stepRec k).state = some .opening
      ∧ ∃ e, s.inFlight = some e ∧ e.step = k ∧ e.kind = .tripOp := by
  simp [State.tripInFlight, Option.map_eq_some_iff]

theorem State.furtherDue_of_edge {s : State} {k : StepId} {n : Nat} (edge : s.edgeCount k = some n) :
    s.furtherDue k = (s.tripInFlight k && decide (s.set.settings.s .utrip k ≤ s.uNow k)
      && decide (s.set.settings.s .ttrip k ≤ n + 1)) := by
  simp [State.furtherDue, edge]

/-- Without an edge of this instant, a TRIP in flight and a U at UTRIP no decision of R150 is due. -/
theorem State.furtherDue_false {s : State} {k : StepId}
    (missing : (∀ g, s.upu.edge = some g →
          g.instant ≠ s.clock.now ∨ g.counts.find? (fun x => x.1 = k) = none)
        ∨ (s.stepRec k).state ≠ some .opening
        ∨ (∀ e, s.inFlight = some e → e.step ≠ k ∨ e.kind ≠ .tripOp)
        ∨ (unbalanceAt s k).2.2 < s.set.settings.s .utrip k) : s.furtherDue k = false := by
  cases edge : s.edgeCount k with
  | none => exact s.furtherDue_of_edgeCount k edge
  | some n =>
    rw [State.furtherDue_of_edge edge]
    rcases missing with away | moved | other | low
    · rw [State.edgeCount_none away] at edge
      cases edge
    · have none_ : s.tripInFlight k = false := Bool.eq_false_iff.mpr fun flies =>
        moved ((s.tripInFlight_iff k).mp flies).1
      rw [none_]; rfl
    · have none_ : s.tripInFlight k = false := Bool.eq_false_iff.mpr fun flies => by
        obtain ⟨-, e, found, step, kind⟩ := (s.tripInFlight_iff k).mp flies
        exact (other e found).elim (· step) (· kind)
      rw [none_]; rfl
    · rw [unbalanceAt_eq] at low
      rw [decide_eq_false (Nat.not_le.mpr low), Bool.and_false]; rfl

/-- A TRIP that meets a TRIP in flight leaves the queue (R58). -/
theorem State.admitOne_onFlightTrip {s : State} {k : StepId} {e : Entry} {p : Posting}
    (nodup : (s.oq.entries.map (·.step)).Nodup) (flight : s.inFlight = some e) (step : e.step = k) (kind : e.kind = .tripOp) (names : p.step = k)
    (trip : p.kind = .tripOp) (present : (s.stepRec k).state ≠ none) : (s.admitOne p).1 = s := by
  obtain ⟨mem, flies⟩ := State.mem_of_inFlight flight
  have entry : s.entryOf p.step = some e := names ▸ step ▸ entryOf_eq nodup mem
  have posted : s.post p = (s, .accepted) := by
    rw [State.post_onFlightOpen (names ▸ present) entry flies (by simp [kind])]
    simp [State.postOnFlightOpen, trip, kind]
  rw [State.admitOne, posted, s.examine_inFlight (by simp [flight])]

/-- A frame of the edge's instant that brings a decision to a step whose TRIP is in flight already: the
entry stays, and the decision enters the Trip Record (R58, R145, R150). -/
theorem State.decideTrip_onFlightTrip {s : State} {k : StepId} {e : Entry} (queue : s.QueueSound)
    (opening : (s.stepRec k).state = some .opening) (flight : s.inFlight = some e) (step : e.step = k)
    (kind : e.kind = .tripOp) (u : Nat) (dre dim : Int) :
    (s.decideTrip k u dre dim).oq = s.oq
      ∧ (s.decideTrip k u dre dim).stepRec k = { s.stepRec k with tripCount := 0 }
      ∧ (∀ j, j ≠ k → (s.decideTrip k u dre dim).stepRec j = s.stepRec j)
      ∧ s.onlyIn (s.decideTrip k u dre dim) [.ss, .upu, .pi] := by
  let w := s.setTripCount k 0
  have present : (w.stepRec k).state ≠ none := by simp [w, s.setTripCount_same, opening]
  have admitted : (w.admitOne (unbalanceTrip k)).1 = w :=
    State.admitOne_onFlightTrip queue.1 flight step kind rfl rfl present
  rw [State.decideTrip_eq, admitted]
  have entered := State.enterTripRecord_idle (s := w) (.inl (by simp [show w.inFlight = some e from flight]))
    .unbalance (some k) (some u) (some dre) (some dim)
  have records : ∀ j, (w.enterTripRecord .unbalance (some k) (some u) (some dre) (some dim)).stepRec j
      = w.stepRec j := fun j => congrArg (fun x : SsState => x.steps[j]) (entered .ss (by decide))
  exact ⟨entered .oq (by decide), (records k).trans (s.setTripCount_same k 0),
    fun j other => (records j).trans (s.setTripCount_ne other 0),
    State.onlyIn_trans (State.onlyIn_mono (s.setTripCount_onlyIn k 0) (by decide))
      (State.onlyIn_mono entered (by decide))⟩

/-! ## The external trip's edge (R149) -/

theorem State.externalPosts_retains (s : State) : s.Retains s.externalPosts := by
  have one : ∀ (t : State) (k : StepId),
      t.Retains (if t.externallyTripped k then (t.admitOne (externalTrip k)).1 else t) := fun t k =>
    .ite _ (t.admitOne_retains _) (.refl t)
  exact .foldl _ one _ s

theorem State.lockOutOpen_retains (s : State) : s.Retains s.lockOutOpen := by
  unfold State.lockOutOpen
  exact .foldl _ (fun t k => .ite _ (t.enter_retains k _ _ _) (.refl t)) _ s

theorem State.externalParts_retains (s : State) : s.Retains s.externalParts :=
  (s.externalPosts_retains.trans (State.lockOutOpen_retains _)).trans (State.examineIfLeft_retains _ _)

theorem State.externalEdge_eq (s : State) : s.externalEdge
    = (s.noteEdge.enterTripRecord .external none none none none).externalParts := rfl

theorem State.externalEdge_edge (s : State) : s.externalEdge.upu.edge = s.noteEdge.upu.edge := by
  rw [s.externalEdge_eq, (State.externalParts_retains _).edge, State.enterTripRecord_edge]

/-- The command of an assertion edge accepts the level and runs the edge (R149). -/
theorem exec_externalTripAssertion {s : State} (running : s.clock.held = none)
    (raw : s.ss.tripIn.raw = true) (fresh : s.ss.tripIn.accepted ≠ some true) :
    exec .externalTripAssertion s = .next (s.accept .externalTrip).externalEdge := by
  have accepts : s.ss.tripIn.toAccept = true := by simpa [Debouncer.toAccept, raw] using fresh
  have taken : s.acceptAssertion = (s.accept .externalTrip).externalEdge :=
    if_pos (c := s.ss.tripIn.toAccept = true ∧ s.ss.tripIn.raw = true) ⟨accepts, raw⟩
  exact congrArg Host.Outcome.next ((s.unlessHeld_free _ running).trans taken)

/-- Accepting the level of the external trip leaves the table of steps, and moves the count (R4). -/
theorem State.acceptTrip_rest (s : State) :
    s.onlyIn (s.accept .externalTrip) [.clock, .ss] ∧ (s.accept .externalTrip).ss.steps = s.ss.steps :=
  ⟨fun b hb => by cases b <;> simp_all [State.sameBlock, State.accept, State.takeRaw, State.setDebouncer], rfl⟩

theorem State.noteEdge_edge (s : State) (k : StepId) (n : Nat) {g : TripEdge}
    (edge : s.noteEdge.upu.edge = some g) : g.instant = s.clock.now
      ∧ ((k, n) ∈ g.counts ↔ (s.stepRec k).state = some .closed ∧ n = (s.stepRec k).tripCount) := by
  have is : g.instant = s.clock.now := by
    simp only [State.noteEdge, State.setEdge_edge, Option.some.injEq] at edge
    rw [← edge]
  refine ⟨is, ⟨fun mem => (s.mem_noteEdge k n).mp ⟨g, edge, is, mem⟩, fun closed => ?_⟩⟩
  obtain ⟨g', edge', -, mem⟩ := (s.mem_noteEdge k n).mpr closed
  rwa [Option.some.inj (edge.symm.trans edge')]

theorem State.completeCapture_edge (s : State) (c : Capture) :
    (s.completeCapture c).upu.edge = s.upu.edge := by
  let w := s.compensated c
  have upu : (w.insertOutcome .a (w.outcomeOf c.tag c.step .capture .captured)).upu = s.upu :=
    (w.insertOutcome_onlyIn .a _ .upu (by decide)).trans (s.compensated_onlyIn c .upu (by decide))
  exact (congrArg UpuState.edge upu :)

/-- A frame keeps no edge (R150). -/
theorem State.captureFrame_edge (s : State) : s.captureFrame.upu.edge = s.upu.edge := by
  unfold State.captureFrame
  split
  · rfl
  · next c _ =>
    split
    · exact s.abortCapture_protection.edge
    · split
      · rfl
      · split
        · exact s.completeCapture_edge _
        · rfl

theorem edgeMeetsTheFrame_holds : edgeMeetsTheFrame := by
  refine ⟨fun s running raw fresh => ?_, fun s base => State.captureFrame_edge _, fun s base k missing => ?_,
    fun s base k g n e queue edge now found opening flight step kind high => ⟨fun early => ?_, fun due => ?_⟩⟩
  · obtain ⟨-, steps⟩ := s.acceptTrip_rest
    have run := exec_externalTripAssertion running raw fresh
    generalize s.accept .externalTrip = v at run steps
    obtain ⟨g, edge⟩ : ∃ g, v.noteEdge.upu.edge = some g := ⟨_, v.setEdge_edge _⟩
    refine ⟨_, run, g, v.externalEdge_edge.trans edge, ?_, fun k n => ?_⟩
    · rw [v.externalEdge_keeps.clock]
      exact (v.noteEdge_edge 0 0 edge).1
    · have same : s.stepRec k = v.stepRec k := congrArg (fun x : Vector StepRecord 8 => x[k]) steps.symm
      rw [same]
      exact (v.noteEdge_edge k n edge).2
  · exact s.stepFrame_of_not_due base k (State.furtherDue_false missing)
  · refine s.stepFrame_of_not_due base k ?_
    rw [State.furtherDue_of_edge (State.edgeCount_some edge now found),
      decide_eq_false (Nat.not_le.mpr early), Bool.and_false]
  · have flies : s.tripInFlight k = true := (s.tripInFlight_iff k).mpr ⟨opening, e, flight, step, kind⟩
    rw [unbalanceAt_eq] at high ⊢
    have decides : s.stepFrame base k = s.decideTrip k (s.uNow k) (s.dreNow k) (s.dimNow k) := by
      refine if_pos ?_
      rw [State.furtherDue_of_edge (State.edgeCount_some edge now found), flies, decide_eq_true high,
        decide_eq_true due]
      rfl
    rw [decides]
    obtain ⟨oq, own, others, only⟩ := State.decideTrip_onFlightTrip queue opening flight step kind
      (s.uNow k) (s.dreNow k) (s.dimNow k)
    exact ⟨oq, own, others, s.decideTrip_enters k _ _ _, only⟩

/-! ## The table of postings (R50 to R58) -/

/-- Settles O60: the edge and the frame, and then the table, row by row. -/
theorem postingsMeetThePendingEntry : Obligations.PostingsMeetThePendingEntry := by
  refine ⟨edgeMeetsTheFrame_holds, fun s p absent => State.post_absent absent, fun s p kind entry => ?_,
    fun s p e present entry => ⟨fun waits close => ⟨fun kind => ?_, fun kind => ?_, fun kind => ?_⟩,
      fun waits opens => ⟨fun kind => ?_, fun kind => ?_, fun kind => ?_⟩, fun waits trips => ?_,
      fun flies close => ⟨fun kind => ?_, fun kind marked => ?_, fun m kind marked trips => ?_,
        fun kind unmarked => ?_, fun m kind marked opens => ?_⟩,
      fun flies other => ⟨fun kind => ?_, fun kind => ?_, fun kind opens unmarked => ?_,
        fun kind kept => ?_⟩, rfl⟩⟩
  · obtain ⟨closed, locked, out, failed⟩ := s.post_trip_table p kind entry
    refine ⟨fun is => ?_, fun away => ?_, locked, out, failed⟩
    · obtain ⟨answer, queue, only⟩ := closed is
      refine ⟨answer, ?_, only⟩
      rw [queue, State.newEntry, kind]
    · rw [State.post_trip kind entry]
      exact State.postTrip_locksOut entry away
  · rw [State.post_onWaitingClose present entry waits close]
    exact State.postOnWaitingClose_open kind entry waits close
  · rw [State.post_onWaitingClose present entry waits close]
    exact State.postOnWaitingClose_trip kind close
  · rw [State.post_onWaitingClose present entry waits close]
    simp [State.postOnWaitingClose, kind]
  · let w := s.modEntry p.step (fun x => x.upgraded p)
    have changed := s.modEntry_onlyIn p.step (fun x => x.upgraded p)
    have result := w.entryResult_onlyIn e .superseded
    have gives := State.entryResult_gives (u := w) (changed .clock (by decide)) e .superseded
    rw [opens] at gives
    rw [State.post_onWaitingOpen present entry waits opens, State.postOnWaitingOpen_trip kind]
    exact ⟨rfl, result .oq (by decide), gives,
      State.onlyIn_trans (State.onlyIn_mono changed (by decide)) (State.onlyIn_mono result (by decide))⟩
  · rw [State.post_onWaitingOpen present entry waits opens]
    simp [State.postOnWaitingOpen, kind]
  · rw [State.post_onWaitingOpen present entry waits opens]
    simp [State.postOnWaitingOpen, kind]
  · rw [State.post_onWaitingTrip present entry waits trips, State.postOnWaitingTrip]
    cases p.kind <;> rfl
  · rw [State.post_onFlightClose present entry flies close]
    simp [State.postOnFlightClose, kind]
  · obtain ⟨m, is⟩ := Option.ne_none_iff_exists'.mp marked
    rw [State.post_onFlightClose present entry flies close]
    simp [State.postOnFlightClose, kind, is]
  · rw [State.post_onFlightClose present entry flies close]
    simp [State.postOnFlightClose, kind, marked, trips]
  · rw [State.post_onFlightClose present entry flies close, State.postOnFlightClose_marks kind unmarked]
    exact ⟨rfl, rfl, s.setMark_onlyIn p⟩
  · have result := (s.setMark p).markResult_onlyIn p.step m .superseded
    have gives := State.markResult_gives (s.setMark_onlyIn p .clock (by decide)) p.step m .superseded
    rw [opens] at gives
    rw [State.post_onFlightClose present entry flies close, State.postOnFlightClose_replaces kind marked opens]
    exact ⟨rfl, result .oq (by decide), gives, State.onlyIn_trans
      (State.onlyIn_mono (s.setMark_onlyIn p) (by decide)) (State.onlyIn_mono result (by decide))⟩
  · rw [State.post_onFlightOpen present entry flies other]
    simp [State.postOnFlightOpen, kind]
  · rw [State.post_onFlightOpen present entry flies other]
    simp [State.postOnFlightOpen, kind]
  · have marked : s.postOnFlightOpen e p = (s.setMark p, .accepted) := by
      simp [State.postOnFlightOpen, kind, opens, unmarked]
    rw [State.post_onFlightOpen present entry flies other, marked]
    exact ⟨rfl, rfl, s.setMark_onlyIn p⟩
  · have unfit : ¬(e.kind = .openOp ∧ e.mark = none) := fun ⟨opens, unmarked⟩ =>
      kept.elim (fun trips => by simp [opens] at trips) (· unmarked)
    rw [State.post_onFlightOpen present entry flies other]
    simp [State.postOnFlightOpen, kind, unfit]

end Sys2Proof.Machine
end

section
/-!
PROOF. The stages of the unbalance protection (R140 to R145).
-/
namespace Sys2Proof.Machine

/-! ## A TRIP for a CLOSED step -/

theorem State.modEntry_entryOf (s : State) (k : StepId) {f : Entry → Entry} (steps : ∀ e, (f e).step = e.step)
    (j : StepId) :
    (s.modEntry k f).entryOf j = (s.entryOf j).map (fun e => if e.step = k then f e else e) := by
  have passed : ((fun e : Entry => decide (e.step = j)) ∘ fun e => if e.step = k then f e else e)
      = fun e => decide (e.step = j) := by
    funext e
    by_cases own : e.step = k
    · simp [own, steps]
    · simp [own]
  rw [State.entryOf, State.modEntry, List.find?_map, passed]
  rfl

theorem State.modEntry_entryOf_ne (s : State) {j k : StepId} {f : Entry → Entry}
    (steps : ∀ e, (f e).step = e.step) (other : j ≠ k) : (s.modEntry k f).entryOf j = s.entryOf j := by
  rw [s.modEntry_entryOf k steps]
  cases found : s.entryOf j with
  | none => rfl
  | some e =>
    have away : e.step ≠ k := (State.mem_of_entryOf found).2 ▸ other
    simp [away]

/-- A change that leaves each status leaves open whether an entry is in flight. -/
theorem State.modEntry_inFlight_none (s : State) (k : StepId) {f : Entry → Entry}
    (statuses : ∀ e, (f e).status = e.status) :
    (s.modEntry k f).inFlight = none ↔ s.inFlight = none := by
  rw [State.inFlight_none_iff, State.inFlight_none_iff]
  simp only [State.modEntry, List.forall_mem_map]
  refine forall₂_congr fun e _ => ?_
  by_cases own : e.step = k <;> simp [own, statuses]

/-- What a TRIP that is admitted for a CLOSED step leaves: a WAITING TRIP of the step, the oldest one when
no other waited, and the table of steps (R53, R55, R56). -/
structure State.TripJoins (s x : State) (k : StepId) (e : Entry) : Prop where
  /-- the entry -/
  entry : x.entryOf k = some e
  /-- it is a WAITING TRIP -/
  waits : e.status = .waiting ∧ e.kind = .tripOp
  /-- the table of steps -/
  ss : x.ss = s.ss
  /-- the operation in flight -/
  flight : x.inFlight = none ↔ s.inFlight = none
  /-- the oldest TRIP -/
  oldest : s.oldestWaiting .tripOp = none → x.oldestWaiting .tripOp = some e

section
variable {s : State} {p : Posting} (kind : p.kind = .tripOp)
  (closed : (s.stepRec p.step).state = some .closed)
include kind closed

theorem State.post_trip_joins_new (entry : s.entryOf p.step = none) :
    s.TripJoins (s.post p).1 p.step (s.newEntry p) := by
  rw [State.post_trip_closed kind entry closed]
  refine ⟨State.admitNew_entryOf entry, ⟨rfl, kind⟩, rfl, by rw [State.admitNew_inFlight], fun none_ => ?_⟩
  rw [State.admitNew_oldestWaiting, none_, if_pos kind]
  rfl

theorem State.post_trip_joins_open (nodup : (s.oq.entries.map (·.step)).Nodup) {e : Entry}
    (entry : s.entryOf p.step = some e) (waits : e.status = .waiting) (opens : e.kind = .openOp) :
    s.TripJoins (s.post p).1 p.step (e.upgraded p) := by
  let f : Entry → Entry := fun x => x.upgraded p
  let w := s.modEntry p.step f
  obtain ⟨mem, step⟩ := State.mem_of_entryOf entry
  have result := w.entryResult_onlyIn e .superseded
  have oq : (w.entryResult e .superseded).oq = w.oq := result .oq (by decide)
  have stands : w.entryOf p.step = some (e.upgraded p) :=
    (s.modEntry_entryOf p.step (f := f) (fun _ => rfl) p.step).trans (by simp [entry, step, f])
  rw [State.post_onWaitingOpen (by simp [closed]) entry waits opens, State.postOnWaitingOpen_trip kind]
  refine ⟨(State.entryOf_congr oq _).trans stands, ⟨waits, rfl⟩, result .ss (by decide), ?_, fun none_ => ?_⟩
  · rw [State.inFlight_congr (congrArg OqState.entries oq)]
    exact s.modEntry_inFlight_none p.step (f := f) fun _ => rfl
  · rw [State.oldestWaiting_congr oq]
    have joined : e.upgraded p ∈ w.oq.entries := (State.mem_of_entryOf stands).1
    cases oldest : w.oldestWaiting .tripOp with
    | none => exact absurd ⟨waits, rfl⟩ (State.oldestWaiting_none_iff.mp oldest _ joined)
    | some x =>
      obtain ⟨waits', trips⟩ := State.oldestWaiting_kind oldest
      obtain ⟨y, memY, is⟩ := List.mem_map.mp (List.mem_of_find?_eq_some oldest)
      by_cases own : y.step = p.step
      · rw [if_pos own] at is
        rw [← is, entry_unique nodup memY mem (own.trans step.symm)]
      · rw [if_neg own] at is
        exact absurd ⟨is ▸ waits', is ▸ trips⟩ (State.oldestWaiting_none_iff.mp none_ y memY)

theorem State.post_trip_joins_trip {e : Entry} (entry : s.entryOf p.step = some e)
    (waits : e.status = .waiting) (trips : e.kind = .tripOp) :
    s.TripJoins (s.post p).1 p.step e := by
  have posted : s.post p = (s, .accepted) := by
    rw [State.post_onWaitingTrip (by simp [closed]) entry waits trips]
    simp [State.postOnWaitingTrip, kind]
  rw [posted]
  exact ⟨entry, ⟨waits, trips⟩, rfl, .rfl, fun none_ =>
    absurd ⟨waits, trips⟩ (State.oldestWaiting_none_iff.mp none_ e (State.mem_of_entryOf entry).1)⟩

/-- A TRIP for a CLOSED step whose entry, if any, waits to open it, stands for it (R53, R55, R56). -/
theorem State.post_trip_joins (nodup : (s.oq.entries.map (·.step)).Nodup)
    (fits : ∀ e, s.entryOf p.step = some e → e.status = .waiting ∧ e.kind ≠ .closeOp) :
    ∃ e, s.TripJoins (s.post p).1 p.step e := by
  cases entry : s.entryOf p.step with
  | none => exact ⟨_, State.post_trip_joins_new kind closed entry⟩
  | some e =>
    obtain ⟨waits, other⟩ := fits e entry
    cases is : e.kind with
    | closeOp => exact absurd is other
    | openOp => exact ⟨_, State.post_trip_joins_open kind closed nodup entry waits is⟩
    | tripOp => exact ⟨_, State.post_trip_joins_trip kind closed entry waits is⟩

end

/-- In a sound queue the entry of a CLOSED step waits to open it (R48). -/
theorem State.QueueSound.fits_closed {s : State} (queue : s.QueueSound) {k : StepId}
    (closed : (s.stepRec k).state = some .closed) {e : Entry} (entry : s.entryOf k = some e) :
    e.status = .waiting ∧ e.kind ≠ .closeOp := by
  obtain ⟨-, -, fits, -⟩ := queue
  obtain ⟨mem, rfl⟩ := State.mem_of_entryOf entry
  have state := (fits e mem).1
  rw [closed] at state
  cases status : e.status <;> cases kind : e.kind <;> simp [Entry.stepState, status, kind] at state ⊢

/-! ## Through an examination -/

/-- A pending entry keeps its kind and its mark through an examination (R62). -/
theorem State.examine_stands {s : State} {k : StepId} {e : Entry} (entry : s.entryOf k = some e) :
    ∃ x, s.examine.entryOf k = some x ∧ x.unstated = e.unstated := by
  have stated := s.examine_entryOf k
  rw [entry, Option.map_some, Option.map_eq_some_iff] at stated
  exact stated

theorem recordAfter_tripCount {r : StepRecord} (zero : r.tripCount = 0) (n : StepState)
    (l : Option LockoutCause) (f : Option FailureCause) : (recordAfter r n l f).tripCount = 0 := by
  unfold recordAfter
  split
  · rfl
  · exact zero

theorem State.examine_tripCount {s : State} {k : StepId} (zero : (s.stepRec k).tripCount = 0) :
    (s.examine.stepRec k).tripCount = 0 := by
  rcases s.examine_record k with same | ⟨o, moved⟩
  · rw [same, zero]
  · rw [moved]
    exact recordAfter_tripCount zero _ _ _

/-- A dispatched entry is in flight (R62). -/
theorem State.dispatchEntry_flies {s : State} {e : Entry} (mem : e ∈ s.oq.entries) :
    (s.dispatchEntry e).inFlight ≠ none := by
  intro none_
  have waits := State.inFlight_none_iff.mp none_ { e with status := .inFlight }
    (by rw [(s.dispatchEntry_ne e).2]; exact List.mem_map.mpr ⟨e, mem, if_pos rfl⟩)
  cases waits

/-- The TRIP that has joined is dispatched when nothing is in flight and no other TRIP waited (R61). -/
theorem State.TripJoins.dispatched {s x : State} {k : StepId} {e : Entry} (joins : s.TripJoins x k e)
    (idle : s.inFlight = none) (none_ : s.oldestWaiting .tripOp = none) :
    x.examine.inFlight ≠ none ∧ (x.examine.stepRec k).state = some .opening := by
  obtain ⟨entry, ⟨-, trips⟩, -, flight, oldest⟩ := joins
  obtain ⟨mem, rfl⟩ := State.mem_of_entryOf entry
  have chosen : x.chooseEntry = some e := State.chooseEntry_trip (oldest none_)
  rw [State.examine_of_choice (flight.mpr idle) chosen]
  refine ⟨State.dispatchEntry_flies mem, (x.dispatchEntry_state e).trans ?_⟩
  rw [trips]
  rfl

/-! ## The trip decision of a CLOSED step (R142) -/

/-- A decision enters the Trip Record after its TRIP is admitted, and leaves the entry and the count. -/
theorem State.enterTripRecord_leaves (s : State) (k : StepId) (cause : LockoutCause) (step : Option StepId)
    (u : Option Nat) (dre dim : Option Int) :
    (∀ e, s.entryOf k = some e → ∃ x, (s.enterTripRecord cause step u dre dim).entryOf k = some x
        ∧ x.unstated = e.unstated)
      ∧ ((s.stepRec k).tripCount = 0 → ((s.enterTripRecord cause step u dre dim).stepRec k).tripCount = 0)
      ∧ (s.inFlight ≠ none → ∀ j, (s.enterTripRecord cause step u dre dim).stepRec j = s.stepRec j) := by
  obtain ⟨w, only, -, -, case_⟩ := s.enterTripRecord_cases cause step u dre dim
  have entries : w.entryOf k = s.entryOf k := State.entryOf_congr (only .oq (by decide)) k
  have records : ∀ j, w.stepRec j = s.stepRec j := fun j =>
    congrArg (fun x : SsState => x.steps[j]) (only .ss (by decide))
  have flight : w.inFlight = s.inFlight := only.inFlight (by decide)
  rcases case_ with same | examined
  · rw [same]
    exact ⟨fun e found => ⟨e, entries.trans found, rfl⟩, fun zero => (records k).symm ▸ zero, fun _ => records⟩
  · rw [examined]
    exact ⟨fun e found => State.examine_stands (entries.trans found),
      fun zero => State.examine_tripCount ((records k).symm ▸ zero), fun flying j => by
        rw [w.examine_inFlight (flight ▸ flying), records]⟩

/-- A TRIP stands for a CLOSED step after its decision, dispatched when nothing else moves (R142). -/
theorem State.decideTrip_closed {s : State} {k : StepId} (queue : s.QueueSound)
    (closed : (s.stepRec k).state = some .closed) (u : Nat) (dre dim : Int) :
    ((s.decideTrip k u dre dim).stepRec k).tripCount = 0
      ∧ (∃ e, (s.decideTrip k u dre dim).entryOf k = some e ∧ e.kind = .tripOp)
      ∧ (s.inFlight = none → s.oldestWaiting .tripOp = none →
          ((s.decideTrip k u dre dim).stepRec k).state = some .opening)
      ∧ (s.inFlight ≠ none →
          (s.decideTrip k u dre dim).stepRec k = { s.stepRec k with tripCount := 0 }
            ∧ ∀ j, j ≠ k → (s.decideTrip k u dre dim).stepRec j = s.stepRec j) := by
  let w := s.setTripCount k 0
  have own : w.stepRec k = { s.stepRec k with tripCount := 0 } := s.setTripCount_same k 0
  have closed' : (w.stepRec k).state = some .closed := by rw [own]; exact closed
  obtain ⟨e, joins⟩ := State.post_trip_joins (s := w) (p := unbalanceTrip k) rfl closed' queue.1
    fun e entry => queue.fits_closed closed entry
  let x := (w.post (unbalanceTrip k)).1
  have records : ∀ j, x.stepRec j = w.stepRec j := fun j =>
    congrArg (fun x : SsState => x.steps[j]) joins.ss
  have decided : s.decideTrip k u dre dim
      = x.examine.enterTripRecord .unbalance (some k) (some u) (some dre) (some dim) := rfl
  obtain ⟨stands, count, still⟩ := x.examine.enterTripRecord_leaves k .unbalance (some k) (some u) (some dre)
    (some dim)
  rw [decided]
  refine ⟨count (State.examine_tripCount ?_), ?_, fun idle none_ => ?_, fun flying => ?_⟩
  · rw [records, own]
  · obtain ⟨y, entry, same⟩ := State.examine_stands joins.entry
    obtain ⟨z, entry', same'⟩ := stands y entry
    exact ⟨z, entry', (congrArg Entry.kind (same'.trans same) :).trans joins.waits.2⟩
  · obtain ⟨flies, opening⟩ := joins.dispatched idle none_
    rw [still flies k]
    exact opening
  · have flies : x.inFlight ≠ none := fun h => flying (joins.flight.mp h)
    have same : x.examine = x := x.examine_inFlight flies
    rw [same] at still ⊢
    exact ⟨(still flies k).trans ((records k).trans own), fun j other =>
      (still flies j).trans ((records j).trans (s.setTripCount_ne other 0))⟩

/-! ## A decision that meets a detune of the same frame (R58, R131) -/

/-- The TRIP marks the OPEN in flight, and the decision enters the Trip Record. -/
theorem State.decideTrip_onFlightOpen {s : State} {k : StepId} {e : Entry} (queue : s.QueueSound)
    (flight : s.inFlight = some e) (step : e.step = k) (kind : e.kind = .openOp) (unmarked : e.mark = none)
    (u : Nat) (dre dim : Int) :
    (s.decideTrip k u dre dim).entryOf k = some { e with mark := some (markOf (unbalanceTrip k)) }
      ∧ (s.decideTrip k u dre dim).stepRec k = { s.stepRec k with tripCount := 0 }
      ∧ (∀ j, j ≠ k → (s.decideTrip k u dre dim).stepRec j = s.stepRec j
          ∧ (s.decideTrip k u dre dim).entryOf j = s.entryOf j)
      ∧ s.onlyIn (s.decideTrip k u dre dim) [.ss, .oq, .upu, .pi] := by
  let w := s.setTripCount k 0
  let f : Entry → Entry := fun y => { y with mark := some (markOf (unbalanceTrip k)) }
  let x := w.modEntry k f
  obtain ⟨mem, flies⟩ := State.mem_of_inFlight flight
  have entry : s.entryOf k = some e := step ▸ entryOf_eq queue.1 mem
  have state : (s.stepRec k).state ≠ none := by
    rw [← step, (queue.2.2.1 e mem).1]
    simp
  have present : (w.stepRec k).state ≠ none := by
    rw [s.setTripCount_same]
    exact state
  have posted : w.post (unbalanceTrip k) = (x, .accepted) := by
    rw [State.post_onFlightOpen (p := unbalanceTrip k) present entry flies (by simp [kind])]
    simp [State.postOnFlightOpen, unbalanceTrip, kind, unmarked, x, State.setMark, f]
  have flying : x.inFlight ≠ none := fun h =>
    absurd ((w.modEntry_inFlight_none k (f := f) fun _ => rfl).mp h) (by simp [show w.inFlight = some e from flight])
  have admitted : (w.admitOne (unbalanceTrip k)).1 = x := by
    rw [State.admitOne, posted, x.examine_inFlight flying]
  have entered := State.enterTripRecord_idle (s := x) (.inl flying) .unbalance (some k) (some u) (some dre)
    (some dim)
  have records : ∀ j, (s.decideTrip k u dre dim).stepRec j = w.stepRec j := fun j => by
    rw [State.decideTrip_eq, admitted]
    exact congrArg (fun x : SsState => x.steps[j]) (entered .ss (by decide))
  have entries : ∀ j, (s.decideTrip k u dre dim).entryOf j = x.entryOf j := fun j => by
    rw [State.decideTrip_eq, admitted]
    exact State.entryOf_congr (entered .oq (by decide)) j
  refine ⟨(entries k).trans ?_, (records k).trans (s.setTripCount_same k 0), fun j other =>
    ⟨(records j).trans (s.setTripCount_ne other 0), (entries j).trans ?_⟩, ?_⟩
  · refine (w.modEntry_entryOf k (f := f) (fun _ => rfl) k).trans ?_
    rw [show w.entryOf k = some e from entry]
    simp [step, f]
  · exact w.modEntry_entryOf_ne (f := f) (fun _ => rfl) other
  · rw [State.decideTrip_eq, admitted]
    exact State.onlyIn_trans (State.onlyIn_mono (s.setTripCount_onlyIn k 0) (by decide)) (State.onlyIn_trans
      (State.onlyIn_mono (w.modEntry_onlyIn k f) (by decide)) (State.onlyIn_mono entered (by decide)))

/-! ## The alarm stage (R141) -/

/-- The frame that brings the alarm count to TALM sets the flag and both change flags (R141). -/
theorem State.alarmStage_sets {s : State} {k : StepId}
    (high : s.set.settings.s .ualm k ≤ s.me.frame.neutrals[k].u) (clear : (s.stepRec k).alarmFlag = false)
    (last : s.set.settings.s .talm k ≤ (s.stepRec k).alarmCount + 1) :
    s.alarmStage k = (s.setStep k { s.stepRec k with
      alarmCount := s.set.settings.s .talm k, alarmFlag := true }).setFlags := by
  have count : min (s.set.settings.s .talm k) ((s.stepRec k).alarmCount + 1) = s.set.settings.s .talm k :=
    Nat.min_eq_left last
  simp only [State.alarmStage, if_pos high, count, clear]
  rfl

theorem State.setStep_onlyIn (s : State) (k : StepId) (r : StepRecord) : s.onlyIn (s.setStep k r) [.ss] := by
  intro b hb
  cases b <;> simp_all [State.sameBlock]

theorem State.alm_of_alarm {s : State} {k : StepId} (running : s.clock.held = none)
    (alarm : (s.stepRec k).alarmFlag = true) : s.alm = true := by
  have some_ : s.anyAlarm = true := List.any_eq_true.mpr ⟨k, List.mem_finRange k, alarm⟩
  simp [State.alm, running, State.alarmCondition, some_]

/-- Settles O54: the alarm by its stage; the decision by the TRIP that joins and the Trip Record; the detuned
step by the mark. -/
theorem unbalanceStagesAlarmAndTrip : Obligations.UnbalanceStagesAlarmAndTrip := by
  refine ⟨fun k s running settling noRef closed => ⟨fun high clear last => ?_, fun sound high last => ?_⟩,
    fun k s base moved => ⟨fun missing => ?_, fun e queue before bare flight step opens detunes unmarked
      high last => ?_⟩⟩
  · have free : s.stagesHeld = false := by simp [State.stagesHeld, settling, noRef]
    let r : StepRecord := { s.stepRec k with alarmCount := s.set.settings.s .talm k, alarmFlag := true }
    have run : exec (.unbalanceAlarm k) s = .next (s.setStep k r).setFlags := by
      refine congrArg Host.Outcome.next ((State.unlessHeld_free s _ running).trans ?_)
      rw [State.alarmSets, if_pos ⟨closed, free, high, clear, last⟩, State.alarmStage_sets high clear last]
    have own : (s.setStep k r).setFlags.stepRec k = r := State.stepRec_setStep_same s k r
    exact ⟨_, run, own, fun j other => State.stepRec_setStep_ne s j k r other, State.setFlags_changeFlag _,
      State.alm_of_alarm (k := k) running (by rw [own]),
      State.onlyIn_trans (State.onlyIn_mono (s.setStep_onlyIn k r) (by decide))
        (State.onlyIn_mono (State.setFlags_onlyIn _) (by decide))⟩
  · have free : s.stagesHeld = false := by simp [State.stagesHeld, settling, noRef]
    have run : exec (.unbalanceTripDecision k) s = .next (s.tripDecision k) := by
      refine congrArg Host.Outcome.next ((State.unlessHeld_free s _ running).trans ?_)
      rw [State.tripDecides, if_pos ⟨closed, free, high, last⟩]
    obtain ⟨count, stands, dispatched, still⟩ := State.decideTrip_closed sound.2.1 closed
      s.me.frame.neutrals[k].u (s.stepRec k).dre (s.stepRec k).dim
    exact ⟨_, run, count, stands, dispatched, still,
      (s.decideTrip_keeps k _ _ _).onlyIn, s.decideTrip_enters k _ _ _⟩
  · rw [s.stages_of_not_closed base k moved]
    refine if_neg fun ⟨detuned, due⟩ => ?_
    simp only [State.detunedSince, State.tripDue, Bool.and_eq_true, decide_eq_true_eq, Option.isNone_iff_eq_none,
      Option.map_eq_some_iff, Prod.mk.injEq] at detuned due
    obtain ⟨⟨⟨closed, bare⟩, -⟩, e, flight, step, kind, originator⟩ := detuned
    obtain ⟨high, last⟩ := due
    rcases missing with away | entry | other | low | early
    · exact away closed
    · exact entry bare
    · exact (other e flight).elim (· step) (·.elim (· kind) (· originator))
    · omega
    · omega
  · obtain ⟨mem, flies⟩ := State.mem_of_inFlight flight
    have opening : (s.stepRec k).state = some .opening := by
      rw [← step, (queue.2.2.1 e mem).1, Entry.stepState, flies, opens]
    have decides : s.stages base k = s.tripDecision k := by
      rw [s.stages_of_not_closed base k moved]
      refine if_pos ⟨?_, ?_⟩
      · simp [State.detunedSince, before, bare, opening, flight, step, opens, detunes]
      · exact Bool.and_eq_true_iff.mpr ⟨decide_eq_true high, decide_eq_true last⟩
    rw [decides]
    obtain ⟨marked, own, others, only⟩ := State.decideTrip_onFlightOpen queue flight step opens unmarked
      s.me.frame.neutrals[k].u (s.stepRec k).dre (s.stepRec k).dim
    exact ⟨marked, own, others, s.decideTrip_enters k _ _ _, only⟩

end Sys2Proof.Machine
end

section
/-!
PROOF. The voltage control's fast open, integrators and attempts (R100 to R112, R115).
-/
namespace Sys2Proof.Machine

/-! ## The control's own record -/

theorem State.setDecision_onlyIn (s : State) (d : Decision) : s.onlyIn (s.setDecision d) [.avc] := by
  intro b hb
  cases b <;> simp_all [State.sameBlock, State.setDecision]

theorem State.setOv_onlyIn (s : State) (n : Nat) : s.onlyIn (s.setOv n) [.avc] := by
  intro b hb
  cases b <;> simp_all [State.sameBlock, State.setOv]

theorem State.setD_onlyIn (s : State) (lo hi : Nat) : s.onlyIn (s.setD lo hi) [.avc] := by
  intro b hb
  cases b <;> simp_all [State.sameBlock, State.setD]

theorem State.setDecision_avc (s : State) (d : Decision) : (s.setDecision d).avc
    = { s.avc with lastDecision := some { decision := d, frame := s.me.frame.number } } := rfl

/-- What writes the control's record alone leaves the entries. -/
theorem State.onlyIn.entryOf {s t : State} {l : List Block} (only : s.onlyIn t l) (away : Block.oq ∉ l)
    (k : StepId) : t.entryOf k = s.entryOf k := State.entryOf_congr (only .oq away) k

theorem State.onlyIn.stepRec {s t : State} {l : List Block} (only : s.onlyIn t l) (away : Block.ss ∉ l)
    (k : StepId) : t.stepRec k = s.stepRec k := congrArg (fun x : SsState => x.steps[k]) (only .ss away)

/-! ## Fast overvoltage (R111, R112) -/

/-- A candidate is a step of the Closed Order without an entry (R109, R112). -/
theorem State.openCandidate_spec {s : State} {k : StepId} (candidate : s.openCandidate = some k) :
    k ∈ s.ss.closedOrder ∧ s.entryOf k = none :=
  ⟨List.mem_of_find?_eq_some candidate, by simpa using List.find?_some candidate⟩

theorem State.fastOpening_none {s : State} (absent : s.openCandidate = none) :
    s.fastOpening = (s.setOv 0).setDecision .fastNoCandidate := by
  simp [State.fastOpening, absent]

theorem State.fastOpening_some {s : State} {k : StepId} (candidate : s.openCandidate = some k) :
    s.fastOpening
      = (((s.setOv 0).admitOne (avcPosting .openOp k true)).1).setDecision (.fastPosted k) := by
  simp [State.fastOpening, candidate]

/-- A fast open in full (R112). -/
theorem State.fastOpening_posted {s : State} {k : StepId} (candidate : s.openCandidate = some k) :
    s.fastOpening.avc = { s.avc with
        ovCnt := 0
        lastDecision := some { decision := .fastPosted k, frame := s.me.frame.number } }
      ∧ (s.OrdersSound → ∃ e, s.fastOpening.entryOf k = some e ∧ e.kind = .openOp
          ∧ e.originator = .avc ∧ e.fast = true)
      ∧ (s.inFlight ≠ none → s.onlyIn s.fastOpening [.oq, .avc])
      ∧ s.onlyIn s.fastOpening [.ss, .oq, .cu, .avc, .upu, .au, .pi, .os] := by
  let w := s.setOv 0
  let p := avcPosting .openOp k true
  let x := (w.admitOne p).1
  obtain ⟨member, entry⟩ := State.openCandidate_spec candidate
  have admitted := State.admitOpen_onlyIn (s := w) (p := p) rfl entry
  have decided := x.setDecision_onlyIn (.fastPosted k)
  have counted := s.setOv_onlyIn 0
  rw [State.fastOpening_some candidate]
  refine ⟨?_, fun sound => ?_, fun flying => ?_, ?_⟩
  · have frame : x.me = w.me := admitted .me (by decide)
    rw [State.setDecision_avc, admitted .avc (by decide), frame]
    rfl
  · obtain ⟨e, stands, kind, originator, -, fast⟩ := State.admitOpen_stands (s := w) (p := p) rfl entry
      ((sound.2.2.2 k).mp member)
    exact ⟨e, (decided.entryOf (by decide) k).trans stands, kind, originator, fast⟩
  · have alone := State.admitOpen_flying (s := w) (p := p) rfl entry flying
    exact State.onlyIn_trans (State.onlyIn_mono counted (by decide)) (State.onlyIn_trans
      (State.onlyIn_mono alone (by decide)) (State.onlyIn_mono decided (by decide)))
  · exact State.onlyIn_trans (State.onlyIn_mono counted (by decide)) (State.onlyIn_trans
      (State.onlyIn_mono admitted (by decide)) (State.onlyIn_mono decided (by decide)))

theorem State.fastStage_of_not_due {s : State} (notDue : s.fastDue = false) :
    s.fastStage = s.setOv s.ovAfter := by
  rw [State.fastStage, if_neg (by simp [notDue])]

theorem State.fastDue_eq_false {s : State} (missing : ¬(s.y .oven ≠ 0 ∧ s.me.frame.settling = false
    ∧ s.y .vov ≤ s.me.frame.vMax ∧ s.y .nov ≤ s.avc.ovCnt + 1)) : s.fastDue = false :=
  Bool.eq_false_iff.mpr (mt s.fastDue_iff.mp missing)

/-! ## The integrators (R100 to R103) -/

/-- BW lies below VSET (R194). -/
theorem State.SettingsSound.bw_le_vset {s : State} (sound : s.SettingsSound) : s.y .bw ≤ s.y .vset := by
  have width : s.y .bw ≤ 60 := ((SettingId.inRange_eq (i := .yard .bw) (by simp) _).mp
    ((Settings.inRange_iff _).mp sound.1 (.yard .bw))).2
  have target : 950 ≤ s.y .vset := ((SettingId.inRange_eq (i := .yard .vset) (by simp) _).mp
    ((Settings.inRange_iff _).mp sound.1 (.yard .vset))).1
  omega

theorem State.dLowAfter_eq {s : State} (sound : s.SettingsSound) : s.dLowAfter = lowAfter s := by
  have below := sound.bw_le_vset
  have edge : (s.me.frame.vAvg < s.y .vset - s.y .bw) = (s.me.frame.vAvg + s.y .bw < s.y .vset) :=
    propext (by omega)
  have band : (s.me.frame.vAvg < s.y .vset - s.y .bw + s.y .hys)
      = (s.me.frame.vAvg + s.y .bw < s.y .vset + s.y .hys) := propext (by omega)
  simp only [State.dLowAfter, State.lowEdge, edge, band, lowAfter]

theorem State.dHighAfter_eq (s : State) : s.dHighAfter = highAfter s := by
  rw [State.dHighAfter, State.highEdge, highAfter, Nat.sub_add_eq]

theorem State.integratorStage_reset {s : State} (fast : Bool) (reset : s.au.auto = false ∨ s.avc.line = .dead
    ∨ s.me.frame.noRef = true ∨ s.me.frame.vtLoss = true) : s.integratorStage fast = s.setD 0 0 := by
  refine if_pos ?_
  rcases reset with auto | line | noRef | vtLoss
  · simp [State.integratorsReset, auto]
  · simp [State.integratorsReset, State.lineDead, line]
  · simp [State.integratorsReset, noRef]
  · simp [State.integratorsReset, vtLoss]

theorem State.integratorStage_active {s : State} (fast : Bool) (auto : s.au.auto = true)
    (line : s.avc.line = .live) (noRef : s.me.frame.noRef = false) (vtLoss : s.me.frame.vtLoss = false) :
    s.integratorStage fast = if s.me.frame.settling then s
      else if s.y .tclose ≤ s.dLowAfter then (s.setD s.dLowAfter s.dHighAfter).closeAttempt
      else if s.y .topen ≤ s.dHighAfter then
        (if fast then s.setD s.dLowAfter s.dHighAfter else (s.setD s.dLowAfter s.dHighAfter).openAttempt)
      else s.setD s.dLowAfter s.dHighAfter := by
  have running : s.integratorsReset = false := by
    simp [State.integratorsReset, State.lineDead, auto, line, noRef, vtLoss]
  rw [State.integratorStage, if_neg (by simp [running])]

/-! ## The attempts (R105 to R110) -/

theorem decides_setDecision (s : State) (d : Decision) : decides s (s.setDecision d) d := rfl

/-- The posting of an attempt that is admitted: both integrators become 0 (R104). -/
theorem State.attemptPost_posts {s : State} {p : Posting} (entry : s.entryOf p.step = none)
    (posted : s.post p = (s.admitNew p, .accepted)) (avc : p.originator = .avc) (tag : p.tag = none)
    (slow : p.fast = false) (d : Decision) : postsFor s (s.attemptPost p d) p.kind p.step d := by
  let x := (s.admitNew p).examine
  have attempt : s.attemptPost p d = (x.setD 0 0).setDecision d := by
    simp [State.attemptPost, State.admitOne, posted, x]
  have joined := s.admitNew_onlyIn p
  have examined := (s.admitNew p).examine_onlyIn
  have zeroed := x.setD_onlyIn 0 0
  have decided := (x.setD 0 0).setDecision_onlyIn d
  have written : x.onlyIn ((x.setD 0 0).setDecision d) [.avc] := State.onlyIn_trans zeroed decided
  rw [attempt]
  refine ⟨?_, ?_, fun flying => ?_, ?_⟩
  · have before : x.avc = s.avc := (examined .avc (by decide)).trans (joined .avc (by decide))
    have frame : x.me = s.me := (examined .me (by decide)).trans (joined .me (by decide))
    show { x.avc with
      dLow := 0
      dHigh := 0
      lastDecision := some { decision := d, frame := x.me.frame.number } } = _
    rw [before, frame]
  · obtain ⟨e, stands, kind, originator, tag', fast⟩ := State.admitNew_stands entry
    exact ⟨e, (written.entryOf (by decide) p.step).trans stands, kind, originator.trans avc,
      tag'.trans tag, fast.trans slow⟩
  · have still : x = s.admitNew p := State.examine_idle (.inl (by rwa [State.admitNew_inFlight]))
    rw [still] at written ⊢
    exact State.onlyIn_trans (State.onlyIn_mono joined (by decide)) (State.onlyIn_mono written (by decide))
  · exact State.onlyIn_trans (State.onlyIn_mono joined (by decide)) (State.onlyIn_trans
      (State.onlyIn_mono examined (by decide)) (State.onlyIn_mono written (by decide)))

theorem State.closeCandidateOk_eq (s : State) : s.closeCandidateOk = fitToClose s := by
  funext k
  rw [Bool.eq_iff_iff]
  simp [State.closeCandidateOk, State.ratePermitted, fitToClose, and_assoc]

theorem State.closeAttempt_none {s : State} (absent : s.closeCandidate = none) :
    s.closeAttempt = s.setDecision (.noCandidate .closeOp) := by
  simp [State.closeAttempt, absent]

theorem State.closeAttempt_withheld {s : State} {k : StepId} (candidate : s.closeCandidate = some k)
    (beyond : (s.highEdge : Int) - s.y .pm < s.me.frame.vAvg + (s.stepRec k).learnedRise) :
    s.closeAttempt = s.setDecision
      (.predictWithheld .closeOp k (s.me.frame.vAvg + (s.stepRec k).learnedRise)) := by
  simp only [State.closeAttempt, candidate, if_pos beyond]

theorem State.closeAttempt_blocked {s : State} {k : StepId} {c : BlockCause}
    (candidate : s.closeCandidate = some k)
    (within : ¬(s.highEdge : Int) - s.y .pm < s.me.frame.vAvg + (s.stepRec k).learnedRise)
    (block : s.attemptBlock = some c) : s.closeAttempt = s.setDecision
      (.blocked k (s.me.frame.vAvg + (s.stepRec k).learnedRise) c) := by
  simp only [State.closeAttempt, candidate, if_neg within, block]

theorem State.closeAttempt_posts {s : State} {k : StepId} (candidate : s.closeCandidate = some k)
    (within : ¬(s.highEdge : Int) - s.y .pm < s.me.frame.vAvg + (s.stepRec k).learnedRise)
    (free : s.attemptBlock = none) : s.closeAttempt = s.attemptPost (avcPosting .closeOp k false)
      (.closePosted k (s.me.frame.vAvg + (s.stepRec k).learnedRise)) := by
  simp only [State.closeAttempt, candidate, if_neg within, free]

/-- What the choice of a close candidate says of it (R105). -/
theorem fitToClose_spec {s : State} {k : StepId} (found : s.ss.readyOrder.find? (fitToClose s) = some k) :
    k ∈ s.ss.readyOrder ∧ s.inService k = true ∧ s.entryOf k = none := by
  have fit := List.find?_some found
  simp only [fitToClose, decide_eq_true_eq] at fit
  exact ⟨List.mem_of_find?_eq_some found, fit.1, fit.2.2.2.2.1⟩

theorem State.openAttempt_none {s : State} (absent : s.openCandidate = none) :
    s.openAttempt = s.setDecision (.noCandidate .openOp) := by
  simp [State.openAttempt, absent]

theorem State.openAttempt_withheld {s : State} {k : StepId} (candidate : s.openCandidate = some k)
    (beyond : (s.me.frame.vAvg : Int) - (s.stepRec k).learnedRise < (s.lowEdge : Int) + s.y .pm) :
    s.openAttempt = s.setDecision
      (.predictWithheld .openOp k ((s.me.frame.vAvg : Int) - (s.stepRec k).learnedRise)) := by
  simp only [State.openAttempt, candidate, if_pos beyond]

theorem State.openAttempt_posts {s : State} {k : StepId} (candidate : s.openCandidate = some k)
    (within : ¬(s.me.frame.vAvg : Int) - (s.stepRec k).learnedRise < (s.lowEdge : Int) + s.y .pm) :
    s.openAttempt = s.attemptPost (avcPosting .openOp k false)
      (.openPosted k ((s.me.frame.vAvg : Int) - (s.stepRec k).learnedRise)) := by
  simp only [State.openAttempt, candidate, if_neg within]

/-- A close attempt, case by case (R105 to R108). -/
theorem closeAttempt_chooses (s : State) :
    (s.ss.readyOrder.find? (fitToClose s) = none → decides s s.closeAttempt (.noCandidate .closeOp))
      ∧ ∀ (k : StepId) (v : Int), s.OrdersSound → s.ss.readyOrder.find? (fitToClose s) = some k →
        v = (s.me.frame.vAvg : Int) + (s.stepRec k).learnedRise →
        ((s.y .vset : Int) + s.y .bw - s.y .pm < v →
            decides s s.closeAttempt (.predictWithheld .closeOp k v))
          ∧ (v ≤ (s.y .vset : Int) + s.y .bw - s.y .pm →
              (∀ c, s.attemptBlock = some c → decides s s.closeAttempt (.blocked k v c))
                ∧ (s.attemptBlock = none → s.avc.line = .live →
                    postsFor s s.closeAttempt .closeOp k (.closePosted k v))) := by
  have choice : s.closeCandidate = s.ss.readyOrder.find? (fitToClose s) := by
    rw [State.closeCandidate, State.closeCandidateOk_eq]
  have edge : (s.highEdge : Int) = (s.y .vset : Int) + s.y .bw := by simp [State.highEdge]
  refine ⟨fun absent => ?_, fun k v sound found is => ?_⟩
  · rw [State.closeAttempt_none (choice.trans absent)]
    exact decides_setDecision s _
  · subst is
    have candidate := choice.trans found
    refine ⟨fun beyond => ?_, fun within => ⟨fun c block => ?_, fun free line => ?_⟩⟩
    · rw [State.closeAttempt_withheld candidate (by rwa [edge])]
      exact decides_setDecision s _
    · rw [State.closeAttempt_blocked candidate (by rw [edge]; exact not_lt.mpr within) block]
      exact decides_setDecision s _
    · obtain ⟨member, service, entry⟩ := fitToClose_spec found
      have posted := State.post_close_ready (u := s) (p := avcPosting .closeOp k false) rfl
        ((sound.2.2.1 k).mp member) service entry
      have blocks : s.harmonicBlock = false ∧ s.bkt = false ∧ s.tripRecordBlock = false := by
        unfold State.attemptBlock at free
        split at free
        · cases free
        · split at free
          · cases free
          · split at free
            · cases free
            · split at free
              · cases free
              · simp_all
      obtain ⟨harmonic, bkt, record⟩ := blocks
      rw [State.closeAttempt_posts candidate (by rw [edge]; exact not_lt.mpr within) free]
      exact State.attemptPost_posts (p := avcPosting .closeOp k false) entry
        (posted.trans (by simp [State.lineDead, line, harmonic, bkt, record])) rfl rfl rfl _

/-- Settles O52: each stage by its own conditions, and an attempt by its candidate, its prediction and its blocks. -/
theorem avcChoosesItsSteps : Obligations.AvcChoosesItsSteps := by
  refine ⟨fun s running on steady high count _ => ?_, fun s => ⟨fun running on settling => ?_, fun off => ?_,
    fun on steady => ⟨fun high few => ?_, fun low => ?_⟩⟩, fun s fast => ⟨fun reset => ?_,
    fun auto line noRef vtLoss => ⟨fun settling => ?_, fun steady sound u is => ⟨fun reached => ?_,
      fun below reached => ?_, fun below under => ?_⟩⟩⟩, fun s => ?_,
    fun s => ⟨fun absent => ?_, fun k v orders sound found is => ⟨fun beyond => ?_, fun within => ?_⟩⟩⟩
  · have due : s.fastDue = true := s.fastDue_iff.mpr ⟨on, steady, high, count⟩
    have run : exec .fastOpen s = .next s.fastOpening := by
      refine congrArg Host.Outcome.next ((State.unlessHeld_free s _ running).trans ?_)
      rw [State.fastOpen, if_pos due]
    cases candidate : s.openCandidate with
    | none =>
      rw [State.fastOpening_none candidate] at run
      exact ⟨_, run, rfl, rfl, rfl, fun _ => ⟨rfl, State.onlyIn_trans (s.setOv_onlyIn 0)
        (State.setDecision_onlyIn _ _)⟩, fun k found => absurd (candidate.symm.trans found) (by simp)⟩
    | some k =>
      obtain ⟨avc, stands, flying, only⟩ := State.fastOpening_posted candidate
      refine ⟨_, run, (congrArg AvcState.ovCnt avc :), (congrArg AvcState.dLow avc :), (congrArg AvcState.dHigh avc :),
        fun absent => absurd (candidate.symm.trans absent) (by simp), fun j found => ?_⟩
      obtain rfl : k = j := Option.some.inj (candidate.symm.trans found)
      exact ⟨(congrArg AvcState.lastDecision avc :), stands, flying, State.onlyIn_mono only (by decide)⟩
  · have notDue := s.fastDue_settling settling
    refine ⟨congrArg Host.Outcome.next ((State.unlessHeld_free s _ running).trans ?_), ?_⟩
    · rw [State.fastOpen, if_neg (by simp [notDue])]
    · have held : s.ovAfter = s.avc.ovCnt := by simp [State.ovAfter, on, settling]
      rw [State.fastStage_of_not_due notDue, held]
      rfl
  · have zero : s.ovAfter = 0 := if_pos off
    rw [State.fastStage_of_not_due (State.fastDue_eq_false fun due => due.1 off), zero]
    rfl
  · have risen : s.ovAfter = s.avc.ovCnt + 1 := by simp [State.ovAfter, on, steady, high]
    rw [State.fastStage_of_not_due (State.fastDue_eq_false fun due => by omega), risen]
    rfl
  · have zero : s.ovAfter = 0 := by simp [State.ovAfter, steady, Nat.not_le.mpr low]
    rw [State.fastStage_of_not_due (State.fastDue_eq_false fun due => by omega), zero]
    rfl
  · exact State.integratorStage_reset fast reset
  · rw [State.integratorStage_active fast auto line noRef vtLoss, if_pos settling]
  · rw [State.integratorStage_active fast auto line noRef vtLoss, if_neg (by simp [steady]),
      State.dLowAfter_eq sound, State.dHighAfter_eq, if_pos reached, is]
    rfl
  · rw [State.integratorStage_active fast auto line noRef vtLoss, if_neg (by simp [steady]),
      State.dLowAfter_eq sound, State.dHighAfter_eq, if_neg (Nat.not_le.mpr below), if_pos reached, is]
    rfl
  · rw [State.integratorStage_active fast auto line noRef vtLoss, if_neg (by simp [steady]),
      State.dLowAfter_eq sound, State.dHighAfter_eq, if_neg (Nat.not_le.mpr below),
      if_neg (Nat.not_le.mpr under), is]
    rfl
  · obtain ⟨absent, chosen⟩ := closeAttempt_chooses s
    refine ⟨absent, fun k v sound found is => ?_⟩
    obtain ⟨withheld, within⟩ := chosen k v sound found is
    refine ⟨withheld, fun low => ?_⟩
    obtain ⟨blocked, posted⟩ := within low
    refine ⟨fun harmonic => blocked _ ?_, fun quiet => ⟨fun above => blocked _ ?_, fun under =>
      ⟨fun bkt => blocked _ ?_, fun noBkt => ⟨fun record => blocked _ ?_, fun empty line => posted ?_ line⟩⟩⟩⟩
    · simp [State.attemptBlock, harmonic]
    · simp [State.attemptBlock, quiet, State.overvoltageBlock, above]
    · simp [State.attemptBlock, quiet, State.overvoltageBlock, Nat.not_le.mpr under, bkt]
    · simp [State.attemptBlock, quiet, State.overvoltageBlock, Nat.not_le.mpr under, noBkt, record]
    · simp [State.attemptBlock, quiet, State.overvoltageBlock, Nat.not_le.mpr under, noBkt, empty]
  · rw [State.openAttempt_none absent]
    exact decides_setDecision s _
  · subst is
    have edge : (s.lowEdge : Int) = (s.y .vset : Int) - s.y .bw := Int.ofNat_sub sound.bw_le_vset
    rw [State.openAttempt_withheld found (by rwa [edge])]
    exact decides_setDecision s _
  · subst is
    have edge : (s.lowEdge : Int) = (s.y .vset : Int) - s.y .bw := Int.ofNat_sub sound.bw_le_vset
    obtain ⟨member, entry⟩ := State.openCandidate_spec found
    rw [State.openAttempt_posts found (by rw [edge]; exact not_lt.mpr within)]
    exact State.attemptPost_posts (p := avcPosting .openOp k false) entry
      ((State.post_open_of_entryOf_none rfl entry).trans
        (State.postOpen_closed ((orders.2.2.2 k).mp member))) rfl rfl rfl _

end Sys2Proof.Machine
end

section
/-!
PROOF. An OPEN of every step (R59): the eight answers, and the entries that join and leave.
-/
namespace Sys2Proof.Machine

/-! ## An OPEN is judged by its own step (R50, R52) -/

/-- What an OPEN of a step is judged by. -/
def State.SameFor (s t : State) (k : StepId) : Prop :=
  (t.stepRec k).state = (s.stepRec k).state ∧ t.entryOf k = s.entryOf k

/-- The answer to an OPEN follows from the step's state and its pending entry (R52, R54 to R58). -/
theorem State.post_open_answer {s t : State} {p : Posting} (kind : p.kind = .openOp)
    (same : s.SameFor t p.step) : (t.post p).2 = (s.post p).2 := by
  obtain ⟨state, entry⟩ := same
  by_cases absent : (s.stepRec p.step).state = none
  · rw [State.post_absent absent, State.post_absent (state.trans absent)]
  cases found : s.entryOf p.step with
  | none =>
    rw [State.post_open_of_entryOf_none kind found, State.post_open_of_entryOf_none kind (entry.trans found)]
    unfold State.postOpen
    rw [state]
    split <;> rfl
  | some e =>
    have found' := entry.trans found
    have present : (t.stepRec p.step).state ≠ none := state ▸ absent
    cases status : e.status with
    | waiting =>
      cases is : e.kind with
      | closeOp =>
        rw [State.post_onWaitingClose absent found status is, State.post_onWaitingClose present found' status is]
        simp [State.postOnWaitingClose, kind]
      | openOp =>
        rw [State.post_onWaitingOpen absent found status is, State.post_onWaitingOpen present found' status is]
        simp [State.postOnWaitingOpen, kind]
      | tripOp =>
        rw [State.post_onWaitingTrip absent found status is, State.post_onWaitingTrip present found' status is]
        simp [State.postOnWaitingTrip, kind]
    | inFlight =>
      by_cases is : e.kind = .closeOp
      · rw [State.post_onFlightClose absent found status is, State.post_onFlightClose present found' status is]
        cases marked : e.mark <;> simp [State.postOnFlightClose, kind, marked]
      · rw [State.post_onFlightOpen absent found status is, State.post_onFlightOpen present found' status is]
        simp [State.postOnFlightOpen, kind]

/-! ## What an OPEN does to the queue -/

/-- What of an entry an OPEN of another step, or a mark, leaves. -/
def Entry.face (e : Entry) : StepId × EntryStatus × OpKind := (e.step, e.status, e.kind)

/-- The faces of the entries in list order. -/
def State.faces (s : State) : List (StepId × EntryStatus × OpKind) := s.oq.entries.map Entry.face

/-- The step has a WAITING CLOSE, which an OPEN removes (R54). -/
def State.removable (s : State) (k : StepId) : Bool :=
  decide ((s.stepRec k).state ≠ none) && (s.entryOf k).any (fun e => e.status = .waiting ∧ e.kind = .closeOp)

/-- An OPEN of the step becomes a new entry (R52). -/
def State.joinable (s : State) (k : StepId) : Bool :=
  decide ((s.stepRec k).state = some .closed ∧ s.entryOf k = none)

/-- What the OPEN of a step does to the state and to the queue. -/
structure State.Opened (s x : State) (k : StepId) : Prop where
  /-- the entries, but for their marks -/
  faces : x.faces = (if s.removable k then s.faces.filter (fun f => f.1 ≠ k) else s.faces)
    ++ (if s.joinable k then [(k, .waiting, .openOp)] else [])
  /-- the entries of the other steps -/
  others : ∀ j, j ≠ k → x.entryOf j = s.entryOf j
  /-- the table of steps -/
  steps : x.ss.steps = s.ss.steps
  /-- the blocks -/
  only : s.onlyIn x [.ss, .oq, .os, .pi, .avc, .hmu, .upu]
  /-- the whole Step Supervisor, when no pulse runs on a removed CLOSE -/
  ss : (∀ p e, s.ss.pulse = some p → s.entryOf k = some e → e.status = .waiting → p.step ≠ k) → x.ss = s.ss

theorem State.removable_of_none {s : State} {k : StepId} (absent : s.entryOf k = none) :
    s.removable k = false := by
  simp [State.removable, absent]

theorem State.joinable_of_some {s : State} {k : StepId} {e : Entry} (entry : s.entryOf k = some e) :
    s.joinable k = false := by
  simp [State.joinable, entry]

/-- An OPEN that leaves the state. -/
theorem State.Opened.refl {s : State} {k : StepId} (kept : s.removable k = false)
    (bare : s.joinable k = false) : s.Opened s k :=
  ⟨by simp [kept, bare], fun _ _ => rfl, rfl, s.onlyIn_refl _, fun _ => rfl⟩

theorem State.opened_joins {s : State} {k : StepId} {p : Posting} (names : p.step = k)
    (kind : p.kind = .openOp) (closed : (s.stepRec k).state = some .closed) (bare : s.entryOf k = none) :
    s.Opened (s.admitNew p) k := by
  refine ⟨?_, fun j other => ?_, rfl, State.onlyIn_mono (s.admitNew_onlyIn p) (by decide), fun _ => rfl⟩
  · have joins : s.joinable k = true := by simp [State.joinable, closed, bare]
    rw [State.removable_of_none bare, joins]
    simp [State.faces, State.admitNew_oq, State.newEntry, Entry.face, names, kind]
  · rw [State.entryOf, State.admitNew_oq, List.find?_append]
    have away : k ≠ j := fun h => other h.symm
    simp [State.newEntry, names, away, State.entryOf]

theorem State.opened_removes {s : State} {k : StepId} {e : Entry} (present : (s.stepRec k).state ≠ none)
    (entry : s.entryOf k = some e) (waits : e.status = .waiting) (close : e.kind = .closeOp) (r : OutcomeResult) :
    s.Opened ((s.dropEntry k).entryResult e r) k := by
  have result := (s.dropEntry k).entryResult_onlyIn e r
  have dropped := s.dropEntry_onlyIn k
  refine ⟨?_, fun j other => ?_, ?_, ?_, fun away => ?_⟩
  · have gone : s.removable k = true := by simp [State.removable, present, entry, waits, close]
    rw [gone, State.joinable_of_some entry, State.faces, result .oq (by decide), State.dropEntry_oq]
    simp only [if_true, Bool.false_eq_true, if_false, List.append_nil, State.faces, List.filter_map]
    rfl
  · rw [result.entryOf (by decide), State.entryOf, State.dropEntry_oq, List.find?_filter]
    refine congrArg (fun f => s.oq.entries.find? f) (funext fun x => ?_)
    by_cases own : x.step = j <;> simp [own, other]
  · rw [result .ss (by decide)]
    exact State.coilsOff_steps _ _
  · exact State.onlyIn_trans (State.onlyIn_mono dropped (by decide)) (State.onlyIn_mono result (by decide))
  · rw [result .ss (by decide)]
    exact State.dropEntry_ss fun p runs => away p e runs entry waits

theorem State.opened_marks {s : State} {k : StepId} {e : Entry} {p : Posting} (names : p.step = k)
    (entry : s.entryOf k = some e) (flies : e.status = .inFlight) : s.Opened (s.setMark p) k := by
  let f : Entry → Entry := fun x => { x with mark := some (markOf p) }
  refine ⟨?_, fun j other => ?_, rfl, State.onlyIn_mono (s.setMark_onlyIn p) (by decide), fun _ => rfl⟩
  · have kept : s.removable k = false := by simp [State.removable, entry, flies]
    rw [kept, State.joinable_of_some entry]
    simp only [Bool.false_eq_true, if_false, List.append_nil, State.faces]
    show (s.oq.entries.map fun x => if x.step = p.step then f x else x).map Entry.face = _
    rw [List.map_map]
    refine List.map_congr_left fun x _ => ?_
    by_cases own : x.step = p.step <;> simp [own, f, Entry.face]
  · exact s.modEntry_entryOf_ne (f := f) (fun _ => rfl) (names ▸ other)

/-- An OPEN of a step, whatever it meets (R52, R54 to R58). -/
theorem State.post_opened {s : State} {p : Posting} (kind : p.kind = .openOp) :
    s.Opened (s.post p).1 p.step := by
  by_cases absent : (s.stepRec p.step).state = none
  · rw [State.post_absent absent]
    exact .refl (by simp [State.removable, absent]) (by simp [State.joinable, absent])
  cases found : s.entryOf p.step with
  | none =>
    rw [State.post_open_of_entryOf_none kind found]
    by_cases closed : (s.stepRec p.step).state = some .closed
    · rw [State.postOpen_closed closed]
      exact State.opened_joins rfl kind closed found
    · have same : (s.postOpen p).1 = s := by
        unfold State.postOpen
        split
        · next h => exact absurd h closed
        · rfl
        · rfl
        · rfl
      rw [same]
      exact .refl (State.removable_of_none found) (by simp [State.joinable, closed])
  | some e =>
    have bare := State.joinable_of_some found
    cases status : e.status with
    | waiting =>
      cases is : e.kind with
      | closeOp =>
        rw [State.post_onWaitingClose absent found status is]
        have removed : s.postOnWaitingClose e p
            = ((s.dropEntry p.step).entryResult e (.cancelled .openedByRequest), .done) := by
          simp [State.postOnWaitingClose, kind]
        rw [removed]
        exact State.opened_removes absent found status is _
      | openOp =>
        rw [State.post_onWaitingOpen absent found status is]
        have same : s.postOnWaitingOpen e p = (s, .pending) := by simp [State.postOnWaitingOpen, kind]
        rw [same]
        exact .refl (by simp [State.removable, found, is]) bare
      | tripOp =>
        rw [State.post_onWaitingTrip absent found status is]
        have same : s.postOnWaitingTrip p = (s, .pending) := by simp [State.postOnWaitingTrip, kind]
        rw [same]
        exact .refl (by simp [State.removable, found, is]) bare
    | inFlight =>
      have kept : s.removable p.step = false := by simp [State.removable, found, status]
      by_cases is : e.kind = .closeOp
      · rw [State.post_onFlightClose absent found status is]
        cases marked : e.mark with
        | none =>
          rw [State.postOnFlightClose_marks (.inl kind) marked]
          exact State.opened_marks rfl found status
        | some m =>
          have same : s.postOnFlightClose e p = (s, .pending) := by
            simp [State.postOnFlightClose, kind, marked]
          rw [same]
          exact .refl kept bare
      · rw [State.post_onFlightOpen absent found status is]
        have same : s.postOnFlightOpen e p = (s, .pending) := by simp [State.postOnFlightOpen, kind]
        rw [same]
        exact .refl kept bare

/-! ## The expansion, step by step (R59) -/

theorem State.SameFor.removable {s t : State} {k : StepId} (same : s.SameFor t k) :
    t.removable k = s.removable k := by
  rw [State.removable, same.1, same.2, State.removable]

theorem State.SameFor.joinable {s t : State} {k : StepId} (same : s.SameFor t k) :
    t.joinable k = s.joinable k := by
  rw [State.joinable, same.1, same.2, State.joinable]

/-- An OPEN leaves what the OPENs of the other steps are judged by. -/
theorem State.Opened.sameFor {s x : State} {k j : StepId} (opened : s.Opened x k) (other : j ≠ k) :
    s.SameFor x j :=
  ⟨congrArg (fun v : Vector StepRecord 8 => (v[j]).state) opened.steps, opened.others j other⟩

theorem State.SameFor.trans {s t u : State} {k : StepId} (h : s.SameFor t k) (g : t.SameFor u k) :
    s.SameFor u k := ⟨g.1.trans h.1, g.2.trans h.2⟩

/-- What the OPENs of the steps in `l` do to a state in which each meets what it would meet in `u`. -/
structure OpenedAll (u v : State) (r : State × List PostAnswer) (a : List PostAnswer) (o : Originator)
    (tag : Option Byte) (fast : Bool) (l : List StepId) : Prop where
  /-- the answers -/
  answers : r.2 = a ++ l.map (fun k => (u.post (openPosting o tag fast k)).2)
  /-- the entries, but for their marks -/
  faces : r.1.faces = v.faces.filter (fun f => decide (f.1 ∉ l) || !u.removable f.1)
    ++ (l.filter u.joinable).map (fun k => (k, .waiting, .openOp))
  /-- the table of steps -/
  steps : r.1.ss.steps = v.ss.steps
  /-- the blocks -/
  only : v.onlyIn r.1 [.ss, .oq, .os, .pi, .avc, .hmu, .upu]
  /-- the whole Step Supervisor, when no pulse runs on a removed CLOSE -/
  ss : (∀ p k e, v.ss.pulse = some p → u.entryOf k = some e → e.status = .waiting → p.step ≠ k) → r.1.ss = v.ss
  /-- the entries of the other steps -/
  others : ∀ j, j ∉ l → r.1.entryOf j = v.entryOf j

theorem openedAll (u : State) (o : Originator) (tag : Option Byte) (fast : Bool) :
    ∀ (l : List StepId) (acc : State × List PostAnswer), l.Nodup → (∀ k ∈ l, u.SameFor acc.1 k) →
      OpenedAll u acc.1 (l.foldl (expandOne o tag fast) acc) acc.2 o tag fast l := by
  intro l
  induction l with
  | nil =>
    intro acc _ _
    exact ⟨by simp, by simp, rfl, State.onlyIn_refl _ _, fun _ => rfl, fun _ _ => rfl⟩
  | cons k l ih =>
    intro acc distinct same
    obtain ⟨fresh, distinct'⟩ := List.nodup_cons.mp distinct
    have here := same k List.mem_cons_self
    have opened : acc.1.Opened (acc.1.post (openPosting o tag fast k)).1 k :=
      State.post_opened (p := openPosting o tag fast k) rfl
    have answer : (acc.1.post (openPosting o tag fast k)).2 = (u.post (openPosting o tag fast k)).2 :=
      State.post_open_answer rfl here
    obtain ⟨answers, faces, steps, only, ss, others⟩ := ih (expandOne o tag fast acc k) distinct'
      fun j mem => (same j (List.mem_cons_of_mem _ mem)).trans
        (opened.sameFor fun is => fresh (is ▸ mem))
    refine ⟨?_, ?_, steps.trans opened.steps, State.onlyIn_trans opened.only only, fun away => ?_,
      fun j out => ?_⟩
    · rw [List.foldl_cons, answers, expandOne, answer]
      simp
    · have before : (expandOne o tag fast acc k).1.faces
          = (if u.removable k then acc.1.faces.filter (fun f => f.1 ≠ k) else acc.1.faces)
            ++ (if u.joinable k then [(k, .waiting, .openOp)] else []) := by
        rw [← here.removable, ← here.joinable]
        exact opened.faces
      rw [List.foldl_cons, faces, before, List.filter_append, List.append_assoc]
      congr 1
      · by_cases removes : u.removable k = true
        · rw [if_pos removes, List.filter_filter]
          refine List.filter_congr fun f _ => ?_
          by_cases own : f.1 = k <;> simp [own, removes]
        · rw [if_neg removes]
          refine List.filter_congr fun f _ => ?_
          by_cases own : f.1 = k <;> simp [own, removes]
      · by_cases joins : u.joinable k = true <;> simp [joins, fresh]
    · have kept : (expandOne o tag fast acc k).1.ss = acc.1.ss := opened.ss fun p e runs entry waits =>
        away p k e runs (here.2.symm.trans entry) waits
      exact (ss fun p j e runs entry waits => away p j e (kept ▸ runs) entry waits).trans kept
    · rw [List.mem_cons, not_or] at out
      exact (others j out.2).trans (opened.others j out.1)

/-- The expansion of an OPEN ALL (R59). -/
theorem State.expandAll_openedAll (u : State) (o : Originator) (tag : Option Byte) (fast : Bool) :
    OpenedAll u u (u.expandAll o tag fast) [] o tag fast allSteps :=
  openedAll u o tag fast allSteps (u, []) (List.nodup_finRange 8) fun _ _ => ⟨rfl, rfl⟩

/-! ## In a sound queue -/

/-- In a sound queue the steps whose entry an OPEN removes are those with a WAITING CLOSE. -/
theorem State.QueueSound.removable_iff {u : State} (queue : u.QueueSound) {e : Entry} (mem : e ∈ u.oq.entries) :
    u.removable e.step = true ↔ e.status = .waiting ∧ e.kind = .closeOp := by
  have state : (u.stepRec e.step).state ≠ none := by simp [(queue.2.2.1 e mem).1]
  simp [State.removable, entryOf_eq queue.1 mem, state]

/-- With nothing to dispatch before an OPEN ALL there is nothing to dispatch after it. -/
theorem State.expandAll_heldBack {u : State} (queue : u.QueueSound) (held : u.heldBack) (o : Originator)
    (tag : Option Byte) (fast : Bool) : (u.expandAll o tag fast).1.heldBack := by
  have opened := u.expandAll_openedAll o tag fast
  have faceOf : ∀ f, f ∈ (u.expandAll o tag fast).1.faces ↔
      (∃ e ∈ u.oq.entries, e.face = f ∧ u.removable e.step = false)
        ∨ ∃ k, u.joinable k = true ∧ (k, EntryStatus.waiting, OpKind.openOp) = f := fun f => by
    rw [opened.faces, List.mem_append, List.mem_filter, State.faces]
    simp only [List.mem_map, List.mem_filter]
    constructor
    · rintro (⟨⟨e, mem, rfl⟩, stays⟩ | ⟨k, ⟨-, joins⟩, rfl⟩)
      · exact .inl ⟨e, mem, rfl, by simpa [Entry.face, mem_allSteps] using stays⟩
      · exact .inr ⟨k, joins, rfl⟩
    · rintro (⟨e, mem, rfl, stays⟩ | ⟨k, joins, rfl⟩)
      · exact .inl ⟨⟨e, mem, rfl⟩, by simp [Entry.face, stays]⟩
      · exact .inr ⟨k, ⟨mem_allSteps k, joins⟩, rfl⟩
  rcases held with flying | ⟨settling, noTrip⟩
  · obtain ⟨e, flight⟩ := Option.isSome_iff_exists.mp flying
    obtain ⟨mem, flies⟩ := State.mem_of_inFlight flight
    have stays : u.removable e.step = false := Bool.eq_false_iff.mpr fun removes => by
      have waits := ((queue.removable_iff mem).mp removes).1
      rw [flies] at waits
      cases waits
    obtain ⟨x, memX, face⟩ := List.mem_map.mp ((faceOf e.face).mpr (.inl ⟨e, mem, rfl, stays⟩))
    refine .inl (Option.isSome_iff_ne_none.mpr fun none_ => ?_)
    have waits := State.inFlight_none_iff.mp none_ x memX
    have status : x.status = e.status := congrArg (·.2.1) face
    rw [status, flies] at waits
    cases waits
  · refine .inr ⟨by rw [opened.only .cu (by decide)]; exact settling, fun x mem both => ?_⟩
    rcases (faceOf x.face).mp (List.mem_map_of_mem mem) with ⟨e, memE, face, -⟩ | ⟨k, -, face⟩
    · exact noTrip e memE ⟨(congrArg (·.2.1) face).trans both.1, (congrArg (·.2.2) face).trans both.2⟩
    · have kind : OpKind.openOp = x.kind := congrArg (·.2.2) face
      rw [both.2] at kind
      cases kind

/-- A sound pulse runs on no step whose entry waits. -/
theorem State.CoilsSound.awayOf {u : State} (coils : u.CoilsSound) (queue : u.QueueSound) (p : Pulse) (k : StepId)
    (e : Entry) (runs : u.ss.pulse = some p) (entry : u.entryOf k = some e) (waits : e.status = .waiting) :
    p.step ≠ k := by
  obtain ⟨mem, rfl⟩ := State.mem_of_entryOf entry
  exact coils.away queue.1 mem waits p runs

/-- OPEN of ALL is answered with what the expansion answers (R59). -/
theorem judgeOpen_all (p : Port) (tag : Byte) (u : State) :
    judgeOpen p tag 15 u = ((u.expandAll (portOriginator p) (some tag) false).1.examine,
      { code := .accepted
        payload := byte (acceptedCount (u.expandAll (portOriginator p) (some tag) false).2)
          :: (u.expandAll (portOriginator p) (some tag) false).2.map (fun a => byte a.result.code) }) := by
  rw [judgeOpen, if_pos (by decide)]
  simp only [judgeOpenAll, State.admitAll]

/-- Settles O21: the answers and the entries by the expansion; what is held back before it is so after it. -/
theorem openAllIsAnsweredStepByStep : Obligations.OpenAllIsAnsweredStepByStep := by
  intro h s u serves hu
  have opened := u.expandAll_openedAll (portOriginator h.port) (some h.tag) false
  have heldAfter := fun queue held => State.expandAll_heldBack (u := u) queue held (portOriginator h.port) (some h.tag) false
  have judged := judgeOpen_all h.port h.tag u
  generalize u.expandAll (portOriginator h.port) (some h.tag) false = r at opened heldAfter judged
  obtain ⟨v, given⟩ := r
  have next : exec (.openStep h 15) s = .next (v.examine.respond h.port h.tag _) :=
    congrArg Host.Outcome.next (State.request_of_judge serves rfl hu judged)
  have responds := fun a => v.examine.respond_onlyIn h.port h.tag a
  refine ⟨_, next, fun answers listed => ?_, ?_, fun queue coils held => ?_⟩
  · have same : given = answers := opened.answers.trans listed.symm
    rw [State.respond_portState, if_pos rfl, ← same]
    rfl
  · exact State.onlyIn_trans (State.onlyIn_mono opened.only (by decide)) (State.onlyIn_trans
      (State.onlyIn_mono v.examine_onlyIn (by decide)) (State.onlyIn_mono (responds _) (by decide)))
  · have still : v.examine = v := State.examine_heldBack (heldAfter queue held)
    have kept : v.ss = u.ss := opened.ss fun p k e => coils.awayOf queue p k e
    refine ⟨?_, ?_⟩
    · rw [responds _ .ss (by decide), still, kept]
    · rw [responds _ .oq (by decide), still]
      have steps : v.oq.entries.map (·.step) = v.faces.map (·.1) := by
        rw [State.faces, List.map_map]
        rfl
      rw [steps, opened.faces, List.map_append, List.map_map, List.filter_map, State.faces, List.filter_map,
        List.map_map]
      congr 1
      · refine congrArg (List.map _) (List.filter_congr fun e mem => ?_)
        rw [Bool.eq_iff_iff]
        simp only [Function.comp, Entry.face, mem_allSteps, not_true_eq_false, decide_false, Bool.false_or,
          Bool.not_eq_true', Bool.eq_false_iff, ne_eq, queue.removable_iff mem, decide_eq_true_eq, not_iff_not]
        constructor
        · exact fun both => ⟨e, mem, rfl, both⟩
        · rintro ⟨x, memX, step, both⟩
          rwa [← entry_unique queue.1 memX mem step]
      · exact List.map_id _

end Sys2Proof.Machine
end

section
/-!
PROOF. The line state and the dead-line OPEN ALL (R96 to R98, R116).
-/
namespace Sys2Proof.Machine

/-! ## The control's record through switching -/

/-- The AVC's record is the same but for its last result, which any end of an AVC operation writes (R114). -/
def State.SameControl (s t : State) : Prop := { t.avc with lastResult := s.avc.lastResult } = s.avc

theorem State.SameControl.of_avc {s t : State} (avc : t.avc = s.avc) : s.SameControl t := by
  rw [State.SameControl, avc]

theorem State.SameControl.refl (s : State) : s.SameControl s := .of_avc rfl

theorem State.SameControl.trans {s t u : State} (h : s.SameControl t) (g : t.SameControl u) : s.SameControl u := by
  rw [State.SameControl] at h g ⊢
  rw [← g] at h
  exact h

theorem State.SameControl.ite {s t u : State} (c : Prop) [Decidable c] (h : s.SameControl t) (g : s.SameControl u) :
    s.SameControl (if c then t else u) := by
  split
  · exact h
  · exact g

theorem State.SameControl.foldl {α : Type} (f : State → α → State) (h : ∀ (s : State) a, s.SameControl (f s a))
    (l : List α) (s : State) : s.SameControl (l.foldl f s) := by
  induction l generalizing s with
  | nil => exact .refl s
  | cons a l ih => exact (h s a).trans (ih (f s a))

theorem State.SameControl.of_onlyIn {s t : State} {l : List Block} (only : s.onlyIn t l) (away : Block.avc ∉ l) :
    s.SameControl t := .of_avc (only .avc away)

theorem State.giveResult_control (s : State) (o : Originator) (tag : Option Byte) (k : StepId) (kind : OpKind)
    (fast : Bool) (r : OutcomeResult) : s.SameControl (s.giveResult o tag k kind fast r) := by
  cases o with
  | portA => exact .of_onlyIn (s.insertOutcome_onlyIn .a _) (by decide)
  | portB => exact .of_onlyIn (s.insertOutcome_onlyIn .b _) (by decide)
  | harmonic => exact .of_onlyIn (s.detuneResult_onlyIn k r) (by decide)
  | avc => rfl
  | unbalance => exact .of_avc rfl
  | external => exact .of_avc rfl

theorem State.entryResult_control (s : State) (e : Entry) (r : OutcomeResult) : s.SameControl (s.entryResult e r) :=
  s.giveResult_control _ _ _ _ _ _

theorem State.markResult_control (s : State) (k : StepId) (m : Mark) (r : OutcomeResult) :
    s.SameControl (s.markResult k m r) :=
  s.giveResult_control _ _ _ _ _ _

theorem State.dropEntry_control (s : State) (k : StepId) : s.SameControl (s.dropEntry k) :=
  .of_onlyIn (s.dropEntry_onlyIn k) (by decide)

theorem State.assertBkt_control (s : State) (k : StepId) (b : BackupReason) (o : Originator) :
    s.SameControl (s.assertBkt k b o) := .of_onlyIn (s.assertBkt_onlyIn k b o) (by decide)

theorem State.removeEach_control (s : State) (l : List Entry) (r : OutcomeResult) :
    s.SameControl (s.removeEach l r) := by
  have one : ∀ (t : State) (e : Entry), t.SameControl ((t.dropEntry e.step).entryResult e r) := fun t e =>
    (t.dropEntry_control e.step).trans (State.entryResult_control _ e r)
  exact .foldl _ one l s

theorem State.fitEntry_control (s : State) (k : StepId) : s.SameControl (s.fitEntry k) := by
  have removed := fun e r => (s.dropEntry_control k).trans (State.entryResult_control _ e r)
  unfold State.fitEntry
  split
  · exact .refl s
  · refine .ite _ (.refl s) ?_
    split
    · exact .ite _ (.refl s) (removed _ _)
    · exact .ite _ (.refl s) (removed _ _)
    · exact .ite _ (.refl s) (.ite _ ((removed _ _).trans (State.assertBkt_control _ _ _ _)) (removed _ _))

theorem State.enter_control (s : State) (k : StepId) (n : StepState) (l : Option LockoutCause)
    (f : Option FailureCause) : s.SameControl (s.enter k n l f) := by
  have entered : s.SameControl (s.entered k n l f) := .of_onlyIn (s.entered_onlyIn k n l f) (by decide)
  let u := (s.entered k n l f).fitEntry k
  have rest : u.SameControl (s.enter k n l f) := .of_avc
    ((State.leaveClosed_onlyIn _ k _ .avc (by decide)).trans
      (((State.voidOther_spec _ k).1 .avc (by decide)).trans (State.leaveReady_onlyIn _ k .avc (by decide))))
  exact (entered.trans (State.fitEntry_control _ k)).trans rest

theorem State.examine_control (s : State) : s.SameControl s.examine := .of_onlyIn s.examine_onlyIn (by decide)

/-- A CLOSE without an entry is refused or becomes one (R51). -/
theorem State.postClose_cases (s : State) (p : Posting) :
    (s.postClose p).1 = s ∨ (s.postClose p).1 = s.admitNew p := by
  unfold State.postClose
  dsimp only
  split_ifs <;> simp

/-- A posting writes no more of the control's record than a last result (R114). -/
theorem State.post_control (s : State) (p : Posting) : s.SameControl (s.post p).1 := by
  have joined : s.SameControl (s.admitNew p) := .of_onlyIn (s.admitNew_onlyIn p) (by decide)
  have marked : s.SameControl (s.setMark p) := .of_onlyIn (s.setMark_onlyIn p) (by decide)
  have removed := fun e r => (s.dropEntry_control p.step).trans (State.entryResult_control _ e r)
  by_cases absent : (s.stepRec p.step).state = none
  · rw [State.post_absent absent]
    exact .refl s
  cases found : s.entryOf p.step with
  | none =>
    cases kind : p.kind with
    | closeOp =>
      have posted : s.post p = s.postClose p := by simp [State.post, absent, found, kind]
      rw [posted]
      rcases s.postClose_cases p with same | new
      · rw [same]
        exact .refl s
      · rw [new]
        exact joined
    | openOp =>
      rw [State.post_open_of_entryOf_none kind found]
      exact .of_onlyIn (s.postOpen_onlyIn p) (by decide)
    | tripOp =>
      rw [State.post_trip kind found]
      unfold State.postTrip
      split
      · exact joined
      · exact s.enter_control _ _ _ _
      · exact s.enter_control _ _ _ _
      · exact .refl s
      · split
        · exact .refl s
        · exact s.assertBkt_control _ _ _
      · exact .refl s
  | some e =>
    cases status : e.status with
    | waiting =>
      cases is : e.kind with
      | closeOp =>
        rw [State.post_onWaitingClose absent found status is]
        unfold State.postOnWaitingClose
        split
        · exact removed _ _
        · exact ((s.dropEntry_control p.step).trans (State.enter_control _ _ _ _ _)).trans
            (State.entryResult_control _ _ _)
        · exact .refl s
      | openOp =>
        rw [State.post_onWaitingOpen absent found status is]
        unfold State.postOnWaitingOpen
        split
        · exact (State.SameControl.of_onlyIn (s.modEntry_onlyIn p.step _) (by decide)).trans
            (State.entryResult_control _ _ _)
        · exact .refl s
        · exact .refl s
      | tripOp =>
        rw [State.post_onWaitingTrip absent found status is]
        unfold State.postOnWaitingTrip
        split <;> exact .refl s
    | inFlight =>
      by_cases is : e.kind = .closeOp
      · rw [State.post_onFlightClose absent found status is]
        unfold State.postOnFlightClose
        split
        · exact .refl s
        · split
          · exact marked
          · exact .refl s
        · split
          · exact marked
          · split
            · exact .refl s
            · exact marked.trans (State.markResult_control _ _ _ _)
      · rw [State.post_onFlightOpen absent found status is]
        unfold State.postOnFlightOpen
        split
        · exact .refl s
        · exact .refl s
        · split
          · exact marked
          · exact .refl s

theorem State.admitOne_control (s : State) (p : Posting) : s.SameControl (s.admitOne p).1 :=
  (s.post_control p).trans (State.examine_control _)

theorem expandOne_control (o : Originator) (tag : Option Byte) (fast : Bool) (l : List StepId)
    (acc : State × List PostAnswer) : acc.1.SameControl (l.foldl (expandOne o tag fast) acc).1 := by
  induction l generalizing acc with
  | nil => exact .refl _
  | cons k l ih => exact (acc.1.post_control (openPosting o tag fast k)).trans (ih (expandOne o tag fast acc k))

/-! ## The line state -/

/-- The line state written, before dispatch is examined (R97, R98). -/
def State.lineTaken (s : State) (l : LineState) : State :=
  ({ s with avc := { s.avc with line := l, runCount := 0 } }).setFlags

theorem State.setLine_eq (s : State) (l : LineState) : s.setLine l = (s.lineTaken l).examine := rfl

theorem State.lineTaken_onlyIn (s : State) (l : LineState) : s.onlyIn (s.lineTaken l) [.avc, .pi] := by
  refine State.onlyIn_trans (t := { s with avc := { s.avc with line := l, runCount := 0 } }) (fun b hb => ?_)
    (State.onlyIn_mono (State.setFlags_onlyIn _) (by decide))
  cases b <;> simp_all [State.sameBlock]

theorem State.setLine_avc (s : State) (l : LineState) :
    (s.setLine l).avc = { s.avc with line := l, runCount := 0 } := by
  rw [State.setLine_eq, (s.lineTaken l).examine_onlyIn .avc (by decide)]
  rfl

theorem State.setLine_flags (s : State) (l : LineState) (p : Port) :
    ((s.setLine l).portState p).changeFlag = true :=
  (s.lineTaken l).examine_retains.flags p (State.setFlags_changeFlag _ p)

/-- With the line DEAD no WAITING CLOSE is chosen (R61). -/
theorem State.chooseEntry_dead {s : State} (dead : s.avc.line = .dead) {e : Entry} (chosen : s.chooseEntry = some e) :
    e ∈ s.oq.entries ∧ e.status = .waiting ∧ e.kind ≠ .closeOp := by
  have blocked : s.closeBlock = true := by simp [State.closeBlock, State.lineDead, dead]
  have opens : ∀ kind, kind ≠ .closeOp → s.oldestWaiting kind = some e →
      e ∈ s.oq.entries ∧ e.status = .waiting ∧ e.kind ≠ .closeOp := fun kind other found => by
    obtain ⟨waits, is⟩ := State.oldestWaiting_kind found
    exact ⟨List.mem_of_find?_eq_some found, waits, is ▸ other⟩
  cases trip : s.oldestWaiting .tripOp with
  | some x =>
    rw [State.chooseEntry_trip trip] at chosen
    exact opens .tripOp (by decide) (trip.trans chosen)
  | none =>
    by_cases settled : s.cu.settle = 0
    · cases opening : s.oldestWaiting .openOp with
      | some x =>
        rw [State.chooseEntry_open trip settled opening] at chosen
        exact opens .openOp (by decide) (opening.trans chosen)
      | none => simp [State.chooseEntry, trip, settled, opening, blocked] at chosen
    · simp [State.chooseEntry, trip, settled] at chosen

/-- An OPEN of a step whose entry opens it is PENDING, before and after its dispatch (R55, R56, R58). -/
theorem State.post_open_pending {s : State} {p : Posting} {e : Entry} (kind : p.kind = .openOp)
    (present : (s.stepRec p.step).state ≠ none) (entry : s.entryOf p.step = some e) (opens : e.kind ≠ .closeOp) :
    s.post p = (s, .pending) := by
  cases status : e.status with
  | waiting =>
    cases is : e.kind with
    | closeOp => exact absurd is opens
    | openOp =>
      rw [State.post_onWaitingOpen present entry status is]
      simp [State.postOnWaitingOpen, kind]
    | tripOp =>
      rw [State.post_onWaitingTrip present entry status is]
      simp [State.postOnWaitingTrip, kind]
  | inFlight =>
    rw [State.post_onFlightOpen present entry status opens]
    simp [State.postOnFlightOpen, kind]

theorem State.dispatchEntry_entryOf (s : State) (e : Entry) (k : StepId) : (s.dispatchEntry e).entryOf k
    = (s.entryOf k).map (fun x => if x.step = e.step then { x with status := .inFlight } else x) := by
  let f : Entry → Entry := fun x => { x with status := .inFlight }
  have moved : (s.dispatchEntry e).oq.entries = (s.modEntry e.step f).oq.entries := (s.dispatchEntry_ne e).2
  have same : (s.dispatchEntry e).entryOf k = (s.modEntry e.step f).entryOf k := by
    rw [State.entryOf, moved, State.entryOf]
  rw [same]
  exact s.modEntry_entryOf e.step (f := f) (fun _ => rfl) k

/-- The examination on a DEAD line changes no answer to an OPEN (R97). -/
theorem State.examine_dead_answer {s : State} (queue : s.QueueSound) (dead : s.avc.line = .dead) {p : Posting}
    (kind : p.kind = .openOp) : (s.examine.post p).2 = (s.post p).2 := by
  rcases s.examine_cases with same | ⟨e, -, chosen, dispatch⟩
  · rw [same]
  · obtain ⟨mem, waits, opens⟩ := State.chooseEntry_dead dead chosen
    rw [dispatch]
    by_cases own : p.step = e.step
    · have entry : s.entryOf p.step = some e := own ▸ entryOf_eq queue.1 mem
      have before : (s.stepRec p.step).state ≠ none := by
        rw [own, (queue.2.2.1 e mem).1]
        simp
      have after : ((s.dispatchEntry e).stepRec p.step).state ≠ none := by
        rw [own, s.dispatchEntry_state e]
        simp
      have entry' : (s.dispatchEntry e).entryOf p.step = some { e with status := .inFlight } := by
        rw [s.dispatchEntry_entryOf e, entry]
        simp
      rw [State.post_open_pending kind before entry opens, State.post_open_pending kind after entry' opens]
    · refine State.post_open_answer kind ⟨by rw [(s.dispatchEntry_ne e).1 p.step own], ?_⟩
      rw [s.dispatchEntry_entryOf e]
      cases found : s.entryOf p.step with
      | none => rfl
      | some x =>
        have away : x.step ≠ e.step := (State.mem_of_entryOf found).2 ▸ own
        simp [away]

/-! ## The dead-line OPEN ALL (R97, R116) -/

theorem State.onlyIn_avc (s : State) (a : AvcState) : s.onlyIn { s with avc := a } [.avc] := by
  intro b hb
  cases b <;> simp_all [State.sameBlock]

/-- The AVC's OPEN ALL leaves the records of R116. -/
theorem State.deadOpenAll_avc (s : State) {v : State} {given : List PostAnswer}
    (expanded : s.expandAll .avc none true = (v, given)) :
    s.deadOpenAll.avc = { v.avc with
        lastOpenAll := some
          { frame := s.me.frame.number, uptime := s.clock.uptime, count := acceptedCount given, answers := given }
        lastDecision := some { decision := .openAllPosted (acceptedCount given), frame := s.me.frame.number } }
      ∧ v.examine.onlyIn s.deadOpenAll [.avc] := by
  have kept : s.Keeps v.examine := by
    have all := s.admitAll_keeps .avc none true
    rw [State.admitAll, expanded] at all
    exact all
  have avc : v.examine.avc = v.avc := v.examine_onlyIn .avc (by decide)
  have opened : s.deadOpenAll = ({ v.examine with avc := { v.examine.avc with
      lastOpenAll := some
        { frame := v.examine.me.frame.number
          uptime := v.examine.clock.uptime
          count := acceptedCount given
          answers := given } } } : State).setDecision (.openAllPosted (acceptedCount given)) := by
    simp only [State.deadOpenAll, State.admitAll, expanded]
  rw [opened]
  generalize v.examine = w at kept avc
  refine ⟨?_, State.onlyIn_trans (w.onlyIn_avc _) (State.setDecision_onlyIn _ _)⟩
  rw [State.setDecision_avc]
  dsimp only
  rw [avc, kept.me, kept.clock]

/-- A face stands for a pending entry. -/
theorem State.entryOf_isSome_of_face {s : State} {f : StepId × EntryStatus × OpKind} (mem : f ∈ s.faces) :
    (s.entryOf f.1).isSome = true := by
  obtain ⟨e, memE, rfl⟩ := List.mem_map.mp mem
  refine Option.isSome_iff_ne_none.mpr fun none_ => ?_
  exact State.entryOf_none_iff.mp none_ e memE rfl

theorem State.examine_entryOf_isSome (s : State) (k : StepId) :
    (s.examine.entryOf k).isSome = (s.entryOf k).isSome := by
  have stated := congrArg Option.isSome (s.examine_entryOf k)
  rwa [Option.isSome_map, Option.isSome_map] at stated

/-- After an OPEN ALL a step that was CLOSED, or whose entry was none that an OPEN removes, has an entry. -/
theorem State.expandAll_entryOf {s : State} {k : StepId} (o : Originator) (tag : Option Byte) (fast : Bool)
    (has : (s.stepRec k).state = some .closed ∨ (s.entryOf k).isSome = true) (kept : s.removable k = false) :
    ((s.expandAll o tag fast).1.entryOf k).isSome = true := by
  have opened := s.expandAll_openedAll o tag fast
  suffices ∃ f ∈ (s.expandAll o tag fast).1.faces, f.1 = k by
    obtain ⟨f, mem, rfl⟩ := this
    exact State.entryOf_isSome_of_face mem
  rw [opened.faces]
  cases entry : s.entryOf k with
  | none =>
    have closed := has.resolve_right (by simp [entry])
    refine ⟨(k, .waiting, .openOp), List.mem_append_right _ ?_, rfl⟩
    exact List.mem_map.mpr ⟨k, List.mem_filter.mpr ⟨mem_allSteps k, by simp [State.joinable, closed, entry]⟩, rfl⟩
  | some e =>
    obtain ⟨mem, step⟩ := State.mem_of_entryOf entry
    refine ⟨e.face, List.mem_append_left _ (List.mem_filter.mpr ⟨List.mem_map_of_mem mem, ?_⟩), step⟩
    have stays : s.removable e.face.1 = false := (congrArg s.removable step).trans kept
    simp [stays]

/-- The step of a dispatched OPEN or TRIP keeps its entry through an OPEN ALL. -/
theorem State.examine_dead_closed {s : State} (queue : s.QueueSound) {k : StepId}
    (closed : (s.stepRec k).state = some .closed) :
    ((s.examine.stepRec k).state = some .closed ∨ (s.examine.entryOf k).isSome = true)
      ∧ s.examine.removable k = false := by
  have fits : ∀ x, s.examine.entryOf k = some x → x.kind ≠ .closeOp := fun x found => by
    have stated := s.examine_entryOf k
    rw [found, Option.map_some] at stated
    obtain ⟨e, entry, same⟩ := Option.map_eq_some_iff.mp stated.symm
    have kind : e.kind = x.kind := (congrArg Entry.kind same :)
    exact kind ▸ (queue.fits_closed closed entry).2
  refine ⟨?_, ?_⟩
  · by_cases bare : s.entryOf k = none
    · refine .inl ?_
      rw [(State.examine_of_entryOf_none bare).1]
      exact closed
    · refine .inr ?_
      rw [s.examine_entryOf_isSome]
      exact Option.isSome_iff_ne_none.mpr bare
  · unfold State.removable
    cases found : s.examine.entryOf k with
    | none => simp
    | some x => simp [fits x found]

/-- Settles O51: the answers are those of the state before, since a dispatch on a DEAD line changes none. -/
theorem lineStateChangesAtNdead : Obligations.LineStateChangesAtNdead := by
  intro s running
  refine ⟨fun live dead count => ?_, fun dead noRef high count => ?_⟩
  · let w := s.lineTaken .dead
    have due : s.avc.line = .live ∧ s.deadFrame = true ∧ s.y .ndead ≤ s.avc.runCount + 1 :=
      ⟨live, by simpa [State.deadFrame] using dead, count⟩
    have run : exec .deadLineEntry s = .next (s.setLine .dead).deadOpenAll := by
      refine congrArg Host.Outcome.next ((State.unlessHeld_free s _ running).trans ?_)
      rw [State.deadLineEntry, if_pos due, State.enterDead]
    have only := ((s.setLine_keeps .dead).trans (State.deadOpenAll_keeps _)).onlyIn
    have before := s.setLine_avc .dead
    have flags := s.setLine_flags .dead
    have kept := s.setLine_keeps .dead
    have examined : s.setLine .dead = w.examine := rfl
    generalize s.setLine .dead = d at run only before flags kept examined
    have opened := d.expandAll_openedAll .avc none true
    have control : d.SameControl (d.expandAll .avc none true).1 := expandOne_control .avc none true allSteps (d, [])
    have retained : d.Retains (d.expandAll .avc none true).1 := expandOne_retains .avc none true allSteps (d, [])
    have held := fun queue held => State.expandAll_heldBack (u := d) queue held .avc none true
    have entries := fun k => State.expandAll_entryOf (s := d) (k := k) .avc none true
    obtain ⟨⟨v, given⟩, is⟩ : ∃ r, r = d.expandAll .avc none true := ⟨_, rfl⟩
    rw [← is] at opened control retained held entries
    obtain ⟨avc, rest⟩ := d.deadOpenAll_avc is.symm
    generalize d.deadOpenAll = t at run only avc rest
    have listed : given = allSteps.map (fun k => (d.post (openPosting .avc none true k)).2) := opened.answers
    have line : v.avc.line = .dead ∧ v.avc.runCount = 0 :=
      ⟨(congrArg AvcState.line (Eq.trans control before) :), (congrArg AvcState.runCount (Eq.trans control before) :)⟩
    refine ⟨t, _, run, (congrArg AvcState.line avc :).trans line.1,
      (congrArg AvcState.runCount avc :).trans line.2, fun p => ?_, (congrArg AvcState.lastOpenAll avc :), ?_, ?_, ?_,
      fun queue => ?_, rfl, ?_, fun sound k closed => ?_, fun sound flying => ?_, only⟩
    · have after : v.examine.Retains t := .of_onlyIn rest (by decide) (by decide) (by decide)
      exact (v.examine_retains.trans after).flags p (retained.flags p (flags p))
    · rw [kept.me]
    · rw [kept.clock]
    · rw [listed, List.length_map]
      rfl
    · rw [listed]
      refine List.map_congr_left fun k _ => ?_
      have queue' : w.QueueSound := queue
      rw [examined, State.examine_dead_answer queue' rfl rfl]
      exact State.post_open_answer rfl ⟨rfl, rfl⟩
    · rw [← kept.me]
      exact (congrArg AvcState.lastDecision avc :)
    · have queue' : w.QueueSound := sound.2.1
      obtain ⟨has, stays⟩ := State.examine_dead_closed queue' closed
      rw [← examined] at has stays
      rw [rest.entryOf (by decide), v.examine_entryOf_isSome]
      exact entries k has stays
    · have queue' : w.QueueSound := sound.2.1
      have coils' : w.CoilsSound := sound.2.2.1
      have same : d = w := examined.trans (w.examine_inFlight flying)
      have still : v.examine = v := State.examine_heldBack
        (held (same ▸ queue') (.inl (Option.isSome_iff_ne_none.mpr (same ▸ flying))))
      rw [rest .ss (by decide), still, opened.ss fun p k e => (same ▸ coils' : d.CoilsSound).awayOf (same ▸ queue') p k e,
        same]
      rfl
  · let w := s.lineTaken .live
    have due : s.avc.line = .dead ∧ s.liveFrame = true ∧ s.y .ndead ≤ s.avc.runCount + 1 :=
      ⟨dead, by simp [State.liveFrame, noRef, high], count⟩
    have run : exec .lineLiveReturn s = .next (s.setLine .live) := by
      refine congrArg Host.Outcome.next ((State.unlessHeld_free s _ running).trans ?_)
      rw [State.liveReturn, if_pos due]
    have avc := s.setLine_avc .live
    refine ⟨_, run, (congrArg AvcState.line avc :), (congrArg AvcState.runCount avc :), s.setLine_flags .live,
      by rw [avc], fun idle => ?_, (s.setLine_keeps .live).onlyIn⟩
    have taken := s.lineTaken_onlyIn .live
    have still : w.examine = w := State.examine_idle idle
    rw [State.setLine_eq, still]
    exact taken

end Sys2Proof.Machine
end

section
/-!
SUPPORT. What the postings of one step, a change of its state and an examination leave of another step.
-/
namespace Sys2Proof.Machine

/-- A step's record and its pending entry are the same. -/
def State.Spares (s t : State) (k : StepId) : Prop := t.stepRec k = s.stepRec k ∧ t.entryOf k = s.entryOf k

theorem State.Spares.refl (s : State) (k : StepId) : s.Spares s k := ⟨rfl, rfl⟩

theorem State.Spares.trans {s t u : State} {k : StepId} (h : s.Spares t k) (g : t.Spares u k) : s.Spares u k :=
  ⟨g.1.trans h.1, g.2.trans h.2⟩

theorem State.Spares.of_onlyIn {s t : State} {l : List Block} (only : s.onlyIn t l) (ss : Block.ss ∉ l)
    (oq : Block.oq ∉ l) (k : StepId) : s.Spares t k := ⟨only.stepRec ss k, only.entryOf oq k⟩

theorem State.filter_entryOf {s t : State} {j k : StepId} (other : k ≠ j)
    (entries : t.oq.entries = s.oq.entries.filter (fun e => e.step ≠ j)) : t.entryOf k = s.entryOf k := by
  rw [State.entryOf, entries, List.find?_filter]
  refine congrArg (fun f => s.oq.entries.find? f) (funext fun x => ?_)
  by_cases own : x.step = k <;> simp [own, other]

theorem State.dropEntry_spares (s : State) {j k : StepId} (other : k ≠ j) : s.Spares (s.dropEntry j) k :=
  ⟨congrArg (fun x : Vector StepRecord 8 => x[k]) (State.coilsOff_steps _ j),
    State.filter_entryOf other (congrArg OqState.entries (s.dropEntry_oq j))⟩

theorem State.enter_spares (s : State) {j k : StepId} (other : k ≠ j) (n : StepState) (l : Option LockoutCause)
    (f : Option FailureCause) : s.Spares (s.enter j n l f) k := by
  refine ⟨s.enter_stepRec_ne k j n l f other, ?_⟩
  rcases (s.enter_actsOn j n l f).entries with same | left
  · rw [State.entryOf, same, State.entryOf]
  · exact State.filter_entryOf other left

theorem State.entryResult_spares (s : State) (e : Entry) (r : OutcomeResult) (k : StepId) :
    s.Spares (s.entryResult e r) k := .of_onlyIn (s.entryResult_onlyIn e r) (by decide) (by decide) k

theorem State.modEntry_spares (s : State) {j k : StepId} {f : Entry → Entry} (steps : ∀ e, (f e).step = e.step)
    (other : k ≠ j) : s.Spares (s.modEntry j f) k := ⟨rfl, s.modEntry_entryOf_ne steps other⟩

theorem State.setMark_spares (s : State) {p : Posting} {k : StepId} (other : k ≠ p.step) :
    s.Spares (s.setMark p) k :=
  s.modEntry_spares (f := fun e => { e with mark := some (markOf p) }) (fun _ => rfl) other

theorem State.admitNew_spares (s : State) {p : Posting} {k : StepId} (other : k ≠ p.step) :
    s.Spares (s.admitNew p) k := by
  refine ⟨rfl, ?_⟩
  rw [State.entryOf, State.admitNew_oq, List.find?_append]
  have away : p.step ≠ k := fun h => other h.symm
  simp [State.newEntry, away, State.entryOf]

theorem State.assertBkt_spares (s : State) (j : StepId) (b : BackupReason) (o : Originator) (k : StepId) :
    s.Spares (s.assertBkt j b o) k :=
  ⟨congrArg (fun x : Vector StepRecord 8 => x[k]) (s.assertBkt_steps j b o),
    (s.assertBkt_onlyIn j b o).entryOf (by decide) k⟩

/-- A posting touches no step but its own (R50 to R58). -/
theorem State.post_spares (s : State) {p : Posting} {k : StepId} (other : k ≠ p.step) : s.Spares (s.post p).1 k := by
  have removed := fun e r => (s.dropEntry_spares other).trans (State.entryResult_spares _ e r k)
  by_cases absent : (s.stepRec p.step).state = none
  · rw [State.post_absent absent]
    exact .refl s k
  cases found : s.entryOf p.step with
  | none =>
    cases kind : p.kind with
    | closeOp =>
      have posted : s.post p = s.postClose p := by simp [State.post, absent, found, kind]
      rw [posted]
      rcases s.postClose_cases p with same | new
      · rw [same]
        exact .refl s k
      · rw [new]
        exact s.admitNew_spares other
    | openOp =>
      rw [State.post_open_of_entryOf_none kind found]
      unfold State.postOpen
      split
      · exact s.admitNew_spares other
      · exact .refl s k
      · exact .refl s k
      · exact .refl s k
    | tripOp =>
      rw [State.post_trip kind found]
      unfold State.postTrip
      split
      · exact s.admitNew_spares other
      · exact s.enter_spares other _ _ _
      · exact s.enter_spares other _ _ _
      · exact .refl s k
      · split
        · exact .refl s k
        · exact s.assertBkt_spares _ _ _ k
      · exact .refl s k
  | some e =>
    cases status : e.status with
    | waiting =>
      cases is : e.kind with
      | closeOp =>
        rw [State.post_onWaitingClose absent found status is]
        unfold State.postOnWaitingClose
        split
        · exact removed _ _
        · exact ((s.dropEntry_spares other).trans (State.enter_spares _ other _ _ _)).trans
            (State.entryResult_spares _ _ _ k)
        · exact .refl s k
      | openOp =>
        rw [State.post_onWaitingOpen absent found status is]
        cases kind : p.kind with
        | tripOp =>
          rw [State.postOnWaitingOpen_trip kind]
          exact (s.modEntry_spares (f := fun x => x.upgraded p) (fun _ => rfl) other).trans
            (State.entryResult_spares _ _ _ k)
        | openOp =>
          simp only [State.postOnWaitingOpen, kind]
          exact .refl s k
        | closeOp =>
          simp only [State.postOnWaitingOpen, kind]
          exact .refl s k
      | tripOp =>
        rw [State.post_onWaitingTrip absent found status is]
        unfold State.postOnWaitingTrip
        split <;> exact .refl s k
    | inFlight =>
      have marked := s.setMark_spares other
      by_cases is : e.kind = .closeOp
      · rw [State.post_onFlightClose absent found status is]
        unfold State.postOnFlightClose
        split
        · exact .refl s k
        · split
          · exact marked
          · exact .refl s k
        · split
          · exact marked
          · split
            · exact .refl s k
            · exact marked.trans (.of_onlyIn (State.markResult_onlyIn _ _ _ _) (by decide) (by decide) k)
      · rw [State.post_onFlightOpen absent found status is]
        unfold State.postOnFlightOpen
        split
        · exact .refl s k
        · exact .refl s k
        · split
          · exact marked
          · exact .refl s k

/-! ## An examination -/

/-- An examination leaves a step, or dispatches the entry of it that waits (R61, R62). -/
theorem State.examine_step {s : State} (nodup : (s.oq.entries.map (·.step)).Nodup) (k : StepId) :
    s.Spares s.examine k
      ∨ ∃ e, s.inFlight = none ∧ s.chooseEntry = some e ∧ s.entryOf k = some e ∧ e.status = .waiting
        ∧ s.examine.stepRec k = recordAfter (s.stepRec k) (movingState e.kind) none none
        ∧ s.examine.entryOf k = some { e with status := .inFlight } := by
  rcases s.examine_cases with same | ⟨e, idle, chosen, dispatch⟩
  · rw [same]
    exact .inl (.refl s k)
  · obtain ⟨mem, waits⟩ := s.chooseEntry_waits e chosen
    rw [dispatch]
    by_cases own : e.step = k
    · have entry : s.entryOf k = some e := own ▸ entryOf_eq nodup mem
      let u := (s.takeEntry e).enter e.step (movingState e.kind) none none
      have table : u.startFlight.SameTable (u.startFlight.askPulse e.step e.kind) := State.askPulse_table _ _ _
      have asked : (s.dispatchEntry e).stepRec e.step = u.stepRec e.step := table.stepRec e.step
      refine .inr ⟨e, idle, chosen, entry, waits, ?_, ?_⟩
      · rw [← own, asked, ((s.takeEntry e).enter_spec e.step (movingState e.kind) none none).1 e.step, if_pos rfl]
        rfl
      · rw [s.dispatchEntry_entryOf e, entry]
        simp
    · refine .inl ⟨(s.dispatchEntry_ne e).1 k fun h => own h.symm, ?_⟩
      rw [s.dispatchEntry_entryOf e]
      cases found : s.entryOf k with
      | none => rfl
      | some x =>
        have away : x.step ≠ e.step := (State.mem_of_entryOf found).2 ▸ fun h => own h.symm
        simp [away]

/-- A step whose entry, if it has one, is in flight is not dispatched. -/
theorem State.Quiet.examine {s : State} {k : StepId} (quiet : s.Quiet k)
    (nodup : (s.oq.entries.map (·.step)).Nodup) : s.Spares s.examine k := by
  rcases State.examine_step nodup k with same | ⟨e, -, -, entry, waits, -⟩
  · exact same
  · rw [quiet e entry] at waits
    cases waits

end Sys2Proof.Machine
end

section
/-!
SUPPORT. The TRIP postings of an external trip edge (R149): what each of them leaves, and what it brings its step.
-/
namespace Sys2Proof.Machine

/-- Folding reaches what the element's own turn brings, when the other turns keep what that turn needs and every later
turn keeps what it brought. -/
theorem foldl_reaches {α β : Type} {f : β → α → β} {a : α} {before after : β → Prop}
    (keeps : ∀ b x, x ≠ a → before b → before (f b x)) (reach : ∀ b, before b → after (f b a))
    (stays : ∀ b x, after b → after (f b x)) (l : List α) (mem : a ∈ l) (b : β) (start : before b) :
    after (l.foldl f b) := by
  induction l generalizing b with
  | nil => cases mem
  | cons x l ih =>
    rw [List.foldl_cons]
    by_cases own : x = a
    · have kept : ∀ (m : List α) b, after b → after (m.foldl f b) := fun m => by
        induction m with
        | nil => exact fun _ => id
        | cons y m ih => exact fun b hb => ih _ (stays b y hb)
      exact kept l _ (own ▸ reach b start)
    · exact ih ((List.mem_cons.mp mem).resolve_left fun h => own h.symm) _ (keeps b x own start)

theorem foldl_keeps {α β : Type} {f : β → α → β} {holds : β → Prop} (keeps : ∀ b x, holds b → holds (f b x)) (l : List α)
    (b : β) (start : holds b) : holds (l.foldl f b) := by
  induction l generalizing b with
  | nil => exact start
  | cons x l ih => exact ih _ (keeps b x start)

/-- An entry that trips its step: a TRIP, or an entry with a TRIP mark (R49). -/
def Entry.Trips (e : Entry) : Prop := e.kind = .tripOp ∨ e.mark.map (·.kind) = some .tripOp

/-- An entry that trips its step or has no mark yet. -/
def Entry.Trippable (e : Entry) : Prop := e.Trips ∨ e.mark = none

theorem Entry.Trips.unstated {x e : Entry} (trips : e.Trips) (same : x.unstated = e.unstated) : x.Trips := by
  have kind : x.kind = e.kind := (congrArg Entry.kind same :)
  have mark : x.mark = e.mark := (congrArg Entry.mark same :)
  rwa [Entry.Trips, kind, mark]

/-- An OPEN or TRIP of the AVC or of the external trip. -/
def Entry.Protective (e : Entry) : Prop := e.kind ≠ .closeOp ∧ (e.originator = .avc ∨ e.originator = .external)

/-- Every entry is an OPEN or TRIP of the AVC or of the external trip. -/
def State.Protective (s : State) : Prop := ∀ e ∈ s.oq.entries, e.Protective

theorem State.Protective.congr {s t : State} (oq : t.oq = s.oq) (all : s.Protective) : t.Protective := by
  rw [State.Protective, oq]
  exact all

theorem State.entryResult_protective (s : State) {e : Entry} (is : e.Protective) (r : OutcomeResult) :
    s.onlyIn (s.entryResult e r) [.avc, .upu] := by
  intro b hb
  rcases is.2 with o | o <;> simp only [State.entryResult, State.giveResult, o] <;> cases b <;> simp_all [State.sameBlock]

theorem State.modEntry_protective {s : State} {k : StepId} {f : Entry → Entry} (all : s.Protective)
    (kept : ∀ e, e.Protective → (f e).Protective) : (s.modEntry k f).Protective := by
  intro x mem
  obtain ⟨y, memY, rfl⟩ := List.mem_map.mp mem
  split
  · exact kept y (all y memY)
  · exact all y memY

/-! ## A TRIP posting of an external trip edge -/

/-- What a TRIP of an external trip edge does: no record of a step changes and no other step's entry; its own entry then
trips the step, and waits for a CLOSED step alone; a FAILED step gets none and asserts BKT. -/
structure State.PostsTrip (s x : State) (j : StepId) : Prop where
  /-- the records of the steps -/
  records : ∀ k, x.stepRec k = s.stepRec k
  /-- the entries of the other steps -/
  others : ∀ k, k ≠ j → x.entryOf k = s.entryOf k
  /-- the operation in flight -/
  flight : s.inFlight ≠ none → x.inFlight ≠ none
  /-- the Cooldown Unit, the selections, the counts -/
  rest : s.onlyIn x [.ss, .oq, .avc, .hmu, .upu, .pi, .os]
  /-- BKT -/
  bkt : s.bkt = true → x.bkt = true
  /-- the entries of the AVC and of the external trip -/
  lean : s.Protective → s.onlyIn x [.ss, .oq, .avc, .upu, .pi] ∧ x.Protective
  /-- the entry that stands then -/
  stands : (s.stepRec j).state ≠ some .failed →
    ∃ e, x.entryOf j = some e ∧ ((∀ o, s.entryOf j = some o → o.Trippable) → e.Trips)
      ∧ (e.status = .waiting → (s.stepRec j).state = some .closed)
  /-- a FAILED step -/
  failed : (s.stepRec j).state = some .failed →
    x.entryOf j = none ∧ ((s.stepRec j).position ≠ some .atOpen → x.bkt = true)

theorem State.externallyTripped_iff (s : State) (k : StepId) : s.externallyTripped k = true ↔
    (s.stepRec k).state = some .closed ∨ (s.stepRec k).state = some .closing ∨ (s.stepRec k).state = some .opening
      ∨ ((s.stepRec k).state = some .failed ∧ (s.stepRec k).position ≠ some .atOpen) := by
  unfold State.externallyTripped
  split <;> simp_all

/-- A TRIP posting for a step whose entry is in flight marks it, unless it trips the step already (R57, R58). -/
theorem State.post_trip_onFlight {s : State} {p : Posting} (kind : p.kind = .tripOp) {e : Entry}
    (absent : (s.stepRec p.step).state ≠ none) (entry : s.entryOf p.step = some e) (flies : e.status = .inFlight) :
    (∃ m, m.status = .inFlight ∧ (s.post p).1.entryOf p.step = some m ∧ (e.Trippable → m.Trips))
      ∧ (s.post p).1.ss = s.ss
      ∧ s.onlyIn (s.post p).1 [.oq, .avc, .hmu, .upu, .pi, .os] := by
  let f : Entry → Entry := fun x => { x with mark := some (markOf p) }
  have marked : (s.setMark p).entryOf p.step = some (f e) := by
    rw [State.setMark, s.modEntry_entryOf p.step (f := f) (fun _ => rfl), entry, Option.map_some,
      if_pos (State.mem_of_entryOf entry).2]
  have trips : (f e).Trips := .inr (congrArg some kind)
  have only : s.onlyIn (s.setMark p) [.oq, .avc, .hmu, .upu, .pi, .os] :=
    State.onlyIn_mono (s.setMark_onlyIn p) (by decide)
  by_cases is : e.kind = .closeOp
  · rw [State.post_onFlightClose absent entry flies is]
    simp only [State.postOnFlightClose, kind]
    cases mark : e.mark with
    | none => exact ⟨⟨f e, flies, marked, fun _ => trips⟩, rfl, only⟩
    | some m =>
      dsimp only
      split_ifs with trip
      · exact ⟨⟨e, flies, entry, fun _ => .inr (by rw [mark]; exact congrArg some trip)⟩, rfl, State.onlyIn_refl s _⟩
      · have given := (s.setMark p).markResult_onlyIn p.step m .superseded
        exact ⟨⟨f e, flies, (given.entryOf (by decide) _).trans marked, fun _ => trips⟩, given .ss (by decide),
          State.onlyIn_trans only (State.onlyIn_mono given (by decide))⟩
  · rw [State.post_onFlightOpen absent entry flies is]
    simp only [State.postOnFlightOpen, kind]
    split_ifs with free
    · exact ⟨⟨f e, flies, marked, fun _ => trips⟩, rfl, only⟩
    · refine ⟨⟨e, flies, entry, fun can => can.elim id fun unmarked => .inl ?_⟩, rfl, State.onlyIn_refl s _⟩
      · cases own : e.kind with
        | closeOp => exact absurd own is
        | openOp => exact absurd ⟨own, unmarked⟩ free
        | tripOp => rfl

/-- A sound queue has the entry in flight of a step that moves (R2). -/
theorem State.QueueSound.moving {s : State} (queue : s.QueueSound) {k : StepId}
    (moves : (s.stepRec k).state = some .closing ∨ (s.stepRec k).state = some .opening) :
    ∃ e, s.entryOf k = some e ∧ e.status = .inFlight := by
  obtain ⟨nodup, -, -, moving, -⟩ := queue
  obtain ⟨e, flies, own⟩ := Option.map_eq_some_iff.mp (moving k moves)
  obtain ⟨mem, status⟩ := mem_of_inFlight flies
  exact ⟨e, own ▸ entryOf_eq nodup mem, status⟩

/-- A step that is neither READY nor CLOSED nor moving has no entry (R48). -/
theorem State.QueueSound.none_of_away {s : State} (queue : s.QueueSound) {k : StepId} {n : StepState}
    (state : (s.stepRec k).state = some n)
    (away : n ≠ .ready ∧ n ≠ .closed ∧ n ≠ .closing ∧ n ≠ .opening) : s.entryOf k = none := by
  obtain ⟨-, -, fits, -⟩ := queue
  refine Option.eq_none_iff_forall_ne_some.mpr fun e found => ?_
  obtain ⟨mem, rfl⟩ := State.mem_of_entryOf found
  have fit := Option.some.inj (state.symm.trans (fits e mem).1)
  obtain ⟨ready, closed, closing, opening⟩ := away
  cases status : e.status <;> cases kind : e.kind <;> simp [Entry.stepState, status, kind] at fit <;> contradiction

/-- A TRIP posting for a CLOSED step leaves the Cooldown Unit and the selections. -/
theorem State.post_trip_closed_onlyIn {s : State} {p : Posting} (kind : p.kind = .tripOp)
    (closed : (s.stepRec p.step).state = some .closed)
    (fits : ∀ e, s.entryOf p.step = some e → e.status = .waiting ∧ e.kind ≠ .closeOp) :
    s.onlyIn (s.post p).1 [.oq, .avc, .hmu, .upu, .pi, .os] := by
  have present : (s.stepRec p.step).state ≠ none := by simp [closed]
  cases entry : s.entryOf p.step with
  | none =>
    rw [State.post_trip_closed kind entry closed]
    exact State.onlyIn_mono (s.admitNew_onlyIn p) (by decide)
  | some e =>
    obtain ⟨waits, other⟩ := fits e entry
    cases is : e.kind with
    | closeOp => exact absurd is other
    | openOp =>
      rw [State.post_onWaitingOpen present entry waits is, State.postOnWaitingOpen_trip kind]
      exact State.onlyIn_trans (State.onlyIn_mono (s.modEntry_onlyIn _ _) (by decide))
        (State.onlyIn_mono (State.entryResult_onlyIn _ e _) (by decide))
    | tripOp =>
      rw [State.post_onWaitingTrip present entry waits is]
      simp only [State.postOnWaitingTrip, kind]
      exact State.onlyIn_refl s _

/-- An external TRIP posting for a CLOSED step writes the queue and the results of what it replaces (R53, R55, R56). -/
theorem State.post_trip_closed_lean {s : State} {k : StepId} (closed : (s.stepRec k).state = some .closed)
    (fits : ∀ e, s.entryOf k = some e → e.status = .waiting ∧ e.kind ≠ .closeOp) (all : s.Protective) :
    s.onlyIn (s.post (externalTrip k)).1 [.ss, .oq, .avc, .upu, .pi] ∧ (s.post (externalTrip k)).1.Protective := by
  let p := externalTrip k
  have present : (s.stepRec p.step).state ≠ none := by simp [p, externalTrip, closed]
  cases entry : s.entryOf k with
  | none =>
    rw [State.post_trip_closed rfl entry closed]
    refine ⟨State.onlyIn_mono (s.admitNew_onlyIn p) (by decide), fun e mem => ?_⟩
    rw [State.admitNew_oq] at mem
    rcases List.mem_append.mp mem with old | new
    · exact all e old
    · rw [List.mem_singleton.mp new]
      exact ⟨by simp [State.newEntry, externalTrip], .inr rfl⟩
  | some e =>
    obtain ⟨waits, other⟩ := fits e entry
    cases is : e.kind with
    | closeOp => exact absurd is other
    | openOp =>
      let f : Entry → Entry := fun x => x.upgraded p
      have result := (s.modEntry k f).entryResult_protective (all e (State.mem_of_entryOf entry).1) .superseded
      rw [State.post_onWaitingOpen present entry waits is, State.postOnWaitingOpen_trip rfl]
      refine ⟨State.onlyIn_trans (State.onlyIn_mono (s.modEntry_onlyIn k f) (by decide))
        (State.onlyIn_mono result (by decide)), State.Protective.congr (result .oq (by decide)) ?_⟩
      exact State.modEntry_protective (f := f) all fun x _ => ⟨by simp [f, p, Entry.upgraded, externalTrip], .inr rfl⟩
    | tripOp =>
      rw [State.post_onWaitingTrip present entry waits is]
      exact ⟨State.onlyIn_refl s _, all⟩

/-- An external TRIP posting for an OPEN or TRIP in flight writes the queue alone (R58). -/
theorem State.post_trip_onFlight_lean {s : State} {k : StepId} {e : Entry} (present : (s.stepRec k).state ≠ none)
    (entry : s.entryOf k = some e) (flies : e.status = .inFlight) (all : s.Protective) :
    s.onlyIn (s.post (externalTrip k)).1 [.ss, .oq, .avc, .upu, .pi] ∧ (s.post (externalTrip k)).1.Protective := by
  rw [State.post_onFlightOpen present entry flies (all e (State.mem_of_entryOf entry).1).1]
  simp only [State.postOnFlightOpen, externalTrip]
  split
  · exact ⟨State.onlyIn_mono (s.setMark_onlyIn _) (by decide), State.modEntry_protective all fun _ is => is⟩
  · exact ⟨State.onlyIn_refl s _, all⟩

theorem State.postsTrip {s : State} (yard : s.Yard False) {j : StepId} (tripped : s.externallyTripped j = true) :
    s.PostsTrip (s.post (externalTrip j)).1 j := by
  let p := externalTrip j
  have others : ∀ k, k ≠ j → (s.post p).1.entryOf k = s.entryOf k := fun k other => (s.post_spares (p := p) other).2
  have records : ∀ {x : State}, x.ss.steps = s.ss.steps → ∀ k, x.stepRec k = s.stepRec k := fun same k =>
    congrArg (fun v : Vector StepRecord 8 => v[k]) same
  have bkt : s.bkt = true → (s.post p).1.bkt = true := fun on => by
    rw [State.bkt, (s.post_retains p).backup on]
    exact on
  rcases s.externallyTripped_iff j |>.mp tripped with closed | moves
  · have fits := fun e (found : s.entryOf j = some e) => yard.queue.fits_closed closed found
    obtain ⟨e, joins⟩ := State.post_trip_joins (s := s) (p := p) rfl closed yard.queue.1 fits
    exact {
      records := records (congrArg SsState.steps joins.ss)
      others
      bkt
      flight := fun flies none_ => flies (joins.flight.mp none_)
      rest := State.onlyIn_mono (State.post_trip_closed_onlyIn (p := p) rfl closed fits) (by decide)
      lean := State.post_trip_closed_lean closed fits
      stands := fun _ => ⟨e, joins.entry, fun _ => .inl joins.waits.2, fun _ => closed⟩
      failed := fun failed => by simp [closed] at failed }
  · rw [← or_assoc] at moves
    rcases moves with moving | ⟨failed, away⟩
    · obtain ⟨e, entry, flies⟩ := yard.queue.moving moving
      have present : (s.stepRec p.step).state ≠ none := by
        rcases moving with h | h <;> simp [p, externalTrip, h]
      obtain ⟨⟨m, status, stands, trips⟩, ss, only⟩ := State.post_trip_onFlight (p := p) rfl present entry flies
      exact {
        records := records (congrArg SsState.steps ss)
        others
        bkt
        flight := fun _ none_ => by
          have waits := State.inFlight_none_iff.mp none_ m (State.mem_of_entryOf stands).1
          rw [status] at waits
          cases waits
        rest := State.onlyIn_mono only (by decide)
        lean := State.post_trip_onFlight_lean present entry flies
        stands := fun _ => ⟨m, stands, fun can => trips (can e entry), fun waits => by rw [status] at waits; cases waits⟩
        failed := fun failed => by rcases moving with h | h <;> simp [h] at failed }
    · have none_ : s.entryOf p.step = none := yard.queue.none_of_away failed (by decide)
      have posted : (s.post p).1 = s.assertBkt j .failedStep .external := by
        rw [State.post_trip rfl none_, State.postTrip_failed failed]
        exact congrArg Prod.fst (if_neg away)
      have only := s.assertBkt_onlyIn j .failedStep .external
      rw [posted] at others bkt ⊢
      exact {
        records := records (s.assertBkt_steps _ _ _)
        others
        bkt
        flight := fun flies none_ => flies ((only.inFlight (by decide)).symm.trans none_)
        rest := State.onlyIn_mono only (by decide)
        lean := fun all => ⟨State.onlyIn_mono only (by decide), all.congr (only .oq (by decide))⟩
        stands := fun h => absurd failed h
        failed := fun _ => ⟨(only.entryOf (by decide) _).trans none_, fun _ => State.assertBkt_bkt _ _ _ _⟩ }

end Sys2Proof.Machine
end

section
/-!
SUPPORT. An external trip edge (R149): the Trip Record, the postings, the lockout of the open steps and the
examinations, as far as one step takes part in them.
-/
namespace Sys2Proof.Machine

/-! ## Up to the lockout of the open steps -/

/-- The state of an external trip edge once its postings are made (R149 parts 1 and 2). -/
def State.edgePosted (s : State) : State := (s.noteEdge.enterTripRecord .external none none none none).externalPosts

theorem State.externalEdge_posted (s : State) :
    s.externalEdge = s.edgePosted.lockOutOpen.examineIfLeft s.edgePosted := rfl

/-- What examinations, TRIP postings of a sound yard and writes of the UPU and the port records keep, an external
trip edge keeps until the open steps are locked out. -/
structure EdgeKeeps (holds : State → Prop) : Prop where
  /-- an examination (R60) -/
  examine : ∀ u, u.Yard False → holds u → holds u.examine
  /-- a TRIP posting (R149) -/
  posts : ∀ u x j, u.Yard False → u.PostsTrip x j → u.externallyTripped j = true → holds u → holds x
  /-- a write of the UPU or a port's record -/
  writes : ∀ u x, u.onlyIn x [.upu, .pi] → x.upu.backup = u.upu.backup → holds u → holds x

section
variable {holds : State → Prop} (keeps : EdgeKeeps holds)
include keeps

theorem EdgeKeeps.examined {u : State} (both : u.Yard False ∧ holds u) : u.examine.Yard False ∧ holds u.examine :=
  ⟨u.examine_keepsYard False both.1, keeps.examine u both.1 both.2⟩

theorem EdgeKeeps.admitted {u : State} (both : u.Yard False ∧ holds u) (j : StepId) :
    let x := if u.externallyTripped j then (u.admitOne (externalTrip j)).1 else u
    x.Yard False ∧ holds x := by
  dsimp only
  split_ifs with tripped
  · exact keeps.examined ⟨u.post_keepsYard _ False both.1,
      keeps.posts u _ j both.1 (State.postsTrip both.1 tripped) tripped both.2⟩
  · exact both

theorem EdgeKeeps.recorded {s : State} (both : s.Yard False ∧ holds s) :
    (s.noteEdge.enterTripRecord .external none none none none).Yard False
      ∧ holds (s.noteEdge.enterTripRecord .external none none none none) := by
  obtain ⟨w, only, upu, -, case_⟩ := s.noteEdge.enterTripRecord_cases .external none none none none
  have noted : s.onlyIn w [.upu, .pi] := State.onlyIn_trans
    (fun b hb => by cases b <;> simp_all [State.sameBlock, State.noteEdge, State.setEdge]) only
  have backup : w.upu.backup = s.upu.backup := (congrArg UpuState.backup upu :)
  have yard : w.Yard False := (State.SameYard.of_blocks (noted .ss (by decide)) (noted .oq (by decide)) backup
    (congrArg SetState.derived (noted .set (by decide)))).yard both.1
  have kept : w.Yard False ∧ holds w := ⟨yard, keeps.writes s w noted backup both.2⟩
  rcases case_ with same | examined
  · rw [same]
    exact kept
  · rw [examined]
    exact keeps.examined kept

theorem EdgeKeeps.folded {u : State} (both : u.Yard False ∧ holds u) :
    u.externalPosts.Yard False ∧ holds u.externalPosts :=
  foldl_keeps (holds := fun u => u.Yard False ∧ holds u) (fun _ j both => keeps.admitted both j) _ _ both

/-- What a step's own turn brings holds once the postings are made, when the rest of them keeps it. -/
theorem EdgeKeeps.folded_reaches {after : State → Prop} (keeps' : EdgeKeeps after) (k : StepId)
    (turn : ∀ u : State, u.Yard False → holds u → u.externallyTripped k = true
      ∧ after (u.admitOne (externalTrip k)).1) {u : State} (both : u.Yard False ∧ holds u) :
    after u.externalPosts := by
  refine (foldl_reaches (a := k) (before := fun u => u.Yard False ∧ holds u) (after := fun u => u.Yard False ∧ after u)
    (fun u j _ both => keeps.admitted both j) (fun u both => ?_) (fun u j both => keeps'.admitted both j) _ (mem_allSteps k) _
    both).2
  obtain ⟨tripped, brought⟩ := turn u both.1 both.2
  refine ⟨(EdgeKeeps.admitted keeps both k).1, ?_⟩
  rw [if_pos tripped]
  exact brought

theorem EdgeKeeps.posted {s : State} (yard : s.Yard False) (start : holds s) :
    s.edgePosted.Yard False ∧ holds s.edgePosted := by
  have recorded := keeps.recorded ⟨yard, start⟩
  unfold State.edgePosted
  generalize s.noteEdge.enterTripRecord .external none none none none = w at recorded ⊢
  exact keeps.folded recorded

end

/-! ## What the postings keep of a step -/

theorem EdgeKeeps.and {p q : State → Prop} (hp : EdgeKeeps p) (hq : EdgeKeeps q) : EdgeKeeps fun u => p u ∧ q u where
  examine u yard both := ⟨hp.examine u yard both.1, hq.examine u yard both.2⟩
  posts u x j yard posts tripped both := ⟨hp.posts u x j yard posts tripped both.1, hq.posts u x j yard posts tripped both.2⟩
  writes u x only bkt both := ⟨hp.writes u x only bkt both.1, hq.writes u x only bkt both.2⟩

/-- A step that is not CLOSED and whose entry, if it has one, is in flight. -/
def State.Settled (s u : State) (k : StepId) : Prop := u.stepRec k = s.stepRec k ∧ u.Quiet k

theorem State.settled_edgeKeeps (s : State) (k : StepId) (away : (s.stepRec k).state ≠ some .closed) :
    EdgeKeeps fun u => s.Settled u k where
  examine u yard := fun ⟨same, quiet⟩ => by
    obtain ⟨record, entry⟩ := quiet.examine yard.queue.1
    exact ⟨record.trans same, fun e found => quiet e (entry.symm.trans found)⟩
  posts u x j yard posts tripped := fun ⟨same, quiet⟩ => by
    refine ⟨(posts.records k).trans same, fun e found => ?_⟩
    by_cases own : k = j
    · subst own
      by_cases failed : (u.stepRec k).state = some .failed
      · rw [(posts.failed failed).1] at found
        cases found
      · obtain ⟨m, entry, -, closed⟩ := posts.stands failed
        obtain rfl := Option.some.inj (entry.symm.trans found)
        cases status : m.status with
        | waiting => exact absurd (same ▸ closed status) away
        | inFlight => rfl
    · exact quiet e ((posts.others k own).symm.trans found)
  writes u x only _ := fun ⟨same, quiet⟩ =>
    ⟨(only.stepRec (by decide) k).trans same, quiet.congr (only .oq (by decide))⟩

/-- A step that the edge does not trip and that has no entry. -/
theorem State.idle_edgeKeeps (s : State) (k : StepId) (away : s.externallyTripped k = false) :
    EdgeKeeps fun u => u.stepRec k = s.stepRec k ∧ u.entryOf k = none where
  examine u yard := fun ⟨same, none_⟩ => by
    obtain ⟨record, entry⟩ := (State.Quiet.of_none none_).examine yard.queue.1
    exact ⟨record.trans same, entry.trans none_⟩
  posts u x j yard posts tripped := fun ⟨same, none_⟩ => by
    refine ⟨(posts.records k).trans same, (posts.others k ?_).trans none_⟩
    rintro rfl
    have here : u.externallyTripped k = s.externallyTripped k := by simp only [State.externallyTripped, same]
    rw [here, away] at tripped
    cases tripped
  writes u x only _ := fun ⟨same, none_⟩ =>
    ⟨(only.stepRec (by decide) k).trans same, (only.entryOf (by decide) k).trans none_⟩

/-- A READY step whose CLOSE waits while nothing but a TRIP can be dispatched. -/
def State.CloseHeld (s u : State) (k : StepId) (e : Entry) : Prop :=
  u.stepRec k = s.stepRec k ∧ u.entryOf k = some e ∧ (u.inFlight ≠ none ∨ u.cu.settle ≠ 0)

theorem State.examine_flies {s : State} (held : s.inFlight ≠ none ∨ s.cu.settle ≠ 0) :
    s.examine.inFlight ≠ none ∨ s.examine.cu.settle ≠ 0 := by
  rcases s.examine_cases with same | ⟨e, -, chosen, dispatch⟩
  · rwa [same]
  · rw [dispatch]
    exact .inl (State.dispatchEntry_flies (s.chooseEntry_waits e chosen).1)

theorem State.closeHeld_edgeKeeps (s : State) (k : StepId) (e : Entry) (ready : (s.stepRec k).state = some .ready)
    (close : e.kind = .closeOp) : EdgeKeeps fun u => s.CloseHeld u k e where
  examine u yard := fun ⟨same, entry, held⟩ => by
    rcases State.examine_step yard.queue.1 k with ⟨record, kept⟩ | ⟨x, idle, chosen, found, -, -⟩
    · exact ⟨record.trans same, kept.trans entry, State.examine_flies held⟩
    · obtain rfl := Option.some.inj (found.symm.trans entry)
      have settling : u.cu.settle ≠ 0 := held.resolve_left fun h => h idle
      unfold State.chooseEntry at chosen
      cases oldest : u.oldestWaiting .tripOp with
      | none => simp [oldest, settling] at chosen
      | some y =>
        rw [oldest] at chosen
        obtain rfl := Option.some.inj chosen
        rw [(State.oldestWaiting_kind oldest).2] at close
        cases close
  posts u x j yard posts tripped := fun ⟨same, entry, held⟩ => by
    refine ⟨(posts.records k).trans same, (posts.others k ?_).trans entry, held.imp posts.flight fun settling => ?_⟩
    · rintro rfl
      rw [State.externallyTripped, same, ready] at tripped
      cases tripped
    · rwa [posts.rest .cu (by decide)]
  writes u x only _ := fun ⟨same, entry, held⟩ => ⟨(only.stepRec (by decide) k).trans same,
    (only.entryOf (by decide) k).trans entry, held.imp (fun h => by rwa [only.inFlight (by decide)])
      fun h => by rwa [only .cu (by decide)]⟩

/-- A CLOSED step, or one whose OPEN or TRIP an examination of the edge has dispatched. -/
def State.Opening (u : State) (k : StepId) : Prop :=
  ((u.stepRec k).state = some .closed ∨ (u.stepRec k).state = some .opening)
    ∧ ∀ e, u.entryOf k = some e → e.Trippable

theorem Entry.Trippable.unstated {x e : Entry} (can : e.Trippable) (same : x.unstated = e.unstated) : x.Trippable :=
  can.imp (fun trips => trips.unstated same) fun unmarked => (congrArg Entry.mark same :).trans unmarked

theorem State.opening_edgeKeeps (k : StepId) : EdgeKeeps fun u => u.Opening k where
  examine u yard := fun ⟨state, can⟩ => by
    rcases State.examine_step yard.queue.1 k with ⟨record, kept⟩ | ⟨e, idle, -, found, waits, record, entry⟩
    · exact ⟨by rwa [record], fun e found => can e (kept.symm.trans found)⟩
    · refine ⟨.inr ?_, fun x there => ?_⟩
      · have closed := state.resolve_right fun opening => by
          obtain ⟨x, there, flies⟩ := yard.queue.moving (.inr opening)
          rw [Option.some.inj (found.symm.trans there), flies] at waits
          cases waits
        have opens := (yard.queue.fits_closed closed found).2
        rw [record, (recordAfter_state _ _ _ _).1]
        cases kind : e.kind with
        | closeOp => exact absurd kind opens
        | openOp => rfl
        | tripOp => rfl
      · rw [← Option.some.inj (entry.symm.trans there)]
        exact can e found
  posts u x j yard posts tripped := fun ⟨state, can⟩ => by
    refine ⟨by rwa [posts.records], fun e found => ?_⟩
    by_cases own : k = j
    · subst own
      have alive : (u.stepRec k).state ≠ some .failed := by rcases state with h | h <;> simp [h]
      obtain ⟨m, entry, trips, -⟩ := posts.stands alive
      rw [← Option.some.inj (entry.symm.trans found)]
      exact .inl (trips can)
    · exact can e ((posts.others k own).symm.trans found)
  writes u x only _ := fun ⟨state, can⟩ => ⟨by rwa [only.stepRec (by decide)],
    fun e found => can e ((only.entryOf (by decide) k).symm.trans found)⟩

/-- The step has an entry that trips it. -/
def State.Tripping (u : State) (k : StepId) : Prop := ∃ e, u.entryOf k = some e ∧ e.Trips

theorem State.Tripping.examine {u : State} {k : StepId} (tripping : u.Tripping k) : u.examine.Tripping k := by
  obtain ⟨e, entry, trips⟩ := tripping
  obtain ⟨x, entry', same⟩ := State.examine_stands entry
  exact ⟨x, entry', trips.unstated same⟩

theorem State.tripping_edgeKeeps (k : StepId) : EdgeKeeps fun u => u.Tripping k where
  examine u _ tripping := tripping.examine
  posts u x j yard posts tripped := fun ⟨e, entry, trips⟩ => by
    by_cases own : k = j
    · subst own
      have alive : (u.stepRec k).state ≠ some .failed := fun failed => by
        rw [yard.queue.none_of_away failed (by decide)] at entry
        cases entry
      obtain ⟨m, entry', trips', -⟩ := posts.stands alive
      refine ⟨m, entry', trips' fun o found => .inl ?_⟩
      rwa [← Option.some.inj (entry.symm.trans found)]
    · exact ⟨e, (posts.others k own).trans entry, trips⟩
  writes u x only _ := fun ⟨e, entry, trips⟩ => ⟨e, (only.entryOf (by decide) k).trans entry, trips⟩

/-- A CLOSED step, or one that opens, has an entry that trips it once the postings are made (R149). -/
theorem State.Opening.externalPosts {s : State} (yard : s.Yard False) {k : StepId} (opening : s.Opening k) :
    s.externalPosts.Tripping k := by
  refine (State.opening_edgeKeeps k).folded_reaches (State.tripping_edgeKeeps k) k (fun u sound opening => ?_) ⟨yard, opening⟩
  have tripped : u.externallyTripped k = true := u.externallyTripped_iff k |>.mpr <| by
    rcases opening.1 with h | h
    · exact .inl h
    · exact .inr (.inr (.inl h))
  have alive : (u.stepRec k).state ≠ some .failed := by rcases opening.1 with h | h <;> simp [h]
  obtain ⟨m, entry, trips, -⟩ := (State.postsTrip sound tripped).stands alive
  exact ⟨tripped, State.Tripping.examine ⟨m, entry, trips opening.2⟩⟩

/-- In a sound queue a CLOSED step's entry, if it has one, can be tripped (R49). -/
theorem State.QueueSound.opening {s : State} (queue : s.QueueSound) {k : StepId}
    (closed : (s.stepRec k).state = some .closed) : s.Opening k := by
  refine ⟨.inl closed, fun e found => .inr ?_⟩
  have waits := (queue.fits_closed closed found).1
  obtain ⟨-, -, fits, -⟩ := id queue
  have sound := (fits e (State.mem_of_entryOf found).1).2
  cases mark : e.mark with
  | none => rfl
  | some m => simp [Entry.markSound, mark, waits] at sound

theorem State.bkt_edgeKeeps : EdgeKeeps fun u => u.bkt = true where
  examine u _ asserted := by
    rw [State.bkt, u.examine_retains.backup asserted]
    exact asserted
  posts u x j _ posts _ := posts.bkt
  writes u x _ backup asserted := by rwa [State.bkt, backup]

/-- A FAILED step that is not open asserts BKT (R152). -/
theorem State.failed_externalPosts {s : State} (yard : s.Yard False) {k : StepId}
    (failed : (s.stepRec k).state = some .failed) (away : (s.stepRec k).position ≠ some .atOpen) :
    s.externalPosts.bkt = true := by
  have notClosed : (s.stepRec k).state ≠ some .closed := by simp [failed]
  refine (s.settled_edgeKeeps k notClosed).folded_reaches State.bkt_edgeKeeps k (fun u sound settled => ?_)
    ⟨yard, rfl, .of_none (yard.queue.none_of_away failed (by decide))⟩
  have tripped : u.externallyTripped k = true := by
    rw [State.externallyTripped_iff, settled.1]
    exact .inr (.inr (.inr ⟨failed, away⟩))
  rw [← settled.1] at failed away
  exact ⟨tripped, State.bkt_edgeKeeps.examine _ (u.post_keepsYard _ False sound)
    (((State.postsTrip sound tripped).failed failed).2 away)⟩

/-- With no selection held no selection ends. -/
theorem State.leaveReady_unselected {s : State} (empty : ∀ q, s.slot q = none) (k : StepId) : s.leaveReady k = s := by
  have free : s.selectedBy k = none := (s.selectedBy_eq_none_iff k).mpr fun p => by simp [empty p]
  unfold State.leaveReady State.endSelectionOf
  split
  · rfl
  · rw [free]

theorem State.examine_unselected {s : State} (empty : ∀ q, s.slot q = none) :
    s.onlyIn s.examine [.ss, .oq, .cu, .upu, .pi, .os] := by
  have au : s.examine.au = s.au := by
    rcases s.examine_cases with same | ⟨e, -, -, dispatch⟩
    · rw [same]
    · let w := (s.takeEntry e).entered e.step (movingState e.kind) none none
      have wrote : (s.takeEntry e).onlyIn w _ := (s.takeEntry e).entered_onlyIn e.step (movingState e.kind) none none
      have still : ∀ q, w.slot q = none := fun q => (State.slot_congr (wrote .au (by decide)) q).trans (empty q)
      have entered := (s.takeEntry_quiet e).enter (movingState e.kind) none none
      rw [State.leaveReady_unselected still] at entered
      have left : ((s.takeEntry e).enter e.step (movingState e.kind) none none).au = s.au := by
        rw [entered, (State.leaveClosed_onlyIn _ _ _) .au (by decide), (State.voidOther_spec w e.step).1 .au (by decide),
          wrote .au (by decide)]
        rfl
      rw [dispatch, ← left]
      exact State.askPulse_onlyIn _ e.step e.kind .au (by decide)
  intro b hb
  by_cases is : b = .au
  · exact is ▸ au
  · exact s.examine_onlyIn b (by simp_all)

/-- The entries of the AVC and of the external trip stay the only ones, and the postings write no more than their
results (R114). -/
theorem State.protective_edgeKeeps (s : State) : EdgeKeeps fun u =>
    u.Protective ∧ (∀ q, u.slot q = none) ∧ s.onlyIn u [.ss, .oq, .cu, .avc, .upu, .pi, .os] where
  examine u _ := fun ⟨all, empty, only⟩ => by
    have only' := State.examine_unselected empty
    refine ⟨?_, fun q => (State.slot_congr (only' .au (by decide)) q).trans (empty q),
      State.onlyIn_trans only (State.onlyIn_mono only' (by decide))⟩
    rcases u.examine_cases with same | ⟨e, -, chosen, dispatch⟩
    · rwa [same]
    · intro x mem
      rw [dispatch, (u.dispatchEntry_ne e).2] at mem
      obtain ⟨y, memY, rfl⟩ := List.mem_map.mp mem
      split
      · exact all y memY
      · exact all y memY
  posts u x j _ posts _ := fun ⟨all, empty, only⟩ => by
    obtain ⟨only', all'⟩ := posts.lean all
    exact ⟨all', fun q => (State.slot_congr (only' .au (by decide)) q).trans (empty q),
      State.onlyIn_trans only (State.onlyIn_mono only' (by decide))⟩
  writes u x only' _ := fun ⟨all, empty, only⟩ => ⟨all.congr (only' .oq (by decide)),
    fun q => (State.slot_congr (only' .au (by decide)) q).trans (empty q),
    State.onlyIn_trans only (State.onlyIn_mono only' (by decide))⟩

end Sys2Proof.Machine
end

section
/-!
SUPPORT. The lockout of the open steps at an external trip edge (R149), and the records of it.
-/
namespace Sys2Proof.Machine

/-- A step that an external trip locks out: READY or DISCHARGING (R149). -/
def State.IsOpen (s : State) (k : StepId) : Prop :=
  (s.stepRec k).state = some .ready ∨ (s.stepRec k).state = some .discharging

theorem State.IsOpen.congr {s t : State} {k : StepId} (record : t.stepRec k = s.stepRec k) : t.IsOpen k ↔ s.IsOpen k := by
  rw [State.IsOpen, State.IsOpen, record]

/-- A locked-out step in the lockout's turns (R149). -/
def State.lockOne (t : State) (k : StepId) : State :=
  if (t.stepRec k).state = some .ready ∨ (t.stepRec k).state = some .discharging then
    t.enter k .lockout (some .external) none
  else t

theorem State.lockOutOpen_eq (s : State) : s.lockOutOpen = allSteps.foldl State.lockOne s := rfl

theorem State.lockOne_of_open {t : State} {k : StepId} (is : t.IsOpen k) :
    t.lockOne k = t.enter k .lockout (some .external) none := if_pos is

theorem State.lockOne_of_not_open {t : State} {k : StepId} (is : ¬t.IsOpen k) : t.lockOne k = t := if_neg is

theorem State.lockOne_spares (t : State) {j k : StepId} (other : k ≠ j) : t.Spares (t.lockOne j) k := by
  by_cases is : t.IsOpen j
  · rw [State.lockOne_of_open is]
    exact t.enter_spares other _ _ _
  · rw [State.lockOne_of_not_open is]
    exact .refl t k

theorem State.lockOne_keepsYard (t : State) (j : StepId) : t.KeepsYard (t.lockOne j) := by
  intro d y
  by_cases is : t.IsOpen j
  · rw [State.lockOne_of_open is]
    rcases is with h | h
    · exact y.enter h (by simp) _ (by simp) _ _ (by simp)
    · exact y.enter h (by simp) _ (by simp) _ _ (by simp)
  · rwa [State.lockOne_of_not_open is]

/-- A step that is neither READY nor DISCHARGING is left. -/
theorem State.lockOutOpen_spares (s : State) {k : StepId} (away : ¬s.IsOpen k) : s.Spares s.lockOutOpen k := by
  rw [s.lockOutOpen_eq]
  refine foldl_keeps (holds := fun u => s.Spares u k) (fun u j spares => ?_) _ s (.refl s k)
  by_cases own : k = j
  · subst own
    rwa [State.lockOne_of_not_open fun is => away ((State.IsOpen.congr spares.1).mp is)]
  · exact spares.trans (u.lockOne_spares own)

theorem State.lockOne_open {u : State} (yard : u.Yard False) {k : StepId} (is : u.IsOpen k) :
    (u.lockOne k).stepRec k = recordAfter (u.stepRec k) .lockout (some .external) none
      ∧ (u.lockOne k).entryOf k = none := by
  rw [State.lockOne_of_open is]
  have misfit : ∀ e, u.entryOf k = some e → e.status = .waiting ∧ e.stepState ≠ .lockout := fun e found => by
    obtain ⟨-, -, fits, -⟩ := id yard.queue
    obtain ⟨mem, rfl⟩ := State.mem_of_entryOf found
    have state := (fits e mem).1
    rcases is with h | h <;> rw [h] at state <;> cases status : e.status <;> cases kind : e.kind <;>
      simp [Entry.stepState, status, kind] at state ⊢
  refine ⟨((u.enter_spec k .lockout _ none).1 k).trans (if_pos rfl), State.entryOf_none_iff.mpr ?_⟩
  rw [State.enter_leaves misfit]
  simp

/-- A READY or DISCHARGING step enters LOCKOUT (EXTERNAL) and loses its entry (R149, R72). -/
theorem State.lockOutOpen_open {s : State} (yard : s.Yard False) {k : StepId} (is : s.IsOpen k) :
    s.lockOutOpen.stepRec k = recordAfter (s.stepRec k) .lockout (some .external) none
      ∧ s.lockOutOpen.entryOf k = none := by
  rw [s.lockOutOpen_eq]
  refine foldl_reaches (a := k) (before := fun u => u.Yard False ∧ s.Spares u k)
    (after := fun u => u.stepRec k = recordAfter (s.stepRec k) .lockout (some .external) none ∧ u.entryOf k = none)
    (fun u j other => fun ⟨sound, spares⟩ =>
      ⟨u.lockOne_keepsYard j False sound, spares.trans (u.lockOne_spares fun h => other h.symm)⟩)
    (fun u => fun ⟨sound, spares⟩ => ?_) (fun u j => fun ⟨record, none_⟩ => ?_) _ (mem_allSteps k) s ⟨yard, .refl s k⟩
  · rw [← spares.1]
    exact State.lockOne_open sound ((State.IsOpen.congr spares.1).mpr is)
  · by_cases own : k = j
    · subst own
      have locked : ¬u.IsOpen k := by
        rw [State.IsOpen, record, (recordAfter_state _ _ _ _).1]
        simp
      rw [State.lockOne_of_not_open locked]
      exact ⟨record, none_⟩
    · obtain ⟨record', entry⟩ := u.lockOne_spares own
      exact ⟨record'.trans record, entry.trans none_⟩

/-! ## The record of the CLOSE that the lockout removes -/

/-- The change of state of a step that was not CLOSED, has no entry and no selection is of the step alone (R3). -/
theorem State.enter_alone {s : State} {k : StepId} (none_ : s.entryOf k = none) (empty : ∀ q, s.slot q = none)
    (notClosed : (s.stepRec k).state ≠ some .closed) (n : StepState) (l : Option LockoutCause) (f : Option FailureCause) :
    s.onlyIn (s.enter k n l f) [.pi, .ss, .cu] := by
  have only := s.entered_onlyIn k n l f
  have still : ∀ q, (s.entered k n l f).slot q = none := fun q => (State.slot_congr (only .au (by decide)) q).trans (empty q)
  rw [(State.Quiet.of_none none_).enter, State.leaveClosed_of_ne _ k notClosed, State.leaveReady_unselected still]
  exact State.onlyIn_trans (State.onlyIn_mono only (by decide)) (State.onlyIn_mono (State.voidOther_spec _ k).1 (by decide))

/-- The originator of a CLOSE that an external trip removed finds CANCELLED (STEP_CHANGED) (R72, R75, R114): the AVC in
its last result, a port at the tail of its list while no selection that has ended since stands behind it. -/
def State.TellsLockout (s t : State) (e : Entry) (unselected : Prop) : Prop :=
  (unselected → ∀ p, e.originator = portOriginator p → ((t.outcomes p).getLast?.map (·.2)) =
      some { tag := e.tag.getD 0
             step := some e.step
             what := .closeOp
             result := .cancelled .stepChanged
             state := some .lockout
             uptime := s.clock.uptime })
    ∧ (e.originator = .avc → t.avc.lastResult =
        some { step := e.step
               kind := .closeOp
               fast := e.fast
               result := .cancelled .stepChanged
               state := some .lockout
               uptime := s.clock.uptime })

theorem State.TellsLockout.onlyIn {s t u : State} {e : Entry} {unselected : Prop} {l m : List Block}
    (told : s.TellsLockout t e unselected) (avc : t.onlyIn u l) (os : unselected → t.onlyIn u m) (away : Block.avc ∉ l)
    (away' : Block.os ∉ m) : s.TellsLockout u e unselected := by
  obtain ⟨port, last⟩ := told
  refine ⟨fun free p is => ?_, fun is => by rw [avc .avc away]; exact last is⟩
  have lists : u.os = t.os := os free .os away'
  have same : u.outcomes p = t.outcomes p := by cases p <;> simp [State.outcomes, lists]
  rw [same]
  exact port free p is

/-- A READY step that is locked out with a CLOSE waiting gives its originator the record (R72). -/
theorem State.enter_tells {s u : State} {k : StepId} {e : Entry} {unselected : Prop} (clock : u.clock = s.clock)
    (ready : (u.stepRec k).state = some .ready) (entry : u.entryOf k = some e) (waits : e.status = .waiting)
    (close : e.kind = .closeOp) (empty : unselected → ∀ q, u.slot q = none) :
    s.TellsLockout (u.enter k .lockout (some .external) none) e unselected
      ∧ (unselected → ∀ q, (u.enter k .lockout (some .external) none).slot q = none) := by
  let w := u.entered k .lockout (some .external) none
  have wrote : u.onlyIn w _ := u.entered_onlyIn k .lockout (some .external) none
  have state : (w.stepRec k).state = some .lockout := (u.entered_spec k _ _ _).2
  have found : w.entryOf k = some e := (State.entryOf_congr (u.entered_oq k _ _ _) k).trans entry
  obtain ⟨-, own⟩ := State.mem_of_entryOf entry
  let d := w.dropEntry k
  have dropped := w.dropEntry_onlyIn k
  let g := d.entryResult e (.cancelled .stepChanged)
  have fitted : w.fitEntry k = g := by simp [State.fitEntry, found, waits, close, state, g, d]
  have given : d.onlyIn g _ := d.entryResult_onlyIn e (.cancelled .stepChanged)
  have still : unselected → ∀ q, g.slot q = none := fun free q => by
    rw [State.slot_congr (given .au (by decide)), State.slot_congr (dropped .au (by decide)),
      State.slot_congr (wrote .au (by decide))]
    exact empty free q
  have notClosed : (u.stepRec k).state ≠ some .closed := by simp [ready]
  have entered : u.enter k .lockout (some .external) none = (g.leaveReady k).voidOther k := by
    rw [← fitted]
    exact State.leaveClosed_of_ne _ k notClosed
  have void := (State.voidOther_spec (g.leaveReady k) k).1
  have clock' : d.clock = s.clock := (dropped .clock (by decide)).trans ((wrote .clock (by decide)).trans clock)
  have state' : (d.stepRec e.step).state = some .lockout := by
    rw [own]
    exact (congrArg (fun v : Vector StepRecord 8 => v[k].state) (State.coilsOff_steps _ k)).trans state
  have told : s.TellsLockout g e unselected := by
    constructor
    · intro _ p is
      simp only [g, State.entryResult, is, close, ← clock', ← state']
      cases p <;> exact State.insertOutcome_getLast _ _ _
    · intro is
      simp only [g, State.entryResult, is, close, ← clock', ← state']
      rfl
  rw [entered]
  have after : g.onlyIn ((g.leaveReady k).voidOther k) [.au, .pi, .os, .cu] :=
    State.onlyIn_trans (State.onlyIn_mono (g.leaveReady_onlyIn k) (by decide)) (State.onlyIn_mono void (by decide))
  refine ⟨told.onlyIn (m := [.cu]) after (fun free => ?_) (by decide) (by decide), fun free q => ?_⟩
  · rw [State.leaveReady_unselected (still free)] at void ⊢
    exact void
  · rw [State.slot_congr (void .au (by decide)), State.leaveReady_unselected (still free)]
    exact still free q

/-- An open step has no entry. -/
def State.OpenFree (u : State) (j : StepId) : Prop := u.IsOpen j → u.entryOf j = none

/-- After its turn no step is open. -/
theorem State.lockOne_not_open (u : State) (j : StepId) : ¬(u.lockOne j).IsOpen j := by
  by_cases is : u.IsOpen j
  · rw [State.lockOne_of_open is, State.IsOpen, (u.enter_record j .lockout (some .external) none).1]
    simp
  · rwa [State.lockOne_of_not_open is]

theorem State.OpenFree.lockOne {u : State} {i : StepId} (free : u.OpenFree i) (j : StepId) : (u.lockOne j).OpenFree i := by
  intro is
  by_cases own : i = j
  · exact absurd (own ▸ is) (u.lockOne_not_open j)
  · obtain ⟨record, entry⟩ := u.lockOne_spares own
    exact entry.trans (free ((State.IsOpen.congr record).mp is))

/-- The lockout of a step without an entry leaves the AVC, and without a selection the Outcome Store. -/
theorem State.OpenFree.lockOne_onlyIn {u : State} {j : StepId} (free : u.OpenFree j) :
    u.onlyIn (u.lockOne j) [.pi, .ss, .cu, .au, .os]
      ∧ ((∀ q, u.slot q = none) → u.onlyIn (u.lockOne j) [.pi, .ss, .cu]) := by
  by_cases is : u.IsOpen j
  · have notClosed : (u.stepRec j).state ≠ some .closed := by rcases is with h | h <;> simp [h]
    rw [State.lockOne_of_open is]
    exact ⟨(State.Quiet.of_none (free is)).enter_onlyIn notClosed _ _ _,
      fun empty => State.enter_alone (free is) empty notClosed _ _ _⟩
  · rw [State.lockOne_of_not_open is]
    exact ⟨State.onlyIn_refl u _, fun _ => State.onlyIn_refl u _⟩

theorem State.OpenFree.lockOne_slots {u : State} {j : StepId} (free : u.OpenFree j) (empty : ∀ q, u.slot q = none) (q : Port) :
    (u.lockOne j).slot q = none := (State.slot_congr (free.lockOne_onlyIn.2 empty .au (by decide)) q).trans (empty q)

/-- The lockout of the open steps gives the record of the one CLOSE that waits (R149, R72). -/
theorem State.lockOutOpen_tells {s : State} {k : StepId} {e : Entry} (ready : (s.stepRec k).state = some .ready)
    (entry : s.entryOf k = some e) (waits : e.status = .waiting) (close : e.kind = .closeOp)
    (alone : ∀ j, j ≠ k → s.OpenFree j) : s.TellsLockout s.lockOutOpen e (∀ q, s.slot q = none) := by
  rw [s.lockOutOpen_eq]
  let unselected := ∀ q, s.slot q = none
  refine (foldl_reaches (a := k)
    (before := fun u => u.clock = s.clock ∧ s.Spares u k ∧ (unselected → ∀ q, u.slot q = none)
      ∧ ∀ j, j ≠ k → u.OpenFree j)
    (after := fun u => s.TellsLockout u e unselected ∧ (unselected → ∀ q, u.slot q = none) ∧ ∀ j, u.OpenFree j)
    (fun u j other => fun ⟨clock, spares, empty, alone⟩ => ?_) (fun u => fun ⟨clock, spares, empty, alone⟩ => ?_)
    (fun u j => fun ⟨told, empty, free⟩ => ?_) _ (mem_allSteps k) s ⟨rfl, .refl s k, id, alone⟩).1
  · obtain ⟨only, -⟩ := (alone j other).lockOne_onlyIn
    exact ⟨(only .clock (by decide)).trans clock, spares.trans (u.lockOne_spares fun h => other h.symm),
      fun free => (alone j other).lockOne_slots (empty free), fun i ne => (alone i ne).lockOne j⟩
  · have ready' : (u.stepRec k).state = some .ready := by rw [spares.1]; exact ready
    have closes : ∀ j, (u.lockOne k).OpenFree j := fun j => by
      by_cases own : j = k
      · exact fun is => absurd (own ▸ is) (u.lockOne_not_open k)
      · exact (alone j own).lockOne k
    obtain ⟨told, empty'⟩ := State.enter_tells clock ready' (spares.2.trans entry) waits close empty
    rw [← State.lockOne_of_open (.inl ready')] at told empty'
    exact ⟨told, empty', closes⟩
  · obtain ⟨only, only'⟩ := (free j).lockOne_onlyIn
    exact ⟨told.onlyIn only (fun h => only' (empty h)) (by decide) (by decide),
      fun h => (free j).lockOne_slots (empty h), fun i => (free i).lockOne j⟩

end Sys2Proof.Machine
end

section
/-!
A.5 External trip (R149, R150): the assertion edge and the de-assertion edge.
-/
namespace Sys2Proof.Machine

/-! ## One step through the whole edge -/

theorem State.examineIfLeft_cases (s b : State) : s.examineIfLeft b = s ∨ s.examineIfLeft b = s.examine := by
  unfold State.examineIfLeft
  split
  · exact .inl rfl
  · exact .inr rfl

theorem State.Quiet.examineIfLeft {s : State} {k : StepId} (quiet : s.Quiet k)
    (nodup : (s.oq.entries.map (·.step)).Nodup) (b : State) : s.Spares (s.examineIfLeft b) k := by
  rcases s.examineIfLeft_cases b with same | examined
  · rw [same]
    exact .refl s k
  · rw [examined]
    exact quiet.examine nodup

theorem State.Tripping.examineIfLeft {s : State} {k : StepId} (tripping : s.Tripping k) (b : State) :
    (s.examineIfLeft b).Tripping k := by
  rcases s.examineIfLeft_cases b with same | examined
  · rwa [same]
  · rw [examined]
    exact tripping.examine

/-- The edge's parts lock out an open step that is still as it was when the postings are made (R149). -/
theorem State.externalPosts_locksOut {w : State} {k : StepId} (yard' : w.externalPosts.Yard False)
    (record : w.externalPosts.stepRec k = w.stepRec k) (is : w.IsOpen k) :
    w.externalParts.stepRec k = recordAfter (w.stepRec k) .lockout (some .external) none
      ∧ w.externalParts.entryOf k = none := by
  obtain ⟨locked, entry⟩ := State.lockOutOpen_open yard' ((State.IsOpen.congr record).mpr is)
  have sound := (w.externalPosts.lockOutOpen_keepsYard False yard').queue.1
  obtain ⟨record', entry'⟩ := (State.Quiet.of_none entry).examineIfLeft sound w.externalPosts
  exact ⟨record'.trans (locked.trans (by rw [record])), entry'.trans entry⟩

section
variable {w : State} (yard : w.Yard False) {k : StepId}
include yard

/-- The edge's parts leave a step that they neither lock out nor trip anew (R149). -/
theorem State.externalParts_leaves (away : (w.stepRec k).state ≠ some .closed) (shut : ¬w.IsOpen k) (quiet : w.Quiet k) :
    w.externalParts.stepRec k = w.stepRec k := by
  obtain ⟨yard', record, quiet'⟩ := (w.settled_edgeKeeps k away).folded ⟨yard, rfl, quiet⟩
  obtain ⟨locked, entry⟩ := State.lockOutOpen_spares _ fun is => shut ((State.IsOpen.congr record).mp is)
  have still : w.externalPosts.lockOutOpen.Quiet k := fun e found => quiet' e (entry.symm.trans found)
  have sound := (w.externalPosts.lockOutOpen_keepsYard False yard').queue.1
  rw [State.externalParts, (still.examineIfLeft sound _).1, locked, record]

/-- They lock out an open step without an entry (R149). -/
theorem State.externalParts_locksOut (is : w.IsOpen k) (none_ : w.entryOf k = none) :
    w.externalParts.stepRec k = recordAfter (w.stepRec k) .lockout (some .external) none := by
  have spared : w.externallyTripped k = false := by
    rw [State.externallyTripped]
    rcases is with h | h <;> rw [h]
  obtain ⟨yard', record, -⟩ := (w.idle_edgeKeeps k spared).folded ⟨yard, rfl, none_⟩
  exact (State.externalPosts_locksOut yard' record is).1

/-- They leave a CLOSED step with an entry that trips it (R149). -/
theorem State.externalParts_trips (opening : w.Opening k) : w.externalParts.Tripping k := by
  have yard' := ((State.opening_edgeKeeps k).folded ⟨yard, opening⟩).1
  obtain ⟨e, entry, trips⟩ := opening.externalPosts yard
  have shut : ¬w.externalPosts.IsOpen k := fun is => by
    obtain ⟨-, -, fits, -⟩ := id yard'.queue
    obtain ⟨mem, own⟩ := State.mem_of_entryOf entry
    obtain ⟨state, mark⟩ := fits e mem
    rw [own] at state
    have fit : e.stepState = .ready ∨ e.stepState = .discharging :=
      is.imp (fun h => Option.some.inj (state.symm.trans h)) fun h => Option.some.inj (state.symm.trans h)
    have close : e.status = .waiting ∧ e.kind = .closeOp := by
      cases status : e.status <;> cases kind : e.kind <;> simp [Entry.stepState, status, kind] at fit ⊢
    rcases trips with trip | marked
    · rw [close.2] at trip
      cases trip
    · cases given : e.mark with
      | none => simp [given] at marked
      | some m => simp [Entry.markSound, given, close.1] at mark
  obtain ⟨-, kept⟩ := w.externalPosts.lockOutOpen_spares shut
  exact State.Tripping.examineIfLeft ⟨e, kept.trans entry, trips⟩ _

/-- A FAILED step that is not open asserts BKT (R152). -/
theorem State.externalParts_bkt (failed : (w.stepRec k).state = some .failed)
    (away : (w.stepRec k).position ≠ some .atOpen) : w.externalParts.bkt = true := by
  have asserted := State.failed_externalPosts yard failed away
  have kept := (w.externalPosts.lockOutOpen_retains.trans (State.examineIfLeft_retains _ w.externalPosts)).backup asserted
  rw [State.externalParts, State.bkt, kept]
  exact asserted

end

/-- With an operation in flight the postings leave the steps, the selections and the count. -/
theorem State.flying_edgeKeeps (s : State) : EdgeKeeps fun u =>
    u.inFlight ≠ none ∧ u.au = s.au ∧ u.clock = s.clock ∧ ∀ j, u.stepRec j = s.stepRec j where
  examine u _ := fun ⟨flies, rest⟩ => by
    rw [State.examine_inFlight _ flies]
    exact ⟨flies, rest⟩
  posts u x j _ posts _ := fun ⟨flies, au, clock, same⟩ => ⟨posts.flight flies, (posts.rest .au (by decide)).trans au,
    (posts.rest .clock (by decide)).trans clock, fun i => (posts.records i).trans (same i)⟩
  writes u x only _ := fun ⟨flies, au, clock, same⟩ => ⟨by rwa [only.inFlight (by decide)],
    (only .au (by decide)).trans au, (only .clock (by decide)).trans clock,
    fun i => (only.stepRec (by decide) i).trans (same i)⟩

/-- The lockout of the open steps leaves the operation in flight (R49). -/
theorem State.lockOutOpen_flies {s : State} (queue : s.QueueSound) (flies : s.inFlight ≠ none) :
    s.lockOutOpen.inFlight ≠ none := by
  obtain ⟨g, found⟩ := Option.ne_none_iff_exists'.mp flies
  obtain ⟨mem, status⟩ := State.mem_of_inFlight found
  obtain ⟨nodup, -, fits, -⟩ := id queue
  have shut : ¬s.IsOpen g.step := fun is => by
    have state := (fits g mem).1
    rcases is with h | h <;> rw [h] at state <;> cases kind : g.kind <;> simp [Entry.stepState, status, kind] at state
  have entry := (s.lockOutOpen_spares shut).2.trans (entryOf_eq nodup mem)
  intro none_
  have waits := State.inFlight_none_iff.mp none_ g (State.mem_of_entryOf entry).1
  rw [status] at waits
  cases waits

section
variable {s : State} (yard : s.Yard False) {k : StepId}
include yard

/-- The edge leaves a step that it neither locks out nor trips anew (R149). -/
theorem State.externalEdge_leaves (away : (s.stepRec k).state ≠ some .closed) (shut : ¬s.IsOpen k)
    (quiet : s.Quiet k) : s.externalEdge.stepRec k = s.stepRec k := by
  obtain ⟨sound, record, quiet'⟩ := (s.settled_edgeKeeps k away).recorded ⟨yard, rfl, quiet⟩
  rw [s.externalEdge_eq, ← record]
  rw [← record] at away
  exact State.externalParts_leaves sound away (fun is => shut ((State.IsOpen.congr record).mp is)) quiet'

/-- The edge locks out an open step without an entry (R149). -/
theorem State.externalEdge_locksOut (is : s.IsOpen k) (none_ : s.entryOf k = none) :
    s.externalEdge.stepRec k = recordAfter (s.stepRec k) .lockout (some .external) none := by
  have spared : s.externallyTripped k = false := by
    rw [State.externallyTripped]
    rcases is with h | h <;> rw [h]
  obtain ⟨sound, record, free⟩ := (s.idle_edgeKeeps k spared).recorded ⟨yard, rfl, none_⟩
  rw [s.externalEdge_eq, ← record]
  exact State.externalParts_locksOut sound ((State.IsOpen.congr record).mpr is) free

/-- The edge locks out a READY step whose CLOSE waits while nothing can be dispatched (R149, R72). -/
theorem State.externalEdge_locksOutClose {e : Entry} (ready : (s.stepRec k).state = some .ready)
    (entry : s.entryOf k = some e) (close : e.kind = .closeOp) (held : s.heldBack) :
    s.externalEdge.stepRec k = recordAfter (s.stepRec k) .lockout (some .external) none
      ∧ s.externalEdge.entryOf k = none := by
  have held' : s.inFlight ≠ none ∨ s.cu.settle ≠ 0 :=
    held.imp (fun flies none_ => by rw [none_] at flies; cases flies) And.left
  have keeps := s.closeHeld_edgeKeeps k e ready close
  obtain ⟨sound, waits⟩ := keeps.recorded ⟨yard, rfl, entry, held'⟩
  obtain ⟨yard', record, -⟩ := keeps.folded ⟨sound, waits⟩
  rw [s.externalEdge_eq, ← waits.1]
  exact State.externalPosts_locksOut yard' (record.trans waits.1.symm) ((State.IsOpen.congr waits.1).mpr (.inl ready))

/-- The edge leaves a CLOSED step with an entry that trips it (R149). -/
theorem State.externalEdge_trips (closed : (s.stepRec k).state = some .closed) : s.externalEdge.Tripping k := by
  obtain ⟨sound, opening⟩ := (State.opening_edgeKeeps k).recorded ⟨yard, yard.queue.opening closed⟩
  exact State.externalParts_trips sound opening

/-- A FAILED step that is not open asserts BKT (R152). -/
theorem State.externalEdge_bkt (failed : (s.stepRec k).state = some .failed)
    (away : (s.stepRec k).position ≠ some .atOpen) : s.externalEdge.bkt = true := by
  have notClosed : (s.stepRec k).state ≠ some .closed := by simp [failed]
  obtain ⟨sound, record, -⟩ := (s.settled_edgeKeeps k notClosed).recorded
    ⟨yard, rfl, .of_none (yard.queue.none_of_away failed (by decide))⟩
  rw [← record] at failed away
  exact State.externalParts_bkt sound failed away

/-- With an operation in flight the edge gives the one waiting CLOSE its record (R72, R75, R114). -/
theorem State.externalEdge_tells {f e : Entry} (entries : s.oq.entries = [f, e] ∨ s.oq.entries = [e, f])
    (flies : f.status = .inFlight) (waits : e.status = .waiting) (close : e.kind = .closeOp) :
    s.TellsLockout s.externalEdge e (∀ q, s.slot q = none) := by
  have member : ∀ x, x ∈ s.oq.entries ↔ x = f ∨ x = e := fun x => by
    rcases entries with h | h <;> simp [h, or_comm]
  have memE : e ∈ s.oq.entries := (member e).mpr (.inr rfl)
  have memF : f ∈ s.oq.entries := (member f).mpr (.inl rfl)
  obtain ⟨nodup, -, fits, -⟩ := id yard.queue
  have entry : s.entryOf e.step = some e := entryOf_eq nodup memE
  have ready : (s.stepRec e.step).state = some .ready := by
    rw [(fits e memE).1]
    simp [Entry.stepState, waits, close]
  have inFlight : s.inFlight ≠ none := fun none_ => by
    rw [State.inFlight_none_iff.mp none_ f memF] at flies
    cases flies
  obtain ⟨yard', ⟨flies', au, clock, records⟩, -, entry', -⟩ :=
    (s.flying_edgeKeeps.and (s.closeHeld_edgeKeeps e.step e ready close)).posted yard
      ⟨⟨inFlight, rfl, rfl, fun _ => rfl⟩, rfl, entry, .inl inFlight⟩
  have alone : ∀ j, j ≠ e.step → s.edgePosted.OpenFree j := fun j other is => by
    have is' : s.IsOpen j := (State.IsOpen.congr (records j)).mp is
    have spared : s.externallyTripped j = false := by
      rw [State.externallyTripped]
      rcases is' with h | h <;> rw [h]
    have none_ : s.entryOf j = none := State.entryOf_none_iff.mpr fun x mem own => by
      rcases (member x).mp mem with rfl | rfl
      · have state := (fits x mem).1
        rw [own] at state
        rcases is' with h | h <;> rw [h] at state <;> cases kind : x.kind <;> simp [Entry.stepState, flies, kind] at state
      · exact other own.symm
    exact ((s.idle_edgeKeeps j spared).posted yard ⟨rfl, none_⟩).2.2
  have told := State.lockOutOpen_tells (s := s.edgePosted) (by rw [records]; exact ready) entry' waits close alone
  have slots : ∀ q, s.edgePosted.slot q = s.slot q := State.slot_congr au
  have same : s.externalEdge = s.edgePosted.lockOutOpen := by
    rw [s.externalEdge_posted]
    rcases s.edgePosted.lockOutOpen.examineIfLeft_cases s.edgePosted with h | h
    · exact h
    · rw [h, State.examine_inFlight _ (State.lockOutOpen_flies yard'.queue flies')]
  rw [same]
  unfold State.TellsLockout at told ⊢
  simpa only [clock, slots] using told

end

/-! ## O41 -/

/-- What an edge of the external trip finds: the state with the level accepted and the count moved. -/
structure State.TripAccepted (s v : State) : Prop where
  /-- the blocks -/
  only : s.onlyIn v [.clock, .ss]
  /-- the table of steps -/
  records : ∀ k, v.stepRec k = s.stepRec k
  /-- the uptime -/
  uptime : v.clock.uptime = s.clock.uptime
  /-- the yard -/
  yard : v.Yard False
  /-- the level -/
  level : v.ss.tripIn.accepted = some s.ss.tripIn.raw

theorem State.tripAccepted {s : State} (sound : s.YardSound) : s.TripAccepted (s.accept .externalTrip) where
  only := s.acceptTrip_rest.1
  records k := congrArg (fun x : Vector StepRecord 8 => x[k]) s.acceptTrip_rest.2
  uptime := by rw [(s.accept_spec .externalTrip).2]; rfl
  yard := (s.accept_sameYard .externalTrip).yard ⟨sound.2.1, sound.2.2.1, False.elim⟩
  level := (congrArg Debouncer.accepted (s.accept_spec .externalTrip).1 :)

theorem State.TripAccepted.entryOf {s v : State} (h : s.TripAccepted v) (k : StepId) : v.entryOf k = s.entryOf k :=
  h.only.entryOf (by decide) k

/-- The record of the trip that the edge enters (R145, R149). -/
theorem State.externalEdge_enters (s : State) :
    entersTripRecord s s.externalEdge (s.tripRecordOf .external none none none none) := by
  rw [s.externalEdge_eq]
  exact entersTripRecord.mono (s.noteEdge.enterTripRecord_enters .external none none none none) rfl
    (State.externalParts_retains _)

/-- The assertion edge enters the Trip Record, which it fills or counts in (R145, R149). -/
theorem State.TripAccepted.enters {s v : State} (h : s.TripAccepted v) : match s.upu.tripRecord with
    | none => v.externalEdge.upu.tripRecord =
          some
            { cause := .external
              step := none
              uptime := s.clock.uptime
              frame := s.me.frame.number
              u := none
              dre := none
              dim := none
              vAvg := s.me.frame.vAvg
              di := max s.me.frame.a.di (max s.me.frame.b.di s.me.frame.c.di)
              further := 0 }
        ∧ ∀ p, (v.externalEdge.portState p).changeFlag = true
    | some r => v.externalEdge.upu.tripRecord = some { r with further := min 255 (r.further + 1) } := by
  have enters := v.externalEdge_enters
  have upu : v.upu = s.upu := h.only .upu (by decide)
  have me : v.me = s.me := h.only .me (by decide)
  generalize v.externalEdge = t at enters ⊢
  rw [entersTripRecord, upu, State.tripRecordOf, h.uptime, me] at enters
  exact enters

/-- The de-assertion edge takes the accepted value and changes nothing else (R149). -/
theorem exec_externalTripDeassertion {s : State} (running : s.clock.held = none) (raw : s.ss.tripIn.raw = false)
    (fresh : s.ss.tripIn.accepted ≠ some false) :
    exec .externalTripDeassertion s = .next (s.accept .externalTrip) := by
  have accepts : s.ss.tripIn.toAccept = true := by simpa [Debouncer.toAccept, raw] using fresh
  have taken : s.acceptDeassertion = s.accept .externalTrip :=
    if_pos (c := s.ss.tripIn.toAccept = true ∧ s.ss.tripIn.raw = false) ⟨accepts, raw⟩
  exact congrArg Host.Outcome.next ((s.unlessHeld_free _ running).trans taken)

/-- A step that neither stands READY, DISCHARGING nor CLOSED has no entry or its entry is in flight (R2, R48). -/
theorem State.QueueSound.bystands {s : State} (queue : s.QueueSound) {k : StepId}
    (state : (s.stepRec k).state = some .out ∨ (s.stepRec k).state = some .lockout
      ∨ (s.stepRec k).state = some .failed ∨ (s.stepRec k).state = some .closing
      ∨ (s.stepRec k).state = some .opening) :
    (s.stepRec k).state ≠ some .closed ∧ ¬s.IsOpen k ∧ s.Quiet k := by
  have still : ∀ {n}, (s.stepRec k).state = some n → n ≠ .ready ∧ n ≠ .closed ∧ n ≠ .closing ∧ n ≠ .opening →
      s.Quiet k := fun is away => .of_none (queue.none_of_away is away)
  have moves : (s.stepRec k).state = some .closing ∨ (s.stepRec k).state = some .opening → s.Quiet k := fun moving x there => by
    obtain ⟨e, found, flies⟩ := queue.moving moving
    rwa [← Option.some.inj (found.symm.trans there)]
  rcases state with h | h | h | h | h
  · exact ⟨by simp [h], by simp [State.IsOpen, h], still h (by decide)⟩
  · exact ⟨by simp [h], by simp [State.IsOpen, h], still h (by decide)⟩
  · exact ⟨by simp [h], by simp [State.IsOpen, h], still h (by decide)⟩
  · exact ⟨by simp [h], by simp [State.IsOpen, h], moves (.inl h)⟩
  · exact ⟨by simp [h], by simp [State.IsOpen, h], moves (.inr h)⟩

/-- Settles O41: each step is followed through the Trip Record, the postings, the lockout of the open steps and the
examinations between them. -/
theorem externalTripReachesEveryStep : Obligations.ExternalTripReachesEveryStep := by
  constructor
  · intro s sound running raw fresh
    have run := exec_externalTripAssertion running raw fresh
    have after := State.tripAccepted sound
    have orders := (exec_yardSound run sound).1
    generalize s.accept .externalTrip = v at run after orders
    obtain ⟨only, records, uptime, yard, level⟩ := id after
    have locks : ∀ {r : StepRecord} {k : StepId},
        r = recordAfter (s.stepRec k) .lockout (some .external) none → r.state = some .lockout
          ∧ r.lockoutCause = some .external ∧ r.discharge = (s.stepRec k).discharge := fun {r k} is => by
      subst is
      obtain ⟨-, -, -, -, cause, -⟩ := recordAfter_kept (s.stepRec k) .lockout (some .external) none
      exact ⟨(recordAfter_state _ _ _ _).1, cause, recordAfter_discharge_of_ne _ (by decide) _ _⟩
    refine ⟨_, run, ?_, after.enters, ?_, ?_, ?_, ?_, ?_, ?_, ?_⟩
    · have same : v.externalEdge.ss.tripIn = v.ss.tripIn := (State.externalEdge_sameInputs v).debouncer .externalTrip
      rw [same, level, raw]
    · intro k is none_
      have is' : v.IsOpen k := (State.IsOpen.congr (records k)).mpr is
      exact locks ((State.externalEdge_locksOut yard is' ((after.entryOf k).trans none_)).trans (by rw [records]))
    · intro k e held entry waits close
      obtain ⟨mem, own⟩ := State.mem_of_entryOf entry
      obtain ⟨-, -, fits, -⟩ := id sound.2.1
      have ready : (s.stepRec k).state = some .ready := by
        rw [← own, (fits e mem).1]
        simp [Entry.stepState, waits, close]
      have held' : v.heldBack := by
        rwa [State.heldBack, only.inFlight (by decide), only .cu (by decide), only .oq (by decide)]
      obtain ⟨record, gone⟩ := State.externalEdge_locksOutClose yard (by rw [records]; exact ready)
        ((after.entryOf k).trans entry) close held'
      obtain ⟨state, cause, discharge⟩ := locks (record.trans (by rw [records]))
      refine ⟨state, cause, discharge, gone, fun listed => ?_⟩
      have there := (orders.2.2.1 k).mp listed
      rw [state] at there
      cases there
    · intro f e entries flies waits close
      have entries' : v.oq.entries = [f, e] ∨ v.oq.entries = [e, f] := by rwa [only .oq (by decide)]
      have told := State.externalEdge_tells yard entries' flies waits close
      have slots : ∀ q, v.slot q = s.slot q := State.slot_congr (only .au (by decide))
      simp only [State.TellsLockout, slots, uptime] at told
      exact ⟨fun p is empty => told.1 empty p is, told.2⟩
    · intro k closed
      obtain ⟨e, entry, trips⟩ := State.externalEdge_trips yard (k := k) (by rw [records]; exact closed)
      obtain ⟨mem, own⟩ := State.mem_of_entryOf entry
      exact ⟨e, mem, own, trips⟩
    · intro k state
      obtain ⟨closed, opened, quiet⟩ := sound.2.1.bystands state
      rw [← records k]
      refine State.externalEdge_leaves yard (by rw [records]; exact closed) ?_
        fun e found => quiet e ((after.entryOf k).symm.trans found)
      rwa [State.IsOpen, records]
    · exact State.onlyIn_trans (State.onlyIn_mono only (by decide))
        (State.onlyIn_mono (State.externalEdge_keeps v).onlyIn (by decide))
    · rintro ⟨k, failed, away⟩
      exact State.externalEdge_bkt yard (k := k) (by rw [records]; exact failed) (by rw [records]; exact away)
  · intro s running raw fresh
    refine ⟨_, exec_externalTripDeassertion running raw fresh, ?_, (s.accept_spec .externalTrip).2, s.acceptTrip_rest.1⟩
    rw [← raw]
    rfl

end Sys2Proof.Machine
end

section
/-!
SUPPORT. Step derivation (R203, R204): what the derivation of every step makes of a state in which no step has one.
-/
namespace Sys2Proof.Machine

/-! ## One step -/

/-- TDIS is loaded for an open step (R78). -/
def State.openLoaded (s : State) (k : StepId) : State :=
  if (s.stepRec k).position = some .atOpen then s.loadDischarge k else s

/-- The cause that derivation gives a FAILED step (R204). -/
def derivedFailure (s : State) (k : StepId) : Option FailureCause :=
  if derivedState s k = .failed then some .contactInvalid else none

theorem State.deriveStep_enters (s : State) (k : StepId) :
    s.deriveStep k = (s.openLoaded k).enter k (derivedState s k) none (derivedFailure s k) := by
  unfold State.deriveStep State.openLoaded derivedFailure derivedState
  cases s.inService k <;> cases (s.stepRec k).position with
  | none => rfl
  | some p => cases p <;> rfl

/-- The record that derivation gives a step (R204). -/
def derivedRecord (s : State) (k : StepId) : StepRecord :=
  enteredRecord ((s.openLoaded k).stepRec k) (derivedState s k) none (derivedFailure s k)

theorem State.openLoaded_stepRec_ne (s : State) {k j : StepId} (other : j ≠ k) :
    (s.openLoaded k).stepRec j = s.stepRec j := by
  unfold State.openLoaded
  split
  · rw [s.loadDischarge_stepRec k j, if_neg other]
  · rfl

theorem State.openLoaded_same (s : State) (k : StepId) :
    (s.openLoaded k).stepRec k = { s.stepRec k with
      discharge := if (s.stepRec k).position = some .atOpen then s.y .tdis else (s.stepRec k).discharge } := by
  unfold State.openLoaded
  split_ifs with opened
  · rw [s.loadDischarge_stepRec k k, if_pos rfl]
  · rfl

theorem State.openLoaded_onlyIn (s : State) (k : StepId) : s.onlyIn (s.openLoaded k) [.ss] :=
  State.onlyIn_ite _ (s.modStep_onlyIn _ _) (s.onlyIn_refl _)

theorem State.openLoaded_orders (s : State) (k : StepId) : (s.openLoaded k).ss.readyOrder = s.ss.readyOrder
    ∧ (s.openLoaded k).ss.closedOrder = s.ss.closedOrder := by
  unfold State.openLoaded
  split <;> exact ⟨rfl, rfl⟩

theorem derivedState_ne_ready (s : State) (k : StepId) : derivedState s k ≠ .ready := by
  unfold derivedState
  split_ifs
  · simp
  · split <;> simp

/-- The derivation of a step that has no state yet (R204). -/
theorem State.deriveStep_spec {s : State} {k : StepId} (absent : (s.stepRec k).state = none) (none_ : s.oq.entries = [])
    (empty : ∀ q, s.slot q = none) :
    (s.deriveStep k).stepRec k = derivedRecord s k
      ∧ (∀ j, j ≠ k → (s.deriveStep k).stepRec j = s.stepRec j)
      ∧ (s.deriveStep k).ss.readyOrder = s.ss.readyOrder.filter (· ≠ k)
      ∧ (s.deriveStep k).ss.closedOrder =
          s.ss.closedOrder.filter (· ≠ k) ++ (if derivedState s k = .closed then [k] else [])
      ∧ s.onlyIn (s.deriveStep k) [.ss, .pi, .cu]
      ∧ (s.deriveStep k).cu.settle = s.cu.settle
      ∧ ∀ p, ((s.deriveStep k).portState p).changeFlag = true := by
  let t := s.openLoaded k
  have loaded : s.onlyIn t [.ss] := s.openLoaded_onlyIn k
  have free : t.entryOf k = none := State.entryOf_none_iff.mpr fun e mem => by
    rw [loaded .oq (by decide), none_] at mem
    cases mem
  have empty' : ∀ q, t.slot q = none := fun q => (State.slot_congr (loaded .au (by decide)) q).trans (empty q)
  have notClosed : (t.stepRec k).state ≠ some .closed := by
    rw [s.openLoaded_same k]
    simp [absent]
  obtain ⟨records, ready, closed⟩ := t.enter_spec k (derivedState s k) none (derivedFailure s k)
  rw [s.deriveStep_enters k]
  refine ⟨?_, fun j other => ?_, ?_, ?_, ?_, ?_, fun p => t.enter_flags k _ _ _ p⟩
  · rw [records k, if_pos rfl, recordAfter, if_neg fun h => notClosed h.1]
    rfl
  · rw [records j, if_neg other]
    exact s.openLoaded_stepRec_ne other
  · rw [ready, if_neg (derivedState_ne_ready s k), List.append_nil, (s.openLoaded_orders k).1]
  · rw [closed, (s.openLoaded_orders k).2]
  · exact State.onlyIn_trans (State.onlyIn_mono loaded (by decide))
      (State.onlyIn_mono (State.enter_alone free empty' notClosed _ _ _) (by decide))
  · rw [(t.enter_cooldown k _ none _).settle, loaded .cu (by decide)]

/-! ## Every step -/

/-- The steps that derivation puts in CLOSED (R204). -/
def derivedClosed (s : State) (l : List StepId) : List StepId := l.filter fun k => decide (derivedState s k = .closed)

/-- The state in which the steps of `l` are derived. -/
structure State.DerivedUpTo (s u : State) (l : List StepId) : Prop where
  /-- the derived steps -/
  derived : ∀ k ∈ l, u.stepRec k = derivedRecord s k
  /-- the other steps -/
  others : ∀ k, k ∉ l → u.stepRec k = s.stepRec k
  /-- the Ready Order -/
  ready : u.ss.readyOrder = []
  /-- the Closed Order -/
  closed : u.ss.closedOrder = derivedClosed s l
  /-- the blocks -/
  only : s.onlyIn u [.ss, .pi, .cu]
  /-- the settle count -/
  settle : u.cu.settle = s.cu.settle
  /-- the change flags -/
  flags : l ≠ [] → ∀ p, (u.portState p).changeFlag = true

theorem derivedState_congr {s u : State} {k : StepId} (settings : u.set.settings = s.set.settings)
    (record : u.stepRec k = s.stepRec k) : derivedState u k = derivedState s k := by
  rw [derivedState, derivedState, State.inService, State.inService, settings, record]

theorem derivedRecord_congr {s u : State} {k : StepId} (settings : u.set.settings = s.set.settings)
    (record : u.stepRec k = s.stepRec k) : derivedRecord u k = derivedRecord s k := by
  have loaded : (u.openLoaded k).stepRec k = (s.openLoaded k).stepRec k := by
    rw [u.openLoaded_same, s.openLoaded_same, record, State.y, State.y, settings]
  rw [derivedRecord, derivedRecord, loaded, derivedFailure, derivedFailure, derivedState_congr settings record]

theorem State.DerivedUpTo.step {s u : State} {l : List StepId} (upTo : s.DerivedUpTo u l) {k : StepId} (fresh : k ∉ l)
    (absent : (s.stepRec k).state = none) (none_ : s.oq.entries = []) (empty : ∀ q, s.slot q = none) :
    s.DerivedUpTo (u.deriveStep k) (l ++ [k]) := by
  obtain ⟨derived, others, ready, closed, only, settle, flags⟩ := upTo
  have settings : u.set.settings = s.set.settings := congrArg SetState.settings (only .set (by decide))
  have record := others k fresh
  obtain ⟨own, rest, ready', closed', only', settle', flags'⟩ := State.deriveStep_spec (s := u) (k := k) (by rw [record]; exact absent)
    (by rw [only .oq (by decide)]; exact none_) fun q => (State.slot_congr (only .au (by decide)) q).trans (empty q)
  refine ⟨fun j mem => ?_, fun j away => ?_, ?_, ?_, State.onlyIn_trans only only', settle'.trans settle,
    fun _ => flags'⟩
  · rcases List.mem_append.mp mem with before | now
    · rw [rest j fun h => fresh (h ▸ before), derived j before]
    · rw [List.mem_singleton.mp now, own, derivedRecord_congr settings record]
  · rw [List.mem_append, not_or, List.mem_singleton] at away
    rw [rest j away.2, others j away.1]
  · rw [ready', ready, List.filter_nil]
  · have kept : (derivedClosed s l).filter (· ≠ k) = derivedClosed s l :=
      List.filter_eq_self.mpr fun j mem => decide_eq_true fun h => fresh (h ▸ (List.mem_filter.mp mem).1)
    rw [closed', closed, kept, derivedState_congr settings record, derivedClosed, derivedClosed, List.filter_append]
    by_cases is : derivedState s k = .closed <;> simp [is]

theorem State.DerivedUpTo.foldl {s : State} (absent : ∀ k, (s.stepRec k).state = none) (none_ : s.oq.entries = [])
    (empty : ∀ q, s.slot q = none) : ∀ (m : List StepId) {u : State} {l : List StepId}, s.DerivedUpTo u l →
      (l ++ m).Nodup → s.DerivedUpTo (m.foldl State.deriveStep u) (l ++ m) := by
  intro m
  induction m with
  | nil => exact fun upTo _ => by rwa [List.append_nil]
  | cons k m ih =>
    intro u l upTo nodup
    have fresh : k ∉ l := fun mem => by
      have apart := List.disjoint_of_nodup_append nodup
      exact apart mem List.mem_cons_self
    have next := ih (upTo.step fresh (absent k) none_ empty) (by simpa using nodup)
    simpa using next

/-! ## The whole derivation (R203, R204) -/

/-- The state in which derivation begins: time has passed up to its due instant, and derivation counts as done. -/
def State.deriving (s : State) (at0 : Nat) : State :=
  let t := if s.positionsKnown then s else s.until (at0 + 1000000)
  { t with set := { t.set with derived := true } }

/-- The state in which every step is derived. -/
def State.derivedAll (s : State) (at0 : Nat) : State := allSteps.foldl State.deriveStep (s.deriving at0)

theorem State.positionsKnown_iff (s : State) : s.positionsKnown = true ↔ ∀ k, (s.stepRec k).position ≠ none := by
  simp [State.positionsKnown, List.all_eq_true, mem_allSteps, Option.isSome_iff_ne_none]

theorem State.deriving_spec (s : State) (at0 : Nat) :
    s.onlyIn (s.deriving at0) [.clock, .set] ∧ (s.deriving at0).set = { s.set with derived := true }
      ∧ (s.deriving at0).clock = { s.clock with
          now := if (∀ k, (s.stepRec k).position ≠ none) then s.clock.now else max s.clock.now (at0 + 1000000) } := by
  by_cases known : ∀ k, (s.stepRec k).position ≠ none
  · rw [if_pos known, State.deriving, if_pos (s.positionsKnown_iff.mpr known)]
    exact ⟨fun b hb => by cases b <;> simp_all [State.sameBlock], rfl, rfl⟩
  · rw [if_neg known, State.deriving, if_neg fun h => known (s.positionsKnown_iff.mp h)]
    exact ⟨fun b hb => by cases b <;> simp_all [State.sameBlock], rfl, rfl⟩

/-- What derivation makes of a sound state in which it has not taken place (R204). -/
structure State.Derived (s d : State) : Prop where
  /-- the records -/
  records : ∀ k, d.stepRec k = derivedRecord s k
  /-- no entry -/
  entries : d.oq.entries = []
  /-- no selection -/
  slots : ∀ q, d.slot q = none
  /-- the yard -/
  yard : d.Yard False
  /-- the Ready Order -/
  ready : d.ss.readyOrder = []
  /-- the Closed Order -/
  closed : d.ss.closedOrder = derivedClosed s allSteps
  /-- the blocks -/
  only : s.onlyIn d [.clock, .ss, .cu, .set, .pi]
  /-- derivation has taken place -/
  set : d.set = { s.set with derived := true }
  /-- the uptime -/
  uptime : d.clock.uptime = s.clock.uptime
  /-- the settle count -/
  settle : d.cu.settle = s.cu.settle
  /-- the external trip's debouncer -/
  trip : d.ss.tripIn = s.ss.tripIn
  /-- the change flags -/
  flags : ∀ p, (d.portState p).changeFlag = true

theorem State.deriveStep_retains (s : State) (k : StepId) : s.Retains (s.deriveStep k) := by
  rw [s.deriveStep_enters k]
  have loaded : s.Retains (s.openLoaded k) := .ite _ (s.modStep_retains k _) (.refl s)
  exact loaded.trans (State.enter_retains _ k _ _ _)

theorem State.derivedAll_trip (s : State) (at0 : Nat) : (s.derivedAll at0).ss.tripIn = s.ss.tripIn := by
  have same : (s.deriving at0).ss = s.ss := (s.deriving_spec at0).1 .ss (by decide)
  unfold State.derivedAll
  generalize s.deriving at0 = t at same ⊢
  have retained : t.Retains (allSteps.foldl State.deriveStep t) := .foldl _ State.deriveStep_retains allSteps t
  rw [retained.trip, same]

theorem State.derivedAll_derived {s : State} (sound : s.YardSound) (before : s.set.derived = false) (at0 : Nat) :
    s.Derived (s.derivedAll at0) ∧ (s.derivedAll at0).clock = (s.deriving at0).clock := by
  obtain ⟨orders, queue, coils, slotA, slotB⟩ := sound
  obtain ⟨nodupReady, nodupClosed, ready, closed⟩ := orders
  obtain ⟨nodup, flight, fits, moving, timers, first⟩ := id queue
  have absent := first before
  have entries : s.oq.entries = [] := List.eq_nil_iff_forall_not_mem.mpr fun e mem => by
    have fit := (fits e mem).1
    rw [absent] at fit
    cases fit
  have slots : ∀ q, s.slot q = none := fun q => Option.eq_none_iff_forall_ne_some.mpr fun x held => by
    have ready : (s.stepRec x.step).state = some .ready := by
      cases q with
      | a => exact (slotA x held).2.2.1
      | b => exact (slotB x held).2.2.1
    rw [absent] at ready
    cases ready
  have noReady : s.ss.readyOrder = [] := List.eq_nil_iff_forall_not_mem.mpr fun k mem => by
    have state := (ready k).mp mem
    rw [absent] at state
    cases state
  have noClosed : s.ss.closedOrder = [] := List.eq_nil_iff_forall_not_mem.mpr fun k mem => by
    have state := (closed k).mp mem
    rw [absent] at state
    cases state
  obtain ⟨only, set, -⟩ := s.deriving_spec at0
  have yard : (s.derivedAll at0).Yard False := by
    have timed : (if s.positionsKnown then s else s.until (at0 + 1000000)).Yard False := by
      split
      · exact ⟨queue, coils, False.elim⟩
      · exact (s.until_sameYard _).yard ⟨queue, coils, False.elim⟩
    refine State.Deriving.deriveAll (timed.deriving ?_) allSteps
    split
    · exact before
    · exact before
  have blank : (s.deriving at0).DerivedUpTo (s.deriving at0) [] := by
    refine ⟨fun k mem => absurd mem List.not_mem_nil, fun _ _ => rfl, ?_, ?_, State.onlyIn_refl _ _, rfl, fun h => absurd rfl h⟩
    · rw [only .ss (by decide), noReady]
    · rw [only .ss (by decide), noClosed]
      rfl
  have upTo := State.DerivedUpTo.foldl (s := s.deriving at0) (fun k => by rw [only.stepRec (by decide)]; exact absent k)
    (by rw [only .oq (by decide)]; exact entries) (fun q => (State.slot_congr (only .au (by decide)) q).trans (slots q))
    allSteps blank (List.nodup_finRange 8)
  have all : s.derivedAll at0 = allSteps.foldl State.deriveStep (s.deriving at0) := rfl
  rw [← all, List.nil_append] at upTo
  have settings : (s.deriving at0).set.settings = s.set.settings := by rw [set]
  have records := fun k => derivedRecord_congr (u := s.deriving at0) (k := k) settings (only.stepRec (by decide) k)
  have states := fun k => derivedState_congr (u := s.deriving at0) (k := k) settings (only.stepRec (by decide) k)
  have trip := s.derivedAll_trip at0
  generalize s.derivedAll at0 = d at upTo yard trip ⊢
  have uptime : (s.deriving at0).clock.uptime = s.clock.uptime := by rw [(s.deriving_spec at0).2.2]
  refine ⟨⟨fun k => (upTo.derived k (mem_allSteps k)).trans (records k), ?_, fun q => ?_, yard, upTo.ready, ?_, ?_, ?_, ?_,
    ?_, trip, upTo.flags (by decide)⟩, upTo.only .clock (by decide)⟩
  · rw [upTo.only .oq (by decide), only .oq (by decide), entries]
  · rw [State.slot_congr (upTo.only .au (by decide)), State.slot_congr (only .au (by decide)), slots]
  · rw [upTo.closed, derivedClosed, derivedClosed]
    simp only [states]
  · exact State.onlyIn_trans (State.onlyIn_mono only (by decide)) (State.onlyIn_mono upTo.only (by decide))
  · rw [upTo.only .set (by decide), set]
  · rw [upTo.only .clock (by decide), uptime]
  · rw [upTo.settle, only .cu (by decide)]

/-- The command of the derivation (R203). -/
theorem exec_stepDerivation {s : State} {at0 : Nat} (running : s.clock.held = none) (loaded : s.set.loadedAt = some at0)
    (before : s.set.derived = false) (none_ : (s.derivedAll at0).oq.entries = []) (first : Bool) :
    exec (.stepDerivation first) s = .next (if first then (s.derivedAll at0).derivedOpenAll.derivedTrip
      else (s.derivedAll at0).derivedTrip.derivedOpenAll) := by
  refine congrArg Host.Outcome.next ((s.unlessHeld_free _ running).trans ?_)
  have all : s.derivation first = (if s.positionsKnown then s else s.until (at0 + 1000000)).deriveAll first := by
    simp only [State.derivation, loaded, before, Bool.false_eq_true, if_false]
    split <;> rfl
  rw [all]
  have examined : (s.derivedAll at0).examine = s.derivedAll at0 := State.examine_empty _ none_
  show (if first then (s.derivedAll at0).examine.derivedOpenAll.derivedTrip
    else (s.derivedAll at0).examine.derivedTrip.derivedOpenAll) = _
  rw [examined]

/-- The record of a derived step, field by field (R204). -/
theorem derivedRecord_fields (s : State) (k : StepId) :
    (derivedRecord s k).state = some (derivedState s k)
      ∧ (derivedRecord s k).lockoutCause = none
      ∧ (derivedRecord s k).position = (s.stepRec k).position
      ∧ (derivedState s k = .discharging → (derivedRecord s k).discharge = s.y .tdis)
      ∧ (derivedRecord s k).discharge =
          (match (s.stepRec k).position with
           | some .atOpen => s.y .tdis
           | some .atClosed => if s.inService k then 0 else (s.stepRec k).discharge
           | _ => (s.stepRec k).discharge)
      ∧ (derivedRecord s k).failureCause =
          (if s.inService k = true ∧ (s.stepRec k).position ≠ some .atOpen
              ∧ (s.stepRec k).position ≠ some .atClosed then some .contactInvalid else none)
      ∧ (derivedRecord s k).closedWhileOut =
          decide (s.inService k = false ∧ (s.stepRec k).position = some .atClosed) := by
  unfold derivedRecord enteredRecord
  rw [s.openLoaded_same k, derivedFailure, derivedState]
  cases s.inService k <;> cases (s.stepRec k).position with
  | none => simp
  | some p => cases p <;> simp

/-- The CLOSED steps of the derivation (R204). -/
theorem derivedState_closed_iff (s : State) (k : StepId) :
    derivedState s k = .closed ↔ s.inService k = true ∧ (s.stepRec k).position = some .atClosed := by
  unfold derivedState
  cases s.inService k <;> cases (s.stepRec k).position with
  | none => simp
  | some p => cases p <;> simp

/-- A FAILED step's switch is not known open (R204). -/
theorem derivedState_failed {s : State} {k : StepId} (failed : derivedState s k = .failed) :
    (s.stepRec k).position ≠ some .atOpen := by
  intro opened
  unfold derivedState at failed
  rw [opened] at failed
  split_ifs at failed

/-- A live line and no external trip: derivation gives the states and nothing follows (R204). -/
theorem derivationAlone (first : Bool) (s : State) (at0 : Nat) (sound : s.YardSound) (running : s.clock.held = none)
    (loaded : s.set.loadedAt = some at0) (before : s.set.derived = false) (live : s.avc.line = .live)
    (noTrip : s.ss.tripIn.accepted ≠ some true) : ∃ t, exec (.stepDerivation first) s = .next t ∧ s.Derived t
      ∧ t.clock = (s.deriving at0).clock := by
  obtain ⟨derived, clock⟩ := s.derivedAll_derived sound before at0
  refine ⟨_, ?_, derived, clock⟩
  rw [exec_stepDerivation running loaded before derived.entries first]
  have trip := derived.trip
  have avc : (s.derivedAll at0).avc = s.avc := derived.only .avc (by decide)
  generalize s.derivedAll at0 = d at trip avc ⊢
  have noOpen : d.derivedOpenAll = d := if_neg (by simp [State.lineDead, avc, live])
  have noTrip : d.derivedTrip = d := if_neg (by rwa [trip])
  rw [noTrip, noOpen, noTrip, ite_self]

end Sys2Proof.Machine
end

section
/-!
SUPPORT. What follows at the end of derivation (R204): the dead-line OPEN ALL and the parts of a standing external
trip, in a state whose entries are OPENs and TRIPs of the AVC and of the external trip.
-/
namespace Sys2Proof.Machine

/-! ## The parts of the external trip -/

/-- No READY or DISCHARGING step has an OPEN or a TRIP waiting (R48). -/
theorem State.QueueSound.openFree {s : State} (queue : s.QueueSound) (all : s.Protective) (j : StepId) : s.OpenFree j := by
  intro is
  refine State.entryOf_none_iff.mpr fun e mem own => ?_
  have state := (queue.2.2.1 e mem).1
  have other := (all e mem).1
  rw [own] at state
  rcases is with h | h <;> rw [h] at state <;> cases status : e.status <;> cases kind : e.kind <;>
    simp_all [Entry.stepState]

theorem State.lockOutOpen_onlyIn {s : State} (free : ∀ j, s.OpenFree j) (empty : ∀ q, s.slot q = none) :
    s.onlyIn s.lockOutOpen [.pi, .ss, .cu] ∧ ∀ q, s.lockOutOpen.slot q = none := by
  rw [s.lockOutOpen_eq]
  have all : ∀ u : State, (∀ q, u.slot q = none) ∧ (∀ j, u.OpenFree j) ∧ s.onlyIn u [.pi, .ss, .cu] → ∀ j,
      (∀ q, (u.lockOne j).slot q = none) ∧ (∀ i, (u.lockOne j).OpenFree i) ∧ s.onlyIn (u.lockOne j) [.pi, .ss, .cu] :=
    fun u ⟨empty, free, only⟩ j => ⟨(free j).lockOne_slots empty, fun i => (free i).lockOne j,
      State.onlyIn_trans only ((free j).lockOne_onlyIn.2 empty)⟩
  obtain ⟨empty', -, only⟩ := foldl_keeps (fun u j h => all u h j) allSteps s ⟨empty, free, State.onlyIn_refl s _⟩
  exact ⟨only, empty'⟩

/-- The parts of the external trip write no more than the results of the entries they replace, and lock out the open
steps as the last thing (R149, R150). -/
theorem State.externalParts_protective {w : State} (yard : w.Yard False) (all : w.Protective) (empty : ∀ q, w.slot q = none) :
    w.onlyIn w.externalParts [.ss, .oq, .cu, .avc, .upu, .pi, .os]
      ∧ w.externalPosts.onlyIn w.externalParts [.pi, .ss, .cu]
      ∧ (∀ q, w.externalParts.slot q = none) ∧ w.externalParts.Protective := by
  obtain ⟨yard', all', empty', only⟩ := w.protective_edgeKeeps.folded ⟨yard, all, empty, State.onlyIn_refl w _⟩
  rw [State.externalParts]
  generalize w.externalPosts = u at yard' all' empty' only ⊢
  obtain ⟨locked, empty''⟩ := State.lockOutOpen_onlyIn (yard'.queue.openFree all') empty'
  have oq : u.lockOutOpen.oq = u.oq := locked .oq (by decide)
  have same : u.lockOutOpen.examineIfLeft u = u.lockOutOpen := if_pos (by rw [oq])
  rw [same]
  exact ⟨State.onlyIn_trans only (State.onlyIn_mono locked (by decide)), locked, empty'', all'.congr oq⟩

/-! ## The OPEN ALL -/

/-- An OPEN of a step joins the list or changes nothing, when no CLOSE waits (R52, R55, R56, R58). -/
theorem State.post_open_protective {s : State} (all : s.Protective) (k : StepId) :
    (s.post (openPosting .avc none true k)).1
      = if s.joinable k then s.admitNew (openPosting .avc none true k) else s := by
  let p := openPosting .avc none true k
  by_cases absent : (s.stepRec k).state = none
  · rw [State.post_absent (p := p) absent, if_neg (by simp [State.joinable, absent])]
  cases entry : s.entryOf k with
  | none =>
    rw [State.post_open_of_entryOf_none (p := p) rfl entry, State.postOpen]
    by_cases closed : (s.stepRec k).state = some .closed
    · rw [if_pos (by simp [State.joinable, closed, entry])]
      simp [p, openPosting, closed]
    · rw [if_neg (by simp [State.joinable, closed])]
      split <;> simp_all [p, openPosting]
  | some e =>
    rw [State.post_open_pending (p := p) rfl absent entry (all e (State.mem_of_entryOf entry).1).1,
      if_neg (by simp [State.joinable_of_some entry])]

/-- The entry that the OPEN ALL of the AVC gives a step (R59, R97). -/
def State.avcOpen (s : State) (k : StepId) : Entry := s.newEntry (openPosting .avc none true k)

theorem State.avcOpen_protective (s : State) (k : StepId) : (s.avcOpen k).Protective :=
  ⟨by simp [State.avcOpen, State.newEntry, openPosting], .inl rfl⟩

/-- A state with entries at the tail of its list. -/
def State.joined (s : State) (l : List Entry) : State := { s with oq := { s.oq with entries := s.oq.entries ++ l } }

theorem State.joined_onlyIn (s : State) (l : List Entry) : s.onlyIn (s.joined l) [.oq] := by
  intro b hb
  cases b <;> simp_all [State.sameBlock, State.joined]

theorem State.joined_nil (s : State) : s.joined [] = s := by rw [State.joined, List.append_nil]

theorem State.joined_joined (s : State) (l m : List Entry) : (s.joined l).joined m = s.joined (l ++ m) := by
  simp [State.joined]

theorem expandOne_joins {s : State} (all : s.Protective) : ∀ (m l : List StepId) (a : List PostAnswer), (l ++ m).Nodup →
    (m.foldl (expandOne .avc none true) (s.joined ((l.filter s.joinable).map s.avcOpen), a)).1
      = s.joined (((l ++ m).filter s.joinable).map s.avcOpen) := by
  intro m
  induction m with
  | nil => exact fun l a _ => by rw [List.append_nil]; rfl
  | cons k m ih =>
    intro l a nodup
    let u := s.joined ((l.filter s.joinable).map s.avcOpen)
    have fresh : k ∉ l := fun mem => List.disjoint_of_nodup_append nodup mem List.mem_cons_self
    have all' : u.Protective := fun e mem => by
      rcases List.mem_append.mp mem with old | new
      · exact all e old
      · obtain ⟨j, -, rfl⟩ := List.mem_map.mp new
        exact s.avcOpen_protective j
    have entry : u.entryOf k = s.entryOf k := by
      show (s.oq.entries ++ (l.filter s.joinable).map s.avcOpen).find? _ = _
      rw [List.find?_append]
      have absent : ((l.filter s.joinable).map s.avcOpen).find? (fun e => decide (e.step = k)) = none := by
        rw [List.find?_eq_none]
        intro x mem
        obtain ⟨j, memJ, rfl⟩ := List.mem_map.mp mem
        have other : j ≠ k := fun h => fresh (h ▸ (List.mem_filter.mp memJ).1)
        simp [State.avcOpen, State.newEntry, openPosting, other]
      rw [absent, Option.or_none]
      rfl
    have join : u.joinable k = s.joinable k := by
      rw [State.joinable, State.joinable, entry]
      rfl
    have turn : (u.post (openPosting .avc none true k)).1
        = s.joined (((l ++ [k]).filter s.joinable).map s.avcOpen) := by
      rw [State.post_open_protective all' k, join, List.filter_append, List.map_append]
      by_cases h : s.joinable k = true
      · rw [if_pos h, List.filter_cons_of_pos h, ← s.joined_joined]
        rfl
      · rw [if_neg h, List.filter_cons_of_neg h]
        simp [u]
    have next := ih (l ++ [k]) (a ++ [(u.post (openPosting .avc none true k)).2]) (by simpa using nodup)
    rw [List.append_assoc, List.singleton_append] at next
    rw [List.foldl_cons, ← next, ← turn]
    rfl

theorem State.expandAll_joins {s : State} (all : s.Protective) :
    (s.expandAll .avc none true).1 = s.joined ((allSteps.filter s.joinable).map s.avcOpen) := by
  have joins := expandOne_joins all allSteps [] [] (List.nodup_finRange 8)
  rw [List.filter_nil, List.map_nil, s.joined_nil, List.nil_append] at joins
  exact joins

end Sys2Proof.Machine
end

section
/-!
SUPPORT. The stages at the end of derivation (R204): the derived state, and what the OPEN ALL and the parts of the
external trip make of it in either order.
-/
namespace Sys2Proof.Machine

/-- A stage at the end of derivation of `s`: with the parts of the external trip behind it or not. -/
structure State.Stage (s t : State) (tripped : Bool) : Prop where
  /-- the yard -/
  yard : t.Yard False
  /-- the entries -/
  all : t.Protective
  /-- no selection -/
  slots : ∀ q, t.slot q = none
  /-- the open steps -/
  opened : ∀ k, derivedState s k = .discharging → t.stepRec k =
    if tripped then recordAfter (derivedRecord s k) .lockout (some .external) none else derivedRecord s k
  /-- the OUT and the FAILED steps -/
  stays : ∀ k, derivedState s k = .out ∨ derivedState s k = .failed → t.stepRec k = derivedRecord s k
  /-- the CLOSED steps -/
  closed : ∀ k, derivedState s k = .closed → t.Opening k

theorem derivedState_cases (s : State) (k : StepId) : derivedState s k = .closed ∨ derivedState s k = .discharging
    ∨ derivedState s k = .out ∨ derivedState s k = .failed := by
  unfold derivedState
  split_ifs
  · simp
  · split <;> simp

theorem State.Derived.state {s d : State} (derived : s.Derived d) (k : StepId) :
    (d.stepRec k).state = some (derivedState s k) := by
  rw [derived.records]
  exact (derivedRecord_fields s k).1

theorem State.Derived.stage {s d : State} (derived : s.Derived d) : s.Stage d false where
  yard := derived.yard
  all e mem := absurd mem (by rw [derived.entries]; exact List.not_mem_nil)
  slots := derived.slots
  opened k _ := derived.records k
  stays k _ := derived.records k
  closed k is := derived.yard.queue.opening (by rw [derived.state, is])

/-- The step of an OPEN or TRIP is CLOSED or opens (R48). -/
theorem Entry.stepState_protective {e : Entry} (is : e.Protective) :
    some e.stepState = some StepState.closed ∨ some e.stepState = some StepState.opening := by
  have other := is.1
  cases status : e.status <;> cases kind : e.kind <;> simp_all [Entry.stepState]

section
variable {s u : State} {b : Bool} (stage : s.Stage u b)
include stage

/-- The state of a step that derivation did not close. -/
theorem State.Stage.state {k : StepId} (away : derivedState s k ≠ .closed) : (u.stepRec k).state =
    some (if b = true ∧ derivedState s k = .discharging then .lockout else derivedState s k) := by
  have own := (derivedRecord_fields s k).1
  rcases derivedState_cases s k with is | is | is | is
  · exact absurd is away
  · rw [stage.opened k is]
    cases b with
    | false => simp [own]
    | true => simp [(recordAfter_state _ _ _ _).1, is]
  · rw [stage.stays k (.inl is), own]
    simp [is]
  · rw [stage.stays k (.inr is), own]
    simp [is]

/-- A step that derivation did not close has no entry. -/
theorem State.Stage.free {k : StepId} (away : derivedState s k ≠ .closed) : u.entryOf k = none := by
  refine stage.yard.queue.none_of_away (stage.state away) ?_
  have notReady := derivedState_ne_ready s k
  rcases derivedState_cases s k with is | is | is | is
  · exact absurd is away
  all_goals
    rw [is]
    cases b <;> decide

/-- The entry list of an OPEN ALL. -/
theorem State.Stage.joined : s.Stage (u.joined ((allSteps.filter u.joinable).map u.avcOpen)) b := by
  have expanded := State.expandAll_joins stage.all
  have yard : (u.expandAll .avc none true).1.Yard False := expandOne_keepsYard .avc none true allSteps (u, []) False stage.yard
  rw [expanded] at yard
  generalize h : u.joined ((allSteps.filter u.joinable).map u.avcOpen) = v at yard ⊢
  have records : ∀ k, v.stepRec k = u.stepRec k := fun k => by rw [← h]; rfl
  have entries : v.oq.entries = u.oq.entries ++ (allSteps.filter u.joinable).map u.avcOpen := by rw [← h]; rfl
  have new : ∀ e ∈ v.oq.entries, e ∈ u.oq.entries ∨ ∃ j, e = u.avcOpen j := fun e mem => by
    rw [entries] at mem
    rcases List.mem_append.mp mem with old | new
    · exact .inl old
    · obtain ⟨j, -, rfl⟩ := List.mem_map.mp new
      exact .inr ⟨j, rfl⟩
  refine ⟨yard, fun e mem => ?_, fun q => ?_, fun k is => ?_, fun k is => ?_, fun k is => ⟨?_, fun e found => ?_⟩⟩
  · rcases new e mem with old | ⟨j, rfl⟩
    · exact stage.all e old
    · exact u.avcOpen_protective j
  · rw [← h]
    exact stage.slots q
  · rw [records, stage.opened k is]
  · rw [records, stage.stays k is]
  · rw [records]
    exact (stage.closed k is).1
  · obtain ⟨mem, own⟩ := State.mem_of_entryOf found
    rcases new e mem with old | ⟨j, rfl⟩
    · exact (stage.closed k is).2 e (own ▸ entryOf_eq stage.yard.queue.1 old)
    · exact .inr rfl

theorem State.Stage.examine : s.Stage u.examine b := by
  have quiet : ∀ k, derivedState s k ≠ .closed → u.examine.stepRec k = u.stepRec k := fun k away =>
    ((State.Quiet.of_none (stage.free away)).examine stage.yard.queue.1).1
  obtain ⟨all, slots, -⟩ := u.protective_edgeKeeps.examine u stage.yard ⟨stage.all, stage.slots, State.onlyIn_refl u _⟩
  refine ⟨u.examine_keepsYard False stage.yard, all, slots, fun k is => ?_, fun k is => ?_, fun k is => ?_⟩
  · rw [quiet k (by simp [is]), stage.opened k is]
  · rw [quiet k (by rcases is with h | h <;> simp [h]), stage.stays k is]
  · exact (State.opening_edgeKeeps k).examine u stage.yard (stage.closed k is)

theorem State.Stage.congr {t : State} (only : u.onlyIn t [.avc]) : s.Stage t b where
  yard := (State.SameYard.of_blocks (only .ss (by decide)) (only .oq (by decide))
    (congrArg UpuState.backup (only .upu (by decide))) (congrArg SetState.derived (only .set (by decide)))).yard stage.yard
  all := stage.all.congr (only .oq (by decide))
  slots q := (State.slot_congr (only .au (by decide)) q).trans (stage.slots q)
  opened k is := (only.stepRec (by decide) k).trans (stage.opened k is)
  stays k is := (only.stepRec (by decide) k).trans (stage.stays k is)
  closed k is := by
    rw [State.Opening, only.stepRec (by decide), only.entryOf (by decide)]
    exact stage.closed k is

end

/-- What the OPEN ALL of the AVC makes of a stage (R97, R116, R204). -/
structure State.OpensAll (s u t : State) (b : Bool) : Prop where
  /-- a stage -/
  stage : s.Stage t b
  /-- the queue of the examination -/
  examined : (u.joined ((allSteps.filter u.joinable).map u.avcOpen)).examine.onlyIn t [.avc]
  /-- the blocks -/
  only : u.onlyIn t [.ss, .oq, .cu, .avc, .upu, .pi, .os]
  /-- the results -/
  avc : t.avc = { u.avc with
    lastOpenAll := some
      { frame := u.me.frame.number
        uptime := u.clock.uptime
        count := acceptedCount (allSteps.map fun k => (u.post (openPosting .avc none true k)).2)
        answers := allSteps.map fun k => (u.post (openPosting .avc none true k)).2 }
    lastDecision := some
      { decision := .openAllPosted (acceptedCount (allSteps.map fun k => (u.post (openPosting .avc none true k)).2))
        frame := u.me.frame.number } }
  /-- the inputs, the flags and the protection's records -/
  retains : u.Retains t

theorem State.Stage.opensAll {s u : State} {b : Bool} (stage : s.Stage u b) : s.OpensAll u u.deadOpenAll b := by
  have opened := u.expandAll_openedAll .avc none true
  have expanded := State.expandAll_joins stage.all
  obtain ⟨⟨v, given⟩, is⟩ : ∃ r, r = u.expandAll .avc none true := ⟨_, rfl⟩
  rw [← is] at opened expanded
  have listed : given = allSteps.map (fun k => (u.post (openPosting .avc none true k)).2) := opened.answers
  have expanded' : v = u.joined ((allSteps.filter u.joinable).map u.avcOpen) := expanded
  obtain ⟨avc, rest⟩ := u.deadOpenAll_avc is.symm
  have joined : s.Stage v b := expanded' ▸ stage.joined
  have only : u.onlyIn v [.oq] := expanded' ▸ u.joined_onlyIn _
  have retained := v.examine_retains
  generalize u.deadOpenAll = t at avc rest ⊢
  refine ⟨joined.examine.congr rest, expanded' ▸ rest, ?_, ?_, ?_⟩
  · exact State.onlyIn_trans (State.onlyIn_trans (State.onlyIn_mono only (by decide))
      (State.onlyIn_mono (State.examine_unselected joined.slots) (by decide))) (State.onlyIn_mono rest (by decide))
  · rw [avc, listed, only .avc (by decide)]
  · exact ((State.Retains.of_onlyIn only (by decide) (by decide) (by decide)).trans retained).trans
      (.of_onlyIn rest (by decide) (by decide) (by decide))

/-! ## The parts of the external trip -/

theorem State.externalParts_control (w : State) : w.SameControl w.externalParts := by
  have posts : w.SameControl w.externalPosts := by
    unfold State.externalPosts
    exact .foldl _ (fun t k => .ite _ (t.admitOne_control _) (.refl t)) _ w
  have locks : w.externalPosts.SameControl w.externalPosts.lockOutOpen := by
    rw [State.lockOutOpen_eq]
    exact .foldl _ (fun t k => .ite _ (t.enter_control k _ _ _) (.refl t)) _ _
  have left : w.externalPosts.lockOutOpen.SameControl w.externalParts := by
    rw [State.externalParts]
    rcases w.externalPosts.lockOutOpen.examineIfLeft_cases w.externalPosts with same | examined
    · rw [same]
      exact .refl _
    · rw [examined]
      exact State.examine_control _
  exact (posts.trans locks).trans left

/-- The parts of the external trip make the stage behind them (R149, R150, R204). -/
theorem State.Stage.trips {s u : State} (stage : s.Stage u false) : s.Stage u.externalParts true := by
  obtain ⟨-, -, slots, all⟩ := State.externalParts_protective stage.yard stage.all stage.slots
  refine ⟨u.externalParts_keepsYard False stage.yard, all, slots, fun k is => ?_, fun k is => ?_, fun k is => ?_⟩
  · have state := stage.state (k := k) (by simp [is])
    have own := stage.opened k is
    simp only [is] at state
    rw [State.externalParts_locksOut stage.yard (.inr (by simpa using state)) (stage.free (by simp [is])), own]
    rfl
  · have away : derivedState s k ≠ .closed := by rcases is with h | h <;> simp [h]
    have state := stage.state away
    have own := stage.stays k is
    rw [State.externalParts_leaves stage.yard ?_ ?_ (.of_none (stage.free away)), own]
    · rw [state]
      rcases is with h | h <;> simp [h]
    · rw [State.IsOpen, state]
      rcases is with h | h <;> simp [h]
  · obtain ⟨e, entry, trips⟩ := State.externalParts_trips stage.yard (stage.closed k is)
    have yard := u.externalParts_keepsYard False stage.yard
    generalize u.externalParts = t at all entry yard ⊢
    obtain ⟨mem, own⟩ := State.mem_of_entryOf entry
    refine ⟨?_, fun x found => .inl (Option.some.inj (entry.symm.trans found) ▸ trips)⟩
    rw [← own, (yard.queue.2.2.1 e mem).1]
    exact Entry.stepState_protective (all e mem)

end Sys2Proof.Machine
end

section
/-!
SUPPORT. The Operation Queue at the end of derivation (R204): the entries that the postings of the external trip give,
one by one.
-/
namespace Sys2Proof.Machine

/-- The turn of a step among the postings of the external trip (R149). -/
def State.tripOne (u : State) (k : StepId) : State :=
  if u.externallyTripped k then (u.admitOne (externalTrip k)).1 else u

theorem State.externalPosts_eq (u : State) : u.externalPosts = allSteps.foldl State.tripOne u := rfl

theorem State.tripOne_yard {u : State} (yard : u.Yard False) (k : StepId) : (u.tripOne k).Yard False :=
  (State.KeepsYard.ite _ (u.admitOne_keepsYard _) (.refl u) : u.KeepsYard (u.tripOne k)) False yard

/-- The entry that the external trip gives a CLOSED step without one (R53). -/
def State.tripEntry (u : State) (k : StepId) : Entry := u.newEntry (externalTrip k)

/-! ## Steps without an entry -/

theorem State.tripOne_closed {u : State} {k : StepId} (free : u.entryOf k = none) (closed : (u.stepRec k).state = some .closed) :
    u.tripOne k = (u.admitNew (externalTrip k)).examine := by
  have tripped : u.externallyTripped k = true := u.externallyTripped_iff k |>.mpr (.inl closed)
  rw [State.tripOne, if_pos tripped, State.admitOne, State.post_trip_closed (p := externalTrip k) rfl free closed]

theorem State.tripOne_idle {u : State} (yard : u.Yard False) {k : StepId} (idle : u.inFlight ≠ none ∨ u.oq.entries = []) (free : u.entryOf k = none)
    (away : (u.stepRec k).state ≠ some .closed) :
    (∀ j, (u.tripOne k).stepRec j = u.stepRec j) ∧ u.onlyIn (u.tripOne k) [.ss, .upu, .pi] := by
  by_cases tripped : u.externallyTripped k = true
  · have posts := State.postsTrip yard tripped
    have failed : (u.stepRec k).state = some .failed ∧ (u.stepRec k).position ≠ some .atOpen := by
      rcases u.externallyTripped_iff k |>.mp tripped with h | h | h | h
      · exact absurd h away
      · obtain ⟨e, entry, -⟩ := yard.queue.moving (.inl h)
        exact absurd (free.symm.trans entry) (by simp)
      · obtain ⟨e, entry, -⟩ := yard.queue.moving (.inr h)
        exact absurd (free.symm.trans entry) (by simp)
      · exact h
    have posted : (u.post (externalTrip k)).1 = u.assertBkt k .failedStep .external := by
      rw [State.post_trip (p := externalTrip k) rfl free, State.postTrip_failed (p := externalTrip k) failed.1]
      exact congrArg Prod.fst (if_neg failed.2)
    have only := u.assertBkt_onlyIn k .failedStep .external
    rw [State.tripOne, if_pos tripped, State.admitOne]
    rw [posted] at posts ⊢
    have still : (u.assertBkt k .failedStep .external).examine = u.assertBkt k .failedStep .external :=
      State.examine_idle (by rwa [only.inFlight (by decide), only .oq (by decide)])
    rw [still]
    exact ⟨posts.records, State.onlyIn_mono only (by decide)⟩
  · rw [State.tripOne, if_neg tripped]
    exact ⟨fun _ => rfl, State.onlyIn_refl u _⟩

/-- With an operation in flight the CLOSED steps without an entry get their TRIPs in step order (R149). -/
theorem State.tripOne_appends : ∀ (l : List StepId) (u : State), l.Nodup → u.Yard False → u.inFlight ≠ none →
    (∀ k ∈ l, u.entryOf k = none) → (l.foldl State.tripOne u).oq.entries
      = u.oq.entries ++ (l.filter fun k => decide ((u.stepRec k).state = some .closed)).map u.tripEntry := by
  intro l
  induction l with
  | nil => simp
  | cons k l ih =>
    intro u nodup yard flies free
    obtain ⟨fresh, nodup'⟩ := List.nodup_cons.mp nodup
    have none_ := free k List.mem_cons_self
    have yard' := State.tripOne_yard yard k
    rw [List.foldl_cons]
    by_cases closed : (u.stepRec k).state = some .closed
    · have turn : u.tripOne k = u.admitNew (externalTrip k) := by
        rw [State.tripOne_closed none_ closed]
        exact State.examine_inFlight _ (by rwa [State.admitNew_inFlight])
      rw [turn] at yard' ⊢
      rw [ih _ nodup' yard' (by rwa [State.admitNew_inFlight]) fun j mem =>
        (State.admitNew_spares u (p := externalTrip k) fun (h : j = k) => fresh (h ▸ mem)).2.trans (free j (List.mem_cons_of_mem k mem)),
        State.admitNew_oq, List.filter_cons_of_pos (by simpa using closed), List.map_cons, List.append_assoc]
      rfl
    · obtain ⟨records, only⟩ := State.tripOne_idle yard (.inl flies) none_ closed
      have entry : ∀ j, (u.tripOne k).tripEntry j = u.tripEntry j := fun j => by
        rw [State.tripEntry, State.newEntry, only .clock (by decide)]
        rfl
      rw [ih _ nodup' yard' (by rwa [only.inFlight (by decide)]) fun j mem =>
        (only.entryOf (by decide) j).trans (free j (List.mem_cons_of_mem k mem)), only .oq (by decide),
        List.filter_cons_of_neg (by simpa using closed)]
      simp only [records]
      exact congrArg _ (List.map_congr_left fun j _ => entry j)

/-- The first TRIP of an empty list is dispatched at once (R61, R62). -/
theorem State.examine_first_trip {u : State} (none_ : u.oq.entries = []) (k : StepId) :
    (u.admitNew (externalTrip k)).examine.oq.entries = [(u.tripEntry k).flying]
      ∧ ∀ j, j ≠ k → (u.admitNew (externalTrip k)).examine.stepRec j = u.stepRec j := by
  let w := u.admitNew (externalTrip k)
  have entries : w.oq.entries = [u.tripEntry k] := by rw [State.admitNew_oq, none_]; rfl
  have idle : w.inFlight = none := State.inFlight_none_iff.mpr fun e mem => by
    rw [entries] at mem
    rw [List.mem_singleton.mp mem]
    rfl
  have oldest : w.oldestWaiting .tripOp = some (u.tripEntry k) := by
    rw [State.oldestWaiting, entries]
    simp [State.tripEntry, State.newEntry, externalTrip]
  have examined : w.examine = w.dispatchEntry (u.tripEntry k) :=
    State.examine_of_choice idle (State.chooseEntry_trip oldest)
  obtain ⟨others, moved⟩ := w.dispatchEntry_ne (u.tripEntry k)
  refine ⟨?_, fun j other => ?_⟩
  · show w.examine.oq.entries = _
    rw [examined, moved, entries]
    simp [Entry.flying]
  · show w.examine.stepRec j = _
    rw [examined]
    exact others j other

/-- From an empty list the first of the CLOSED steps is dispatched and the others wait (R149, R60). -/
theorem State.tripOne_fills : ∀ (l : List StepId) (u : State), l.Nodup → u.Yard False → u.oq.entries = [] →
    (l.foldl State.tripOne u).oq.entries = match l.filter fun k => decide ((u.stepRec k).state = some .closed) with
      | [] => []
      | k :: m => (u.tripEntry k).flying :: m.map u.tripEntry := by
  intro l
  induction l with
  | nil => exact fun u _ _ none_ => none_
  | cons k l ih =>
    intro u nodup yard none_
    obtain ⟨fresh, nodup'⟩ := List.nodup_cons.mp nodup
    have free : ∀ j, u.entryOf j = none := fun j => by rw [State.entryOf, none_]; rfl
    have yard' := State.tripOne_yard yard k
    rw [List.foldl_cons]
    by_cases closed : (u.stepRec k).state = some .closed
    · rw [State.tripOne_closed (free k) closed] at yard' ⊢
      obtain ⟨first, others⟩ := State.examine_first_trip none_ k
      have clock : (u.admitNew (externalTrip k)).examine.clock = u.clock := State.examine_onlyIn _ .clock (by decide)
      rw [List.filter_cons_of_pos (by simpa using closed)]
      generalize (u.admitNew (externalTrip k)).examine = w at yard' first others clock ⊢
      have flies : w.inFlight ≠ none := fun idle => by
        have waits := State.inFlight_none_iff.mp idle _ (first ▸ List.mem_singleton_self _)
        cases waits
      have entry : ∀ j, w.tripEntry j = u.tripEntry j := fun j => by rw [State.tripEntry, State.newEntry, clock]; rfl
      rw [State.tripOne_appends l w nodup' yard' flies fun j mem => State.entryOf_none_iff.mpr fun e there own => by
        rw [first, List.mem_singleton] at there
        rw [there] at own
        exact fresh ((show k = j from own) ▸ mem), first]
      have same : (l.filter fun j => decide ((w.stepRec j).state = some .closed))
          = l.filter fun j => decide ((u.stepRec j).state = some .closed) :=
        List.filter_congr fun j mem => by rw [others j fun h => fresh (h ▸ mem)]
      rw [same]
      exact congrArg _ (List.map_congr_left fun j _ => entry j)
    · obtain ⟨records, only⟩ := State.tripOne_idle yard (.inr none_) (free k) closed
      have entry : ∀ j, (u.tripOne k).tripEntry j = u.tripEntry j := fun j => by
        rw [State.tripEntry, State.newEntry, only .clock (by decide)]
        rfl
      rw [ih _ nodup' yard' (by rw [only .oq (by decide)]; exact none_), List.filter_cons_of_neg (by simpa using closed)]
      simp only [records, funext entry]

end Sys2Proof.Machine
end

section
/-!
SUPPORT. The postings of the external trip behind the OPEN ALL (R204): the dispatched OPEN takes a mark, the waiting
ones are upgraded.
-/
namespace Sys2Proof.Machine

/-- What a TRIP of the external trip makes of an OPEN (R55, R58). -/
def Entry.tripped (e : Entry) : Entry :=
  if e.status = .inFlight then { e with mark := some (markOf (externalTrip e.step)) } else e.upgraded (externalTrip e.step)

theorem Entry.tripped_step (e : Entry) : e.tripped.step = e.step := by
  unfold Entry.tripped
  split <;> rfl

/-- What of the AVC's last result O59 speaks of. -/
def State.told (u : State) : Option (Option StepId × OpKind × OutcomeResult) :=
  u.avc.lastResult.map fun r => (some r.step, r.kind, r.result)

/-- The steps whose entry waits. -/
def State.waitsFor (u : State) (k : StepId) : Bool := (u.entryOf k).any fun e => e.status = .waiting

/-- An unmarked OPEN of the AVC. -/
def Entry.AvcOpen (e : Entry) : Prop := e.kind = .openOp ∧ e.mark = none ∧ e.originator = .avc

/-- One turn with an operation in flight, in a list of OPENs of the AVC. -/
theorem State.tripOne_replaces {u : State} (yard : u.Yard False) (flies : u.inFlight ≠ none) {k : StepId}
    (opens : ∀ e, u.entryOf k = some e → e.AvcOpen) (has : u.entryOf k = none → (u.stepRec k).state ≠ some .closed) :
    (u.tripOne k).oq.entries = u.oq.entries.map (fun e => if e.step = k then e.tripped else e)
      ∧ (u.tripOne k).inFlight ≠ none
      ∧ (∀ j, (u.tripOne k).stepRec j = u.stepRec j)
      ∧ (∀ j, j ≠ k → (u.tripOne k).entryOf j = u.entryOf j)
      ∧ (u.tripOne k).told = if u.waitsFor k then some (some k, .openOp, .superseded) else u.told := by
  cases entry : u.entryOf k with
  | none =>
    obtain ⟨records, only⟩ := State.tripOne_idle yard (.inl flies) entry (has entry)
    have absent : u.oq.entries.map (fun e => if e.step = k then e.tripped else e) = u.oq.entries :=
      (List.map_congr_left fun e mem => if_neg (State.entryOf_none_iff.mp entry e mem)).trans (List.map_id _)
    refine ⟨by rw [absent, only .oq (by decide)], by rwa [only.inFlight (by decide)], records,
      fun j _ => only.entryOf (by decide) j, ?_⟩
    rw [State.told, only .avc (by decide), State.waitsFor, entry]
    rfl
  | some e =>
    obtain ⟨kind, unmarked, avc⟩ := opens e entry
    obtain ⟨mem, own⟩ := State.mem_of_entryOf entry
    have state := (yard.queue.2.2.1 e mem).1
    rw [own] at state
    have present : (u.stepRec k).state ≠ none := by simp [state]
    have only : ∀ x ∈ u.oq.entries, x.step = k → x = e := fun x memX is =>
      Option.some.inj ((is ▸ entryOf_eq yard.queue.1 memX : u.entryOf k = some x).symm.trans entry)
    have turn : (u.post (externalTrip k)).1.inFlight ≠ none → u.externallyTripped k = true →
        u.tripOne k = (u.post (externalTrip k)).1 := fun flies' tripped => by
      rw [State.tripOne, if_pos tripped, State.admitOne]
      exact State.examine_inFlight _ flies'
    cases status : e.status with
    | waiting =>
      have closed : (u.stepRec k).state = some .closed := by rw [state]; simp [Entry.stepState, status, kind]
      have tripped : u.externallyTripped k = true := u.externallyTripped_iff k |>.mpr (.inl closed)
      have posts := State.postsTrip yard tripped
      rw [turn (posts.flight flies) tripped]
      refine ⟨?_, posts.flight flies, posts.records, posts.others, ?_⟩
      all_goals rw [State.post_onWaitingOpen (p := externalTrip k) present entry status kind, State.postOnWaitingOpen_trip rfl]
      · rw [State.entryResult_onlyIn _ e .superseded .oq (by decide)]
        refine List.map_congr_left fun x memX => ?_
        by_cases is : x.step = k
        · rw [only x memX is, Entry.tripped, status, own]
          rfl
        · simp [is, externalTrip]
      · rw [if_pos (by simp [State.waitsFor, entry, status])]
        simp [State.told, State.entryResult, State.giveResult, avc, own, kind]
    | inFlight =>
      have opening : (u.stepRec k).state = some .opening := by rw [state]; simp [Entry.stepState, status, kind]
      have tripped : u.externallyTripped k = true := u.externallyTripped_iff k |>.mpr (.inr (.inr (.inl opening)))
      have posts := State.postsTrip yard tripped
      rw [turn (posts.flight flies) tripped]
      have marks : (u.post (externalTrip k)).1 = u.setMark (externalTrip k) := by
        rw [State.post_onFlightOpen (p := externalTrip k) present entry status (by simp [kind])]
        exact congrArg Prod.fst (if_pos ⟨kind, unmarked⟩)
      refine ⟨?_, posts.flight flies, posts.records, posts.others, ?_⟩
      all_goals rw [marks]
      · refine List.map_congr_left fun x memX => ?_
        by_cases is : x.step = k
        · subst own
          rw [only x memX is, Entry.tripped, if_pos status]
          rfl
        · simp [is, externalTrip]
      · rw [if_neg (by simp [State.waitsFor, entry, status])]
        rfl

/-- All the turns: every OPEN of the AVC is tripped in its place, and the last one that waited is told of (R149). -/
theorem State.tripOne_upgrades : ∀ (l : List StepId) (u : State), l.Nodup → u.Yard False → u.inFlight ≠ none →
    (∀ k ∈ l, ∀ e, u.entryOf k = some e → e.AvcOpen) →
    (∀ k ∈ l, u.entryOf k = none → (u.stepRec k).state ≠ some .closed) →
    (l.foldl State.tripOne u).oq.entries = u.oq.entries.map (fun e => if e.step ∈ l then e.tripped else e)
      ∧ (l.foldl State.tripOne u).told
        = (((l.filter u.waitsFor).getLast?.map fun k => (some k, OpKind.openOp, OutcomeResult.superseded)).or u.told) := by
  intro l
  induction l with
  | nil => exact fun u _ _ _ _ _ => ⟨by simp, by simp⟩
  | cons k l ih =>
    intro u nodup yard flies opens has
    obtain ⟨fresh, nodup'⟩ := List.nodup_cons.mp nodup
    obtain ⟨entries, flies', records, kept, told⟩ := State.tripOne_replaces yard flies (opens k List.mem_cons_self)
      (has k List.mem_cons_self)
    have yard' := State.tripOne_yard yard k
    rw [List.foldl_cons]
    generalize u.tripOne k = w at entries flies' records kept told yard' ⊢
    have others : ∀ j ∈ l, w.entryOf j = u.entryOf j := fun j mem => kept j fun h => fresh (h ▸ mem)
    obtain ⟨rest, last⟩ := ih w nodup' yard' flies' (fun j mem e found => opens j (List.mem_cons_of_mem k mem) e ((others j mem).symm.trans found))
      fun j mem none_ => by rw [records]; exact has j (List.mem_cons_of_mem k mem) ((others j mem).symm.trans none_)
    constructor
    · rw [rest, entries, List.map_map]
      refine List.map_congr_left fun x memX => ?_
      by_cases own : x.step = k
      · have away : x.tripped.step ∉ l := by rw [x.tripped_step, own]; exact fresh
        simp [own, away]
      · simp [own]
    · have same : l.filter w.waitsFor = l.filter u.waitsFor :=
        List.filter_congr fun j mem => by rw [State.waitsFor, State.waitsFor, others j mem]
      rw [last, told, same]
      by_cases waits : u.waitsFor k = true
      · rw [List.filter_cons_of_pos waits, if_pos waits]
        cases tail : l.filter u.waitsFor with
        | nil => rfl
        | cons j m => simp [List.getLast?_cons]
      · rw [List.filter_cons_of_neg waits, if_neg waits]

end Sys2Proof.Machine
end

section
/-!
A.11 Start-up (R203, R204): what stands at the end of derivation.
-/
namespace Sys2Proof.Machine

/-- The OPEN ALL of a DEAD line (R97, R204). -/
def State.endOpens (u : State) (dead : Bool) : State := if dead then u.deadOpenAll else u

/-- The parts of a standing external trip (R149, R150, R204). -/
def State.endTrips (u : State) (trip : Bool) : State := if trip then u.externalParts else u

/-! ## The answers -/

/-- The answer of a step to the OPEN ALL (R52, R56, R58). -/
theorem State.Stage.answer {s u : State} {b : Bool} (stage : s.Stage u b) {k : StepId}
    (has : derivedState s k = .closed → (u.entryOf k).isSome = b) :
    (u.post (openPosting .avc none true k)).2 = derivedAnswer b (derivedState s k) := by
  let p := openPosting .avc none true k
  by_cases is : derivedState s k = .closed
  · have state := (stage.closed k is).1
    have present : (u.stepRec k).state ≠ none := by rcases state with h | h <;> simp [h]
    rw [is]
    cases entry : u.entryOf k with
    | none =>
      have none_ : b = false := by rw [← has is, entry]; rfl
      have closed : (u.stepRec k).state = some .closed := state.resolve_right fun h => by
        obtain ⟨e, found, -⟩ := stage.yard.queue.moving (.inr h)
        exact absurd (entry.symm.trans found) (by simp)
      rw [State.post_open_of_entryOf_none (p := p) rfl entry, State.postOpen, none_]
      simp [p, openPosting, closed, derivedAnswer]
    | some e =>
      have some_ : b = true := by rw [← has is, entry]; rfl
      rw [State.post_open_pending (p := p) rfl present entry (stage.all e (State.mem_of_entryOf entry).1).1, some_]
      rfl
  · have state := stage.state is
    rw [State.post_open_of_entryOf_none (p := p) rfl (stage.free is), State.postOpen]
    have own : (u.stepRec p.step).state = (u.stepRec k).state := rfl
    rw [own, state]
    rcases derivedState_cases s k with h | h | h | h
    · exact absurd h is
    all_goals
      rw [h]
      cases b <;> rfl

/-! ## The entries -/

theorem State.Tripping.joined {u : State} {k : StepId} (tripping : u.Tripping k) (l : List Entry) : (u.joined l).Tripping k := by
  obtain ⟨e, entry, trips⟩ := tripping
  refine ⟨e, ?_, trips⟩
  show (u.oq.entries ++ l).find? _ = some e
  rw [List.find?_append]
  have found : u.oq.entries.find? (fun e => decide (e.step = k)) = some e := entry
  rw [found]
  rfl

theorem State.OpensAll.tripping {s u t : State} {b : Bool} (opens : s.OpensAll u t b) {k : StepId} (tripping : u.Tripping k) :
    t.Tripping k := by
  obtain ⟨e, entry, trips⟩ := (tripping.joined ((allSteps.filter u.joinable).map u.avcOpen)).examine
  exact ⟨e, (opens.examined.entryOf (by decide) k).trans entry, trips⟩

/-- After the OPEN ALL every CLOSED step has an entry (R59). -/
theorem State.OpensAll.entry {s u t : State} {b : Bool} (stage : s.Stage u b) (opens : s.OpensAll u t b) {k : StepId}
    (is : derivedState s k = .closed) : ∃ e, t.entryOf k = some e := by
  have before : ((u.expandAll .avc none true).1.entryOf k).isSome = true := by
    refine State.expandAll_entryOf .avc none true ?_ ?_
    · refine (stage.closed k is).1.imp_right fun h => ?_
      obtain ⟨e, found, -⟩ := stage.yard.queue.moving (.inr h)
      rw [found]
      rfl
    · unfold State.removable
      cases found : u.entryOf k with
      | none => simp
      | some e => simp [(stage.all e (State.mem_of_entryOf found).1).1]
  rw [State.expandAll_joins stage.all, ← State.examine_entryOf_isSome, ← opens.examined.entryOf (by decide)] at before
  exact Option.isSome_iff_exists.mp before

/-- What O59 says of an entry. -/
def Entry.shape (e : Entry) : StepId × OpKind × Originator × EntryStatus × Option Mark :=
  (e.step, e.kind, e.originator, e.status, e.mark)

/-- A list of steps whose first one has its entry in flight. -/
theorem map_head_shapes (g : Bool → OpKind × Originator × EntryStatus × Option Mark) {h : StepId} {m : List StepId}
    (nodup : (h :: m).Nodup) : (h :: m).map (fun k => (k, g (decide ((h :: m).head? = some k))))
      = (h, g true) :: m.map fun k => (k, g false) := by
  obtain ⟨fresh, -⟩ := List.nodup_cons.mp nodup
  rw [List.map_cons]
  congr 1
  · simp
  · refine List.map_congr_left fun k mem => ?_
    have other : h ≠ k := fun same => fresh (same ▸ mem)
    simp [other]

/-- In a list of new OPENs of the AVC the first is dispatched when the yard has settled (R60, R61). -/
theorem State.examine_avcOpens {u : State} (none_ : u.oq.entries = []) (settled : u.cu.settle = 0) {h : StepId}
    {m : List StepId} (nodup : (h :: m).Nodup) :
    (u.joined ((h :: m).map u.avcOpen)).examine.oq.entries = (u.avcOpen h).flying :: m.map u.avcOpen := by
  let w := u.joined ((h :: m).map u.avcOpen)
  obtain ⟨fresh, -⟩ := List.nodup_cons.mp nodup
  have entries : w.oq.entries = (h :: m).map u.avcOpen := by
    show u.oq.entries ++ _ = _
    rw [none_, List.nil_append]
  have opens : ∀ e ∈ w.oq.entries, e.status = .waiting ∧ e.kind = .openOp := fun e mem => by
    rw [entries] at mem
    obtain ⟨j, -, rfl⟩ := List.mem_map.mp mem
    exact ⟨rfl, rfl⟩
  have idle : w.inFlight = none := State.inFlight_none_iff.mpr fun e mem => (opens e mem).1
  have noTrip : w.oldestWaiting .tripOp = none := State.oldestWaiting_none_iff.mpr fun e mem both => by
    rw [(opens e mem).2] at both
    cases both.2
  have oldest : w.oldestWaiting .openOp = some (u.avcOpen h) := by
    rw [State.oldestWaiting, entries, List.map_cons]
    exact List.find?_cons_of_pos (by simp [State.avcOpen, State.newEntry, openPosting])
  show w.examine.oq.entries = _
  rw [State.examine_of_choice idle (State.chooseEntry_open noTrip settled oldest), (w.dispatchEntry_ne (u.avcOpen h)).2, entries,
    List.map_cons, List.map_cons, if_pos rfl, List.map_map]
  refine congrArg (List.cons _) (List.map_congr_left fun j mem => if_neg ?_)
  exact fun (same : j = h) => fresh (same ▸ mem)

section
variable {s d : State} (derived : s.Derived d)
include derived

theorem State.Derived.joinable : d.joinable = fun k => decide (derivedState s k = .closed) := by
  funext k
  have free : d.entryOf k = none := by rw [State.entryOf, derived.entries]; rfl
  rw [State.joinable, derived.state, free]
  simp

/-- The entries that the parts of the external trip give alone (R204). -/
theorem State.Derived.trip_shapes : d.externalParts.oq.entries.map Entry.shape =
    (derivedClosed s allSteps).map fun k => (k, OpKind.tripOp, Originator.external,
      (if decide ((derivedClosed s allSteps).head? = some k) then EntryStatus.inFlight else .waiting), none) := by
  obtain ⟨-, locks, -⟩ := State.externalParts_protective derived.stage.yard derived.stage.all derived.stage.slots
  have fills := State.tripOne_fills allSteps d (List.nodup_finRange 8) derived.yard derived.entries
  have nodup : (derivedClosed s allSteps).Nodup := (List.nodup_finRange 8).filter _
  have same : (allSteps.filter fun k => decide ((d.stepRec k).state = some .closed)) = derivedClosed s allSteps :=
    List.filter_congr fun k _ => by rw [derived.state]; simp
  rw [locks .oq (by decide), d.externalPosts_eq, fills, same]
  cases closed : derivedClosed s allSteps with
  | nil => rfl
  | cons h m =>
    rw [closed] at nodup
    rw [map_head_shapes (fun head => (.tripOp, .external, if head then .inFlight else .waiting, none)) nodup, List.map_cons,
      List.map_map]
    rfl

/-- The entries that the OPEN ALL gives alone in a settled yard (R204). -/
theorem State.Derived.open_entries (settled : s.cu.settle = 0) : d.deadOpenAll.oq.entries =
    match derivedClosed s allSteps with
    | [] => []
    | h :: m => (d.avcOpen h).flying :: m.map d.avcOpen := by
  have opens := derived.stage.opensAll
  have settled' : d.cu.settle = 0 := derived.settle.trans settled
  have nodup : (derivedClosed s allSteps).Nodup := (List.nodup_finRange 8).filter _
  have list : allSteps.filter d.joinable = derivedClosed s allSteps := by rw [derived.joinable]; rfl
  rw [opens.examined .oq (by decide), list]
  cases closed : derivedClosed s allSteps with
  | nil =>
    rw [List.map_nil, d.joined_nil, State.examine_empty d derived.entries]
    exact derived.entries
  | cons h m => exact State.examine_avcOpens derived.entries settled' (closed ▸ nodup)

/-- The entries that the parts of the external trip leave behind the OPEN ALL (R55, R58, R204). -/
theorem State.Derived.open_trip_shapes (settled : s.cu.settle = 0) :
    d.deadOpenAll.externalParts.oq.entries.map Entry.shape =
      (derivedClosed s allSteps).map (fun k =>
        (k, derivedEntry true true true (decide ((derivedClosed s allSteps).head? = some k))))
      ∧ (2 ≤ (derivedClosed s allSteps).length →
        d.deadOpenAll.externalParts.told = some ((derivedClosed s allSteps).getLast?, .openOp, .superseded)) := by
  have entries := derived.open_entries settled
  have stage := derived.stage.opensAll.stage
  have nodup : (derivedClosed s allSteps).Nodup := (List.nodup_finRange 8).filter _
  obtain ⟨-, locks, -⟩ := State.externalParts_protective stage.yard stage.all stage.slots
  generalize d.deadOpenAll = u at entries stage locks ⊢
  have told : u.externalParts.told = u.externalPosts.told := by rw [State.told, locks .avc (by decide), State.told]
  rw [locks .oq (by decide), told]
  have closedIff : ∀ k, k ∈ derivedClosed s allSteps ↔ derivedState s k = .closed := fun k => by
    simp [derivedClosed, mem_allSteps]
  cases closed : derivedClosed s allSteps with
  | nil =>
    rw [closed] at entries closedIff
    have none_ : (allSteps.filter fun k => decide ((u.stepRec k).state = some .closed)) = [] :=
      List.filter_eq_nil_iff.mpr fun k _ => by
        have away : derivedState s k ≠ .closed := fun is => List.not_mem_nil ((closedIff k).mpr is)
        rw [stage.state away]
        simpa using away
    rw [u.externalPosts_eq, State.tripOne_fills allSteps u (List.nodup_finRange 8) stage.yard entries, none_]
    exact ⟨rfl, fun two => absurd two (by decide)⟩
  | cons h m =>
    rw [closed] at entries nodup closedIff
    obtain ⟨fresh, nodupM⟩ := List.nodup_cons.mp nodup
    have member : ∀ e, e ∈ u.oq.entries ↔ e = (d.avcOpen h).flying ∨ ∃ k ∈ m, d.avcOpen k = e := fun e => by
      rw [entries, List.mem_cons, List.mem_map]
    have opens : ∀ e ∈ u.oq.entries, e.AvcOpen := fun e mem => by
      rcases (member e).mp mem with rfl | ⟨k, -, rfl⟩ <;> exact ⟨rfl, rfl, rfl⟩
    have flies : u.inFlight ≠ none := fun idle => by
      have waits := State.inFlight_none_iff.mp idle _ ((member _).mpr (.inl rfl))
      cases waits
    have entry : ∀ k, derivedState s k = .closed → (u.entryOf k) =
        some (if k = h then (d.avcOpen h).flying else d.avcOpen k) := fun k is => by
      rcases List.mem_cons.mp ((closedIff k).mpr is) with rfl | mem
      · rw [if_pos rfl]
        exact entryOf_eq stage.yard.queue.1 ((member _).mpr (.inl rfl))
      · rw [if_neg fun (same : k = h) => fresh (same ▸ mem)]
        exact entryOf_eq stage.yard.queue.1 ((member _).mpr (.inr ⟨k, mem, rfl⟩))
    have has : ∀ k ∈ allSteps, u.entryOf k = none → (u.stepRec k).state ≠ some .closed := fun k _ none_ is => by
      by_cases state : derivedState s k = .closed
      · rw [entry k state] at none_
        cases none_
      · rw [stage.state state, if_neg fun both => Bool.false_ne_true both.1] at is
        exact state (Option.some.inj is)
    obtain ⟨upgraded, last⟩ := State.tripOne_upgrades allSteps u (List.nodup_finRange 8) stage.yard flies
      (fun k _ e found => opens e (State.mem_of_entryOf found).1) has
    have waits : allSteps.filter u.waitsFor = m := by
      have rest : m = (h :: m).filter (fun k => decide (k ≠ h)) := by
        rw [List.filter_cons_of_neg (by simp)]
        have kept : ∀ k ∈ m, decide (k ≠ h) = true := fun k mem => decide_eq_true fun same => fresh (same ▸ mem)
        exact (List.filter_eq_self.mpr kept).symm
      rw [rest, ← closed, derivedClosed, List.filter_filter]
      refine List.filter_congr fun k _ => ?_
      by_cases is : derivedState s k = .closed
      · rw [State.waitsFor, entry k is]
        by_cases own : k = h
        · simp [own, Entry.flying]
        · simp [own, is, State.avcOpen, State.newEntry]
      · rw [State.waitsFor, stage.free is]
        simp [is]
    rw [u.externalPosts_eq, upgraded, last, waits,
      map_head_shapes (fun head => derivedEntry true true true head) nodup, entries]
    constructor
    · simp only [List.map_cons, List.map_map, mem_allSteps, if_true]
      rfl
    · intro two
      obtain ⟨z, tail⟩ : ∃ z, m.getLast? = some z := by
        cases m with
        | nil => exact absurd two (by simp)
        | cons j n => exact ⟨_, List.getLast?_eq_some_getLast (by simp)⟩
      rw [List.getLast?_cons, tail]
      rfl

end

/-! ## The end of derivation -/

/-- A step whose entry has the shape of `derivedEntry` stands as the entry's status says (R48). -/
theorem State.Stage.closed_state {s t : State} {b : Bool} (stage : s.Stage t b) {l : List StepId}
    {g : StepId → OpKind × Originator × EntryStatus × Option Mark}
    (shapes : t.oq.entries.map Entry.shape = l.map fun k => (k, g k)) {k : StepId} (mem : k ∈ l) :
    (t.stepRec k).state = some (if (g k).2.2.1 = .inFlight then .opening else .closed) := by
  obtain ⟨e, memE, is⟩ : ∃ e ∈ t.oq.entries, e.shape = (k, g k) := by
    rw [← List.mem_map, shapes]
    exact List.mem_map.mpr ⟨k, mem, rfl⟩
  have own : e.step = k := congrArg Prod.fst is
  have status : e.status = (g k).2.2.1 := congrArg (fun x => x.2.2.2.1) is
  have other := (stage.all e memE).1
  rw [← own, (stage.yard.queue.2.2.1 e memE).1, own, ← status]
  cases flies : e.status <;> cases kind : e.kind <;> simp [Entry.stepState, flies, kind] at other ⊢

/-- With the external trip's parts behind it, the OPEN ALL leaves the queue (R204). -/
theorem State.Derived.trip_open_queue {s d : State} (derived : s.Derived d) :
    d.externalParts.deadOpenAll.oq = d.externalParts.oq := by
  have shapes := derived.trip_shapes
  have stage := derived.stage.trips
  have tripping := fun k (is : derivedState s k = .closed) =>
    State.externalParts_trips derived.yard (derived.stage.closed k is)
  generalize d.externalParts = u at shapes stage tripping ⊢
  have joins : allSteps.filter u.joinable = [] := List.filter_eq_nil_iff.mpr fun k _ => by
    by_cases is : derivedState s k = .closed
    · obtain ⟨e, entry, -⟩ := tripping k is
      simp [State.joinable_of_some entry]
    · have state := stage.state is
      rw [State.joinable, state]
      split <;> simp [is]
  rw [stage.opensAll.examined .oq (by decide), joins, List.map_nil, u.joined_nil]
  refine congrArg State.oq (State.examine_idle ?_)
  cases closed : derivedClosed s allSteps with
  | nil =>
    rw [closed] at shapes
    exact .inr (List.map_eq_nil_iff.mp shapes)
  | cons h m =>
    rw [closed] at shapes
    refine .inl fun idle => ?_
    obtain ⟨e, mem, is⟩ : ∃ e ∈ u.oq.entries, e.shape = (h, .tripOp, .external, .inFlight, none) := by
      rw [← List.mem_map, shapes]
      exact List.mem_map.mpr ⟨h, List.mem_cons_self, by simp⟩
    have flies : e.status = .inFlight := congrArg (fun x => x.2.2.2.1) is
    rw [State.inFlight_none_iff.mp idle e mem] at flies
    cases flies

end Sys2Proof.Machine
end

section
/-!
A.11 Start-up (R203, R204): the end of derivation, whichever of the OPEN ALL and the external trip's parts comes first.
-/
namespace Sys2Proof.Machine

/-- The records of the AVC's OPEN ALL on a DEAD line, with the answers that the steps gave (R116). -/
def State.TellsOpenAll (s t : State) (after : Bool) : Prop :=
  ∃ r, t.avc.lastOpenAll = some r ∧ r.frame = s.me.frame.number ∧ r.uptime = s.clock.uptime
    ∧ r.answers = allSteps.map (fun k => derivedAnswer after (derivedState s k))
    ∧ r.count = r.answers.countP (fun a => a = .accepted)
    ∧ t.avc.lastDecision = some { decision := .openAllPosted r.count, frame := s.me.frame.number }

theorem State.SameControl.fields {s t : State} (control : s.SameControl t) : t.avc.line = s.avc.line
    ∧ t.avc.lastOpenAll = s.avc.lastOpenAll ∧ t.avc.lastDecision = s.avc.lastDecision :=
  ⟨(congrArg AvcState.line control :), (congrArg AvcState.lastOpenAll control :), (congrArg AvcState.lastDecision control :)⟩

theorem State.TellsOpenAll.control {s t u : State} {after : Bool} (tells : s.TellsOpenAll t after)
    (control : t.SameControl u) : s.TellsOpenAll u after := by
  obtain ⟨r, all, frame, uptime, answers, count, decision⟩ := tells
  exact ⟨r, control.fields.2.1.trans all, frame, uptime, answers, count, control.fields.2.2.trans decision⟩

/-- The two ends of derivation in the order of the operand (R204). -/
def State.ended (d : State) (first dead trip : Bool) : State :=
  if first then (d.endOpens dead).endTrips trip else (d.endTrips trip).endOpens dead

theorem State.endOpens_true (u : State) : u.endOpens true = u.deadOpenAll := if_pos rfl
theorem State.endOpens_false (u : State) : u.endOpens false = u := if_neg Bool.false_ne_true
theorem State.endTrips_true (u : State) : u.endTrips true = u.externalParts := if_pos rfl
theorem State.endTrips_false (u : State) : u.endTrips false = u := if_neg Bool.false_ne_true
theorem State.ended_true (d : State) (dead trip : Bool) : d.ended true dead trip = (d.endOpens dead).endTrips trip :=
  if_pos rfl
theorem State.ended_false (d : State) (dead trip : Bool) : d.ended false dead trip = (d.endTrips trip).endOpens dead :=
  if_neg Bool.false_ne_true

/-- What an end of derivation writes. -/
def endBlocks : List Block := [.ss, .oq, .cu, .avc, .upu, .pi, .os]

/-- Parts of the external trip that come first or alone leave TRIPs only (R204). -/
theorem derivedEntry_early {first dead : Bool} (early : ¬(dead = true ∧ first = true)) (head : Bool) :
    derivedEntry first dead true head
      = (.tripOp, .external, if head then EntryStatus.inFlight else .waiting, none) := by
  have away : ¬(dead = true ∧ first = true ∧ head = true) := fun h => early ⟨h.1, h.2.1⟩
  simp only [derivedEntry, Bool.true_eq_false, if_false, if_neg away]

section
variable {s u : State} {b : Bool} (stage : s.Stage u b) (dead : Bool)
include stage

theorem State.Stage.endOpens : s.Stage (u.endOpens dead) b ∧ u.onlyIn (u.endOpens dead) endBlocks
    ∧ u.Retains (u.endOpens dead) ∧ (u.endOpens dead).avc.line = u.avc.line
    ∧ (dead = false → (u.endOpens dead).avc = u.avc) := by
  cases dead with
  | false =>
    rw [u.endOpens_false]
    exact ⟨stage, State.onlyIn_refl u _, .refl u, rfl, fun _ => rfl⟩
  | true =>
    have opens := stage.opensAll
    rw [u.endOpens_true]
    generalize u.deadOpenAll = t at opens ⊢
    exact ⟨opens.stage, opens.only, opens.retains, (congrArg AvcState.line opens.avc :), fun h => nomatch h⟩

/-- The records of the OPEN ALL of a stage whose CLOSED steps have entries as `b` says. -/
theorem State.Stage.tells (has : ∀ k, derivedState s k = .closed → (u.entryOf k).isSome = b) (me : u.me = s.me)
    (uptime : u.clock.uptime = s.clock.uptime) : s.TellsOpenAll (u.endOpens true) b := by
  have opens := stage.opensAll
  have answers : (allSteps.map fun k => (u.post (openPosting .avc none true k)).2)
      = allSteps.map (fun k => derivedAnswer b (derivedState s k)) :=
    List.map_congr_left fun k _ => stage.answer (has k)
  have avc := opens.avc
  rw [answers] at avc
  rw [u.endOpens_true]
  generalize u.deadOpenAll = t at avc ⊢
  exact ⟨_, (congrArg AvcState.lastOpenAll avc :), by rw [me], uptime, rfl, rfl,
    (congrArg AvcState.lastDecision avc :).trans (by rw [me])⟩

end

theorem State.Stage.endTrips {s u : State} (stage : s.Stage u false) (trip : Bool) :
    s.Stage (u.endTrips trip) trip ∧ u.onlyIn (u.endTrips trip) endBlocks ∧ u.Retains (u.endTrips trip)
      ∧ u.SameControl (u.endTrips trip) := by
  cases trip with
  | false =>
    rw [u.endTrips_false]
    exact ⟨stage, State.onlyIn_refl u _, .refl u, .refl u⟩
  | true =>
    rw [u.endTrips_true]
    exact ⟨stage.trips, (State.externalParts_protective stage.yard stage.all stage.slots).1,
      u.externalParts_retains, u.externalParts_control⟩

/-- The end of derivation in one: the stage, what is written, and what is kept. -/
structure State.Ended (s d t : State) (dead trip : Bool) : Prop where
  /-- the stage -/
  stage : s.Stage t trip
  /-- the blocks -/
  only : d.onlyIn t endBlocks
  /-- the records of the protection -/
  retains : d.Retains t
  /-- the line state -/
  line : t.avc.line = d.avc.line
  /-- the last OPEN ALL -/
  still : dead = false → t.avc.lastOpenAll = d.avc.lastOpenAll
  /-- BKT (R152) -/
  bkt : trip = true → (∃ k, derivedState s k = .failed) → t.bkt = true
  /-- the CLOSED steps -/
  entry : ∀ k, derivedState s k = .closed → dead = true ∨ trip = true → ∃ e, t.entryOf k = some e ∧ (trip = true → e.Trips)

section
variable {s d : State} (derived : s.Derived d) (dead trip : Bool)
include derived

theorem State.Derived.ended_first : s.Ended d (d.ended true dead trip) dead trip := by
  obtain ⟨stage, only, retains, line, still⟩ := derived.stage.endOpens dead
  have entry : dead = true → ∀ k, derivedState s k = .closed → ∃ e, (d.endOpens dead).entryOf k = some e := fun is k => by
    subst is
    rw [d.endOpens_true]
    exact derived.stage.opensAll.entry derived.stage
  obtain ⟨stage', only', retains', control⟩ := stage.endTrips trip
  rw [d.ended_true]
  generalize d.endOpens dead = u at stage only retains line still entry stage' only' retains' control ⊢
  refine ⟨stage', State.onlyIn_trans only only', retains.trans retains', control.fields.1.trans line,
    fun is => control.fields.2.1.trans (by rw [still is]), ?_, ?_⟩
  · rintro rfl ⟨k, failed⟩
    rw [u.endTrips_true]
    have own := stage.stays k (.inr failed)
    obtain ⟨state, -, position, -⟩ := derivedRecord_fields s k
    refine State.externalParts_bkt stage.yard (k := k) (by rw [own, state, failed]) ?_
    rw [own, position]
    exact derivedState_failed failed
  · intro k is either
    cases trip with
    | true =>
      obtain ⟨e, found, trips⟩ := State.externalParts_trips stage.yard (stage.closed k is)
      rw [u.endTrips_true]
      exact ⟨e, found, fun _ => trips⟩
    | false =>
      rw [u.endTrips_false]
      obtain ⟨e, found⟩ := entry (either.resolve_right (by simp)) k is
      exact ⟨e, found, fun h => nomatch h⟩

theorem State.Derived.ended_last : s.Ended d (d.ended false dead trip) dead trip := by
  obtain ⟨stage, only, retains, control⟩ := derived.stage.endTrips trip
  have bkt : trip = true → (∃ k, derivedState s k = .failed) → (d.endTrips trip).bkt = true := by
    rintro rfl ⟨k, failed⟩
    rw [d.endTrips_true]
    obtain ⟨state, -, position, -⟩ := derivedRecord_fields s k
    refine State.externalParts_bkt derived.yard (k := k) (by rw [derived.records, state, failed]) ?_
    rw [derived.records, position]
    exact derivedState_failed failed
  have tripping : trip = true → ∀ k, derivedState s k = .closed → (d.endTrips trip).Tripping k := by
    rintro rfl k is
    rw [d.endTrips_true]
    exact State.externalParts_trips derived.yard (derived.stage.closed k is)
  rw [d.ended_false]
  generalize d.endTrips trip = u at stage only retains control bkt tripping ⊢
  obtain ⟨stage', only', retains', line, still⟩ := stage.endOpens dead
  refine ⟨stage', State.onlyIn_trans only only', retains.trans retains', line.trans control.fields.1,
    fun is => by rw [still is]; exact control.fields.2.1, fun is failed => ?_, fun k is either => ?_⟩
  · rw [State.bkt, retains'.backup (bkt is failed)]
    exact bkt is failed
  · cases dead with
    | true =>
      rw [u.endOpens_true]
      cases trip with
      | true =>
        obtain ⟨e, found, trips⟩ := stage.opensAll.tripping (tripping rfl k is)
        exact ⟨e, found, fun _ => trips⟩
      | false =>
        obtain ⟨e, found⟩ := stage.opensAll.entry stage is
        exact ⟨e, found, fun h => nomatch h⟩
    | false =>
      rw [u.endOpens_false]
      obtain ⟨e, found, trips⟩ := tripping (either.resolve_left (by simp)) k is
      exact ⟨e, found, fun _ => trips⟩

theorem State.Derived.ended_spec (first : Bool) : s.Ended d (d.ended first dead trip) dead trip := by
  cases first with
  | true => exact derived.ended_first dead trip
  | false => exact derived.ended_last dead trip

theorem State.Derived.ended_tells (first : Bool) :
    s.TellsOpenAll (d.ended first true trip) (trip && !first) := by
  have me : d.me = s.me := derived.only .me (by decide)
  have none_ : ∀ k, derivedState s k = .closed → (d.entryOf k).isSome = false := fun k _ => by
    rw [State.entryOf, derived.entries]
    rfl
  cases first with
  | true =>
    have tells := derived.stage.tells none_ me derived.uptime
    have stage := (derived.stage.endOpens true).1
    have control := (stage.endTrips trip).2.2.2
    rw [Bool.not_true, Bool.and_false, d.ended_true]
    exact tells.control control
  | false =>
    obtain ⟨stage, only, -⟩ := derived.stage.endTrips trip
    have has : ∀ k, derivedState s k = .closed → ((d.endTrips trip).entryOf k).isSome = trip := fun k is => by
      cases trip with
      | true =>
        rw [d.endTrips_true]
        obtain ⟨e, found, -⟩ := State.externalParts_trips derived.yard (derived.stage.closed k is)
        exact Option.isSome_iff_exists.mpr ⟨e, found⟩
      | false =>
        rw [d.endTrips_false]
        exact none_ k is
    have tells := stage.tells has ((only .me (by decide)).trans me)
      ((congrArg Clock.uptime (only .clock (by decide))).trans derived.uptime)
    rw [Bool.not_false, Bool.and_true, d.ended_false]
    exact tells

/-- The entries that the OPEN ALL gives alone (R204). -/
theorem State.Derived.open_shapes (settled : s.cu.settle = 0) (first : Bool) :
    d.deadOpenAll.oq.entries.map Entry.shape = (derivedClosed s allSteps).map fun k =>
      (k, derivedEntry first true false (decide ((derivedClosed s allSteps).head? = some k))) := by
  have entries := derived.open_entries settled
  have nodup : (derivedClosed s allSteps).Nodup := (List.nodup_finRange 8).filter _
  rw [entries]
  cases closed : derivedClosed s allSteps with
  | nil => rfl
  | cons h m =>
    rw [closed] at nodup
    rw [map_head_shapes (fun head => derivedEntry first true false head) nodup, List.map_cons, List.map_map]
    rfl

/-- The entries that the parts of the external trip give when they come first or alone (R204). -/
theorem State.Derived.part_shapes {first dead : Bool} (early : ¬(dead = true ∧ first = true)) :
    d.externalParts.oq.entries.map Entry.shape = (derivedClosed s allSteps).map fun k =>
      (k, derivedEntry first dead true (decide ((derivedClosed s allSteps).head? = some k))) := by
  rw [derived.trip_shapes]
  exact List.map_congr_left fun k _ => congrArg (Prod.mk k) (derivedEntry_early early _).symm

/-- The entries at the end of derivation in a settled yard (R204). -/
theorem State.Derived.ended_shapes (settled : s.cu.settle = 0) (first : Bool) {dead trip : Bool}
    (either : dead = true ∨ trip = true) : (d.ended first dead trip).oq.entries.map Entry.shape =
      (derivedClosed s allSteps).map fun k =>
        (k, derivedEntry first dead trip (decide ((derivedClosed s allSteps).head? = some k))) := by
  have parts := fun first dead early => derived.part_shapes (first := first) (dead := dead) early
  cases first <;> cases dead <;> cases trip
  case false.false.false => simp at either
  case true.false.false => simp at either
  case false.false.true =>
    rw [d.ended_false, d.endTrips_true, State.endOpens_false]
    exact parts false false (by simp)
  case false.true.false =>
    rw [d.ended_false, d.endTrips_false, State.endOpens_true]
    exact derived.open_shapes settled false
  case false.true.true =>
    rw [d.ended_false, d.endTrips_true, State.endOpens_true, derived.trip_open_queue]
    exact parts false true (by simp)
  case true.false.true =>
    rw [d.ended_true, d.endOpens_false, State.endTrips_true]
    exact parts true false (by simp)
  case true.true.false =>
    rw [d.ended_true, d.endOpens_true, State.endTrips_false]
    exact derived.open_shapes settled true
  case true.true.true =>
    rw [d.ended_true, d.endOpens_true, State.endTrips_true]
    exact (derived.open_trip_shapes settled).1

end

/-- The state of a CLOSED step is that of its entry's status (R48, R204). -/
theorem derivedEntry_status (first dead trip head : Bool) :
    (derivedEntry first dead trip head).2.2.1 = if head then EntryStatus.inFlight else .waiting := by
  simp only [derivedEntry]
  split_ifs <;> rfl

theorem endOfDerivation_holds : endOfDerivation := by
  intro first s at0 dead trip closed sound running loaded before isDead isTrip isClosed
  obtain ⟨derived, -⟩ := s.derivedAll_derived sound before at0
  have run := exec_stepDerivation running loaded before derived.entries first
  generalize s.derivedAll at0 = d at derived run
  have avc : d.avc = s.avc := derived.only .avc (by decide)
  have ends : (if first then d.derivedOpenAll.derivedTrip else d.derivedTrip.derivedOpenAll) = d.ended first dead trip := by
    have opens : ∀ u : State, u.avc.line = d.avc.line → u.derivedOpenAll = u.endOpens dead := fun u line => by
      rw [State.derivedOpenAll, State.endOpens, State.lineDead, line, avc, isDead]
    have trips : ∀ u : State, u.ss.tripIn = d.ss.tripIn → u.derivedTrip = u.endTrips trip := fun u level => by
      rw [State.derivedTrip, State.endTrips, level, derived.trip, isTrip]
      simp
    obtain ⟨-, -, retains, -⟩ := derived.stage.endOpens dead
    obtain ⟨-, -, -, control⟩ := derived.stage.endTrips trip
    cases first with
    | true => rw [if_pos rfl, d.ended_true, opens d rfl, trips _ retains.trip]
    | false => rw [if_neg Bool.false_ne_true, d.ended_false, trips d rfl, opens _ control.fields.1]
  rw [ends] at run
  have spec := derived.ended_spec dead trip first
  have tells := derived.ended_tells trip first
  have shapes := fun settled => derived.ended_shapes settled first (dead := dead) (trip := trip)
  have told := fun settled => (derived.open_trip_shapes settled).2
  have both : d.ended true true true = d.deadOpenAll.externalParts := by
    rw [d.ended_true, d.endOpens_true, State.endTrips_true]
  rw [← both] at told
  have list : derivedClosed s allSteps = closed := isClosed.symm
  have record : d.upu.tripRecord = s.upu.tripRecord := by rw [derived.only .upu (by decide)]
  have set : (d.ended first dead trip).set = { s.set with derived := true } := (spec.only .set (by decide)).trans derived.set
  rw [list] at shapes told
  refine ⟨_, run, set, spec.line.trans (by rw [avc]), spec.retains.tripRecord.trans record,
    fun is => (spec.still is).trans (by rw [avc]), fun is => ?_, fun k is => ?_, fun k is => ?_, spec.bkt, spec.entry,
    fun settled either => ⟨shapes settled either, fun k is => ?_, ?_⟩, ?_⟩
  · subst is
    exact tells
  · obtain ⟨state, cause, -, discharge, -⟩ := derivedRecord_fields s k
    have own := spec.stage.opened k is
    rw [own]
    cases trip with
    | false => exact ⟨state.trans (congrArg some is), cause, discharge is⟩
    | true =>
      obtain ⟨-, -, -, -, locked, -⟩ := recordAfter_kept (derivedRecord s k) .lockout (some .external) none
      exact ⟨(recordAfter_state _ _ _ _).1, locked,
        (recordAfter_discharge_of_ne _ (by decide) _ _).trans (discharge is)⟩
  · rw [spec.stage.stays k is]
    exact (derivedRecord_fields s k).1
  · have listed : k ∈ closed := by
      rw [isClosed]
      exact List.mem_filter.mpr ⟨mem_allSteps k, decide_eq_true is⟩
    rw [spec.stage.closed_state (shapes settled either) listed, derivedEntry_status]
    by_cases head : closed.head? = some k <;> simp [head]
  · rintro rfl rfl rfl two
    exact told settled two
  · exact State.onlyIn_trans (State.onlyIn_mono derived.only (by decide)) (State.onlyIn_mono spec.only (by decide))

/-- Settles O59: the derivation of the steps one by one, and the two parts at its end followed from the derived state. -/
theorem derivationGivesEveryStepAState : Obligations.DerivationGivesEveryStepAState := by
  refine ⟨endOfDerivation_holds, fun first s at0 sound running loaded before live noTrip => ?_⟩
  obtain ⟨t, run, derived, clock⟩ := derivationAlone first s at0 sound running loaded before live noTrip
  obtain ⟨-, -, now⟩ := s.deriving_spec at0
  have steps : t.ss.closedOrder = allSteps.filter (fun k =>
      decide (s.inService k = true ∧ (s.stepRec k).position = some .atClosed)) := by
    rw [derived.closed, derivedClosed]
    simp only [derivedState_closed_iff]
  have held : t.clock.held = none := by rw [clock, now]; exact running
  refine ⟨t, run, derived.set, fun k => ?_, derived.ready, steps, fun p => ⟨derived.flags p, ?_⟩, clock.trans now, ?_⟩
  · obtain ⟨state, -, -, -, discharge, cause, closedWhileOut⟩ := derivedRecord_fields s k
    rw [derived.records]
    exact ⟨state, discharge, cause, closedWhileOut⟩
  · simp [State.notice, held, derived.flags p]
  · exact State.onlyIn_mono derived.only (by decide)

end Sys2Proof.Machine
end

section
/-!
SUPPORT. Byte layouts (9.9): what stands at a place of a payload, read off the way the payload is put together.
-/
namespace Sys2Proof.Machine

/-- The bytes `x` stand in `l` from place `a` on. -/
def Stands (l : List Byte) (a : Nat) (x : List Byte) : Prop := ∀ i < x.length, l[a + i]? = x[i]?

theorem Stands.of_eq {l x : List Byte} (is : l = x) : Stands l 0 x := fun i _ => by rw [is, Nat.zero_add]

theorem stands_nil (l : List Byte) (a : Nat) : Stands l a [] := fun i h => absurd h (Nat.not_lt_zero i)

theorem stands_append (l : List Byte) (a : Nat) (x y : List Byte) :
    Stands l a (x ++ y) ↔ Stands l a x ∧ Stands l (a + x.length) y := by
  constructor
  · intro all
    refine ⟨fun i h => ?_, fun i h => ?_⟩
    · rw [all i (by rw [List.length_append]; omega), List.getElem?_append_left h]
    · rw [Nat.add_assoc, all (x.length + i) (by rw [List.length_append]; omega), List.getElem?_append_right (by omega),
        Nat.add_sub_cancel_left]
  · rintro ⟨left, right⟩ i h
    by_cases before : i < x.length
    · rw [left i before, List.getElem?_append_left before]
    · rw [List.length_append] at h
      have after := right (i - x.length) (by omega)
      rw [List.getElem?_append_right (by omega), ← after]
      congr 1
      omega

theorem stands_cons (l : List Byte) (a : Nat) (b : Byte) (x : List Byte) :
    Stands l a (b :: x) ↔ l[a]? = some b ∧ Stands l (a + 1) x := by
  rw [← List.singleton_append, stands_append]
  refine and_congr_left' ⟨fun h => h 0 (by simp), fun h i small => ?_⟩
  have first : i = 0 := by simpa using small
  rw [first]
  exact h

theorem be_getElem? (n v : Nat) {j : Nat} (small : j < n) :
    (be n v)[j]? = some (BitVec.ofNat 8 (v / 256 ^ (n - 1 - j))) := by
  induction n generalizing j with
  | zero => omega
  | succ n ih =>
    cases j with
    | zero => rfl
    | succ j =>
      have same : n + 1 - 1 - (j + 1) = n - 1 - j := by omega
      rw [same, ← ih (by omega)]
      rfl

/-- A field is carried where its bytes stand. -/
theorem carries_cons (l : List Byte) (a n v : Nat) (fs : List (Nat × Nat × Nat)) :
    carries l ((a, n, v) :: fs) ↔ Stands l a (be n v) ∧ carries l fs := by
  rw [carries, List.forall_mem_cons]
  refine and_congr_left' ⟨fun all j small => ?_, fun stands j small => ?_⟩
  · rw [be_length] at small
    rw [all j small, be_getElem? n v small]
  · rw [stands j (by rwa [be_length]), be_getElem? n v small]

theorem carries_nil (l : List Byte) : carries l [] := fun _ mem => absurd mem List.not_mem_nil

theorem carries_append (l : List Byte) (f g : List (Nat × Nat × Nat)) :
    carries l (f ++ g) ↔ carries l f ∧ carries l g := List.forall_mem_append

/-- A field of one byte. -/
theorem stands_byte (l : List Byte) (a v : Nat) : Stands l a (be 1 v) ↔ l[a]? = some (byte v) := by
  have one : be 1 v = [byte v] := by simp [be, byte]
  rw [one, stands_cons]
  exact and_iff_left (stands_nil l (a + 1))

theorem exactly_getElem? {n i : Nat} (small : i < n) (x : List Byte) : (exactly n x)[i]? = some (x[i]?.getD 0) := by
  rw [exactly, List.getElem?_take_of_lt small]
  by_cases inside : i < x.length
  · rw [List.getElem?_append_left inside, List.getElem?_eq_getElem inside, Option.getD_some]
  · rw [List.getElem?_append_right (by omega), List.getElem?_eq_none (l := x) (by omega), Option.getD_none]
    rw [List.getElem?_replicate_of_lt (by omega)]

/-- Pieces of one width stand one behind the other. -/
theorem flatMap_getElem? {α : Type} {f : α → List Byte} {w : Nat} (width : ∀ x, (f x).length = w) (xs : List α) (i : Nat)
    {j : Nat} (small : j < w) : (xs.flatMap f)[w * i + j]? = xs[i]?.bind fun x => (f x)[j]? := by
  induction xs generalizing i with
  | nil => simp
  | cons x xs ih =>
    rw [List.flatMap_cons]
    cases i with
    | zero =>
      rw [Nat.mul_zero, Nat.zero_add, List.getElem?_append_left (by rwa [width])]
      rfl
    | succ i =>
      rw [List.getElem?_append_right (by rw [width, Nat.mul_succ]; omega), width]
      have place : w * (i + 1) + j - w = w * i + j := by rw [Nat.mul_succ]; omega
      rw [place, ih i]
      rfl

/-- The pieces of a list that is cut or filled to a number of bytes stand at their places, zero beyond the list. -/
theorem Stands.exactly_flatMap {α : Type} {f : α → List Byte} {w n a : Nat} {l : List Byte} {xs : List α}
    (width : ∀ x, (f x).length = w) (stands : Stands l a (exactly n (xs.flatMap f))) {i : Nat} (fits : w * (i + 1) ≤ n) :
    Stands l (a + w * i) ((xs[i]?.map f).getD (be w 0)) := by
  have length : ((xs[i]?.map f).getD (be w 0)).length = w := by
    cases xs[i]? with
    | none => exact be_length w 0
    | some x => exact width x
  intro j small
  rw [length] at small
  rw [Nat.mul_succ] at fits
  have here := stands (w * i + j) (by rw [exactly_length]; omega)
  rw [Nat.add_assoc, here, exactly_getElem? (by omega), flatMap_getElem? width xs i small]
  cases xs[i]? with
  | none => simp [be_getElem? w 0 small]
  | some x =>
    have there : j < (f x).length := by rw [width]; exact small
    simp [List.getElem?_eq_getElem there]

theorem Stands.flatMap {α : Type} {f : α → List Byte} {w a : Nat} {l : List Byte} {xs : List α}
    (width : ∀ x, (f x).length = w) (stands : Stands l a (xs.flatMap f)) {i : Nat} {x : α} (at_ : xs[i]? = some x) :
    Stands l (a + w * i) (f x) := by
  intro j small
  have there := flatMap_getElem? width xs i (width x ▸ small)
  rw [at_, Option.bind_some] at there
  have inside : w * i + j < (xs.flatMap f).length := by
    by_contra beyond
    rw [List.getElem?_eq_none (by omega), List.getElem?_eq_getElem small] at there
    cases there
  rw [Nat.add_assoc, stands (w * i + j) inside, there]

end Sys2Proof.Machine
end

section
/-!
A.3 Queries (R183 to R185, 9.9): the layouts of STEP_QUERY, FRAME_QUERY, MONITOR_QUERY and TRIP_RECORD_QUERY.
-/
namespace Sys2Proof.Machine

/-! ## Numbers of 9.9 -/

theorem stateNo_eq (o : Option StepState) : stateNo o = numbered stepStates o := by
  cases o with
  | none => rfl
  | some x => cases x <;> rfl

theorem positionNo_eq (o : Option Position) : positionNo o = numbered positions o := by
  cases o with
  | none => rfl
  | some x => cases x <;> rfl

theorem lockoutNo_eq (o : Option LockoutCause) : lockoutNo o = numbered [.unbalance, .external] o := by
  cases o with
  | none => rfl
  | some x => cases x <;> rfl

theorem failureNo_eq (o : Option FailureCause) :
    failureNo o = numbered [.closeTimeout, .openTimeout, .contactInvalid] o := by
  cases o with
  | none => rfl
  | some x => cases x <;> rfl

theorem portNo_eq (o : Option Port) : portNo o = numbered [.a, .b] o := by
  cases o with
  | none => rfl
  | some x => cases x <;> rfl

theorem phaseNo_eq (o : Option Phase) : phaseNo o = numbered [.a, .b, .c] o := by
  cases o with
  | none => rfl
  | some x => cases x <;> rfl

theorem stepNoOpt_eq (o : Option StepId) : stepNoOpt o = stepNumber o := by
  cases o with
  | none => rfl
  | some k => revert k; decide

theorem flagByte_eq (b : Bool) : flagByte b = byte (oneIf b) := by cases b <;> rfl

theorem OutcomeResult.code_eq (r : OutcomeResult) : r.code = resultNo r := by
  cases r with
  | cancelled c => rfl
  | _ => rfl

theorem Originator.code_eq (o : Originator) : o.code = numbered originators (some o) := by cases o <;> rfl

/-! ## STEP_QUERY -/

/-- A field for each element of a list. -/
theorem carries_map {α : Type} (l : List Byte) (xs : List α) (g : α → Nat × Nat × Nat) :
    carries l (xs.map g) ↔ ∀ x ∈ xs, Stands l (g x).1 (be (g x).2.1 (g x).2.2) := by
  induction xs with
  | nil => simp [carries_nil]
  | cons x xs ih => rw [List.map_cons, carries_cons, ih, List.forall_mem_cons]

/-- A field for each number of a range. -/
theorem carries_range (l : List Byte) (n : Nat) (g : Nat → Nat × Nat × Nat) :
    carries l ((List.range n).map g) ↔ ∀ i < n, Stands l (g i).1 (be (g i).2.1 (g i).2.2) := by
  simp only [carries_map, List.mem_range]

theorem State.pendingPlace_eq (u : State) (k : StepId) :
    u.pendingPlace k = ((u.oq.entries.findIdx? (fun e => e.step = k)).map (· + 1)).getD 0 := by
  unfold State.pendingPlace
  split <;> rename_i h <;> rw [h] <;> rfl

/-- Bytes show a number modulo what they can hold. -/
theorem be_mod {w n : Nat} (fits : w ≤ n) (v : Nat) : be w (v % 256 ^ n) = be w v := by
  induction w with
  | zero => rfl
  | succ w ih =>
    have split : 256 ^ n = 256 ^ w * 256 ^ (n - w) := by rw [← pow_add, Nat.add_sub_cancel' (by omega)]
    have more : 256 ∣ 256 ^ (n - w) := dvd_pow_self 256 (by omega)
    rw [be, be, ih (by omega)]
    refine congrArg (fun b => b :: be w v) (BitVec.eq_of_toNat_eq ?_)
    rw [BitVec.toNat_ofNat, BitVec.toNat_ofNat, split, Nat.mod_mul_right_div_self]
    exact Nat.mod_mod_of_dvd _ more

/-- The rate release time that STEP_QUERY carries (R84, log entry 11). -/
def State.shownRelease (u : State) (k : StepId) : Nat :=
  if (u.stepRec k).closeHistory.length < u.y .nops then 0
  else match (u.stepRec k).closeHistory[(u.stepRec k).closeHistory.length - u.y .nops]? with
    | none => 0
    | some x => x + 3600 * u.y .whours + 1

theorem State.rateRelease_bytes (u : State) (k : StepId) :
    be 4 ((u.rateRelease k).getD 0) = be 4 (u.shownRelease k) := by
  rw [State.rateRelease, State.ratePermitted, State.shownRelease]
  by_cases permitted : (u.stepRec k).closeHistory.length < u.y .nops
  · simp [permitted]
  · simp only [permitted, decide_false, Bool.false_eq_true, if_false]
    cases (u.stepRec k).closeHistory[(u.stepRec k).closeHistory.length - u.y .nops]? with
    | none => rfl
    | some x =>
      have window : u.rateWindow = 3600 * u.y .whours := Nat.mul_comm _ _
      rw [Option.map_some, Option.getD_some, window]
      exact be_mod (n := 4) le_rfl _

theorem State.compensationBytes_length (u : State) (c : Option Compensation) (a : Nat) :
    (u.compensationBytes c a).length = 11 := by
  cases c <;> simp [State.compensationBytes, State.unstated, beSigned]

/-- The compensation's fields of STEP_QUERY (9.9). -/
def compensationFields : Option Compensation → List (Nat × Nat × Nat)
  | none => [(50, 1, 0), (59, 2, 65535)]
  | some c => [(50, 1, 1), (51, 4, twos 4 c.cre), (55, 4, twos 4 c.cim), (59, 2, c.vcap)]

theorem State.compensationBytes_carries (u : State) {l : List Byte} {c : Option Compensation}
    (stands : Stands l 50 (u.compensationBytes c 50)) : carries l (compensationFields c) := by
  cases c with
  | none =>
    simp only [State.compensationBytes, stands_cons, stands_append, State.unstated, List.length_map, List.length_range] at stands
    simp [compensationFields, carries_cons, carries_nil, stands_byte, stands]
  | some c =>
    simp only [State.compensationBytes, stands_cons, stands_append, beSigned, be_length, List.length_append] at stands
    simpa [compensationFields, carries_cons, carries_nil, stands_byte, twos, and_assoc] using stands

/-- The layout of STEP_QUERY (9.9). -/
theorem State.stepPayload_carries (u : State) (k : StepId) :
    (u.stepPayload k).length = 74 ∧ carries (u.stepPayload k) (stepFields u k) := by
  have length : (u.stepPayload k).length = 74 := by simp [State.stepPayload, u.compensationBytes_length]
  refine ⟨length, ?_⟩
  obtain ⟨l, is⟩ : ∃ l, l = u.stepPayload k := ⟨_, rfl⟩
  have all := Stands.of_eq is
  rw [← is]
  rw [State.stepPayload] at all
  simp only [stands_append, stands_cons, stands_nil, be_length, exactly_length, List.length_append, List.length_cons,
    List.length_nil, Nat.reduceAdd, Nat.zero_add, and_true, stateNo_eq, positionNo_eq, lockoutNo_eq, failureNo_eq, portNo_eq, flagByte_eq,
    u.pendingPlace_eq, u.compensationBytes_length, stepNo, u.rateRelease_bytes] at all
  have history : ∀ i < 8, Stands l (12 + 4 * i) (be 4 ((u.stepRec k).closeHistory.getD i 0)) := fun i small => by
    have piece := Stands.exactly_flatMap (a := 12) (n := 32) (l := l) (xs := (u.stepRec k).closeHistory) (be_length 4)
      (by simp [all]) (i := i) (by omega)
    rw [List.getD_eq_getElem?_getD]
    cases at_ : (u.stepRec k).closeHistory[i]? with
    | none => simpa [at_] using piece
    | some x => simpa [at_] using piece
  have compensation := u.compensationBytes_carries (l := l) (c := (u.stepRec k).compensation) (by simp [all])
  have release : Stands l 70 (be 4 (u.shownRelease k)) := by simp [all]
  simp only [stepFields, carries_append, carries_cons, carries_nil, stands_byte, and_true, carries_range, all, and_self,
    true_and]
  exact ⟨⟨history, compensation⟩, release⟩

/-! ## FRAME_QUERY -/

theorem beSigned_eq (w : Nat) (i : Int) : beSigned w i = be w (twos w i) := rfl

theorem carries_flatMap {α : Type} (l : List Byte) (xs : List α) (g : α → List (Nat × Nat × Nat)) :
    carries l (xs.flatMap g) ↔ ∀ x ∈ xs, carries l (g x) := List.forall_mem_flatMap

theorem allSteps_getElem? (k : StepId) : allSteps[k.val]? = some k := by revert k; decide

theorem PhaseFrame.bytes_carries {l : List Byte} {a : Nat} {p : PhaseFrame} (stands : Stands l a p.bytes) :
    carries l (phaseFields a p) := by
  simp only [PhaseFrame.bytes, stands_append, stands_cons, stands_nil, be_length, List.length_append, Nat.reduceAdd,
    flagByte_eq, Nat.add_assoc] at stands
  simp only [phaseFields, carries_cons, carries_nil, stands_byte, stands, and_self]

theorem PhaseFrame.bytes_length (p : PhaseFrame) : p.bytes.length = 16 := by simp [PhaseFrame.bytes]

theorem NeutralFrame.bytes_length (n : NeutralFrame) : n.bytes.length = 11 := by simp [NeutralFrame.bytes, beSigned]

/-- The layout of FRAME_QUERY (9.9). -/
theorem Frame.payload_carries (f : Frame) : f.payload.length = 153 ∧ carries f.payload (frameFields f) := by
  have neutrals : (allSteps.flatMap fun k => f.neutrals[k].bytes).length = 88 := by
    simp [allSteps, NeutralFrame.bytes_length]
  have length : f.payload.length = 153 := by
    simp only [Frame.payload, List.length_append, List.length_cons, List.length_nil, be_length, PhaseFrame.bytes_length,
      neutrals]
  refine ⟨length, ?_⟩
  obtain ⟨l, is⟩ : ∃ l, l = f.payload := ⟨_, rfl⟩
  have all := Stands.of_eq is
  rw [← is]
  rw [Frame.payload] at all
  simp only [stands_append, stands_cons, stands_nil, be_length, List.length_append, List.length_cons, List.length_nil,
    Nat.reduceAdd, Nat.zero_add, and_true, phaseNo_eq, flagByte_eq, PhaseFrame.bytes_length, neutrals] at all
  have a := PhaseFrame.bytes_carries (l := l) (a := 7) (p := f.a) (by simp [all])
  have b := PhaseFrame.bytes_carries (l := l) (a := 23) (p := f.b) (by simp [all])
  have c := PhaseFrame.bytes_carries (l := l) (a := 39) (p := f.c) (by simp [all])
  have steps : ∀ k : StepId, carries l
      [(61 + 11 * k.val, 4, twos 4 f.neutrals[k].pre), (65 + 11 * k.val, 4, twos 4 f.neutrals[k].pim),
        (69 + 11 * k.val, 2, f.neutrals[k].u), (71 + 11 * k.val, 1, oneIf f.neutrals[k].clip)] := fun k => by
    have piece := Stands.flatMap (l := l) (a := 61) (f := fun k : StepId => f.neutrals[k].bytes)
      (fun k => NeutralFrame.bytes_length _) (by simp only [all]) (allSteps_getElem? k)
    simp only [NeutralFrame.bytes, stands_append, stands_cons, stands_nil, be_length, beSigned_eq, List.length_append, Nat.reduceAdd,
      flagByte_eq, and_true, Nat.add_right_comm 61] at piece
    simpa only [carries_cons, carries_nil, stands_byte, and_true, and_assoc] using piece
  have each := (carries_flatMap l allSteps _).mpr fun k _ => steps k
  simp only [frameFields, carries_append, each, a, b, c, and_true]
  simp only [carries_cons, carries_nil, stands_byte, all, and_self]

/-! ## MONITOR_QUERY -/

/-- The last detune's fields of MONITOR_QUERY (9.9). -/
def detuneFields : Option LastDetune → List (Nat × Nat × Nat)
  | none => [(18, 1, 0), (19, 1, 0), (28, 1, 0), (29, 1, 0)]
  | some (.target k x n r) =>
    [(18, 1, 1), (19, 1, k.val + 1), (20, 4, x), (24, 4, n), (28, 1, (r.map (fun r => resultNo r.1)).getD 0),
      (29, 1, numbered stepStates (r.bind (·.2)))]
  | some (.noneAvailable x n) =>
    [(18, 1, 2), (19, 1, 0), (20, 4, x), (24, 4, n), (28, 1, 0), (29, 1, 0)]

theorem numbered_none {α : Type} [DecidableEq α] (order : List α) : numbered order none = 0 := rfl

theorem byte_zero : byte 0 = 0 := rfl
theorem byte_one : byte 1 = 1 := rfl
theorem byte_two : byte 2 = 2 := rfl

theorem State.unstated_length (u : State) (a n : Nat) : (u.unstated a n).length = n := by simp [State.unstated]

theorem State.detuneBytes_length (u : State) (d : Option LastDetune) (a : Nat) : (u.detuneBytes d a).length = 12 := by
  rcases d with _ | ⟨k, x, n, _ | ⟨r, st⟩⟩ | ⟨x, n⟩ <;> simp [State.detuneBytes, u.unstated_length]

theorem State.detuneBytes_carries (u : State) {l : List Byte} {d : Option LastDetune}
    (stands : Stands l 18 (u.detuneBytes d 18)) : carries l (detuneFields d) := by
  rcases d with _ | ⟨k, x, n, _ | ⟨r, st⟩⟩ | ⟨x, n⟩
  all_goals
    simp only [State.detuneBytes, stands_cons, stands_append, stands_nil, u.unstated_length, be_length, List.length_append,
      List.length_cons, List.length_nil, Nat.reduceAdd, stateNo_eq, OutcomeResult.code_eq, stepNo] at stands
    simp only [detuneFields, carries_cons, carries_nil, stands_byte, byte_zero, byte_one, byte_two, Option.map_some,
      Option.map_none, Option.getD_some, Option.getD_none, Option.bind_some, Option.bind_none, numbered_none, stands, and_self]

/-- The layout of MONITOR_QUERY (9.9). -/
theorem State.monitorPayload_carries (u : State) (m : MonitorId) :
    (u.monitorPayload m).length = 30 ∧ carries (u.monitorPayload m) (monitorFields u m) := by
  have length : (u.monitorPayload m).length = 30 := by simp [State.monitorPayload, u.detuneBytes_length]
  refine ⟨length, ?_⟩
  obtain ⟨l, is⟩ : ∃ l, l = u.monitorPayload m := ⟨_, rfl⟩
  have all := Stands.of_eq is
  rw [← is]
  rw [State.monitorPayload] at all
  simp only [stands_append, stands_cons, stands_nil, be_length, List.length_append, List.length_cons,
    List.length_nil, Nat.reduceAdd, Nat.zero_add, and_true, flagByte_eq] at all
  have detune := u.detuneBytes_carries (l := l) (d := (u.monitor m).lastDetune) (by simp only [all])
  simp only [monitorFields, carries_append, carries_cons, carries_nil, stands_byte, all, true_and]
  exact detune

/-! ## TRIP_RECORD_QUERY -/

/-- The Trip Record's fields (9.9). -/
def tripRecordFields : Option TripRecord → List (Nat × Nat × Nat)
  | none => (List.range 26).map (fun i => (i, 1, 0))
  | some r =>
    [(0, 1, 1), (1, 1, numbered [.unbalance, .external] (some r.cause)),
      (2, 1, if r.step = none then 15 else stepNumber r.step), (3, 4, r.uptime), (7, 4, r.frame),
      (11, 2, r.u.getD 65535), (13, 4, twos 4 (r.dre.getD 0)), (17, 4, twos 4 (r.dim.getD 0)),
      (21, 2, r.vAvg), (23, 2, r.di), (25, 1, r.further)]

theorem tripBytes_length (r : Option TripRecord) : (tripBytes r).length = 26 := by
  cases r <;> simp [tripBytes, be16Opt, beSigned_eq]

theorem LockoutCause.code_eq (c : LockoutCause) : c.code = numbered [.unbalance, .external] (some c) := by cases c <;> rfl

theorem tripBytes_carries {l : List Byte} {r : Option TripRecord} (stands : Stands l 0 (tripBytes r)) :
    carries l (tripRecordFields r) := by
  cases r with
  | none =>
    rw [tripRecordFields, carries_range]
    intro i small
    have here := stands i (by rw [tripBytes_length]; exact small)
    rw [Nat.zero_add, tripBytes, exactly_getElem? small] at here
    rw [stands_byte]
    exact here
  | some r =>
    simp only [tripBytes, stands_cons, stands_append, stands_nil, be16Opt, beSigned_eq, be_length, List.length_append,
      List.length_cons, List.length_nil, Nat.reduceAdd, Nat.zero_add, LockoutCause.code_eq] at stands
    simp only [tripRecordFields, carries_cons, carries_nil, stands_byte, stands, and_self, and_true, true_and]
    refine congrArg (fun n => some (byte n)) ?_
    cases r.step with
    | none => rfl
    | some k => exact stepNoOpt_eq (some k)

/-- The last trip result's fields (9.9). -/
def tripResultFields : Option TripResult → List (Nat × Nat × Nat)
  | none => [(26, 1, 0), (27, 1, 0), (28, 1, 0), (29, 1, 0), (30, 1, 0)]
  | some r =>
    [(26, 1, 1), (27, 1, r.step.val + 1), (28, 1, numbered originators (some r.originator)),
      (29, 1, resultNo r.result), (30, 1, numbered stepStates r.state), (31, 4, r.uptime)]

theorem State.tripResultBytes_length (u : State) (a : Nat) : (u.tripResultBytes a).length = 9 := by
  unfold State.tripResultBytes
  split <;> simp [u.unstated_length]

theorem State.tripResultBytes_carries (u : State) {l : List Byte} (stands : Stands l 26 (u.tripResultBytes 26)) :
    carries l (tripResultFields u.upu.lastTrip) := by
  unfold State.tripResultBytes at stands
  cases last : u.upu.lastTrip with
  | none =>
    simp only [last, stands_cons, stands_append, stands_nil, Nat.reduceAdd] at stands
    simp only [tripResultFields, carries_cons, carries_nil, stands_byte, byte_zero, stands, and_self]
  | some r =>
    simp only [last, stands_cons, stands_append, stands_nil, Nat.reduceAdd, List.length_cons, List.length_nil, stepNo,
      Originator.code_eq, OutcomeResult.code_eq, stateNo_eq] at stands
    simp only [tripResultFields, carries_cons, carries_nil, stands_byte, stands, and_self]

/-- The layout of TRIP_RECORD_QUERY (9.9). -/
theorem State.tripPayload_carries (u : State) :
    u.tripPayload.length = 35 ∧ carries u.tripPayload (tripFields u) := by
  have length : u.tripPayload.length = 35 := by
    rw [State.tripPayload, List.length_append, tripBytes_length, u.tripResultBytes_length]
  refine ⟨length, ?_⟩
  obtain ⟨l, is⟩ : ∃ l, l = u.tripPayload := ⟨_, rfl⟩
  have all := Stands.of_eq is
  rw [← is]
  rw [State.tripPayload, stands_append, tripBytes_length] at all
  obtain ⟨record, result⟩ := all
  exact (carries_append l _ _).mpr ⟨tripBytes_carries record, u.tripResultBytes_carries result⟩

/-! ## O17 -/

/-- A query answers DONE and changes nothing (R183). -/
theorem query_answered {h : Header} {s u : State} (serves : s.serves) (hu : u = s.judged h) {judge : Judge} {a : Answer}
    (judged : judge u = (u, a)) : ∃ t, Host.Outcome.next (s.request h true judge)
      = (.next t : Host.Outcome State Fault Refusal) ∧ u.onlyIn t [.pi] ∧ u.answered t h a := by
  obtain ⟨answered, only⟩ := u.answered_refused h a
  exact ⟨_, congrArg Host.Outcome.next (State.request_of_judge serves rfl hu judged), only, answered⟩

/-- Settles O17: each payload is read off block by block. -/
theorem queriesReportAndChangeNothing : Obligations.QueriesReportAndChangeNothing := by
  intro h s u serves hu
  refine ⟨fun b k n => ?_, ?_, fun b m n => ?_, ?_, fun n i x listed number index => ?_⟩
  · obtain ⟨t, next, only, answered⟩ := query_answered (h := h) (a := { code := .done, payload := u.stepPayload k }) serves hu
      (judge := judgeStepQuery b) (by rw [judgeStepQuery, withStep_names n]; rfl)
    exact ⟨t, next, only, answered, u.stepPayload_carries k⟩
  · obtain ⟨t, next, only, answered⟩ := query_answered (h := h) serves hu (judge := judgeFrameQuery) rfl
    exact ⟨t, next, only, answered, u.me.frame.payload_carries⟩
  · obtain ⟨t, next, only, answered⟩ := query_answered (h := h) (a := { code := .done, payload := u.monitorPayload m }) serves hu
      (judge := judgeMonitorQuery b) (by rw [judgeMonitorQuery, withStep_names n]; rfl)
    exact ⟨t, next, only, answered, u.monitorPayload_carries m⟩
  · obtain ⟨t, next, only, answered⟩ := query_answered (h := h) serves hu (judge := judgeTripQuery) rfl
    exact ⟨t, next, only, answered, u.tripPayload_carries⟩
  · have named : SettingId.ofBytes n.toNat i.toNat = some x := SettingId.ofBytes_eq_some_iff.mpr ⟨number, index⟩
    have payload : u.getPayload x = n :: i :: be 2 (u.set.settings.get x) := by
      rw [State.getPayload, number, index]
      simp [byte]
    refine query_answered serves hu (judge := judgeGet n i) ?_
    rw [judgeGet, named, ← payload]

end Sys2Proof.Machine
end

section
/-!
SUPPORT. The blocks of the STATUS payload (9.9), each with the fields it carries.
-/
namespace Sys2Proof.Machine

/-! ## Masks and lists of one byte each -/

theorem foldl_add_eq (g : StepId → Nat) (xs : List StepId) (a : Nat) :
    xs.foldl (fun acc k => acc + g k) a = a + (xs.map g).sum := by
  induction xs generalizing a with
  | nil => rfl
  | cons x xs ih => rw [List.foldl_cons, ih, List.map_cons, List.sum_cons, Nat.add_assoc]

theorem sum_filter_eq (b : StepId → Bool) (g : StepId → Nat) (xs : List StepId) :
    ((xs.filter b).map g).sum = (xs.map fun k => if b k then g k else 0).sum := by
  induction xs with
  | nil => rfl
  | cons x xs ih => by_cases is : b x = true <;> simp [is, ih]

theorem maskOf_eq (b : StepId → Bool) : maskOf b = byte (maskNo b) := by
  rw [maskOf, foldl_add_eq, Nat.zero_add, maskNo, sum_filter_eq]

theorem Stands.step {l : List Byte} {a : Nat} {g : StepId → Byte} (stands : Stands l a (allSteps.map g)) (k : StepId) :
    l[a + k.val]? = some (g k) := by
  rw [stands k.val (by simp [allSteps]), List.getElem?_map, allSteps_getElem? k]
  rfl

theorem Stands.exactly {l : List Byte} {a n : Nat} {x : List Byte} (stands : Stands l a (exactly n x)) {i : Nat} (small : i < n) :
    l[a + i]? = some (x[i]?.getD 0) := by
  rw [stands i (by rwa [exactly_length]), exactly_getElem? small]

/-- FFFF hex. -/
theorem stands_absent (l : List Byte) (a : Nat) :
    Stands l a (be 2 65535) ↔ l[a]? = some 0xFF ∧ l[a + 1]? = some 0xFF := by
  have bytes : be 2 65535 = [0xFF, 0xFF] := rfl
  rw [bytes, stands_cons, stands_cons]
  simp [stands_nil]

/-! ## Numbers of 9.9 -/

theorem keyNo_eq (o : Option KeyPos) : keyNo o = numbered [.loc, .remote] o := by
  cases o with
  | none => rfl
  | some x => cases x <;> rfl

theorem skipNo_eq (o : Option SkipCause) :
    skipNo o = numbered [.converted, .otherStepChanged, .replaced, .stepMoved, .noVPre, .noVPost, .deltaLimit] o := by
  cases o with
  | none => rfl
  | some x => cases x <;> rfl

theorem ResetCause.code_eq (c : ResetCause) : c.code = numbered [.powerOn, .pin] (some c) := by cases c <;> rfl
theorem Supervision.code_eq (c : Supervision) : c.code = numbered [.ok, .late, .lost] (some c) := by cases c <;> rfl
theorem LineState.code_eq (c : LineState) : c.code = numbered [.live, .dead] (some c) := by cases c <;> rfl
theorem OpKind.code_eq (c : OpKind) : c.code = numbered opKinds (some c) := by cases c <;> rfl
theorem EntryStatus.code_eq (c : EntryStatus) : c.code = numbered [.waiting, .inFlight] (some c) := by cases c <;> rfl
theorem BlockCause.code_eq (c : BlockCause) :
    c.code = numbered [.harmonic, .overvoltage, .backupTrip, .tripRecord] (some c) := by cases c <;> rfl
theorem BackupReason.code_eq (c : BackupReason) :
    c.code = numbered [.closeTimeout, .openTimeout, .contactFault, .failedStep] (some c) := by cases c <;> rfl
theorem OutcomeWhat.code_eq (c : OutcomeWhat) :
    c.code = numbered [.closeOp, .openOp, .tripOp, .select, .save, .capture] (some c) := by cases c <;> rfl

theorem OutcomeResult.cancelCode_eq (r : OutcomeResult) : r.cancelCode = cancelNo r := by
  cases r with
  | cancelled c => cases c <;> rfl
  | _ => rfl

theorem markNo_eq (m : Option Mark) : markNo m = numbered opKinds (m.map (·.kind)) := by
  cases m with
  | none => rfl
  | some m => exact OpKind.code_eq m.kind

theorem byte_three : byte 3 = 3 := rfl
theorem byte_four : byte 4 = 4 := rfl
theorem byte_five : byte 5 = 5 := rfl
theorem byte_six : byte 6 = 6 := rfl

/-! ## The blocks -/

section
variable (u : State) {l : List Byte}

theorem State.slotBytes_length (p : Port) (a : Nat) : (u.slotBytes p a).length = 6 := by
  unfold State.slotBytes
  split <;> simp [u.unstated_length]

theorem State.slotBytes_carries {p : Port} {a : Nat} (stands : Stands l a (u.slotBytes p a)) : carries l (slotFields u p a) := by
  unfold State.slotBytes at stands
  unfold slotFields
  cases held : u.slot p with
  | none =>
    simp only [held, stands_cons] at stands
    simp only [carries_cons, carries_nil, stands_byte, stands, and_self]
  | some x =>
    simp only [held, stands_cons, stands_append, stands_nil, List.length_cons, List.length_nil, Nat.reduceAdd, stepNo] at stands
    have tag : byte x.tag.toNat = x.tag := by simp [byte]
    simp only [carries_cons, carries_nil, stands_byte, stands, and_self, tag]

theorem orderBytes_length (o : List StepId) : (orderBytes o).length = 9 := by simp [orderBytes]

theorem orderBytes_carries {o : List StepId} {a : Nat} (stands : Stands l a (orderBytes o)) : carries l (orderFields o a) := by
  rw [orderBytes, stands_cons] at stands
  obtain ⟨length, steps⟩ := stands
  rw [orderFields, carries_cons, stands_byte, carries_range]
  refine ⟨length, fun i small => ?_⟩
  rw [stands_byte, steps.exactly small, List.getElem?_map, ← stepNoOpt_eq]
  cases o[i]? <;> rfl

theorem State.backupBytes_length : u.backupBytes.length = 7 := by
  unfold State.backupBytes
  split <;> simp

/-- The backup trip record's fields of STATUS (9.9). -/
def backupFields : Option BackupRecord → List (Nat × Nat × Nat)
  | none => [(67, 1, 0), (68, 1, 0), (69, 1, 0), (70, 4, 0)]
  | some r =>
    [(67, 1, r.step.val + 1),
      (68, 1, numbered [.closeTimeout, .openTimeout, .contactFault, .failedStep] (some r.reason)),
      (69, 1, numbered originators (some r.originator)), (70, 4, r.uptime)]

theorem State.backupBytes_carries (stands : Stands l 67 u.backupBytes) : carries l (backupFields u.upu.backup) := by
  unfold State.backupBytes at stands
  cases held : u.upu.backup with
  | none =>
    have zero : exactly 7 [] = byte 0 :: byte 0 :: byte 0 :: be 4 0 := rfl
    simp only [held, zero, stands_cons, Nat.reduceAdd] at stands
    simp only [backupFields, carries_cons, carries_nil, stands_byte, stands, and_self]
  | some r =>
    simp only [held, stands_cons, stands_append, stands_nil, List.length_cons, List.length_nil, Nat.reduceAdd, stepNo,
      BackupReason.code_eq, Originator.code_eq] at stands
    simp only [backupFields, carries_cons, carries_nil, stands_byte, stands, and_self]

theorem Decision.bytes_length (d : Decision) : d.bytes.length = 7 := by cases d <;> simp [Decision.bytes, beSigned_eq]

theorem State.decisionCount_length (d : Decision) (a : Nat) : (u.decisionCount d a).length = 1 := by
  cases d <;> simp [State.decisionCount, u.unstated_length]

theorem State.decisionBytes_length (a : Nat) : (u.decisionBytes a).length = 12 := by
  unfold State.decisionBytes
  split <;> simp [u.unstated_length, Decision.bytes_length, u.decisionCount_length]

theorem Decision.bytes_carries {d : Decision} {a : Nat} (bytes : Stands l 84 d.bytes)
    (count : Stands l 91 (u.decisionCount d a)) : carries l (decisionFields d) := by
  cases d
  all_goals
    simp only [Decision.bytes, stands_cons, stands_append, stands_nil, List.length_cons, List.length_nil, Nat.reduceAdd,
      stepNo, beSigned_eq, be_length, List.length_append, OpKind.code_eq, BlockCause.code_eq] at bytes
    simp only [State.decisionCount, stands_cons] at count
    simp only [decisionFields, carries_cons, carries_nil, stands_byte, stands_absent, byte_zero, byte_one, byte_two, byte_three,
      byte_four, byte_five, byte_six, Nat.reduceAdd, bytes, count, and_self]

/-- The last decision's fields of STATUS (9.9). -/
def lastDecisionFields : Option DecisionRecord → List (Nat × Nat × Nat)
  | none => [(84, 1, 0), (85, 1, 0), (86, 1, 0), (87, 1, 0), (88, 2, 65535), (90, 1, 0)]
  | some d => decisionFields d.decision ++ [(92, 4, d.frame)]

theorem State.decisionBytes_carries (stands : Stands l 84 (u.decisionBytes 84)) :
    carries l (lastDecisionFields u.avc.lastDecision) := by
  unfold State.decisionBytes at stands
  cases last : u.avc.lastDecision with
  | none =>
    simp only [last, stands_cons, stands_append, stands_nil, Nat.reduceAdd] at stands
    simp only [lastDecisionFields, carries_cons, carries_nil, stands_byte, stands_absent, byte_zero, Nat.reduceAdd, stands,
      and_self]
  | some d =>
    simp only [last, stands_append, List.length_append, Decision.bytes_length, u.decisionCount_length, Nat.reduceAdd] at stands
    obtain ⟨⟨bytes, count⟩, frame⟩ := stands
    rw [lastDecisionFields, carries_append, carries_cons]
    exact ⟨Decision.bytes_carries u bytes count, frame, carries_nil l⟩

/-- The last open-all's fields of STATUS (9.9). -/
def lastOpenAllFields : Option OpenAllRecord → List (Nat × Nat × Nat)
  | none => (96, 1, 0) :: (List.range 8).map (fun i => (98 + i, 1, 0))
  | some r =>
    [(96, 1, 1), (97, 1, r.count), (106, 4, r.frame), (110, 4, r.uptime)]
      ++ (List.range 8).map (fun i => (98 + i, 1, ((r.answers[i]?).map (fun a => a.result.code)).getD 0))

theorem State.openAllBytes_length (a : Nat) : (u.openAllBytes a).length = 18 := by
  unfold State.openAllBytes
  split <;> simp [u.unstated_length]

theorem State.openAllBytes_carries (stands : Stands l 96 (u.openAllBytes 96)) :
    carries l (lastOpenAllFields u.avc.lastOpenAll) := by
  unfold State.openAllBytes at stands
  cases last : u.avc.lastOpenAll with
  | none =>
    simp only [last, stands_cons, stands_append, u.unstated_length, Nat.reduceAdd] at stands
    obtain ⟨present, ⟨-, answers⟩, -⟩ := stands
    rw [lastOpenAllFields, carries_cons, stands_byte, carries_range]
    refine ⟨present, fun i small => ?_⟩
    rw [stands_byte, answers.exactly small]
    rfl
  | some r =>
    simp only [last, stands_cons, stands_append, stands_nil, List.length_append, exactly_length, be_length, List.length_cons,
      List.length_nil, Nat.reduceAdd] at stands
    obtain ⟨⟨⟨⟨present, count, -⟩, answers⟩, frame⟩, uptime⟩ := stands
    rw [lastOpenAllFields, carries_append, carries_range]
    refine ⟨by simp only [carries_cons, carries_nil, stands_byte, present, count, frame, uptime, and_self], fun i small => ?_⟩
    rw [stands_byte, answers.exactly small, List.getElem?_map]
    cases r.answers[i]? <;> rfl

/-- The last AVC result's fields of STATUS (9.9). -/
def lastResultFields : Option AvcResult → List (Nat × Nat × Nat)
  | none => [(114, 1, 0), (115, 1, 0), (117, 1, 0), (118, 1, 0), (119, 1, 0)]
  | some r =>
    [(114, 1, r.step.val + 1), (115, 1, numbered opKinds (some r.kind)), (116, 1, oneIf r.fast),
      (117, 1, resultNo r.result), (118, 1, cancelNo r.result), (119, 1, numbered stepStates r.state), (120, 4, r.uptime)]

theorem State.avcResultBytes_length (a : Nat) : (u.avcResultBytes a).length = 10 := by
  unfold State.avcResultBytes
  split <;> simp [u.unstated_length]

theorem State.avcResultBytes_carries (stands : Stands l 114 (u.avcResultBytes 114)) :
    carries l (lastResultFields u.avc.lastResult) := by
  unfold State.avcResultBytes at stands
  cases last : u.avc.lastResult with
  | none =>
    simp only [last, stands_cons, stands_append, stands_nil, u.unstated_length, List.length_append, List.length_cons,
      List.length_nil, Nat.reduceAdd] at stands
    simp only [lastResultFields, carries_cons, carries_nil, stands_byte, byte_zero, stands, and_self]
  | some r =>
    simp only [last, stands_cons, stands_append, stands_nil, List.length_cons, List.length_nil, Nat.reduceAdd, stepNo,
      OpKind.code_eq, flagByte_eq, OutcomeResult.code_eq, OutcomeResult.cancelCode_eq, stateNo_eq] at stands
    simp only [lastResultFields, carries_cons, carries_nil, stands_byte, stands, and_self]

/-- The last rise result's fields of STATUS (9.9). -/
def lastRiseFields : Option RiseResult → List (Nat × Nat × Nat)
  | none =>
    [(124, 1, 0), (125, 1, 0), (126, 2, 65535), (128, 2, 65535), (130, 2, 65535), (134, 1, 0), (135, 1, 0)]
  | some r =>
    [(124, 1, r.step.val + 1), (125, 1, numbered opKinds (some r.kind)),
      (126, 2, r.vPre.getD 65535), (128, 2, r.vPost.getD 65535),
      (130, 2, match r.vPre, r.vPost with
        | some p, some q => max p q - min p q
        | _, _ => 65535),
      (132, 1, r.before), (133, 1, r.after), (134, 1, if r.skipped = none then 1 else 2),
      (135, 1, numbered [.converted, .otherStepChanged, .replaced, .stepMoved, .noVPre, .noVPost,
        .deltaLimit] r.skipped), (136, 4, r.frame)]

theorem State.riseBytes_length (a : Nat) : (u.riseBytes a).length = 16 := by
  unfold State.riseBytes
  split <;> simp [u.unstated_length, be16Opt]

theorem RiseResult.delta_eq (r : RiseResult) : r.delta.getD 0xFFFF = match r.vPre, r.vPost with
    | some p, some q => max p q - min p q
    | _, _ => 65535 := by
  unfold RiseResult.delta
  cases r.vPre with
  | none => rfl
  | some p =>
    cases r.vPost with
    | none => rfl
    | some q =>
      show dist q p = max p q - min p q
      unfold dist
      omega

theorem State.riseBytes_carries (stands : Stands l 124 (u.riseBytes 124)) : carries l (lastRiseFields u.cu.lastRise) := by
  unfold State.riseBytes at stands
  cases last : u.cu.lastRise with
  | none =>
    simp only [last, stands_cons, stands_append, stands_nil, u.unstated_length, List.length_append, List.length_cons,
      List.length_nil, Nat.reduceAdd] at stands
    simp only [lastRiseFields, carries_cons, carries_nil, stands_byte, stands_absent, Nat.reduceAdd, byte_zero, stands, and_self]
  | some r =>
    simp only [last, stands_cons, stands_append, stands_nil, List.length_append, be_length, List.length_cons, List.length_nil,
      Nat.reduceAdd, stepNo, OpKind.code_eq, be16Opt, skipNo_eq, Option.isNone_iff_eq_none] at stands
    have delta := r.delta_eq
    simp only [lastRiseFields, carries_cons, carries_nil, stands_byte, ← delta, stands, and_self]

/-- The capture engine's fields of STATUS (9.9). -/
def captureFields : Option Capture → List (Nat × Nat × Nat)
  | none => [(140, 1, 0)]
  | some c => [(140, 1, c.step.val + 1), (141, 1, c.count)]

theorem State.captureBytes_length (a : Nat) : (u.captureBytes a).length = 2 := by
  unfold State.captureBytes
  split <;> simp [u.unstated_length]

theorem State.captureBytes_carries (stands : Stands l 140 (u.captureBytes 140)) : carries l (captureFields u.upu.capture) := by
  unfold State.captureBytes at stands
  cases running : u.upu.capture with
  | none =>
    simp only [running, stands_cons] at stands
    simp only [captureFields, carries_cons, carries_nil, stands_byte, stands, and_self]
  | some c =>
    simp only [running, stands_cons, Nat.reduceAdd, stepNo] at stands
    simp only [captureFields, carries_cons, carries_nil, stands_byte, stands, and_self]

theorem Entry.bytes_length (e : Entry) : e.bytes.length = 6 := rfl

theorem Entry.bytes_carries {e : Entry} {a : Nat} (stands : Stands l a e.bytes) : carries l (entryFields a e) := by
  simp only [Entry.bytes, stands_cons, stands_nil, Nat.add_assoc, Nat.reduceAdd, OpKind.code_eq, stepNo, Originator.code_eq,
    EntryStatus.code_eq, markNo_eq, flagByte_eq] at stands
  simp only [entryFields, carries_cons, carries_nil, stands_byte, stands, and_self]

/-- The fields of a place of the Operation Queue in STATUS (9.9). -/
def placeFields (a : Nat) : Option Entry → List (Nat × Nat × Nat)
  | none => [(a, 6, 0)]
  | some e => entryFields a e

theorem queueBytes_carries {q : List Entry} (stands : Stands l 143 (exactly 48 (q.flatMap Entry.bytes))) {i : Nat}
    (small : i < 8) : carries l (placeFields (143 + 6 * i) q[i]?) := by
  have piece := Stands.exactly_flatMap (f := Entry.bytes) Entry.bytes_length stands (i := i) (by omega)
  cases at_ : q[i]? with
  | none =>
    rw [at_] at piece
    exact (carries_cons l _ _ _ _).mpr ⟨piece, carries_nil l⟩
  | some e =>
    rw [at_] at piece
    exact Entry.bytes_carries piece

end

end Sys2Proof.Machine
end

section
/-!
A.3 Queries (R20, R183, R187, 9.9): STATUS and OUTCOME_READ.
-/
namespace Sys2Proof.Machine

/-! ## The STATUS payload -/

theorem State.retryBytes_length (u : State) (a : Nat) : (u.retryBytes a).length = 1 := by
  unfold State.retryBytes
  split <;> simp [u.unstated_length]

theorem allMonitors_length : allMonitors.length = 8 := rfl
theorem allSteps_length : allSteps.length = 8 := rfl

theorem State.statusHead_length (u : State) (p : Port) : (u.statusHead p).length = 32 := by
  simp only [State.statusHead, List.length_append, List.length_cons, List.length_nil, be16Opt, be_length, u.slotBytes_length,
    List.length_map, allSteps_length]

theorem State.statusMiddle_length (u : State) : u.statusMiddle.length = 52 := by
  simp only [State.statusMiddle, List.length_append, List.length_cons, List.length_nil, be_length, orderBytes_length,
    u.backupBytes_length, List.length_map, allMonitors_length]

theorem State.statusTail_length (u : State) : u.statusTail.length = 116 := by
  simp only [State.statusTail, List.length_append, List.length_cons, List.length_nil, be_length, u.decisionBytes_length,
    u.openAllBytes_length, u.avcResultBytes_length, u.riseBytes_length, u.captureBytes_length, exactly_length,
    u.retryBytes_length]

theorem State.statusPayload_length (u : State) (p : Port) : (u.statusPayload p).length = 200 := by
  simp only [State.statusPayload, List.length_append, u.statusHead_length, u.statusMiddle_length, u.statusTail_length]

theorem State.blockMask_eq (u : State) : u.blockMask = byte (oneIf u.lineDead + 2 * oneIf u.harmonicBlock
    + 4 * oneIf u.overvoltageBlock + 8 * oneIf u.bkt + 16 * oneIf u.tripRecordBlock) := by
  unfold State.blockMask
  cases u.lineDead <;> cases u.harmonicBlock <;> cases u.overvoltageBlock <;> cases u.bkt <;> cases u.tripRecordBlock <;> rfl

section
variable (u : State) {l : List Byte} {p : Port}

/-- STATUS bytes 0 to 31. -/
theorem State.statusHead_carries (stands : Stands l 0 (u.statusHead p)) :
    l[0]? = some (flagByte (u.portState p).changeFlag) ∧ carries l
      ([(0, 1, oneIf (u.portState p).changeFlag), (1, 1, numbered [.powerOn, .pin] (some u.clock.cause)),
        (2, 1, oneIf u.set.defaulted), (3, 1, numbered [.loc, .remote] u.au.key),
        (4, 1, numbered [.a, .b] u.holder), (5, 1, oneIf u.au.auto),
        (6, 1, numbered [.ok, .late, .lost] (some u.au.supervision)),
        (7, 2, u.au.remaining.getD 65535), (21, 1, (u.portState p).lost),
        (22, 1, (u.outcomes p).length), (23, 1, 10 - u.sharedUsed)]
        ++ slotFields u .a 9 ++ slotFields u .b 15
        ++ allSteps.map (fun k => (24 + k.val, 1, numbered stepStates (u.stepRec k).state))) := by
  simp only [State.statusHead, stands_append, stands_cons, stands_nil, List.length_append, List.length_cons, List.length_nil,
    Nat.reduceAdd, Nat.zero_add, be16Opt, be_length, u.slotBytes_length, and_true, ResetCause.code_eq, keyNo_eq, portNo_eq,
    Supervision.code_eq, stateNo_eq] at stands
  obtain ⟨⟨⟨⟨⟨⟨first, cause, defaulted, key, holder, auto, supervision⟩, remaining⟩, slotA⟩, slotB⟩, lost, outcomes, shared⟩,
    states⟩ := stands
  refine ⟨first, ?_⟩
  have a := u.slotBytes_carries slotA
  have b := u.slotBytes_carries slotB
  rw [flagByte_eq] at first defaulted auto
  simp only [carries_append, carries_cons, carries_nil, stands_byte, carries_map, a, b, first, cause, defaulted, key, holder,
    auto, supervision, remaining, lost, outcomes, shared, and_self, true_and]
  exact fun k _ => states.step k

/-- STATUS bytes 32 to 83. -/
theorem State.statusMiddle_carries (stands : Stands l 32 u.statusMiddle) :
    carries l (orderFields u.ss.readyOrder 32) ∧ carries l (orderFields u.ss.closedOrder 41)
      ∧ carries l [(50, 1, maskNo (fun k => decide (k ∈ u.ss.closedWhileCharged))),
        (51, 1, maskNo (fun k => decide (k ∈ u.ss.unexpectedOpen))),
        (52, 1, maskNo (fun k => (u.stepRec k).alarmFlag)), (53, 1, maskNo u.monitorActive)]
      ∧ carries l (allMonitors.map (fun m => (54 + m.val, 1, u.set.settings.m .action m)))
      ∧ carries l [(62, 1, oneIf u.lineDead + 2 * oneIf u.harmonicBlock + 4 * oneIf u.overvoltageBlock
            + 8 * oneIf u.bkt + 16 * oneIf u.tripRecordBlock),
        (63, 1, oneIf u.me.frame.vtLoss), (65, 1, oneIf u.bkt), (66, 1, oneIf u.upu.tripRecord.isSome)]
      ∧ l[64]? = some (flagByte (u.ss.tripIn.accepted.getD false))
      ∧ carries l (backupFields u.upu.backup)
      ∧ carries l [(74, 2, u.cu.settle), (76, 1, numbered [.live, .dead] (some u.avc.line)),
        (77, 2, u.avc.runCount), (79, 2, u.avc.dLow), (81, 2, u.avc.dHigh), (83, 1, u.avc.ovCnt)] := by
  simp only [State.statusMiddle, stands_append, stands_cons, stands_nil, List.length_append, List.length_cons, List.length_nil,
    Nat.reduceAdd, be_length, orderBytes_length, u.backupBytes_length, List.length_map, allMonitors_length, and_true,
    maskOf_eq, u.blockMask_eq, LineState.code_eq] at stands
  obtain ⟨⟨⟨⟨⟨⟨⟨⟨⟨⟨⟨ready, closed⟩, charged, opened, alarms, active⟩, actions⟩, blocks, vtLoss, trip, bkt, held⟩, backup⟩, settle⟩,
    line⟩, run⟩, low⟩, high⟩, ov⟩ := stands
  rw [flagByte_eq] at vtLoss bkt held
  simp only [carries_cons, carries_nil, stands_byte, carries_map, orderBytes_carries ready, orderBytes_carries closed,
    u.backupBytes_carries backup, charged, opened, alarms, active, blocks, vtLoss, trip, bkt, held, settle, line, run, low, high,
    ov, and_self, and_true, true_and]
  exact fun m _ => actions.step m

/-- STATUS bytes 84 to 199. -/
theorem State.statusTail_carries (stands : Stands l 84 u.statusTail) : carries l (statusFieldsHigh u) := by
  simp only [State.statusTail, stands_append, stands_cons, stands_nil, List.length_append, List.length_cons, List.length_nil,
    Nat.reduceAdd, be_length, u.decisionBytes_length, u.openAllBytes_length, u.avcResultBytes_length, u.riseBytes_length,
    u.captureBytes_length, exactly_length, u.retryBytes_length, and_true] at stands
  obtain ⟨⟨⟨⟨⟨⟨⟨⟨⟨decision, openAll⟩, result⟩, rise⟩, capture⟩, length⟩, queue⟩, retry⟩, uptime⟩, frame⟩ := stands
  have places : carries l ((List.range 8).flatMap fun i => placeFields (143 + 6 * i) u.oq.entries[i]?) :=
    (carries_flatMap l _ _).mpr fun i small => queueBytes_carries queue (List.mem_range.mp small)
  have count : carries l (if u.inFlight = none then [] else [(191, 1, u.oq.retryCount)]) := by
    split_ifs with idle
    · exact carries_nil l
    · rw [carries_cons, stands_byte]
      rw [State.retryBytes, if_pos (Option.isSome_iff_ne_none.mpr idle), stands_cons] at retry
      exact ⟨retry.1, carries_nil l⟩
  have last : carries l [(192, 4, u.clock.uptime), (196, 4, u.me.frame.number)] := by
    simp only [carries_cons, carries_nil, uptime, frame, and_self]
  simp only [statusFieldsHigh, carries_append]
  exact ⟨⟨⟨⟨⟨⟨⟨u.decisionBytes_carries decision, u.openAllBytes_carries openAll⟩, u.avcResultBytes_carries result⟩,
    u.riseBytes_carries rise⟩, u.captureBytes_carries capture⟩, 
    (carries_cons l _ _ _ _).mpr ⟨(stands_byte l _ _).mpr length, places⟩⟩, count⟩, last⟩

end

/-- The accepted value of the external trip in STATUS (9.9, log entry 29). -/
def tripInFields : Option Bool → List (Nat × Nat × Nat)
  | none => []
  | some b => [(64, 1, oneIf b)]

theorem tripIn_carries {l : List Byte} {o : Option Bool} (stands : l[64]? = some (flagByte (o.getD false))) :
    carries l (tripInFields o) := by
  cases o with
  | none => exact carries_nil l
  | some b =>
    rw [flagByte_eq] at stands
    exact (carries_cons l _ _ _ _).mpr ⟨(stands_byte l _ _).mpr stands, carries_nil l⟩

/-- The layout of STATUS (9.9). -/
theorem State.statusPayload_carries (u : State) (p : Port) :
    (u.statusPayload p).length = 200 ∧ (u.statusPayload p).head? = some (if (u.portState p).changeFlag then 1 else 0)
      ∧ carries (u.statusPayload p) (statusFieldsLow u p) ∧ carries (u.statusPayload p) (statusFieldsHigh u) := by
  refine ⟨u.statusPayload_length p, ?_⟩
  obtain ⟨l, is⟩ : ∃ l, l = u.statusPayload p := ⟨_, rfl⟩
  have all := Stands.of_eq is
  rw [← is]
  simp only [State.statusPayload, stands_append, List.length_append, u.statusHead_length, u.statusMiddle_length, Nat.reduceAdd,
    Nat.zero_add] at all
  obtain ⟨⟨head, middle⟩, tail⟩ := all
  obtain ⟨first, low⟩ := u.statusHead_carries head
  obtain ⟨ready, closed, sets, actions, blocks, trip, backup, counts⟩ := u.statusMiddle_carries middle
  refine ⟨?_, ?_, u.statusTail_carries tail⟩
  · rw [List.head?_eq_getElem?, first]
    cases (u.portState p).changeFlag <;> rfl
  · simp only [statusFieldsLow, carries_append]
    simp only [carries_append] at low
    exact ⟨⟨⟨⟨⟨⟨⟨⟨low, ready⟩, closed⟩, sets⟩, actions⟩, blocks⟩, tripIn_carries trip⟩, backup⟩, counts⟩

/-! ## OUTCOME_READ -/

theorem OutcomeRecord.bytes_carries (r : OutcomeRecord) : r.bytes.length = 10 ∧ carries r.bytes (recordFields r) := by
  refine ⟨rfl, ?_⟩
  obtain ⟨l, is⟩ : ∃ l, l = r.bytes := ⟨_, rfl⟩
  have all := Stands.of_eq is
  have tag : byte r.tag.toNat = r.tag := by simp [byte]
  rw [← is]
  simp only [OutcomeRecord.bytes, stands_append, stands_cons, stands_nil, List.length_cons, List.length_nil, Nat.reduceAdd,
    Nat.zero_add, and_true, OutcomeWhat.code_eq, OutcomeResult.code_eq, OutcomeResult.cancelCode_eq, stateNo_eq, stepNoOpt_eq] at all
  simp only [recordFields, stepNumber, carries_cons, carries_nil, stands_byte, tag, all, and_self]

/-! ## O18 -/

theorem State.setPort_outcomes (s : State) (p q : Port) (v : PortState) : (s.setPort p v).outcomes q = s.outcomes q := by
  cases q <;> simp [State.outcomes]

theorem State.setOutcomes_portState (s : State) (p q : Port) (l : List (Slot × OutcomeRecord)) :
    (s.setOutcomes p l).portState q = s.portState q := by
  cases q <;> simp [State.portState]

theorem State.clearLost_outcomes (s : State) (p q : Port) : (s.clearLost p).outcomes q = s.outcomes q :=
  s.setPort_outcomes p q _

theorem State.clearLost_portState (s : State) (p q : Port) :
    (s.clearLost p).portState q = if q = p then { s.portState p with lost := 0 } else s.portState q :=
  s.portState_setPort p q _

theorem State.clearLost_onlyIn (s : State) (p : Port) : s.onlyIn (s.clearLost p) [.pi] := s.setPort_onlyIn p _

theorem State.clearLatches_onlyIn (s : State) : s.onlyIn s.clearLatches [.ss] := by
  intro c other
  cases c <;> simp_all [State.sameBlock, State.clearLatches]

/-- STATUS clears its port's flag and empties the sets, and the response fills the buffer (R20, R183). -/
theorem State.status_leaves (u : State) (p : Port) (tag : Byte) (a : Answer) {t : State}
    (ht : t = ((u.clearFlag p).clearLatches).respond p tag a) :
    (∀ q, t.portState q = if q = p then { u.portState p with changeFlag := false, buffer := some (responseBytes tag a) }
        else u.portState q)
      ∧ t.ss = { u.ss with closedWhileCharged := [], unexpectedOpen := [] } ∧ u.onlyIn t [.pi, .ss] := by
  have cleared : ∀ q, ((u.clearFlag p).clearLatches).portState q
      = if q = p then { u.portState p with changeFlag := false } else u.portState q :=
    fun q => u.portState_setPort p q _
  subst ht
  refine ⟨fun q => ?_, ?_, ?_⟩
  · rw [State.respond_portState, cleared, cleared, if_pos rfl]
    split_ifs <;> rfl
  · rw [State.respond_ss, State.clearLatches, State.clearFlag, State.setPort_ss]
  · exact State.onlyIn_trans (State.onlyIn_mono (u.setPort_onlyIn p _) (by simp)) (State.onlyIn_trans
      (State.onlyIn_mono (u.clearFlag p).clearLatches_onlyIn (by simp))
      (State.onlyIn_mono (((u.clearFlag p).clearLatches).respond_onlyIn p tag a) (by simp)))

/-- OUTCOME_READ leaves what it does not take (R187). -/
theorem State.outcomeRead_leaves {u v : State} {p : Port} {tag : Byte} {a : Answer} {t : State}
    (ports : ∀ q, v.portState q = u.portState q) (others : ∀ q, q ≠ p → v.outcomes q = u.outcomes q)
    (only : u.onlyIn v [.os]) (ht : t = (v.clearLost p).respond p tag a) :
    (t.portState p).lost = 0 ∧ (t.portState p).changeFlag = (u.portState p).changeFlag
      ∧ (∀ q, q ≠ p → t.portState q = u.portState q ∧ t.outcomes q = u.outcomes q)
      ∧ t.outcomes p = v.outcomes p ∧ (t.portState p).buffer = some (responseBytes tag a)
      ∧ u.onlyIn t [.pi, .os] := by
  subst ht
  have same : ∀ q, ((v.clearLost p).respond p tag a).outcomes q = v.outcomes q := fun q => by
    rw [State.respond_outcomes, State.clearLost_outcomes]
  refine ⟨?_, ?_, fun q other => ⟨?_, (same q).trans (others q other)⟩, same p, ?_, ?_⟩
  · rw [State.respond_portState, if_pos rfl, State.clearLost_portState, if_pos rfl]
  · rw [State.respond_changeFlag, State.clearLost_portState, if_pos rfl, ports]
  · rw [State.respond_portState, if_neg other, State.clearLost_portState, if_neg other, ports]
  · rw [State.respond_portState, if_pos rfl]
  · exact State.onlyIn_trans (State.onlyIn_mono only (by simp)) (State.onlyIn_trans
      (State.onlyIn_mono (v.clearLost_onlyIn p) (by simp))
      (State.onlyIn_mono ((v.clearLost p).respond_onlyIn p tag a) (by simp)))

/-- Settles O18: the payloads are read off block by block, and the two effects are the port's own. -/
theorem statusAndOutcomeReadTakeWhatTheyReport : Obligations.StatusAndOutcomeReadTakeWhatTheyReport := by
  refine ⟨fun h s u serves hu => ?_, fun h s u serves hu => ?_⟩
  · obtain ⟨length, first, low, high⟩ := u.statusPayload_carries h.port
    have next := State.request_of_judge (permitted := true) serves rfl hu (judge := judgeStatus h.port)
      (v := (u.clearFlag h.port).clearLatches) (a := { code := .done, payload := u.statusPayload h.port }) rfl
    obtain ⟨ports, steps, only⟩ := u.status_leaves h.port h.tag _ next
    have own := ports h.port
    rw [if_pos rfl] at own
    refine ⟨_, rfl, ?_, length, first, low, high, ?_, ?_, fun p other => (ports p).trans (if_neg other), steps, only⟩
    · rw [own]
    · rw [own]
    · rw [own]
  · cases records : u.outcomes h.port with
    | nil =>
      have next := State.request_of_judge (permitted := true) serves rfl hu (judge := judgeOutcomeRead h.port)
        (v := u.clearLost h.port) (a := { code := .empty, payload := [byte (u.portState h.port).lost, 0] })
        (by rw [judgeOutcomeRead, records])
      obtain ⟨lost, flag, others, list, buffer, only⟩ := State.outcomeRead_leaves (u := u) (v := u) (fun _ => rfl)
        (fun _ _ => rfl) (State.onlyIn_refl u _) next
      exact ⟨_, rfl, lost, flag, others, ⟨list.trans records, buffer⟩, only⟩
    | cons x rest =>
      obtain ⟨slot, r⟩ := x
      have next := State.request_of_judge (permitted := true) serves rfl hu (judge := judgeOutcomeRead h.port)
        (v := (u.setOutcomes h.port rest).clearLost h.port)
        (a := { code := .done, payload := [byte (u.portState h.port).lost, byte rest.length] ++ r.bytes })
        (by rw [judgeOutcomeRead, records])
      obtain ⟨lost, flag, others, list, buffer, only⟩ := State.outcomeRead_leaves (u := u) (u.setOutcomes_portState h.port · rest)
        (fun q other => by rw [State.outcomes_setOutcomes, if_neg other]) (u.setOutcomes_onlyIn h.port rest) next
      obtain ⟨length, fields⟩ := r.bytes_carries
      rw [State.outcomes_setOutcomes, if_pos rfl] at list
      exact ⟨_, rfl, lost, flag, others, ⟨list, buffer, length, fields⟩, only⟩

end Sys2Proof.Machine
end

section
/-!
SUPPORT. What a posting makes of the state, case by case (R50 to R58), and what all that happens at the arrival
of a frame leaves to the block whose own part it is (R44).
-/
namespace Sys2Proof.Machine

/-! ## A posting, case by case (R50 to R58) -/

/-- The states that a posting can make. -/
inductive State.PostedAs (s : State) (p : Posting) : State → Prop
  /-- nothing but the answer -/
  | kept : State.PostedAs s p s
  /-- a new entry (R51 to R53) -/
  | joined (free : s.entryOf p.step = none)
      (fits : (s.stepRec p.step).state = some (if p.kind = .closeOp then .ready else .closed))
      (service : p.kind = .closeOp → s.inService p.step = true) : State.PostedAs s p (s.admitNew p)
  /-- the lockout of an open step (R53) -/
  | lockedOut (trip : p.kind = .tripOp) (free : s.entryOf p.step = none)
      (away : (s.stepRec p.step).state = some .ready ∨ (s.stepRec p.step).state = some .discharging) :
      State.PostedAs s p (s.enter p.step .lockout (some (lockoutCauseOf p.originator)) none)
  /-- the backup trip of a failed step (R53) -/
  | backedUp (trip : p.kind = .tripOp) (failed : (s.stepRec p.step).state = some .failed) :
      State.PostedAs s p (s.assertBkt p.step .failedStep p.originator)
  /-- an OPEN removes a WAITING CLOSE (R54) -/
  | withdrawn (e : Entry) (entry : s.entryOf p.step = some e) (waits : e.status = .waiting) (close : e.kind = .closeOp) :
      State.PostedAs s p ((s.dropEntry p.step).entryResult e (.cancelled .openedByRequest))
  /-- a TRIP removes a WAITING CLOSE and locks its step out (R54) -/
  | lockedOutOf (trip : p.kind = .tripOp) (e : Entry) (entry : s.entryOf p.step = some e) (waits : e.status = .waiting)
      (close : e.kind = .closeOp) :
      State.PostedAs s p (((s.dropEntry p.step).enter p.step .lockout (some (lockoutCauseOf p.originator)) none).entryResult e
        (.cancelled .lockout))
  /-- a TRIP takes the place of a WAITING OPEN (R55) -/
  | upgraded (trip : p.kind = .tripOp) (e : Entry) (entry : s.entryOf p.step = some e) (waits : e.status = .waiting)
      (opens : e.kind = .openOp) :
      State.PostedAs s p ((s.modEntry p.step (fun x => x.upgraded p)).entryResult e .superseded)
  /-- a mark on an entry in flight (R57, R58) -/
  | marked (e : Entry) (entry : s.entryOf p.step = some e) (flies : e.status = .inFlight) (bare : e.mark = none) :
      State.PostedAs s p (s.setMark p)
  /-- a mark TRIP takes the place of a mark OPEN on a CLOSE in flight (R57) -/
  | remarked (trip : p.kind = .tripOp) (e : Entry) (entry : s.entryOf p.step = some e) (flies : e.status = .inFlight)
      (close : e.kind = .closeOp) (m : Mark) : State.PostedAs s p ((s.setMark p).markResult p.step m .superseded)

theorem State.postClose_as {s : State} {p : Posting} (free : s.entryOf p.step = none) (close : p.kind = .closeOp) :
    s.PostedAs p (s.postClose p).1 := by
  unfold State.postClose
  dsimp only
  split_ifs with cooling other out
  case neg => exact .joined free (by simpa [close] using other) (fun _ => by simpa using out)
  all_goals exact .kept

theorem State.postOpen_as {s : State} {p : Posting} (free : s.entryOf p.step = none) (opens : p.kind = .openOp) :
    s.PostedAs p (s.postOpen p).1 := by
  unfold State.postOpen
  split
  · next closed => exact .joined free (by simpa [opens] using closed) (by simp [opens])
  · exact .kept
  · exact .kept
  · exact .kept

theorem State.postTrip_as {s : State} {p : Posting} (free : s.entryOf p.step = none) (trip : p.kind = .tripOp) :
    s.PostedAs p (s.postTrip p).1 := by
  unfold State.postTrip
  split
  · next closed => exact .joined free (by simpa [trip] using closed) (by simp [trip])
  · next ready => exact .lockedOut trip free (.inl ready)
  · next discharging => exact .lockedOut trip free (.inr discharging)
  · exact .kept
  · next failed =>
      split
      · exact .kept
      · exact .backedUp trip failed
  · exact .kept

/-- A posting makes one of the states listed (R50 to R58). -/
theorem State.post_as (s : State) (p : Posting) : s.PostedAs p (s.post p).1 := by
  by_cases absent : (s.stepRec p.step).state = none
  · rw [State.post_absent absent]
    exact .kept
  cases found : s.entryOf p.step with
  | none =>
    cases kind : p.kind with
    | closeOp =>
      have posted : s.post p = s.postClose p := by simp [State.post, absent, found, kind]
      rw [posted]
      exact State.postClose_as found kind
    | openOp =>
      rw [State.post_open_of_entryOf_none kind found]
      exact State.postOpen_as found kind
    | tripOp =>
      rw [State.post_trip kind found]
      exact State.postTrip_as found kind
  | some e =>
    cases status : e.status with
    | waiting =>
      cases is : e.kind with
      | closeOp =>
        rw [State.post_onWaitingClose absent found status is]
        unfold State.postOnWaitingClose
        split
        · exact .withdrawn e found status is
        · next trip => exact .lockedOutOf trip e found status is
        · exact .kept
      | openOp =>
        rw [State.post_onWaitingOpen absent found status is]
        unfold State.postOnWaitingOpen
        split
        · next trip => exact .upgraded trip e found status is
        · exact .kept
        · exact .kept
      | tripOp =>
        rw [State.post_onWaitingTrip absent found status is]
        unfold State.postOnWaitingTrip
        split <;> exact .kept
    | inFlight =>
      by_cases is : e.kind = .closeOp
      · rw [State.post_onFlightClose absent found status is]
        unfold State.postOnFlightClose
        split
        · exact .kept
        · split
          · next bare => exact .marked e found status bare
          · exact .kept
        · next trip =>
          split
          · next bare => exact .marked e found status bare
          · next m _ =>
            split
            · exact .kept
            · exact .remarked trip e found status is m
      · rw [State.post_onFlightOpen absent found status is]
        unfold State.postOnFlightOpen
        split
        · exact .kept
        · exact .kept
        · split
          · next bare => exact .marked e found status bare.2
          · exact .kept

/-! ## What a block's taking of the frame alone writes (R44) -/

/-- What the AVC's taking of a frame alone writes of its record. -/
def AvcState.taken (a : AvcState) : LineState × Nat × Nat × Nat × Nat := (a.line, a.runCount, a.ovCnt, a.dLow, a.dHigh)

/-- What the HMU's taking of a frame alone writes of a monitor. -/
def Monitor.taken (m : Monitor) : Nat × Bool × Nat × Nat := (m.accumulator, m.active, m.assertCount, m.activeFrames)

/-- From `s` to `t` the blocks take nothing of the frame but in the block `x`; slots are emptied at most, and change flags
set at most. -/
structure State.Beside (x : Block) (s t : State) : Prop where
  /-- the AVC's counts -/
  control : x ≠ .avc → t.avc.taken = s.avc.taken
  /-- AUTO -/
  auto : t.au.auto = s.au.auto
  /-- the slots -/
  slots : ∀ p, t.slot p = none ∨ t.slot p = s.slot p
  /-- the monitors -/
  monitors : x ≠ .hmu → ∀ m, (t.monitor m).taken = (s.monitor m).taken
  /-- the settle count and the armed measurement -/
  cooldown : x ≠ .cu → s.SameCooldown t
  /-- the learned rises -/
  rises : x ≠ .cu → ∀ k, (t.stepRec k).learnedRise = (s.stepRec k).learnedRise
  /-- the latest U of each step -/
  latestU : ∀ k, (t.stepRec k).latestU = (s.stepRec k).latestU
  /-- the change flags -/
  flags : ∀ p, (s.portState p).changeFlag = true → (t.portState p).changeFlag = true

section
variable {x : Block}

theorem State.Beside.refl (s : State) : s.Beside x s :=
  ⟨fun _ => rfl, rfl, fun _ => .inr rfl, fun _ _ => rfl, fun _ => .of_cu rfl, fun _ _ => rfl, fun _ => rfl, fun _ => id⟩

theorem State.Beside.trans {s t u : State} (h : s.Beside x t) (g : t.Beside x u) : s.Beside x u :=
  ⟨fun n => (g.control n).trans (h.control n), g.auto.trans h.auto,
    fun p => (g.slots p).elim .inl fun same => (h.slots p).imp same.trans same.trans,
    fun n m => (g.monitors n m).trans (h.monitors n m), fun n => (h.cooldown n).trans (g.cooldown n),
    fun n k => (g.rises n k).trans (h.rises n k), fun k => (g.latestU k).trans (h.latestU k), fun p => g.flags p ∘ h.flags p⟩

theorem State.Beside.ite {s t u : State} (c : Prop) [Decidable c] (h : s.Beside x t) (g : s.Beside x u) :
    s.Beside x (if c then t else u) := by
  split
  · exact h
  · exact g

theorem State.Beside.foldl {α : Type} (f : State → α → State) (h : ∀ (s : State) a, s.Beside x (f s a)) (l : List α)
    (s : State) : s.Beside x (l.foldl f s) := by
  induction l generalizing s with
  | nil => exact .refl s
  | cons a l ih => exact (h s a).trans (ih (f s a))

/-- What writes other blocks, and of the Step Supervisor no record, is beside the taking. -/
theorem State.Beside.of_onlyIn {s t : State} (only : s.onlyIn t [.ss, .oq, .upu, .pi, .os])
    (steps : t.ss.steps = s.ss.steps)
    (flags : ∀ p, (s.portState p).changeFlag = true → (t.portState p).changeFlag = true) : s.Beside x t :=
  have same : ∀ k, t.stepRec k = s.stepRec k := fun k => by rw [State.stepRec, steps, State.stepRec]
  ⟨fun _ => congrArg AvcState.taken (only .avc (by decide)), congrArg AuState.auto (only .au (by decide)),
    fun p => .inr (State.slot_congr (only .au (by decide)) p),
    fun _ m => congrArg Monitor.taken (only.monitor (by decide) m), fun _ => .of_cu (only .cu (by decide)),
    fun _ k => congrArg StepRecord.learnedRise (same k), fun k => congrArg StepRecord.latestU (same k), flags⟩

theorem State.detuneResult_taken (s : State) (k : StepId) (r : OutcomeResult) (m : MonitorId) :
    ((s.detuneResult k r).monitor m).taken = (s.monitor m).taken := by
  unfold State.detuneResult
  split
  · rfl
  · rename_i j _
    by_cases same : j = m
    · subst same
      simp [State.monitor, State.setMonitor, Monitor.taken]
    · have apart : j.val ≠ m.val := fun h => same (Fin.ext h)
      simp [State.monitor, State.setMonitor, Vector.getElem_set_ne _ _ apart]

theorem State.giveResult_beside (s : State) (o : Originator) (tag : Option Byte) (k : StepId) (kind : OpKind) (fast : Bool)
    (r : OutcomeResult) : s.Beside x (s.giveResult o tag k kind fast r) := by
  have only := s.giveResult_onlyIn o tag k kind fast r
  have same : ∀ j, (s.giveResult o tag k kind fast r).stepRec j = s.stepRec j := only.stepRec (by decide)
  refine ⟨fun _ => ?_, congrArg AuState.auto (only .au (by decide)), fun p => .inr (State.slot_congr (only .au (by decide)) p),
    fun _ m => ?_, fun _ => .of_cu (only .cu (by decide)), fun _ j => congrArg StepRecord.learnedRise (same j),
    fun j => congrArg StepRecord.latestU (same j), (s.giveResult_retains o tag k kind fast r).flags⟩
  · have control := s.giveResult_control o tag k kind fast r
    exact (congrArg AvcState.taken control :)
  · cases o with
    | portA => exact congrArg Monitor.taken ((s.insertOutcome_onlyIn .a _).monitor (by decide) m)
    | portB => exact congrArg Monitor.taken ((s.insertOutcome_onlyIn .b _).monitor (by decide) m)
    | harmonic => exact s.detuneResult_taken k r m
    | avc => rfl
    | unbalance => rfl
    | external => rfl

theorem State.entryResult_beside (s : State) (e : Entry) (r : OutcomeResult) : s.Beside x (s.entryResult e r) :=
  s.giveResult_beside _ _ _ _ _ _

theorem State.markResult_beside (s : State) (k : StepId) (m : Mark) (r : OutcomeResult) : s.Beside x (s.markResult k m r) :=
  s.giveResult_beside _ _ _ _ _ _

theorem State.dropEntry_beside (s : State) (k : StepId) : s.Beside x (s.dropEntry k) :=
  .of_onlyIn (State.onlyIn_mono (s.dropEntry_onlyIn k) (by decide)) (s.dropEntry_table k).steps (s.dropEntry_retains k).flags

theorem State.assertBkt_beside (s : State) (k : StepId) (b : BackupReason) (o : Originator) :
    s.Beside x (s.assertBkt k b o) :=
  .of_onlyIn (State.onlyIn_mono (s.assertBkt_onlyIn k b o) (by decide)) (s.assertBkt_table k b o).steps
    (s.assertBkt_retains k b o).flags

theorem State.modEntry_beside (s : State) (k : StepId) (f : Entry → Entry) : s.Beside x (s.modEntry k f) :=
  .of_onlyIn (State.onlyIn_mono (s.modEntry_onlyIn k f) (by decide)) rfl (s.modEntry_retains k f).flags

theorem State.admitNew_beside (s : State) (p : Posting) : s.Beside x (s.admitNew p) :=
  .of_onlyIn (State.onlyIn_mono (s.admitNew_onlyIn p) (by decide)) rfl (s.admitNew_retains p).flags

theorem recordAfter_latestU (r : StepRecord) (n : StepState) (l : Option LockoutCause) (f : Option FailureCause) :
    (recordAfter r n l f).latestU = r.latestU := by
  unfold recordAfter
  split <;> rfl

theorem State.fitEntry_beside (s : State) (k : StepId) : s.Beside x (s.fitEntry k) := by
  have told : ∀ e r, s.Beside x ((s.dropEntry k).entryResult e r) := fun e r =>
    (s.dropEntry_beside k).trans (State.entryResult_beside _ e r)
  unfold State.fitEntry
  split
  · exact .refl s
  · refine .ite _ (.refl s) ?_
    split
    · exact .ite _ (.refl s) (told _ _)
    · exact .ite _ (.refl s) (told _ _)
    · exact .ite _ (.refl s) (.ite _ ((told _ _).trans (State.assertBkt_beside _ _ _ _)) (told _ _))

/-- A change of state is beside the taking of a frame (R3). -/
theorem State.enter_beside (s : State) (k : StepId) (n : StepState) (l : Option LockoutCause) (f : Option FailureCause) :
    s.Beside x (s.enter k n l f) := by
  let u := (s.entered k n l f).fitEntry k
  have rest : u.onlyIn (s.enter k n l f) [.ss, .upu, .au, .pi, .os, .cu] := State.onlyIn_trans
    (State.onlyIn_mono (State.leaveReady_onlyIn _ k) (by decide)) (State.onlyIn_trans
      (State.onlyIn_mono (State.voidOther_spec _ k).1 (by decide)) (State.onlyIn_mono (State.leaveClosed_onlyIn _ k _) (by decide)))
  have entered := s.entered_onlyIn k n l f
  have record : ∀ j, (s.enter k n l f).stepRec j = if j = k then recordAfter (s.stepRec k) n l f else s.stepRec j :=
    (s.enter_spec k n l f).1
  refine ⟨fun _ => ?_, (s.enter_authority k n l f).auto, (s.enter_authority k n l f).slots, fun _ m => ?_,
    fun _ => s.enter_cooldown k n l f, fun _ j => ?_, fun j => ?_, (s.enter_retains k n l f).flags⟩
  · have control := s.enter_control k n l f
    exact (congrArg AvcState.taken control :)
  · have fitted := ((s.entered k n l f).fitEntry_beside (x := .avc) k).monitors (by decide) m
    rw [rest.monitor (by decide) m, fitted, entered.monitor (by decide) m]
  · rw [record]
    split
    · next own => rw [own, (recordAfter_kept _ n l f).2.2.2.2.2.2]
    · rfl
  · rw [record]
    split
    · next own => rw [own, recordAfter_latestU]
    · rfl

/-- A posting is beside the taking of a frame (R50 to R58). -/
theorem State.post_beside (s : State) (p : Posting) : s.Beside x (s.post p).1 := by
  have posted := s.post_as p
  generalize (s.post p).1 = y at posted ⊢
  cases posted with
  | kept => exact .refl s
  | joined => exact s.admitNew_beside p
  | lockedOut => exact s.enter_beside _ _ _ _
  | backedUp => exact s.assertBkt_beside _ _ _
  | withdrawn e => exact (s.dropEntry_beside _).trans (State.entryResult_beside _ e _)
  | lockedOutOf _ e =>
    exact ((s.dropEntry_beside _).trans (State.enter_beside _ _ _ _ _)).trans (State.entryResult_beside _ e _)
  | upgraded _ e => exact (s.modEntry_beside _ _).trans (State.entryResult_beside _ e _)
  | marked => exact s.modEntry_beside _ _
  | remarked _ _ _ _ _ m => exact (s.modEntry_beside _ _).trans (State.markResult_beside _ _ m _)

end

end Sys2Proof.Machine
end

section
/-!
SUPPORT. The parts of a frame's arrival, and what each leaves to the others (R44).
-/
namespace Sys2Proof.Machine

section
variable {x : Block}

/-! ## Admission and dispatch -/

theorem State.withQueue_beside (s : State) (q : OqState) : s.Beside x { s with oq := q } :=
  .of_onlyIn (fun b _ => by cases b <;> simp_all [State.sameBlock]) rfl fun _ => id

theorem State.dispatchEntry_beside (s : State) (e : Entry) : s.Beside x (s.dispatchEntry e) := by
  have entered : s.Beside x ((s.takeEntry e).enter e.step (movingState e.kind) none none) :=
    (s.modEntry_beside e.step _).trans (State.enter_beside _ _ _ _ _)
  have asked : ∀ t : State, t.Beside x (t.askPulse e.step e.kind) := fun t =>
    .of_onlyIn (State.onlyIn_mono (t.askPulse_onlyIn _ _) (by decide)) (t.askPulse_table _ _).steps
      (t.askPulse_retains _ _).flags
  unfold State.dispatchEntry
  exact ((entered.trans (State.withQueue_beside _ _)).trans (asked _)).trans (State.withQueue_beside _ _)

theorem State.examine_beside (s : State) : s.Beside x s.examine := by
  rcases s.examine_cases with same | ⟨e, -, -, dispatch⟩
  · rw [same]
    exact .refl s
  · rw [dispatch]
    exact s.dispatchEntry_beside e

theorem State.examineIfLeft_beside (s b : State) : s.Beside x (s.examineIfLeft b) := .ite _ (.refl s) s.examine_beside

theorem State.admitOne_beside (s : State) (p : Posting) : s.Beside x (s.admitOne p).1 :=
  (s.post_beside p).trans (State.examine_beside _)

theorem expandOne_beside (o : Originator) (tag : Option Byte) (fast : Bool) (l : List StepId)
    (acc : State × List PostAnswer) : acc.1.Beside x (l.foldl (expandOne o tag fast) acc).1 := by
  induction l generalizing acc with
  | nil => exact .refl _
  | cons k l ih => exact (acc.1.post_beside (openPosting o tag fast k)).trans (ih (expandOne o tag fast acc k))

theorem State.admitAll_beside (s : State) (o : Originator) (tag : Option Byte) (fast : Bool) :
    s.Beside x (s.admitAll o tag fast).1 := by
  have expanded : s.Beside x (s.expandAll o tag fast).1 := expandOne_beside o tag fast allSteps (s, [])
  simp only [State.admitAll]
  exact expanded.trans (State.examine_beside _)

theorem State.removeEach_beside (s : State) (l : List Entry) (r : OutcomeResult) : s.Beside x (s.removeEach l r) := by
  have one : ∀ (t : State) (e : Entry), t.Beside x ((t.dropEntry e.step).entryResult e r) := fun t e =>
    (t.dropEntry_beside e.step).trans (State.entryResult_beside _ e r)
  exact .foldl _ one l s

theorem State.setFlags_beside (s : State) : s.Beside x s.setFlags :=
  .of_onlyIn (State.onlyIn_mono s.setFlags_onlyIn (by decide)) rfl s.setFlags_retains.flags

theorem State.setFlagsIf_beside (s : State) (c : Bool) : s.Beside x (s.setFlagsIf c) := .ite _ s.setFlags_beside (.refl s)

/-! ## The AVC's part (R95 to R112) -/

/-- What writes the AVC's record alone is beside every other part. -/
theorem State.Beside.of_avc {s t : State} (only : s.onlyIn t [.avc]) (taken : x ≠ .avc → t.avc.taken = s.avc.taken) :
    s.Beside x t :=
  have same : ∀ k, t.stepRec k = s.stepRec k := only.stepRec (by decide)
  have ports : ∀ p, t.portState p = s.portState p := fun p => by
    have pi : t.pi = s.pi := only .pi (by decide)
    cases p <;> simp [State.portState, pi]
  ⟨taken, congrArg AuState.auto (only .au (by decide)), fun p => .inr (State.slot_congr (only .au (by decide)) p),
    fun _ m => congrArg Monitor.taken (only.monitor (by decide) m), fun _ => .of_cu (only .cu (by decide)),
    fun _ k => congrArg StepRecord.learnedRise (same k), fun k => congrArg StepRecord.latestU (same k),
    fun p set => by rw [ports p]; exact set⟩

theorem State.setDecision_beside (s : State) (d : Decision) : s.Beside x (s.setDecision d) :=
  .of_avc (s.setDecision_onlyIn d) fun _ => rfl

/-- The dead-line OPEN ALL writes two records of the AVC that are none of its counts (R97, R116). -/
theorem State.deadOpenAll_beside (s : State) : s.Beside x s.deadOpenAll := by
  have admitted := s.admitAll_beside (x := x) .avc none true
  unfold State.deadOpenAll
  generalize s.admitAll .avc none true = r at admitted
  exact admitted.trans (.of_avc (r.1.onlyIn_avc _) fun _ => rfl)

/-- The AVC's own part is beside the others. -/
theorem State.Beside.of_own {s t : State} (only : s.onlyIn t [.avc]) : s.Beside .avc t := .of_avc only fun n => absurd rfl n

theorem State.setLine_beside (s : State) (l : LineState) : s.Beside .avc (s.setLine l) := by
  rw [State.setLine_eq]
  exact ((State.Beside.of_own (s.onlyIn_avc _)).trans (State.setFlags_beside _)).trans (State.examine_beside _)

theorem State.setRun_beside (s : State) (n : Nat) : s.Beside .avc (s.setRun n) := .of_own (s.onlyIn_avc _)

theorem State.lineStage_beside (s : State) : s.Beside .avc s.lineStage := by
  unfold State.lineStage
  split
  · exact .ite _ (.ite _ ((s.setLine_beside .dead).trans (State.deadOpenAll_beside _)) (s.setRun_beside _)) (s.setRun_beside _)
  · exact .ite _ (.ite _ (s.setLine_beside .live) (s.setRun_beside _)) (s.setRun_beside _)

theorem State.fastStage_beside (s : State) : s.Beside .avc s.fastStage := by
  unfold State.fastStage State.fastOpening
  refine .ite _ ?_ (.of_own (s.setOv_onlyIn _))
  split
  · exact (State.Beside.of_own (s.setOv_onlyIn 0)).trans (State.setDecision_beside _ _)
  · exact ((State.Beside.of_own (s.setOv_onlyIn 0)).trans (State.admitOne_beside _ _)).trans (State.setDecision_beside _ _)

theorem State.attemptPost_beside (s : State) (p : Posting) (d : Decision) : s.Beside .avc (s.attemptPost p d) :=
  ((s.admitOne_beside p).trans (.ite _ (.of_own (State.setD_onlyIn _ 0 0)) (.refl _))).trans (State.setDecision_beside _ d)

theorem State.closeAttempt_beside (s : State) : s.Beside .avc s.closeAttempt := by
  unfold State.closeAttempt
  split
  · exact s.setDecision_beside _
  · refine .ite _ (s.setDecision_beside _) ?_
    split
    · exact s.setDecision_beside _
    · exact s.attemptPost_beside _ _

theorem State.openAttempt_beside (s : State) : s.Beside .avc s.openAttempt := by
  unfold State.openAttempt
  split
  · exact s.setDecision_beside _
  · exact .ite _ (s.setDecision_beside _) (s.attemptPost_beside _ _)

theorem State.integratorStage_beside (s : State) (fast : Bool) : s.Beside .avc (s.integratorStage fast) := by
  have written := fun lo hi => State.Beside.of_own (s.setD_onlyIn lo hi)
  unfold State.integratorStage
  exact .ite _ (written 0 0) (.ite _ (.refl s) (.ite _ ((written _ _).trans (State.closeAttempt_beside _))
    (.ite _ (.ite _ (written _ _) ((written _ _).trans (State.openAttempt_beside _))) (written _ _))))

theorem State.avcFrame_beside (s : State) : s.Beside .avc s.avcFrame :=
  (s.lineStage_beside.trans (State.fastStage_beside _)).trans (State.integratorStage_beside _ _)

/-! ## The HMU's part (R121 to R131) -/

theorem State.setMonitor_beside (s : State) (m : MonitorId) (v : Monitor)
    (taken : x ≠ .hmu → v.taken = (s.monitor m).taken) : s.Beside x (s.setMonitor m v) := by
  have only := s.setMonitor_onlyIn m v
  refine ⟨fun _ => rfl, rfl, fun p => .inr (State.slot_congr (only .au (by decide)) p), fun n j => ?_, fun _ => .of_cu rfl,
    fun _ _ => rfl, fun _ => rfl, fun p => ?_⟩
  · by_cases same : m = j
    · subst same
      rw [← taken n]
      simp [State.monitor, State.setMonitor]
    · have apart : m.val ≠ j.val := fun h => same (Fin.ext h)
      simp [State.monitor, State.setMonitor, Vector.getElem_set_ne _ _ apart]
  · cases p <;> exact id

theorem State.setDetune_beside (s : State) (m : MonitorId) (d : LastDetune) : s.Beside x (s.setDetune m d) :=
  s.setMonitor_beside m _ fun _ => rfl

theorem State.detune_beside (s : State) (m : MonitorId) : s.Beside x (s.detune m) := by
  unfold State.detune
  split
  · exact s.setDetune_beside m _
  · exact (s.setDetune_beside m _).trans (State.admitOne_beside _ _)

theorem State.examineIfBlockMoved_beside (s before : State) : s.Beside x (s.examineIfBlockMoved before) :=
  .ite _ (.refl s) s.examine_beside

theorem State.activate_beside (s : State) (m : MonitorId) : s.Beside .hmu (s.activate m) := by
  have raised := (s.setMonitor_beside (x := .hmu) m { s.monitor m with
    active := true, assertCount := min 65535 ((s.monitor m).assertCount + 1) } (fun n => absurd rfl n)).trans
    (State.setFlags_beside _)
  unfold State.activate
  dsimp only
  split
  · exact raised
  · exact raised.trans (State.examineIfBlockMoved_beside _ s)
  · exact raised.trans (State.detune_beside _ m)

theorem State.monitorFrame_beside (s : State) (m : MonitorId) : s.Beside .hmu (s.monitorFrame m) := by
  have written := fun (t : State) (v : Monitor) => t.setMonitor_beside (x := .hmu) m v (fun n => absurd rfl n)
  have cleared : ∀ t : State, t.Beside .hmu (t.clearMonitor m) := fun t =>
    ((written t _).trans (State.setFlags_beside _)).trans (State.examineIfBlockMoved_beside _ t)
  have counted : s.Beside .hmu (s.setAccumulator m (s.accumulatorAfter m)) := written s _
  unfold State.monitorFrame State.monitorUpdate
  exact .ite _ (.refl s) (.ite _ (.refl s) (.ite _ (.ite _ (counted.trans (State.activate_beside _ m)) counted)
    (.ite _ (counted.trans (cleared _)) counted)))

theorem State.hmuFrame_beside (s : State) : s.Beside .hmu s.hmuFrame := by
  have counts : ∀ (t : State) (m : MonitorId), t.Beside .hmu (t.countActive m) := fun t m =>
    .ite _ (t.setMonitor_beside m _ (fun n => absurd rfl n)) (.refl t)
  exact (State.Beside.foldl _ State.monitorFrame_beside allMonitors s).trans (.foldl _ counts allMonitors _)

end

end Sys2Proof.Machine
end

section
/-!
SUPPORT. The UPU's and the CU's parts of a frame's arrival, derivation at an arrival, and all parts together (R44,
R81, R140, R203).
-/
namespace Sys2Proof.Machine

section
variable {x : Block}

/-! ## The UPU's part (R140 to R156) -/

theorem State.setStep_beside (s : State) (k : StepId) (r : StepRecord)
    (rise : x ≠ .cu → r.learnedRise = (s.stepRec k).learnedRise) (latest : r.latestU = (s.stepRec k).latestU) :
    s.Beside x (s.setStep k r) := by
  refine ⟨fun _ => rfl, rfl, fun p => .inr rfl, fun _ _ => rfl, fun _ => .of_cu rfl, fun n j => ?_, fun j => ?_, fun p => ?_⟩
  · by_cases same : j = k
    · subst same
      rw [State.stepRec_setStep_same, rise n]
    · rw [s.stepRec_setStep_ne j k r same]
  · by_cases same : j = k
    · subst same
      rw [State.stepRec_setStep_same, latest]
    · rw [s.stepRec_setStep_ne j k r same]
  · cases p <;> exact id

theorem State.withUpu_beside (s : State) (u : UpuState) : s.Beside x { s with upu := u } :=
  .of_onlyIn (fun b _ => by cases b <;> simp_all [State.sameBlock]) rfl fun _ => id

theorem State.enterTripRecord_beside (s : State) (cause : LockoutCause) (step : Option StepId) (u : Option Nat)
    (dre dim : Option Int) : s.Beside x (s.enterTripRecord cause step u dre dim) := by
  unfold State.enterTripRecord
  split
  · exact ((s.withUpu_beside _).trans (State.setFlags_beside _)).trans (State.examine_beside _)
  · exact s.withUpu_beside _

theorem State.setTripCount_beside (s : State) (k : StepId) (n : Nat) : s.Beside x (s.setTripCount k n) :=
  s.setStep_beside k _ (fun _ => rfl) rfl

theorem State.decideTrip_beside (s : State) (k : StepId) (u : Nat) (dre dim : Int) :
    s.Beside x (s.decideTrip k u dre dim) :=
  ((s.setTripCount_beside k 0).trans (State.admitOne_beside _ _)).trans (State.enterTripRecord_beside _ _ _ _ _ _)

theorem State.alarmStage_beside (s : State) (k : StepId) : s.Beside x (s.alarmStage k) := by
  have written : ∀ n f, s.Beside x (s.setStep k { s.stepRec k with alarmCount := n, alarmFlag := f }) := fun n f =>
    s.setStep_beside k _ (fun _ => rfl) rfl
  unfold State.alarmStage
  exact .ite _ ((written _ _).trans (State.setFlagsIf_beside _ _))
    (.ite _ (.refl s) ((written 0 false).trans (State.setFlagsIf_beside _ _)))

theorem State.tripStage_beside (s : State) (k : StepId) : s.Beside x (s.tripStage k) := by
  unfold State.tripStage
  exact .ite _ (.ite _ (s.decideTrip_beside k _ _ _) (s.setTripCount_beside k _))
    (.ite _ (.refl s) (s.setTripCount_beside k 0))

theorem State.stepFrame_beside (s base : State) (k : StepId) : s.Beside x (s.stepFrame base k) := by
  unfold State.stepFrame State.stages State.stagesOfOther
  exact .ite _ (s.decideTrip_beside k _ _ _) (.ite _ ((s.alarmStage_beside k).trans (State.tripStage_beside _ k))
    (.ite _ (s.decideTrip_beside k _ _ _) (.refl s)))

theorem State.abortCapture_beside (s : State) : s.Beside x s.abortCapture :=
  .of_onlyIn (State.onlyIn_mono s.abortCapture_onlyIn (by decide)) (congrArg SsState.steps (s.abortCapture_onlyIn .ss (by decide)))
    s.abortCapture_retains.flags

theorem State.insertOutcome_beside (s : State) (p : Port) (r : OutcomeRecord) : s.Beside x (s.insertOutcome p r) :=
  .of_onlyIn (State.onlyIn_mono (s.insertOutcome_onlyIn p r) (by decide))
    (congrArg SsState.steps (s.insertOutcome_onlyIn p r .ss (by decide))) (s.insertOutcome_retains p r).flags

theorem State.completeCapture_beside (s : State) (c : Capture) : s.Beside x (s.completeCapture c) := by
  have written : s.Beside x (s.modStep c.step fun r => { r with
      compensation := some (captured c.sumRe c.sumIm c.sumV), alarmCount := 0, tripCount := 0, alarmFlag := false }) :=
    s.setStep_beside c.step _ (fun _ => rfl) rfl
  unfold State.completeCapture
  exact ((written.trans (State.setFlagsIf_beside _ _)).trans (State.insertOutcome_beside _ _ _)).trans
    (State.withUpu_beside _ _)

theorem State.captureFrame_beside (s : State) : s.Beside x s.captureFrame := by
  unfold State.captureFrame
  split
  · exact .refl s
  · exact .ite _ s.abortCapture_beside (.ite _ (.refl s) (.ite _ (s.completeCapture_beside _) (s.withUpu_beside _)))

theorem State.upuFrame_beside (s base : State) : s.Beside x (s.upuFrame base) := by
  have staged : s.Beside x (if s.stagesHeld then s else allSteps.foldl (fun t k => t.stepFrame base k) s) :=
    .ite _ (.refl s) (.foldl _ (fun t k => t.stepFrame_beside base k) allSteps s)
  exact (staged.trans (State.withUpu_beside _ _)).trans (State.captureFrame_beside _)

/-! ## The CU's part (R81, R89, R90) -/

theorem State.withCu_beside (s : State) (c : CuState) : s.Beside .cu { s with cu := c } :=
  ⟨fun _ => rfl, rfl, fun _ => .inr rfl, fun _ _ => rfl, fun n => absurd rfl n, fun n => absurd rfl n, fun _ => rfl,
    fun p => by cases p <;> exact id⟩

theorem State.takeMeasurement_beside (s : State) : s.Beside .cu s.takeMeasurement := by
  unfold State.takeMeasurement
  split
  · exact .refl s
  · exact (s.withCu_beside _).trans (State.setStep_beside _ _ _ (fun n => absurd rfl n) rfl)

theorem State.cuFrame_beside (s : State) : s.Beside .cu s.cuFrame := by
  unfold State.cuFrame
  exact .ite _ (.refl s) (.ite _ ((s.withCu_beside _).trans (State.takeMeasurement_beside _)) (s.withCu_beside _))

/-! ## Derivation at an arrival (R203, R204) -/

theorem State.externalParts_beside (s : State) : s.Beside x s.externalParts := by
  have posted : s.Beside x s.externalPosts :=
    .foldl _ (fun t k => .ite _ (t.admitOne_beside (externalTrip k)) (.refl t)) allSteps s
  have locked : s.externalPosts.Beside x s.externalPosts.lockOutOpen :=
    .foldl _ (fun t k => .ite _ (t.enter_beside k _ _ _) (.refl t)) allSteps _
  exact (posted.trans locked).trans (State.examineIfLeft_beside _ _)

theorem State.deriveStep_beside (s : State) (k : StepId) : s.Beside x (s.deriveStep k) := by
  have loaded : s.Beside x (s.loadDischarge k) := s.setStep_beside k _ (fun _ => rfl) rfl
  unfold State.deriveStep
  split
  · exact loaded.trans (State.enter_beside _ _ _ _ _)
  · exact s.enter_beside _ _ _ _
  · exact loaded.trans (State.enter_beside _ _ _ _ _)
  · exact s.enter_beside _ _ _ _
  · exact s.enter_beside _ _ _ _

theorem State.deriveAll_beside (s : State) (first : Bool) : s.Beside x (s.deriveAll first) := by
  have begun : s.Beside x { s with set := { s.set with derived := true } } :=
    ⟨fun _ => rfl, rfl, fun _ => .inr rfl, fun _ _ => rfl, fun _ => .of_cu rfl, fun _ _ => rfl, fun _ => rfl,
      fun p => by cases p <;> exact id⟩
  have opened : ∀ t : State, t.Beside x t.derivedOpenAll := fun t => .ite _ t.deadOpenAll_beside (.refl t)
  have tripped : ∀ t : State, t.Beside x t.derivedTrip := fun t => .ite _ t.externalParts_beside (.refl t)
  have states := (begun.trans (.foldl _ State.deriveStep_beside allSteps _)).trans (State.examine_beside _)
  unfold State.deriveAll
  exact states.trans (.ite _ ((opened _).trans (tripped _)) ((tripped _).trans (opened _)))

/-! ## All parts -/

/-- The block whose taking of the frame a part is; the others write none of it. -/
def partBlock : FramePart → Block
  | .avc => .avc
  | .hmu => .hmu
  | .upu => .upu
  | .cu => .cu
  | .sx => .oq
  | .derive _ => .set

/-- A part of an arrival takes the frame in its own block alone (R44). -/
theorem State.framePart_beside (s base : State) (p : FramePart) : s.Beside (partBlock p) (s.framePart base p) := by
  cases p with
  | avc => exact s.avcFrame_beside
  | hmu => exact s.hmuFrame_beside
  | upu => exact s.upuFrame_beside base
  | cu => exact s.cuFrame_beside
  | sx => exact s.examine_beside
  | derive first =>
    simp only [State.framePart]
    split
    · next known =>
      unfold State.derivation
      split
      · exact .refl s
      · refine .ite _ (.refl s) ?_
        rw [if_pos known]
        exact s.deriveAll_beside first
    · exact .refl s

end

/-! ## What all parts leave -/

/-- The clock, the measurement and the settings are the same, but that derivation may have taken place. -/
structure State.KeepsRest (s t : State) : Prop where
  /-- the clock -/
  clock : t.clock = s.clock
  /-- the Measurement Engine -/
  me : t.me = s.me
  /-- the settings and the store -/
  set : { t.set with derived := s.set.derived } = s.set

theorem State.KeepsRest.refl (s : State) : s.KeepsRest s := ⟨rfl, rfl, rfl⟩

theorem State.KeepsRest.trans {s t u : State} (h : s.KeepsRest t) (g : t.KeepsRest u) : s.KeepsRest u :=
  ⟨g.clock.trans h.clock, g.me.trans h.me, by rw [← h.set, ← g.set]⟩

theorem State.Keeps.rest {s t : State} (h : s.Keeps t) : s.KeepsRest t := ⟨h.clock, h.me, by rw [h.set]⟩

theorem State.KeepsRest.settings {s t : State} (h : s.KeepsRest t) : t.set.settings = s.set.settings :=
  (congrArg SetState.settings h.set :)

theorem State.deriveAll_keepsRest (s : State) (first : Bool) : s.KeepsRest (s.deriveAll first) := by
  have begun : s.KeepsRest { s with set := { s.set with derived := true } } := ⟨rfl, rfl, rfl⟩
  have states := (State.Keeps.foldl _ State.deriveStep_keeps allSteps
    { s with set := { s.set with derived := true } }).trans (State.examine_keeps _)
  have ends : ∀ t : State,
      t.Keeps (if first then t.derivedOpenAll.derivedTrip else t.derivedTrip.derivedOpenAll) := fun t =>
    .ite _ (t.derivedOpenAll_keeps.trans (State.derivedTrip_keeps _))
      (t.derivedTrip_keeps.trans (State.derivedOpenAll_keeps _))
  exact begun.trans (states.trans (ends _)).rest

theorem State.framePart_keepsRest (s base : State) (p : FramePart) : s.KeepsRest (s.framePart base p) := by
  cases p with
  | avc => exact s.avcFrame_keeps.rest
  | hmu => exact s.hmuFrame_keeps.rest
  | upu => exact (s.upuFrame_keeps base).rest
  | cu => exact s.cuFrame_keeps.rest
  | sx => exact s.examine_keeps.rest
  | derive first =>
    simp only [State.framePart]
    split
    · next known =>
      unfold State.derivation
      split
      · exact .refl s
      · split_ifs
        · exact .refl s
        · exact s.deriveAll_keepsRest first
    · exact .refl s

end Sys2Proof.Machine
end

section
/-!
SUPPORT. The order of an arrival's parts: each block takes the frame once, and the other parts pass it by (R44, log
entry 3).
-/
namespace Sys2Proof.Machine

/-! ## Where a block's part stands -/

theorem frameOrder_nodup (l : List FramePart) : (frameOrder l).Nodup := by
  refine List.Nodup.append l.nodup_dedup (List.Nodup.filter _ (by decide)) fun p mem out => ?_
  have listed : p ∈ l := List.mem_dedup.mp mem
  exact absurd listed (by simpa using (List.mem_filter.mp out).2)

/-- Every block takes the frame (R44). -/
theorem mem_frameOrder {p : FramePart} (block : p ∈ [FramePart.avc, .hmu, .upu, .cu]) (l : List FramePart) :
    p ∈ frameOrder l := by
  by_cases listed : p ∈ l
  · exact List.mem_append_left _ (List.mem_dedup.mpr listed)
  · exact List.mem_append_right _ (List.mem_filter.mpr ⟨block, by simpa using listed⟩)

/-- The parts that are left of an arrival: those before a block's own, its own, and those after it. -/
theorem frameRest_split {p : FramePart} (i : FrameInput) (block : p ∈ [FramePart.avc, .hmu, .upu, .cu])
    (left : i.riseFirst = true → p ≠ .cu) :
    ∃ l m, frameRest i = l ++ p :: m ∧ p ∉ l ∧ p ∉ m := by
  have nodup : (frameRest i).Nodup := by
    unfold frameRest
    split
    · exact (frameOrder_nodup i.parts).filter _
    · exact frameOrder_nodup i.parts
  have mem : p ∈ frameRest i := by
    unfold frameRest
    split
    · next first => exact List.mem_filter.mpr ⟨mem_frameOrder block _, by simpa using left first⟩
    · exact mem_frameOrder block _
  obtain ⟨l, m, split⟩ := List.append_of_mem mem
  rw [split] at nodup
  have apart := List.nodup_middle.mp nodup
  obtain ⟨out, -⟩ := List.nodup_cons.mp apart
  exact ⟨l, m, split, fun h => out (List.mem_append_left _ h), fun h => out (List.mem_append_right _ h)⟩

/-- With the Cooldown Unit first, its part is not among those left (R113). -/
theorem cu_not_mem_frameRest {i : FrameInput} (first : i.riseFirst = true) : FramePart.cu ∉ frameRest i := by
  simp [frameRest, first]

/-! ## What passes between -/

/-- From `s` to `t` parts of the arrival pass that are not `p`, the loads of applied RINITs, and an examination. -/
inductive State.Passes (base : State) (p : FramePart) (s : State) : State → Prop
  /-- nothing -/
  | refl : State.Passes base p s s
  /-- another part -/
  | part {t : State} (before : State.Passes base p s t) (q : FramePart) (other : q ≠ p) :
      State.Passes base p s (t.framePart base q)
  /-- the loads of applied RINITs (R113) -/
  | loads {t : State} (before : State.Passes base p s t) (rises : List (StepId × Nat)) :
      State.Passes base p s (t.loadRises rises)
  /-- an examination (R60) -/
  | examined {t : State} (before : State.Passes base p s t) : State.Passes base p s t.examine

theorem State.Passes.foldl {base s t : State} {p : FramePart} (before : State.Passes base p s t) {l : List FramePart}
    (out : p ∉ l) : State.Passes base p s (l.foldl (fun t q => t.framePart base q) t) := by
  induction l generalizing t with
  | nil => exact before
  | cons q l ih =>
    exact ih (before.part q (List.ne_of_not_mem_cons out).symm) (List.not_mem_of_not_mem_cons out)

/-- A block takes the frame once, and the rest of the arrival passes it by (R44). -/
theorem State.takeFrame_splits (s : State) (i : FrameInput) (rises : List (StepId × Nat)) {p : FramePart}
    (block : p ∈ [FramePart.avc, .hmu, .upu, .cu]) :
    ∃ v, State.Passes s p s v ∧ State.Passes s p (v.framePart s p) (s.takeFrame i rises) := by
  by_cases own : i.riseFirst = true ∧ p = .cu
  · obtain ⟨first, rfl⟩ := own
    refine ⟨s, .refl, ?_⟩
    have rest := (State.Passes.refl (base := s) (p := .cu) (s := s.framePart s .cu)).loads rises
    unfold State.takeFrame
    rw [if_pos first]
    exact (rest.foldl (cu_not_mem_frameRest first)).examined
  · obtain ⟨l, m, split, before, after⟩ := frameRest_split i block fun first is => own ⟨first, is⟩
    let t := (if i.riseFirst then s.cuFrame else s).loadRises rises
    have begun : State.Passes s p s t := by
      refine State.Passes.loads ?_ rises
      split
      · next first => exact State.Passes.refl.part .cu fun is => own ⟨first, is.symm⟩
      · exact .refl
    refine ⟨_, begun.foldl before, ?_⟩
    have taken : s.takeFrame i rises = ((frameRest i).foldl (fun t q => t.framePart s q) t).examine := rfl
    rw [taken, split, List.foldl_append, List.foldl_cons]
    exact (State.Passes.refl.foldl after).examined

/-! ## What they leave -/

theorem State.Passes.keepsRest {base s t : State} {p : FramePart} (passes : State.Passes base p s t) : s.KeepsRest t := by
  induction passes with
  | refl => exact .refl s
  | part _ q _ ih => exact ih.trans (State.framePart_keepsRest _ base q)
  | loads _ rises ih => exact ih.trans (State.loadRises_keeps _ rises).rest
  | examined _ ih => exact ih.trans (State.examine_keeps _).rest

theorem State.loadRises_beside (s : State) (rises : List (StepId × Nat)) : s.Beside .cu (s.loadRises rises) := by
  have one : ∀ (t : State) (a : StepId × Nat), t.Beside .cu (t.modStep a.1 fun r => { r with learnedRise := a.2 }) := fun t a =>
    t.setStep_beside a.1 _ (fun n => absurd rfl n) rfl
  exact .foldl _ one rises s

theorem State.loadRises_cu (s : State) (rises : List (StepId × Nat)) : (s.loadRises rises).cu = s.cu := by
  have one : ∀ (t : State) (a : StepId × Nat), t.onlyIn (t.modStep a.1 fun r => { r with learnedRise := a.2 }) [.ss] :=
    fun t a => t.modStep_onlyIn a.1 _
  have only : s.onlyIn (s.loadRises rises) [.ss] := State.onlyIn_foldl _ one rises s
  exact only .cu (by decide)

/-- The AVC's counts wait for its own part. -/
theorem State.Passes.control {base s t : State} (passes : State.Passes base .avc s t) : t.avc.taken = s.avc.taken := by
  induction passes with
  | refl => rfl
  | part _ q other ih =>
    exact ((State.framePart_beside _ base q).control (by cases q <;> simp_all [partBlock])).trans ih
  | loads _ rises ih => exact ((State.loadRises_beside _ rises).control (by decide)).trans ih
  | examined _ ih => exact ((State.examine_beside (x := .oq) _).control (by decide)).trans ih

/-- A monitor's counts wait for the HMU's own part. -/
theorem State.Passes.monitors {base s t : State} (passes : State.Passes base .hmu s t) (m : MonitorId) :
    (t.monitor m).taken = (s.monitor m).taken := by
  induction passes with
  | refl => rfl
  | part _ q other ih =>
    exact ((State.framePart_beside _ base q).monitors (by cases q <;> simp_all [partBlock]) m).trans ih
  | loads _ rises ih => exact ((State.loadRises_beside _ rises).monitors (by decide) m).trans ih
  | examined _ ih => exact ((State.examine_beside (x := .oq) _).monitors (by decide) m).trans ih

/-- The settle count and the armed measurement wait for the CU's own part. -/
theorem State.Passes.cooldown {base s t : State} (passes : State.Passes base .cu s t) : s.SameCooldown t := by
  induction passes with
  | refl => exact .of_cu rfl
  | part _ q other ih =>
    exact ih.trans ((State.framePart_beside _ base q).cooldown (by cases q <;> simp_all [partBlock]))
  | loads _ rises ih => exact ih.trans (.of_cu (State.loadRises_cu _ rises))
  | examined _ ih => exact ih.trans (State.examine_cooldown _)

/-- What every part leaves: AUTO, the latest U, slots that are emptied at most and change flags that are set at most. -/
structure State.Continues (s t : State) : Prop where
  /-- AUTO -/
  auto : t.au.auto = s.au.auto
  /-- the slots -/
  slots : ∀ p, t.slot p = none ∨ t.slot p = s.slot p
  /-- the latest U of each step -/
  latestU : ∀ k, (t.stepRec k).latestU = (s.stepRec k).latestU
  /-- the change flags -/
  flags : ∀ p, (s.portState p).changeFlag = true → (t.portState p).changeFlag = true

theorem State.Beside.continues {x : Block} {s t : State} (h : s.Beside x t) : s.Continues t :=
  ⟨h.auto, h.slots, h.latestU, h.flags⟩

theorem State.Continues.trans {s t u : State} (h : s.Continues t) (g : t.Continues u) : s.Continues u :=
  ⟨g.auto.trans h.auto, fun p => (g.slots p).elim .inl fun same => (h.slots p).imp same.trans same.trans,
    fun k => (g.latestU k).trans (h.latestU k), fun p => g.flags p ∘ h.flags p⟩

theorem State.Passes.continues {base s t : State} {p : FramePart} (passes : State.Passes base p s t) : s.Continues t := by
  induction passes with
  | refl => exact (State.Beside.refl (x := .oq) s).continues
  | part _ q _ ih => exact ih.trans (State.framePart_beside _ base q).continues
  | loads _ rises ih => exact ih.trans (State.loadRises_beside _ rises).continues
  | examined _ ih => exact ih.trans (State.examine_beside (x := .oq) _).continues

end Sys2Proof.Machine
end

section
/-!
SUPPORT. The arrival up to the publication: the settings applied (R197) and the frame published (R44).
-/
namespace Sys2Proof.Machine

/-- A fold that meets an element once: what holds before it is kept up to it, and what it brings about after it. -/
theorem foldl_once {α β : Type} {f : β → α → β} {a : α} {before after : β → Prop}
    (keeps : ∀ b x, x ≠ a → before b → before (f b x)) (reach : ∀ b, before b → after (f b a))
    (stays : ∀ b x, x ≠ a → after b → after (f b x)) {l : List α} (nodup : l.Nodup) (mem : a ∈ l) (b : β) (start : before b) :
    after (l.foldl f b) := by
  have through : ∀ (holds : β → Prop), (∀ b x, x ≠ a → holds b → holds (f b x)) →
      ∀ m : List α, a ∉ m → ∀ b, holds b → holds (m.foldl f b) := fun holds one m => by
    induction m with
    | nil => exact fun _ _ => id
    | cons x m ih =>
      exact fun out b h => ih (List.not_mem_of_not_mem_cons out) _ (one b x (List.ne_of_not_mem_cons out).symm h)
  obtain ⟨l₁, l₂, rfl⟩ := List.append_of_mem mem
  obtain ⟨out, -⟩ := List.nodup_cons.mp (List.nodup_middle.mp nodup)
  rw [List.foldl_append, List.foldl_cons]
  exact through after stays l₂ (fun h => out (List.mem_append_right _ h)) _
    (reach _ (through before keeps l₁ (fun h => out (List.mem_append_left _ h)) b start))

theorem allSteps_nodup : allSteps.Nodup := by decide
theorem allMonitors_nodup : allMonitors.Nodup := by decide
theorem mem_allMonitors (m : MonitorId) : m ∈ allMonitors := by revert m; decide

/-! ## The arrival's instant (R28, R33) -/

/-- The state at the instant of the arrival, before the settings are applied. -/
def State.arriving (s : State) : State := s.startFrame.until s.samplingNow.arrival

/-- The state in which the settings have been applied (R197). -/
def State.applied (s : State) : State := s.arriving.applySettings

/-- The state in which the frame has been published (R44). -/
def State.published (s : State) (i : FrameInput) : State := s.applied.publish i s.samplingNow

theorem State.frameArrives_eq (s : State) (i : FrameInput) :
    s.frameArrives i = (s.published i).takeFrame i (rinitLoads s.set.pendingValues) := rfl

theorem exec_frameArrival {s : State} (running : s.clock.held = none) (i : FrameInput) :
    exec (.frameArrival i) s = .next (s.frameArrives i) :=
  congrArg Host.Outcome.next (s.unlessHeld_free _ running)

theorem State.arriving_onlyIn (s : State) : s.onlyIn s.arriving [.clock, .me] := by
  intro b out
  unfold State.arriving State.startFrame
  split <;> cases b <;> simp_all [State.sameBlock]

theorem State.arriving_clock (s : State) : ∃ n, s.arriving.clock = { s.clock with now := n } := by
  unfold State.arriving State.startFrame
  split <;> exact ⟨_, rfl⟩

/-! ## The settings applied (R197) -/

section
variable {x : Block}

theorem State.endSelection_beside (s : State) (p : Port) (r : OutcomeResult) : s.Beside x (s.endSelection p r) := by
  have only := s.endSelection_onlyIn p r
  have same : ∀ k, (s.endSelection p r).stepRec k = s.stepRec k := only.stepRec (by decide)
  exact ⟨fun _ => congrArg AvcState.taken (only .avc (by decide)), (s.endSelection_authority p r).auto,
    (s.endSelection_authority p r).slots, fun _ m => congrArg Monitor.taken (only.monitor (by decide) m),
    fun _ => .of_cu (only .cu (by decide)), fun _ k => congrArg StepRecord.learnedRise (same k),
    fun k => congrArg StepRecord.latestU (same k), (s.endSelection_retains p r).flags⟩

theorem State.endSelectionOf_beside (s : State) (k : StepId) (r : OutcomeResult) : s.Beside x (s.endSelectionOf k r) := by
  unfold State.endSelectionOf
  split
  · exact .refl s
  · exact s.endSelection_beside _ r

theorem State.applyInService_beside (s : State) (old : Settings) (k : StepId) : s.Beside x (s.applyInService old k) :=
  .ite _ ((s.removeEach_beside _ _).trans (State.endSelectionOf_beside _ k _)) (.refl s)

theorem State.clampAlarm_beside (s : State) (k : StepId) : s.Beside x (s.clampAlarm k) :=
  s.setStep_beside k _ (fun _ => rfl) rfl

theorem State.withSet_beside (s : State) (c : SetState) : s.Beside x { s with set := c } :=
  ⟨fun _ => rfl, rfl, fun _ => .inr rfl, fun _ _ => rfl, fun _ => .of_cu rfl, fun _ _ => rfl, fun _ => rfl,
    fun p => by cases p <;> exact id⟩

theorem State.applyMonitor_beside (s : State) (old : Settings) (m : MonitorId) : s.Beside .hmu (s.applyMonitor old m) := by
  have written := fun v => s.setMonitor_beside (x := .hmu) m v (fun n => absurd rfl n)
  have restarted : s.Beside .hmu (s.restartMonitor m) := (written _).trans (State.setFlagsIf_beside _ _)
  exact .ite _ (written _) (.ite _ restarted (.ite _ restarted (written _)))

/-- What follows the monitors in an application is beside the monitors too. -/
theorem State.applySettings_after (s : State) : (allMonitors.foldl (fun t m => t.applyMonitor s.set.settings m) s.putSettings).Beside
    x s.applySettings := by
  let u := allMonitors.foldl (fun t m => t.applyMonitor s.set.settings m) s.putSettings
  have clamped : u.Beside x (allSteps.foldl (fun t k => t.clampAlarm k) u) := .foldl _ State.clampAlarm_beside allSteps u
  have effects : u.Beside x (s.putSettings.applyEffects s.set.settings) :=
    clamped.trans (.foldl _ (fun t k => t.applyInService_beside _ k) allSteps _)
  exact .ite _ (effects.trans (State.examineIfLeft_beside _ s)) (effects.trans (State.examine_beside _))

end

/-- An application is beside the taking of a frame but in the HMU (R132, R133, R197). -/
theorem State.applySettings_beside (s : State) : s.Beside .hmu s.applySettings := by
  have monitors : s.putSettings.Beside .hmu (allMonitors.foldl (fun t m => t.applyMonitor s.set.settings m) s.putSettings) :=
    .foldl _ (fun t m => t.applyMonitor_beside _ m) allMonitors _
  exact ((s.withSet_beside _).trans monitors).trans s.applySettings_after

/-- The settings after an application (R197). -/
theorem State.applySettings_set (s : State) : s.applySettings.set = s.putSettings.set := by
  have effects := s.putSettings.applyEffects_keeps s.set.settings
  exact (State.Keeps.ite _ (effects.trans (State.examineIfLeft_keeps _ s)) (effects.trans (State.examine_keeps _))).set

theorem State.applySettings_clock (s : State) : s.applySettings.clock = s.clock := by
  have effects := s.putSettings.applyEffects_keeps s.set.settings
  exact (State.Keeps.ite _ (effects.trans (State.examineIfLeft_keeps _ s)) (effects.trans (State.examine_keeps _))).clock

/-- A monitor at an application (R132, R133). -/
theorem State.applyMonitor_monitor {s t u : State} (m : MonitorId) (own : u.monitor m = s.monitor m)
    (settings : u.set.settings = t.set.settings) :
    (u.applyMonitor s.set.settings m).monitor m = monitorApplied s t m := by
  have written : ∀ v, (u.setMonitor m v).monitor m = v := fun v => by simp [State.monitor, State.setMonitor]
  have restarted : (u.restartMonitor m).monitor m = { u.monitor m with accumulator := 0, active := false } :=
    ((State.setFlagsIf_onlyIn _ _).monitor (by decide) m).trans (written _)
  unfold State.applyMonitor monitorApplied State.pickup
  rw [← settings, ← own]
  by_cases off : s.set.settings.enabled m = false
  · rw [if_pos off, if_pos (.inl off), written]
  by_cases out : u.set.settings.enabled m = false
  · rw [if_neg off, if_pos out, if_pos (.inr (.inl out)), restarted]
  by_cases changed : u.set.settings.source m ≠ s.set.settings.source m ∨ u.set.settings.phase m ≠ s.set.settings.phase m
  · rw [if_neg off, if_neg out, if_pos changed, if_pos (.inr (.inr changed)), restarted]
  · rw [if_neg off, if_neg out, if_neg changed, if_neg (by tauto), State.setAccumulator, written]

/-- The monitors after an application (R132, R133). -/
theorem State.applySettings_monitor (s : State) {t : State} (settings : s.putSettings.set.settings = t.set.settings)
    (m : MonitorId) : (s.applySettings.monitor m).taken = (monitorApplied s t m).taken := by
  have after := (s.applySettings_after (x := .oq)).monitors (by decide) m
  have applied : (allMonitors.foldl (fun t m => t.applyMonitor s.set.settings m) s.putSettings).monitor m = monitorApplied s t m := by
    refine foldl_once (a := m) (before := fun u => u.monitor m = s.monitor m ∧ u.set.settings = t.set.settings)
      (after := fun u => u.monitor m = monitorApplied s t m) (fun u j other ⟨own, same⟩ => ⟨?_, ?_⟩)
      (fun u ⟨own, same⟩ => State.applyMonitor_monitor m own same) (fun u j other is => ?_) allMonitors_nodup
      (mem_allMonitors m) s.putSettings ⟨rfl, settings⟩
    · rw [u.applyMonitor_monitor_ne _ (Ne.symm other), is]
    · rw [u.applyMonitor_monitor_ne _ (Ne.symm other), own]
    · rw [(u.applyMonitor_keeps _ j).set, same]
  rw [after, applied]

end Sys2Proof.Machine
end

section
/-!
PROOF. An arrival applies the pending settings and publishes one frame (R27 to R45, R197, R203).
-/
namespace Sys2Proof.Machine

/-! ## The publication (R44, R139) -/

/-- A step's record as a frame leaves it (R139). -/
def keptRecord (f : Frame) (k : StepId) (r : StepRecord) : StepRecord :=
  if r.state = some .closed then
    { r with
      latestU := f.neutrals[k].u
      dre := diffRe r.compensation f.neutrals[k].pre f.vAvg
      dim := diffIm r.compensation f.neutrals[k].pim f.vAvg }
  else { r with latestU := f.neutrals[k].u }

theorem State.publish_onlyIn (s : State) (i : FrameInput) (m : Sampling) : s.onlyIn (s.publish i m) [.me, .ss] := by
  let v : State := { s with me := s.meAfter (s.frameOf i m.freeStarted) m }
  have measured : s.onlyIn v [.me, .ss] := fun b out => by cases b <;> simp_all [State.sameBlock, v]
  have one : ∀ (t : State) (k : StepId), t.onlyIn (t.keepUnbalance (s.frameOf i m.freeStarted) k) [.me, .ss] := fun t k =>
    State.onlyIn_mono (t.modStep_onlyIn k _) (by decide)
  exact State.onlyIn_trans measured (State.onlyIn_foldl _ one allSteps v)

theorem State.keepUnbalance_stepRec (s : State) (f : Frame) (k : StepId) :
    (s.keepUnbalance f k).stepRec k = keptRecord f k (s.stepRec k) := s.stepRec_modStep_same k _

theorem State.keepUnbalance_ne (s : State) (f : Frame) {j k : StepId} (other : j ≠ k) :
    (s.keepUnbalance f j).stepRec k = s.stepRec k := s.stepRec_modStep_ne k j _ other.symm

theorem keepAll_stepRec (f : Frame) (s : State) (k : StepId) :
    (allSteps.foldl (fun t k => t.keepUnbalance f k) s).stepRec k = keptRecord f k (s.stepRec k) := by
  refine foldl_once (a := k) (before := fun u : State => u.stepRec k = s.stepRec k)
    (after := fun u : State => u.stepRec k = keptRecord f k (s.stepRec k)) (fun u j other own => ?_) (fun u own => ?_)
    (fun u j other own => ?_) allSteps_nodup (mem_allSteps k) s rfl
  · exact (u.keepUnbalance_ne f other).trans own
  · rw [u.keepUnbalance_stepRec f k, own]
  · exact (u.keepUnbalance_ne f other).trans own

theorem State.publish_stepRec (s : State) (i : FrameInput) (m : Sampling) (k : StepId) :
    (s.publish i m).stepRec k = keptRecord (s.frameOf i m.freeStarted) k (s.stepRec k) := by
  unfold State.publish
  exact keepAll_stepRec _ _ k

theorem State.publish_flags (s : State) (i : FrameInput) (m : Sampling) (p : Port) :
    (s.publish i m).portState p = s.portState p := by
  have pi : (s.publish i m).pi = s.pi := s.publish_onlyIn i m .pi (by decide)
  cases p <;> simp [State.portState, pi]

/-! ## What an arrival leaves of the measurement, the clock and the settings -/

theorem State.takeFrame_keepsRest (s : State) (i : FrameInput) (rises : List (StepId × Nat)) :
    s.KeepsRest (s.takeFrame i rises) := by
  obtain ⟨v, before, after⟩ := s.takeFrame_splits i rises (p := .upu) (by decide)
  exact (before.keepsRest.trans (v.framePart_keepsRest s .upu)).trans after.keepsRest

theorem State.published_me (s : State) (i : FrameInput) : (s.published i).me
    = s.applied.meAfter (s.applied.frameOf i s.samplingNow.freeStarted) s.samplingNow := State.publish_me _ _ _

theorem State.frameArrives_measures (s : State) (i : FrameInput) : (s.frameArrives i).me
    = s.applied.meAfter (s.applied.frameOf i s.samplingNow.freeStarted) s.samplingNow := by
  rw [s.frameArrives_eq, (State.takeFrame_keepsRest _ i _).me, s.published_me]

theorem State.published_set (s : State) (i : FrameInput) : (s.published i).set = s.arriving.putSettings.set :=
  (State.publish_onlyIn _ i _ .set (by decide)).trans s.arriving.applySettings_set

theorem State.frameArrives_set (s : State) (i : FrameInput) :
    { (s.frameArrives i).set with derived := s.set.derived } = s.arriving.putSettings.set := by
  have taken := (State.takeFrame_keepsRest (s.published i) i (rinitLoads s.set.pendingValues)).set
  have before : s.arriving.set = s.set := s.arriving_onlyIn .set (by decide)
  have derived : (s.published i).set.derived = s.set.derived := by
    rw [s.published_set]
    exact (congrArg SetState.derived before :)
  rw [s.published_set] at taken derived
  rw [derived] at taken
  exact taken

theorem State.frameArrives_settings (s : State) (i : FrameInput) :
    (s.frameArrives i).set.settings = s.settingsAfter := by
  have before : s.arriving.set = s.set := s.arriving_onlyIn .set (by decide)
  have taken : (s.frameArrives i).set.settings = s.arriving.settingsAfter := (congrArg SetState.settings (s.frameArrives_set i) :)
  rw [taken, State.settingsAfter, before]
  rfl

theorem State.applied_settings (s : State) (i : FrameInput) : s.applied.set.settings = (s.frameArrives i).set.settings := by
  have applied : s.applied.set = s.arriving.putSettings.set := s.arriving.applySettings_set
  rw [applied]
  exact (congrArg SetState.settings (s.frameArrives_set i) :).symm

theorem State.frameArrives_clock (s : State) (i : FrameInput) : (s.frameArrives i).clock = s.arriving.clock := by
  rw [s.frameArrives_eq, (State.takeFrame_keepsRest _ i _).clock]
  exact (State.publish_onlyIn _ i _ .clock (by decide)).trans s.arriving.applySettings_clock

theorem State.applied_me (s : State) : s.applied.me = s.arriving.me := s.arriving.applySettings_me

/-! ## The settings (R197) -/

theorem foldl_put_get (l : List PendingValue) (c : Settings) (x : SettingId) :
    (l.foldl (fun c p => c.put p.id p.value) c).get x
      = ((l.reverse.find? (fun p => p.id = x)).map (·.value)).getD (c.get x) := by
  induction l using List.reverseRecOn with
  | nil => rfl
  | append_singleton l p ih =>
    rw [List.foldl_append, List.foldl_cons, List.foldl_nil, Settings.get_put, List.reverse_append, List.reverse_singleton,
      List.singleton_append, List.find?_cons]
    by_cases own : p.id = x
    · simp [own]
    · simp [own, Ne.symm own, ih]

/-- The settings part of O47. -/
theorem arrivalAppliesSettings (i : FrameInput) (s : State) (running : s.clock.held = none) :
    ∃ t, exec (.frameArrival i) s = .next t ∧ t.set.pendingValues = []
      ∧ (∀ x, t.set.settings.get x =
          ((s.set.pendingValues.reverse.find? (fun p => p.id = x)).map (·.value)).getD (s.set.settings.get x))
      ∧ (s.set.startup = .running → t.set.loadedAt ≠ none)
      ∧ (s.set.startup = .loading → t.set.loadedAt = s.set.loadedAt)
      ∧ (t.set.copy0, t.set.copy1, t.set.current1, t.set.save) = (s.set.copy0, s.set.copy1, s.set.current1, s.set.save) := by
  have taken := s.frameArrives_set i
  have before : s.arriving.set = s.set := s.arriving_onlyIn .set (by decide)
  have loaded : (s.frameArrives i).set.loadedAt = s.arriving.putSettings.set.loadedAt := (congrArg SetState.loadedAt taken :)
  simp only [State.putSettings, before] at loaded
  refine ⟨_, exec_frameArrival running i, (congrArg SetState.pendingValues taken :), fun x => ?_, fun run => ?_, fun load => ?_, ?_⟩
  · rw [s.frameArrives_settings i, State.settingsAfter, foldl_put_get]
  · rw [loaded]
    split_ifs with first
    · simp
    · exact fun absent => first ⟨run, absent⟩
  · rw [loaded, if_neg (by simp [load])]
  · have same := fun {α : Type} (read : SetState → α) (own : read s.arriving.putSettings.set = read s.arriving.set) =>
      own.trans (congrArg read before)
    exact Prod.ext ((congrArg SetState.copy0 taken :).trans (same SetState.copy0 rfl))
      (Prod.ext ((congrArg SetState.copy1 taken :).trans (same SetState.copy1 rfl))
        (Prod.ext ((congrArg SetState.current1 taken :).trans (same SetState.current1 rfl))
          ((congrArg SetState.save taken :).trans (same SetState.save rfl))))

end Sys2Proof.Machine
end

section
/-!
PROOF. The AVC and the HMU take the frame of an arrival, whatever the order of the parts (R95 to R112, R121 to R133).
-/
namespace Sys2Proof.Machine

/-! ## The AVC's stages (R95) -/

/-- The line state and run_count by a frame (R96 to R98). -/
def State.lineAfter (s : State) : LineState × Nat :=
  if s.avc.line = .live then
    if s.me.frame.noRef = true ∨ s.me.frame.vMax < s.y .vdead then
      if s.y .ndead ≤ s.avc.runCount + 1 then (.dead, 0) else (.live, s.avc.runCount + 1)
    else (.live, 0)
  else if s.me.frame.noRef = false ∧ s.y .vdead + 50 ≤ s.me.frame.vMax then
    if s.y .ndead ≤ s.avc.runCount + 1 then (.live, 0) else (.dead, s.avc.runCount + 1)
  else (.dead, 0)

/-- OV_cnt by a frame (R111, R112). -/
def State.ovTaken (s : State) : Nat :=
  if s.y .oven = 0 then 0
  else if s.me.frame.settling = true then s.avc.ovCnt
  else if s.me.frame.vMax < s.y .vov then 0
  else if s.y .nov ≤ s.avc.ovCnt + 1 then 0 else s.avc.ovCnt + 1

/-- What the AVC's part is judged by: the frame, the settings and its own counts. -/
structure State.SameJudged (s t : State) : Prop where
  /-- the frame -/
  me : t.me = s.me
  /-- the settings -/
  settings : t.set.settings = s.set.settings

theorem State.SameJudged.lineAfter {s t : State} (h : s.SameJudged t) (line : t.avc.line = s.avc.line)
    (run : t.avc.runCount = s.avc.runCount) : t.lineAfter = s.lineAfter := by
  unfold State.lineAfter State.y
  rw [h.me, h.settings, line, run]

theorem State.SameJudged.ovTaken {s t : State} (h : s.SameJudged t) (ov : t.avc.ovCnt = s.avc.ovCnt) :
    t.ovTaken = s.ovTaken := by
  unfold State.ovTaken State.y
  rw [h.me, h.settings, ov]

theorem State.SameJudged.dLowAfter {s t : State} (h : s.SameJudged t) (low : t.avc.dLow = s.avc.dLow) :
    t.dLowAfter = s.dLowAfter := by
  unfold State.dLowAfter State.lowEdge State.y
  rw [h.me, h.settings, low]

theorem State.SameJudged.dHighAfter {s t : State} (h : s.SameJudged t) (high : t.avc.dHigh = s.avc.dHigh) :
    t.dHighAfter = s.dHighAfter := by
  unfold State.dHighAfter State.highEdge State.y
  rw [h.me, h.settings, high]

theorem State.Keeps.judged {s t : State} (h : s.Keeps t) : s.SameJudged t := ⟨h.me, by rw [h.set]⟩

theorem State.enterDead_taken (s : State) :
    s.enterDead.avc.taken = (.dead, 0, s.avc.ovCnt, s.avc.dLow, s.avc.dHigh) := by
  have opened := ((s.setLine .dead).deadOpenAll_beside (x := .oq)).control (by decide)
  rw [State.enterDead, opened, s.setLine_avc .dead]
  rfl

theorem State.lineStage_taken (s : State) : s.lineStage.avc.taken
    = (s.lineAfter.1, s.lineAfter.2, s.avc.ovCnt, s.avc.dLow, s.avc.dHigh) := by
  unfold State.lineStage State.lineAfter
  cases line : s.avc.line with
  | live =>
    by_cases dead : s.me.frame.noRef = true ∨ s.me.frame.vMax < s.y .vdead
    · have is : s.deadFrame = true := by simpa [State.deadFrame] using dead
      by_cases count : s.y .ndead ≤ s.avc.runCount + 1
      · simp [is, dead, count, s.enterDead_taken]
      · simp [is, dead, count, State.setRun, AvcState.taken, line]
    · have is : s.deadFrame = false := by simpa [State.deadFrame] using dead
      simp [is, dead, State.setRun, AvcState.taken, line]
  | dead =>
    by_cases live : s.me.frame.noRef = false ∧ s.y .vdead + 50 ≤ s.me.frame.vMax
    · have is : s.liveFrame = true := by simpa [State.liveFrame] using live
      by_cases count : s.y .ndead ≤ s.avc.runCount + 1
      · simp [is, live, count, s.setLine_avc, AvcState.taken]
      · simp [is, live, count, State.setRun, AvcState.taken, line]
    · have is : s.liveFrame = false := by simpa [State.liveFrame] using live
      simp [is, live, State.setRun, AvcState.taken, line]

theorem State.fastOpening_taken (s : State) :
    s.fastOpening.avc.taken = (s.avc.line, s.avc.runCount, 0, s.avc.dLow, s.avc.dHigh) := by
  cases candidate : s.openCandidate with
  | none =>
    rw [State.fastOpening_none candidate]
    rfl
  | some k =>
    rw [(State.fastOpening_posted candidate).1]
    rfl

theorem State.fastStage_taken (s : State) : s.fastStage.avc.taken
    = (s.avc.line, s.avc.runCount, s.ovTaken, s.avc.dLow, s.avc.dHigh) := by
  by_cases due : s.fastDue = true
  · obtain ⟨on, steady, high, count⟩ := s.fastDue_iff.mp due
    have zero : s.ovTaken = 0 := by simp [State.ovTaken, on, steady, Nat.not_lt.mpr high, count]
    rw [State.fastStage, if_pos due, s.fastOpening_taken, zero]
  · have counted : s.ovAfter = s.ovTaken := by
      unfold State.ovAfter State.ovTaken
      split_ifs with off settling high low count count low
      · rfl
      · rfl
      · omega
      · exact absurd (s.fastDue_iff.mpr ⟨off, by simpa using settling, high, count⟩) due
      · rfl
      · rfl
      · omega
      · omega
    rw [State.fastStage_of_not_due (by simpa using due), counted]
    rfl

/-! ## The integrators (R100 to R112) -/

/-- From `s` to `t` the AVC's counts stand, but that both integrators may have become 0 (R104). -/
def State.Attempted (s t : State) : Prop :=
  t.avc.taken = s.avc.taken ∨ t.avc.taken = (s.avc.line, s.avc.runCount, s.avc.ovCnt, 0, 0)

theorem State.attemptPost_attempted (s : State) (p : Posting) (d : Decision) : s.Attempted (s.attemptPost p d) := by
  have admitted := (s.admitOne_beside (x := .oq) p).control (by decide)
  unfold State.attemptPost
  generalize s.admitOne p = r at admitted ⊢
  by_cases accepted : r.2 = .accepted
  · simp only [accepted, if_true]
    obtain ⟨line, run, ov, -, -⟩ : r.1.avc.line = s.avc.line ∧ r.1.avc.runCount = s.avc.runCount
        ∧ r.1.avc.ovCnt = s.avc.ovCnt ∧ r.1.avc.dLow = s.avc.dLow ∧ r.1.avc.dHigh = s.avc.dHigh := by
      simpa [AvcState.taken] using admitted
    exact .inr (by simp [State.setDecision, State.setD, AvcState.taken, line, run, ov])
  · simp only [accepted, if_false]
    exact .inl admitted

theorem State.closeAttempt_attempted (s : State) : s.Attempted s.closeAttempt := by
  unfold State.closeAttempt
  split
  · exact .inl rfl
  · dsimp only
    split_ifs
    · exact .inl rfl
    · split
      · exact .inl rfl
      · exact s.attemptPost_attempted _ _

theorem State.openAttempt_attempted (s : State) : s.Attempted s.openAttempt := by
  unfold State.openAttempt
  split
  · exact .inl rfl
  · dsimp only
    split_ifs
    · exact .inl rfl
    · exact s.attemptPost_attempted _ _

/-- The integrators after their stage (R100 to R104). -/
theorem State.integratorStage_taken (s : State) (fast : Bool) :
    ∃ d : Nat × Nat, (s.integratorStage fast).avc.taken = (s.avc.line, s.avc.runCount, s.avc.ovCnt, d.1, d.2)
      ∧ (d = (if s.au.auto = false ∨ s.avc.line = .dead ∨ s.me.frame.noRef = true ∨ s.me.frame.vtLoss = true then (0, 0)
            else if s.me.frame.settling = true then (s.avc.dLow, s.avc.dHigh) else (s.dLowAfter, s.dHighAfter))
          ∨ s.me.frame.settling = false ∧ d = (0, 0) ∧ (s.y .tclose ≤ s.dLowAfter ∨ s.y .topen ≤ s.dHighAfter)) := by
  by_cases reset : s.au.auto = false ∨ s.avc.line = .dead ∨ s.me.frame.noRef = true ∨ s.me.frame.vtLoss = true
  · rw [State.integratorStage_reset fast reset, if_pos reset]
    exact ⟨(0, 0), rfl, .inl rfl⟩
  · obtain ⟨auto, line, noRef, vtLoss⟩ := by simpa only [not_or] using reset
    have live : s.avc.line = .live := by
      cases is : s.avc.line with
      | live => rfl
      | dead => exact absurd is line
    rw [State.integratorStage_active fast (by simpa using auto) live (by simpa using noRef) (by simpa using vtLoss),
      if_neg reset]
    by_cases settling : s.me.frame.settling = true
    · exact ⟨(s.avc.dLow, s.avc.dHigh), by rw [if_pos settling]; rfl, .inl (by rw [if_pos settling])⟩
    rw [if_neg settling, if_neg settling]
    have attempt : ∀ t : State, (s.setD s.dLowAfter s.dHighAfter).Attempted t →
        (s.y .tclose ≤ s.dLowAfter ∨ s.y .topen ≤ s.dHighAfter) →
        ∃ d : Nat × Nat, t.avc.taken = (s.avc.line, s.avc.runCount, s.avc.ovCnt, d.1, d.2)
          ∧ (d = (s.dLowAfter, s.dHighAfter) ∨ s.me.frame.settling = false ∧ d = (0, 0)
            ∧ (s.y .tclose ≤ s.dLowAfter ∨ s.y .topen ≤ s.dHighAfter)) := fun t attempted reached =>
      attempted.elim (fun same => ⟨(s.dLowAfter, s.dHighAfter), same, .inl rfl⟩)
        fun zeroed => ⟨(0, 0), zeroed, .inr ⟨by simpa using settling, rfl, reached⟩⟩
    split_ifs with low high posted
    · exact attempt _ (State.closeAttempt_attempted _) (.inl low)
    · exact ⟨_, rfl, .inl rfl⟩
    · exact attempt _ (State.openAttempt_attempted _) (.inr high)
    · exact ⟨_, rfl, .inl rfl⟩

/-! ## The AVC's part as a whole (R95) -/

/-- What the AVC's part writes of its counts (R95). -/
theorem State.avcFrame_taken (s : State) :
    (s.avcFrame.avc.line, s.avcFrame.avc.runCount) = s.lineAfter ∧ s.avcFrame.avc.ovCnt = s.ovTaken
      ∧ ((s.avcFrame.avc.dLow, s.avcFrame.avc.dHigh)
            = (if s.au.auto = false ∨ s.avcFrame.avc.line = .dead ∨ s.me.frame.noRef = true ∨ s.me.frame.vtLoss = true then (0, 0)
              else if s.me.frame.settling = true then (s.avc.dLow, s.avc.dHigh) else (s.dLowAfter, s.dHighAfter))
          ∨ s.me.frame.settling = false ∧ (s.avcFrame.avc.dLow, s.avcFrame.avc.dHigh) = (0, 0)
              ∧ (s.y .tclose ≤ s.dLowAfter ∨ s.y .topen ≤ s.dHighAfter)) := by
  let u := s.lineStage
  let v := u.fastStage
  have whole : s.avcFrame = v.integratorStage u.fastPosts := rfl
  have lined : s.Keeps u := s.lineStage_keeps
  have kept : s.Keeps v := lined.trans u.fastStage_keeps
  have beside : s.Beside .avc v := s.lineStage_beside.trans u.fastStage_beside
  obtain ⟨line, run, ov, low, high⟩ : u.avc.line = s.lineAfter.1 ∧ u.avc.runCount = s.lineAfter.2 ∧ u.avc.ovCnt = s.avc.ovCnt
      ∧ u.avc.dLow = s.avc.dLow ∧ u.avc.dHigh = s.avc.dHigh := by simpa [AvcState.taken] using s.lineStage_taken
  obtain ⟨line', run', ov', low', high'⟩ : v.avc.line = u.avc.line ∧ v.avc.runCount = u.avc.runCount ∧ v.avc.ovCnt = u.ovTaken
      ∧ v.avc.dLow = u.avc.dLow ∧ v.avc.dHigh = u.avc.dHigh := by simpa [AvcState.taken] using u.fastStage_taken
  obtain ⟨d, taken, cases_⟩ := v.integratorStage_taken u.fastPosts
  rw [← whole] at taken
  obtain ⟨line'', run'', ov'', both⟩ : s.avcFrame.avc.line = v.avc.line ∧ s.avcFrame.avc.runCount = v.avc.runCount
      ∧ s.avcFrame.avc.ovCnt = v.avc.ovCnt ∧ (s.avcFrame.avc.dLow, s.avcFrame.avc.dHigh) = d := by
    simpa [AvcState.taken] using taken
  have counted : u.ovTaken = s.ovTaken := lined.judged.ovTaken ov
  have lower : v.dLowAfter = s.dLowAfter := kept.judged.dLowAfter (low'.trans low)
  have higher : v.dHighAfter = s.dHighAfter := kept.judged.dHighAfter (high'.trans high)
  refine ⟨?_, ?_, ?_⟩
  · rw [line'', run'', line', run', line, run]
  · rw [ov'', ov', counted]
  · rw [both, line'', ← lower, ← higher]
    simpa only [kept.me, State.y, kept.set, beside.auto, low'.trans low, high'.trans high] using cases_

/-- The counts of the AVC as the published state has them are those from before the arrival. -/
theorem State.published_control (s : State) (i : FrameInput) :
    (s.published i).avc.taken = s.avc.taken ∧ (s.published i).au.auto = s.au.auto := by
  have published : s.applied.onlyIn (s.published i) [.me, .ss] := State.publish_onlyIn _ i _
  have applied := s.arriving.applySettings_beside
  have avc : s.arriving.avc = s.avc := s.arriving_onlyIn .avc (by decide)
  have au : s.arriving.au = s.au := s.arriving_onlyIn .au (by decide)
  refine ⟨?_, ?_⟩
  · rw [published .avc (by decide), ← avc]
    exact applied.control (by decide)
  · rw [published .au (by decide), ← au]
    exact applied.auto

/-- The AVC takes the frame of an arrival (R95). -/
theorem frameArrives_avcTakes (i : FrameInput) (s : State) : avcTakes s (s.frameArrives i) := by
  obtain ⟨v, before, after⟩ := (s.published i).takeFrame_splits i (rinitLoads s.set.pendingValues) (p := .avc) (by decide)
  have own : v.framePart (s.published i) .avc = v.avcFrame := rfl
  have sound : s.SettingsSound → (s.frameArrives i).SettingsSound := (s.frameArrives_keepsSound i).settings
  rw [← s.frameArrives_eq, own] at after
  generalize s.frameArrives i = t at after sound ⊢
  have rest : v.KeepsRest t := v.avcFrame_keeps.rest.trans after.keepsRest
  have judged : t.SameJudged v := ⟨rest.me.symm, rest.settings.symm⟩
  obtain ⟨counts, auto⟩ := s.published_control i
  obtain ⟨line, run, ov, low, high⟩ : v.avc.line = s.avc.line ∧ v.avc.runCount = s.avc.runCount ∧ v.avc.ovCnt = s.avc.ovCnt
      ∧ v.avc.dLow = s.avc.dLow ∧ v.avc.dHigh = s.avc.dHigh := by simpa [AvcState.taken] using before.control.trans counts
  obtain ⟨line', run', ov', low', high'⟩ : t.avc.line = v.avcFrame.avc.line ∧ t.avc.runCount = v.avcFrame.avc.runCount
      ∧ t.avc.ovCnt = v.avcFrame.avc.ovCnt ∧ t.avc.dLow = v.avcFrame.avc.dLow ∧ t.avc.dHigh = v.avcFrame.avc.dHigh := by
    simpa [AvcState.taken] using after.control
  obtain ⟨lined, counted, integrated⟩ := v.avcFrame_taken
  obtain ⟨u, is⟩ : ∃ u : State, u = { t with avc := s.avc } := ⟨_, rfl⟩
  have like : u.SameJudged v := by
    subst is
    exact ⟨judged.me, judged.settings⟩
  have avc : u.avc = s.avc := by rw [is]
  have auto' : v.au.auto = s.au.auto := before.continues.auto.trans auto
  have settings : ∀ y, v.y y = t.y y := fun y => by rw [State.y, judged.settings, State.y]
  refine ⟨?_, ?_, fun ranges w isw => ?_⟩
  · rw [line', run', lined, like.lineAfter (by rw [line, avc]) (by rw [run, avc])]
    subst is
    rfl
  · rw [ov', counted, like.ovTaken (by rw [ov, avc])]
    subst is
    rfl
  · have range := sound ranges
    obtain rfl : w = u := isw.trans is.symm
    have ranged : w.SettingsSound := by
      subst is
      exact range
    have lower : v.dLowAfter = lowAfter w := by
      rw [← State.dLowAfter_eq ranged, like.dLowAfter (by rw [low, avc])]
    have higher : v.dHighAfter = highAfter w := by
      rw [← State.dHighAfter_eq, like.dHighAfter (by rw [high, avc])]
    rw [low', high', line', ← lower, ← higher, ← judged.me, ← auto', ← low, ← high, ← settings, ← settings]
    exact integrated

end Sys2Proof.Machine
end

section
/-!
PROOF. The HMU takes the frame of an arrival, whatever the order of the parts (R121 to R133).
-/
namespace Sys2Proof.Machine

/-! ## One monitor (R122 to R126) -/

theorem State.setMonitor_own (s : State) (m : MonitorId) (v : Monitor) : (s.setMonitor m v).monitor m = v := by
  simp [State.monitor, State.setMonitor]

theorem State.setMonitor_other (s : State) {j m : MonitorId} (other : j ≠ m) (v : Monitor) :
    (s.setMonitor j v).monitor m = s.monitor m := by
  have apart : j.val ≠ m.val := fun h => other (Fin.ext h)
  simp [State.monitor, State.setMonitor, Vector.getElem_set_ne _ _ apart]

/-- What follows the activation or the clearing of a monitor takes nothing. -/
theorem State.Beside.monitor {s t : State} (h : s.Beside .oq t) (m : MonitorId) :
    (t.monitor m).taken = (s.monitor m).taken := h.monitors (by decide) m

theorem State.activate_taken (s : State) (j m : MonitorId) : ((s.activate j).monitor m).taken
    = if j = m then ((s.monitor m).accumulator, true, min 65535 ((s.monitor m).assertCount + 1), (s.monitor m).activeFrames)
      else (s.monitor m).taken := by
  let u := (s.setMonitor j { s.monitor j with
    active := true, assertCount := min 65535 ((s.monitor j).assertCount + 1) }).setFlags
  have after : u.Beside .oq (s.activate j) := by
    unfold State.activate
    dsimp only
    split
    · exact .refl u
    · exact u.examineIfBlockMoved_beside s
    · exact u.detune_beside j
  have raised : u.monitor m = (s.setMonitor j { s.monitor j with
      active := true, assertCount := min 65535 ((s.monitor j).assertCount + 1) }).monitor m :=
    (State.setFlags_onlyIn _).monitor (by decide) m
  rw [after.monitor m, raised]
  split_ifs with own
  · subst own
    rw [State.setMonitor_own]
    rfl
  · rw [State.setMonitor_other _ own]

theorem State.clearMonitor_taken (s : State) (j m : MonitorId) : ((s.clearMonitor j).monitor m).taken
    = if j = m then ((s.monitor m).accumulator, false, (s.monitor m).assertCount, (s.monitor m).activeFrames)
      else (s.monitor m).taken := by
  let u := (s.setMonitor j { s.monitor j with active := false }).setFlags
  have after : u.Beside .oq (s.clearMonitor j) := u.examineIfBlockMoved_beside s
  have cleared : u.monitor m = (s.setMonitor j { s.monitor j with active := false }).monitor m :=
    (State.setFlags_onlyIn _).monitor (by decide) m
  rw [after.monitor m, cleared]
  split_ifs with own
  · subst own
    rw [State.setMonitor_own]
    rfl
  · rw [State.setMonitor_other _ own]

/-- Another monitor's frame leaves a monitor. -/
theorem State.monitorFrame_other (s : State) {j m : MonitorId} (other : j ≠ m) :
    ((s.monitorFrame j).monitor m).taken = (s.monitor m).taken := by
  have counted : ((s.setAccumulator j (s.accumulatorAfter j)).monitor m) = s.monitor m := s.setMonitor_other other _
  unfold State.monitorFrame State.monitorUpdate
  dsimp only
  split_ifs
  · rfl
  · rfl
  · rw [State.activate_taken, if_neg other, counted]
  · rw [counted]
  · rw [State.clearMonitor_taken, if_neg other, counted]
  · rw [counted]

/-- A monitor's accumulator, active flag and assert_count after a frame (R122 to R125). -/
def Monitor.after (a : Monitor) (s : State) (m : MonitorId) : Nat × Bool × Nat :=
  match s.comparedValue m with
  | none => (a.accumulator, a.active, a.assertCount)
  | some v =>
    if s.set.settings.enabled m = false ∨ (s.me.frame.settling || s.me.frame.noRef || s.me.frame.offFreq) = true then
      (a.accumulator, a.active, a.assertCount)
    else if s.set.settings.m .threshold m < v then
      (min (a.accumulator + 1) (2 * s.pickup m),
        a.active || decide (s.pickup m ≤ min (a.accumulator + 1) (2 * s.pickup m)),
        if a.active = false ∧ s.pickup m ≤ min (a.accumulator + 1) (2 * s.pickup m) then min 65535 (a.assertCount + 1)
        else a.assertCount)
    else (a.accumulator - 1, a.active && decide (1 < a.accumulator), a.assertCount)

theorem Monitor.after_none (a : Monitor) {s : State} {m : MonitorId} (absent : s.comparedValue m = none) :
    a.after s m = (a.accumulator, a.active, a.assertCount) := by
  simp only [Monitor.after, absent]

theorem Monitor.after_kept (a : Monitor) {s : State} {m : MonitorId} (kept : s.set.settings.enabled m = false
    ∨ (s.me.frame.settling || s.me.frame.noRef || s.me.frame.offFreq) = true) :
    a.after s m = (a.accumulator, a.active, a.assertCount) := by
  unfold Monitor.after
  split
  · rfl
  · rw [if_pos kept]

theorem Monitor.after_exceeds (a : Monitor) {s : State} {m : MonitorId} {v : Nat} (compared : s.comparedValue m = some v)
    (runs : ¬(s.set.settings.enabled m = false ∨ (s.me.frame.settling || s.me.frame.noRef || s.me.frame.offFreq) = true))
    (exceeds : s.set.settings.m .threshold m < v) :
    a.after s m = (min (a.accumulator + 1) (2 * s.pickup m),
        a.active || decide (s.pickup m ≤ min (a.accumulator + 1) (2 * s.pickup m)),
        if a.active = false ∧ s.pickup m ≤ min (a.accumulator + 1) (2 * s.pickup m) then min 65535 (a.assertCount + 1)
        else a.assertCount) := by
  simp only [Monitor.after, compared]
  rw [if_neg runs, if_pos exceeds]

theorem Monitor.after_below (a : Monitor) {s : State} {m : MonitorId} {v : Nat} (compared : s.comparedValue m = some v)
    (runs : ¬(s.set.settings.enabled m = false ∨ (s.me.frame.settling || s.me.frame.noRef || s.me.frame.offFreq) = true))
    (below : ¬s.set.settings.m .threshold m < v) :
    a.after s m = (a.accumulator - 1, a.active && decide (1 < a.accumulator), a.assertCount) := by
  simp only [Monitor.after, compared]
  rw [if_neg runs, if_neg below]

/-- A monitor with the values that a frame gives it. -/
def Monitor.takes (a : Monitor) (d : Nat × Bool × Nat) : Nat × Bool × Nat × Nat := (d.1, d.2.1, d.2.2, a.activeFrames)

theorem Monitor.takes_own (a : Monitor) : a.takes (a.accumulator, a.active, a.assertCount) = a.taken := rfl

/-- A monitor's update by an exceeding frame (R123, R124). -/
theorem State.monitorUpdate_exceeds {s : State} {m : MonitorId} (exceeds : s.exceeding m = true) :
    ((s.monitorUpdate m).monitor m).taken = (s.monitor m).takes (min ((s.monitor m).accumulator + 1) (2 * s.pickup m),
        (s.monitor m).active || decide (s.pickup m ≤ min ((s.monitor m).accumulator + 1) (2 * s.pickup m)),
        if (s.monitor m).active = false ∧ s.pickup m ≤ min ((s.monitor m).accumulator + 1) (2 * s.pickup m) then
          min 65535 ((s.monitor m).assertCount + 1)
        else (s.monitor m).assertCount) := by
  have counted : (s.setAccumulator m (s.accumulatorAfter m)).monitor m
      = { s.monitor m with accumulator := s.accumulatorAfter m } := s.setMonitor_own m _
  have count : s.accumulatorAfter m = min ((s.monitor m).accumulator + 1) (2 * s.pickup m) := by
    simp [State.accumulatorAfter, exceeds]
  rw [← count]
  unfold State.monitorUpdate
  dsimp only
  rw [if_pos exceeds]
  by_cases rises : (s.monitor m).active = false ∧ s.pickup m ≤ s.accumulatorAfter m
  · rw [if_pos rises, if_pos rises, State.activate_taken, if_pos rfl, counted, decide_eq_true rises.2, Bool.or_true]
    rfl
  · have stays : ((s.monitor m).active || decide (s.pickup m ≤ s.accumulatorAfter m)) = (s.monitor m).active := by
      cases active : (s.monitor m).active with
      | true => rfl
      | false => simpa [active] using rises
    rw [if_neg rises, if_neg rises, counted, stays]
    rfl

/-- A monitor's update by a frame that is not exceeding (R123, R125). -/
theorem State.monitorUpdate_below {s : State} {m : MonitorId} (below : s.exceeding m = false) :
    ((s.monitorUpdate m).monitor m).taken = (s.monitor m).takes ((s.monitor m).accumulator - 1,
        (s.monitor m).active && decide (1 < (s.monitor m).accumulator), (s.monitor m).assertCount) := by
  have counted : (s.setAccumulator m (s.accumulatorAfter m)).monitor m
      = { s.monitor m with accumulator := s.accumulatorAfter m } := s.setMonitor_own m _
  have count : s.accumulatorAfter m = (s.monitor m).accumulator - 1 := by simp [State.accumulatorAfter, below]
  rw [← count]
  unfold State.monitorUpdate
  dsimp only
  rw [if_neg (by simp [below])]
  by_cases ends : (s.monitor m).active = true ∧ s.accumulatorAfter m = 0
  · have low : ¬1 < (s.monitor m).accumulator := by omega
    rw [if_pos ends, State.clearMonitor_taken, if_pos rfl, counted, decide_eq_false low, Bool.and_false]
    rfl
  · have stays : ((s.monitor m).active && decide (1 < (s.monitor m).accumulator)) = (s.monitor m).active := by
      cases active : (s.monitor m).active with
      | false => rfl
      | true =>
        have high : ¬s.accumulatorAfter m = 0 := fun zero => ends ⟨active, zero⟩
        rw [decide_eq_true (by omega)]
        rfl
    rw [if_neg ends, counted, stays]
    rfl

/-- A monitor's own frame (R122 to R125). -/
theorem State.monitorFrame_own (s : State) (m : MonitorId) :
    ((s.monitorFrame m).monitor m).taken = (s.monitor m).takes ((s.monitor m).after s m) := by
  unfold State.monitorFrame
  by_cases off : s.set.settings.enabled m = false
  · rw [if_pos off, Monitor.after_kept _ (.inl off)]
    rfl
  cases compared : s.comparedValue m with
  | none =>
    have held : s.monitorHeld m = true := by simp [State.monitorHeld, compared]
    rw [if_neg off, if_pos held, Monitor.after_none _ compared]
    rfl
  | some v =>
    have same : s.monitorHeld m = (s.me.frame.settling || s.me.frame.noRef || s.me.frame.offFreq) := by
      simp [State.monitorHeld, compared]
    by_cases held : s.monitorHeld m = true
    · rw [if_neg off, if_pos held, Monitor.after_kept _ (.inr (same ▸ held))]
      rfl
    have runs : ¬(s.set.settings.enabled m = false ∨ (s.me.frame.settling || s.me.frame.noRef || s.me.frame.offFreq) = true) := by
      rw [← same]
      tauto
    rw [if_neg off, if_neg held]
    by_cases exceeds : s.set.settings.m .threshold m < v
    · rw [State.monitorUpdate_exceeds (by simp [State.exceeding, compared, exceeds]),
        Monitor.after_exceeds _ compared runs exceeds]
    · rw [State.monitorUpdate_below (by simp [State.exceeding, compared, exceeds]), Monitor.after_below _ compared runs exceeds]

/-! ## All monitors (R126, R131) -/

theorem Monitor.after_congr {a b : Monitor} {s t : State} {m : MonitorId} (same : a.taken = b.taken) (me : t.me = s.me)
    (settings : t.set.settings = s.set.settings) : a.after t m = b.after s m := by
  obtain ⟨accumulator, active, asserts, -⟩ : a.accumulator = b.accumulator ∧ a.active = b.active ∧ a.assertCount = b.assertCount
      ∧ a.activeFrames = b.activeFrames := by simpa [Monitor.taken] using same
  unfold Monitor.after State.comparedValue State.pickup
  rw [accumulator, active, asserts, me, settings]

theorem Monitor.takes_congr {a b : Monitor} (same : a.taken = b.taken) (d : Nat × Bool × Nat) : a.takes d = b.takes d := by
  have frames : a.activeFrames = b.activeFrames := congrArg (fun x => x.2.2.2) same
  rw [Monitor.takes, frames, Monitor.takes]

/-- active_frames after a frame (R126). -/
def Monitor.counted (d : Nat × Bool × Nat × Nat) (enabled : Bool) : Nat × Bool × Nat × Nat :=
  if enabled = true ∧ d.2.1 = true then (d.1, d.2.1, d.2.2.1, min 4294967295 (d.2.2.2 + 1)) else d

theorem State.countActive_taken (s : State) (j m : MonitorId) : ((s.countActive j).monitor m).taken
    = if j = m then Monitor.counted (s.monitor m).taken (s.set.settings.enabled m) else (s.monitor m).taken := by
  unfold State.countActive State.monitorActive Monitor.counted
  by_cases own : j = m
  · subst own
    rw [if_pos rfl]
    by_cases active : s.set.settings.enabled j = true ∧ (s.monitor j).taken.2.1 = true
    · rw [if_pos (by simpa [Monitor.taken] using active), State.setMonitor_own, if_pos active]
      rfl
    · rw [if_neg (by simpa [Monitor.taken] using active), if_neg active]
  · rw [if_neg own]
    split
    · rw [State.setMonitor_other _ own]
    · rfl

theorem State.countActive_keeps (s : State) (m : MonitorId) : s.Keeps (s.countActive m) :=
  .ite _ (s.setMonitor_keeps m _) (.refl s)

/-- A monitor after the HMU's part of a frame (R131). -/
theorem State.hmuFrame_taken (s : State) (m : MonitorId) : (s.hmuFrame.monitor m).taken
    = Monitor.counted ((s.monitor m).takes ((s.monitor m).after s m)) (s.set.settings.enabled m) := by
  have framed : ((allMonitors.foldl (fun t m => t.monitorFrame m) s).monitor m).taken
      = (s.monitor m).takes ((s.monitor m).after s m) := by
    refine foldl_once (a := m) (before := fun u : State => s.Keeps u ∧ (u.monitor m).taken = (s.monitor m).taken)
      (after := fun u : State => (u.monitor m).taken = (s.monitor m).takes ((s.monitor m).after s m))
      (fun u j other h => ⟨h.1.trans (u.monitorFrame_keeps j), (u.monitorFrame_other other).trans h.2⟩)
      (fun u ⟨keeps, same⟩ => ?_) (fun u j other is => (u.monitorFrame_other other).trans is) allMonitors_nodup
      (mem_allMonitors m) s ⟨.refl s, rfl⟩
    rw [u.monitorFrame_own m, Monitor.takes_congr same, Monitor.after_congr same keeps.me (by rw [keeps.set])]
  have kept : s.Keeps (allMonitors.foldl (fun t m => t.monitorFrame m) s) :=
    .foldl _ State.monitorFrame_keeps allMonitors s
  unfold State.hmuFrame
  generalize allMonitors.foldl (fun t m => t.monitorFrame m) s = v at framed kept
  rw [← framed, ← kept.set]
  refine foldl_once (a := m) (before := fun u : State => v.Keeps u ∧ (u.monitor m).taken = (v.monitor m).taken)
    (after := fun u : State => (u.monitor m).taken = Monitor.counted (v.monitor m).taken (v.set.settings.enabled m))
    (fun u j other h => ⟨h.1.trans (u.countActive_keeps j), ?_⟩) (fun u ⟨keeps, same⟩ => ?_) (fun u j other is => ?_)
    allMonitors_nodup (mem_allMonitors m) v ⟨.refl v, rfl⟩
  · rw [State.countActive_taken, if_neg other]
    exact h.2
  · rw [State.countActive_taken, if_pos rfl, same, keeps.set]
  · rw [State.countActive_taken, if_neg other, is]

/-- The HMU takes the frame of an arrival (R131). -/
theorem frameArrives_monitorTakes (i : FrameInput) (s : State) (m : MonitorId) :
    monitorTakes (monitorApplied s (s.frameArrives i) m) (s.frameArrives i) m := by
  obtain ⟨v, before, after⟩ := (s.published i).takeFrame_splits i (rinitLoads s.set.pendingValues) (p := .hmu) (by decide)
  have own : v.framePart (s.published i) .hmu = v.hmuFrame := rfl
  have settings := s.applied_settings i
  have published : ((s.published i).monitor m).taken = (monitorApplied s (s.frameArrives i) m).taken := by
    have set : s.arriving.set = s.set := s.arriving_onlyIn .set (by decide)
    have hmu : s.arriving.monitor m = s.monitor m := (s.arriving_onlyIn).monitor (by decide) m
    have applied := s.arriving.applySettings_monitor (t := s.frameArrives i) (by
      rw [← settings]
      exact (congrArg SetState.settings s.arriving.applySettings_set).symm) m
    have same : monitorApplied s.arriving (s.frameArrives i) m = monitorApplied s (s.frameArrives i) m := by
      rw [monitorApplied, set, hmu, monitorApplied]
    rw [same] at applied
    exact (congrArg Monitor.taken ((State.publish_onlyIn _ i _).monitor (by decide) m)).trans applied
  rw [← s.frameArrives_eq, own] at after
  generalize monitorApplied s (s.frameArrives i) m = a at published ⊢
  generalize s.frameArrives i = t at after ⊢
  have rest : v.KeepsRest t := v.hmuFrame_keeps.rest.trans after.keepsRest
  have start : (v.monitor m).taken = a.taken := (before.monitors m).trans published
  have taken := (after.monitors m).trans (v.hmuFrame_taken m)
  rw [Monitor.takes_congr start, Monitor.after_congr start rest.me.symm rest.settings.symm, ← rest.settings] at taken
  have frames : (t.monitor m).activeFrames = if t.set.settings.enabled m = true ∧ (t.monitor m).active = true then
      min 4294967295 (a.activeFrames + 1) else a.activeFrames := by
    unfold Monitor.counted at taken
    split at taken
    · next counts =>
      obtain ⟨on, active⟩ := counts
      have is : (t.monitor m).active = true := (congrArg (fun x => x.2.1) taken).trans active
      rw [if_pos ⟨on, is⟩]
      exact congrArg (fun x => x.2.2.2) taken
    · next idle =>
      have is : (t.monitor m).active = (a.takes (a.after t m)).2.1 := congrArg (fun x => x.2.1) taken
      rw [if_neg (by rw [is]; exact idle)]
      exact congrArg (fun x => x.2.2.2) taken
  have values : ((t.monitor m).accumulator, (t.monitor m).active, (t.monitor m).assertCount) = a.after t m := by
    unfold Monitor.counted at taken
    split at taken <;> exact congrArg (fun x => (x.1, x.2.1, x.2.2.1)) taken
  refine ⟨frames, ?_⟩
  cases compared : t.comparedValue m with
  | none => exact values.trans (Monitor.after_none a compared)
  | some w =>
    simp only [Monitor.after, compared] at values
    exact values

end Sys2Proof.Machine
end

section
/-!
PROOF. The settle count, the learned rises and the change flags of an arrival (R81, R90, R113, R132), and the frame it
publishes (R27 to R45).
-/
namespace Sys2Proof.Machine

/-! ## The settle count (R81) -/

theorem State.cuFrame_settle (s : State) : s.cuFrame.cu.settle = s.cu.settle - 1 := by
  unfold State.cuFrame
  split_ifs with zero one
  · omega
  · rw [one]
    unfold State.takeMeasurement
    split <;> rfl
  · rfl

theorem State.published_cooldown (s : State) (i : FrameInput) : s.SameCooldown (s.published i) := by
  have arriving : s.arriving.cu = s.cu := s.arriving_onlyIn .cu (by decide)
  have published : (s.published i).cu = s.applied.cu := State.publish_onlyIn _ i _ .cu (by decide)
  have applied : s.arriving.SameCooldown s.applied := s.arriving.applySettings_beside.cooldown (by decide)
  exact ((State.SameCooldown.of_cu arriving).trans applied).trans (.of_cu published)

/-- The settle count goes down by one at an arrival (R81). -/
theorem frameArrives_settle (i : FrameInput) (s : State) : (s.frameArrives i).cu.settle = s.cu.settle - 1 := by
  obtain ⟨v, before, after⟩ := (s.published i).takeFrame_splits i (rinitLoads s.set.pendingValues) (p := .cu) (by decide)
  have own : (v.framePart (s.published i) .cu).cu.settle = v.cu.settle - 1 := v.cuFrame_settle
  rw [s.frameArrives_eq, after.cooldown.settle, own, before.cooldown.settle, (s.published_cooldown i).settle]

/-! ## The learned rises (R90, R113) -/

/-- The RINIT that the applied values give a step (R113). -/
theorem loadRises_rise (l : List PendingValue) (s : State) (k : StepId) :
    ((s.loadRises (rinitLoads l)).stepRec k).learnedRise
      = ((l.reverse.find? (fun p => p.id = .step .rinit k && !p.loaded)).map (·.value)).getD (s.stepRec k).learnedRise := by
  induction l using List.reverseRecOn with
  | nil => rfl
  | append_singleton l p ih =>
    have split : s.loadRises (rinitLoads (l ++ [p])) = (s.loadRises (rinitLoads l)).loadRises (rinitLoads [p]) := by
      rw [State.loadRises, rinitLoads, List.filterMap_append, List.foldl_append]
      rfl
    rw [split, List.reverse_append, List.reverse_singleton, List.singleton_append, List.find?_cons]
    generalize s.loadRises (rinitLoads l) = u at ih ⊢
    by_cases own : p.id = .step .rinit k ∧ p.loaded = false
    · obtain ⟨id, fresh⟩ := own
      have loads : rinitLoads [p] = [(k, p.value)] := by simp [rinitLoads, id, fresh]
      rw [loads]
      simp [State.loadRises, id, fresh]
    · have other : (decide (p.id = .step .rinit k) && !p.loaded) = false := by simpa using own
      rw [other]
      have same : (u.loadRises (rinitLoads [p])).stepRec k = u.stepRec k := by
        unfold rinitLoads
        rw [List.filterMap_cons, List.filterMap_nil]
        split
        · rfl
        · next b is =>
          split at is
          · next j id =>
            split at is
            · cases is
            · next fresh =>
              obtain rfl := Option.some.inj is
              have away : k ≠ j := fun same => own ⟨by rw [id, same], by simpa using fresh⟩
              show (u.modStep j fun r => { r with learnedRise := p.value }).stepRec k = u.stepRec k
              exact u.stepRec_modStep_ne k j _ away
          · cases is
      rw [same, ih]

/-- A step's learned rise stands at the CU's part but at a settle end that measures it (R81, R90). -/
theorem State.cuFrame_rise_kept {s : State} {k : StepId}
    (other : s.cu.settle ≠ 1 ∨ ∀ a, s.cu.armed = some a → a.step ≠ k) :
    (s.cuFrame.stepRec k).learnedRise = (s.stepRec k).learnedRise := by
  by_cases one : s.cu.settle = 1
  · rw [State.cuFrame_settleEnd one]
    cases armed : s.cu.armed with
    | none => rw [State.takeMeasurement_none (s := s.settled) armed]; rfl
    | some a =>
      have away : k ≠ a.step := (other.resolve_left (fun n => n one) a armed).symm
      rw [State.takeMeasurement_stepRec (s := s.settled) armed, if_neg away]
      rfl
  · unfold State.cuFrame
    rw [if_neg one]
    split <;> rfl

/-- The settle end gives the measured step the rise of R90. -/
theorem State.cuFrame_rise_taken {s : State} {a : Armed} (one : s.cu.settle = 1) (armed : s.cu.armed = some a) :
    (s.cuFrame.stepRec a.step).learnedRise = s.settled.riseAfter a := by
  rw [State.cuFrame_settleEnd one, State.takeMeasurement_stepRec (s := s.settled) armed, if_pos rfl]

theorem State.framePart_rise (s base : State) {q : FramePart} (other : q ≠ .cu) (k : StepId) :
    ((s.framePart base q).stepRec k).learnedRise = (s.stepRec k).learnedRise :=
  (s.framePart_beside base q).rises (by cases q <;> simp_all [partBlock]) k

theorem foldParts_rise {l : List FramePart} (out : FramePart.cu ∉ l) (s base : State) (k : StepId) :
    ((l.foldl (fun t q => t.framePart base q) s).stepRec k).learnedRise = (s.stepRec k).learnedRise := by
  induction l generalizing s with
  | nil => rfl
  | cons q l ih =>
    exact (ih (List.not_mem_of_not_mem_cons out) _).trans (s.framePart_rise base (List.ne_of_not_mem_cons out).symm k)

/-- The CU's part and the loads of the applied RINITs, in the order that the operand gives (R113). -/
theorem State.takeFrame_rise (s : State) (i : FrameInput) (l : List PendingValue) (k : StepId) {n : Option Nat}
    (load : ∀ u : State, ((u.loadRises (rinitLoads l)).stepRec k).learnedRise = n.getD (u.stepRec k).learnedRise) :
    ∃ v, State.Passes s .cu s v
      ∧ ((i.riseFirst = true ∧ (v.stepRec k).learnedRise = (s.stepRec k).learnedRise
            ∧ ((s.takeFrame i (rinitLoads l)).stepRec k).learnedRise = n.getD (v.cuFrame.stepRec k).learnedRise)
          ∨ (i.riseFirst = false ∧ (v.stepRec k).learnedRise = n.getD (s.stepRec k).learnedRise
              ∧ ((s.takeFrame i (rinitLoads l)).stepRec k).learnedRise = (v.cuFrame.stepRec k).learnedRise)) := by
  have taken : s.takeFrame i (rinitLoads l) = ((frameRest i).foldl (fun t q => t.framePart s q)
      ((if i.riseFirst then s.cuFrame else s).loadRises (rinitLoads l))).examine := rfl
  have examined : ∀ u : State, (u.examine.stepRec k).learnedRise = (u.stepRec k).learnedRise := fun u => u.examine_learnedRise k
  by_cases first : i.riseFirst = true
  · refine ⟨s, .refl, .inl ⟨first, rfl, ?_⟩⟩
    rw [taken, examined, foldParts_rise (cu_not_mem_frameRest first), load, if_pos first]
  · obtain ⟨l₁, l₂, split, before, after⟩ := frameRest_split (p := .cu) i (by decide) fun is => absurd is first
    refine ⟨l₁.foldl (fun t q => t.framePart s q) (s.loadRises (rinitLoads l)),
      (State.Passes.refl.loads _).foldl before, .inr ⟨by simpa using first, ?_, ?_⟩⟩
    · rw [foldParts_rise before, load]
    · rw [taken, examined, split, List.foldl_append, List.foldl_cons, foldParts_rise after, if_neg first]
      rfl

/-- The learned rises that no measurement of this arrival takes, or that a SET of RINIT replaces after it (R90, R113). -/
theorem frameArrives_rise_kept (i : FrameInput) (s : State) (k : StepId) (kept : s.cu.settle ≠ 1
    ∨ (∀ a, s.cu.armed = some a → a.step ≠ k) ∨ (i.riseFirst = true ∧ setRinit s k ≠ none)) :
    ((s.frameArrives i).stepRec k).learnedRise = (setRinit s k).getD (s.stepRec k).learnedRise := by
  have published : ((s.published i).stepRec k).learnedRise = (s.stepRec k).learnedRise := by
    have applied := s.arriving.applySettings_beside.rises (by decide) k
    have arriving : s.arriving.stepRec k = s.stepRec k := s.arriving_onlyIn.stepRec (by decide) k
    have kept : (keptRecord (s.applied.frameOf i s.samplingNow.freeStarted) k (s.applied.stepRec k)).learnedRise
        = (s.applied.stepRec k).learnedRise := by
      unfold keptRecord
      split <;> rfl
    rw [State.published, State.publish_stepRec, kept, ← arriving]
    exact applied
  obtain ⟨v, passes, taken⟩ := (s.published i).takeFrame_rise i s.set.pendingValues k (n := setRinit s k)
    (fun u => loadRises_rise _ u k)
  have cooldown := (s.published_cooldown i).trans passes.cooldown
  rw [s.frameArrives_eq]
  have still : s.cu.settle ≠ 1 ∨ (∀ a, s.cu.armed = some a → a.step ≠ k) →
      (v.cuFrame.stepRec k).learnedRise = (v.stepRec k).learnedRise := fun other => by
    refine State.cuFrame_rise_kept (other.imp (fun n => by rwa [cooldown.settle]) fun away a armed => ?_)
    have same := cooldown.armed
    rw [armed] at same
    cases before : s.cu.armed with
    | none => simp [before] at same
    | some b =>
      rw [before] at same
      have step : a.step = b.step := (congrArg Armed.step (Option.some.inj same) :)
      exact step ▸ away b before
  rcases taken with ⟨first, same, is⟩ | ⟨second, same, is⟩
  · rcases kept with other | other | ⟨-, set⟩
    · rw [is, still (.inl other), same, published]
    · rw [is, still (.inr other), same, published]
    · obtain ⟨n, isn⟩ := Option.ne_none_iff_exists'.mp set
      rw [is, isn]
      rfl
  · rcases kept with other | other | ⟨first, -⟩
    · rw [is, still (.inl other), same, published]
    · rw [is, still (.inr other), same, published]
    · simp [first] at second

/-! ## The change flags (R132) -/

theorem State.restartMonitor_flags {s : State} {m : MonitorId} (active : (s.monitor m).active = true) (p : Port) :
    ((s.restartMonitor m).portState p).changeFlag = true := by
  unfold State.restartMonitor
  exact State.setFlagsIf_changeFlag active p

/-- An active monitor that is disabled, or whose source or phase changes, sets both change flags (R132). -/
theorem frameArrives_monitor_flags (i : FrameInput) (s : State) (m : MonitorId) (active : (s.monitor m).active = true)
    (enabled : s.set.settings.enabled m = true) (changed : (s.frameArrives i).set.settings.enabled m = false
      ∨ (s.frameArrives i).set.settings.source m ≠ s.set.settings.source m
      ∨ (s.frameArrives i).set.settings.phase m ≠ s.set.settings.phase m) (p : Port) :
    ((s.frameArrives i).portState p).changeFlag = true := by
  rw [← s.applied_settings i] at changed
  have set : s.arriving.set = s.set := s.arriving_onlyIn .set (by decide)
  have hmu : s.arriving.monitor m = s.monitor m := (s.arriving_onlyIn).monitor (by decide) m
  have applied : s.applied.set = s.arriving.putSettings.set := s.arriving.applySettings_set
  rw [applied] at changed
  have flagged : ((allMonitors.foldl (fun t m => t.applyMonitor s.arriving.set.settings m) s.arriving.putSettings).portState
      p).changeFlag = true := by
    refine foldl_once (a := m)
      (before := fun u : State => s.arriving.putSettings.Keeps u ∧ u.monitor m = s.monitor m)
      (after := fun u : State => (u.portState p).changeFlag = true)
      (fun u j other ⟨keeps, same⟩ => ⟨keeps.trans (u.applyMonitor_keeps _ j), ?_⟩) (fun u ⟨keeps, same⟩ => ?_)
      (fun u j _ is => (u.applyMonitor_beside _ j).flags p is) allMonitors_nodup (mem_allMonitors m) _ ⟨.refl _, hmu⟩
    · rw [u.applyMonitor_monitor_ne _ (Ne.symm other), same]
    · have restarts := fun t : State => State.restartMonitor_flags (s := u) (m := m) (by rw [same]; exact active) p
      unfold State.applyMonitor
      rw [keeps.set, set, if_neg (by simp [enabled])]
      rcases changed with off | other
      · rw [if_pos off]
        exact restarts u
      · by_cases off : s.arriving.putSettings.set.settings.enabled m = false
        · rw [if_pos off]
          exact restarts u
        · rw [if_neg off, if_pos other]
          exact restarts u
  have after := (s.arriving.applySettings_after (x := .oq)).flags p flagged
  have published : ((s.published i).portState p).changeFlag = true := by
    rw [State.published, State.publish_flags]
    exact after
  obtain ⟨v, before, rest⟩ := (s.published i).takeFrame_splits i (rinitLoads s.set.pendingValues) (p := .upu) (by decide)
  rw [s.frameArrives_eq]
  exact rest.continues.flags p ((v.framePart_beside _ .upu).flags p (before.continues.flags p published))

end Sys2Proof.Machine
end

section
/-!
SUPPORT. A block's taking of a frame as a run of few moves: postings, examinations, and writes that no step or entry
shows (R44).
-/
namespace Sys2Proof.Machine

/-- What a part of an arrival may do beyond what every part may. -/
inductive Licence where
  /-- write the stages of a step (R141, R142) -/
  | count (k : StepId)
  /-- write the settle count and the armed measurement (R81, R89) -/
  | cool
  /-- have the capture engine take the frame (R155) -/
  | capture

/-- A TRIP is posted for a step in CLOSED or OPENING only, and no posting is a port's. -/
structure State.Fair (s : State) (p : Posting) : Prop where
  /-- what a TRIP meets -/
  trip : p.kind = .tripOp → (s.stepRec p.step).state = some .closed ∨ (s.stepRec p.step).state = some .opening
  /-- whose it is -/
  own : originatorPort p.originator = none

/-- From `s` to `t` a run of moves, each of which every part may make or is licensed by `may`. -/
inductive State.Runs (may : Licence → Prop) : State → State → Prop
  /-- no move -/
  | refl {s : State} : State.Runs may s s
  /-- one run after another -/
  | trans {s t u : State} (first : State.Runs may s t) (second : State.Runs may t u) : State.Runs may s u
  /-- a write of the AVC, the HMU or the ports -/
  | wrote {s t : State} (only : s.onlyIn t [.avc, .hmu, .pi]) : State.Runs may s t
  /-- a write of the UPU that is not the capture engine's -/
  | noted {s t : State} (only : s.onlyIn t [.upu]) (capture : t.upu.capture = s.upu.capture) : State.Runs may s t
  /-- a posting (R50) -/
  | posted {s : State} {p : Posting} (fair : s.Fair p) : State.Runs may s (s.post p).1
  /-- an examination (R60) -/
  | examined {s : State} : State.Runs may s s.examine
  /-- a learned rise (R90, R113) -/
  | risen {s : State} (k : StepId) (n : Nat) : State.Runs may s (s.modStep k fun r => { r with learnedRise := n })
  /-- the stages of a step (R141, R142) -/
  | staged {s : State} (k : StepId) (licensed : may (.count k)) (alarm trip : Nat) (flag : Bool) :
      State.Runs may s (s.modStep k fun r => { r with alarmCount := alarm, alarmFlag := flag, tripCount := trip })
  /-- the Cooldown Unit (R81, R89) -/
  | cooled {s t : State} (licensed : may .cool) (only : s.onlyIn t [.cu]) : State.Runs may s t
  /-- the capture engine (R155) -/
  | captures {s : State} (licensed : may .capture) : State.Runs may s s.captureFrame

section
variable {may : Licence → Prop}

theorem State.Runs.mono {also : Licence → Prop} (covers : ∀ l, may l → also l) {s t : State} (h : State.Runs may s t) :
    State.Runs also s t := by
  induction h with
  | refl => exact .refl
  | trans _ _ first second => exact first.trans second
  | wrote only => exact .wrote only
  | noted only capture => exact .noted only capture
  | posted fair => exact .posted fair
  | examined => exact .examined
  | risen k n => exact .risen k n
  | staged k licensed alarm trip flag => exact .staged k (covers _ licensed) alarm trip flag
  | cooled licensed only => exact .cooled (covers _ licensed) only
  | captures licensed => exact .captures (covers _ licensed)

theorem State.Runs.ite {s t u : State} (c : Prop) [Decidable c] (h : State.Runs may s t) (g : State.Runs may s u) :
    State.Runs may s (if c then t else u) := by
  split
  · exact h
  · exact g

theorem State.Runs.foldl {α : Type} (f : State → α → State) (h : ∀ (s : State) a, State.Runs may s (f s a)) (l : List α)
    (s : State) : State.Runs may s (l.foldl f s) := by
  induction l generalizing s with
  | nil => exact .refl
  | cons a l ih => exact (h s a).trans (ih (f s a))

/-! ## Postings and flags -/

theorem State.fair_of_not_trip (s : State) {p : Posting} (other : p.kind ≠ .tripOp)
    (own : originatorPort p.originator = none) : s.Fair p := ⟨fun trip => absurd trip other, own⟩

theorem State.admitOne_runs {s : State} {p : Posting} (fair : s.Fair p) : State.Runs may s (s.admitOne p).1 :=
  (State.Runs.posted fair).trans .examined

theorem expandOne_runs {o : Originator} (own : originatorPort o = none) (tag : Option Byte) (fast : Bool) (l : List StepId)
    (acc : State × List PostAnswer) : State.Runs may acc.1 (l.foldl (expandOne o tag fast) acc).1 := by
  induction l generalizing acc with
  | nil => exact .refl
  | cons k l ih =>
    have fair : acc.1.Fair (openPosting o tag fast k) := acc.1.fair_of_not_trip (p := openPosting o tag fast k) nofun own
    exact (State.Runs.posted fair).trans (ih (expandOne o tag fast acc k))

theorem State.admitAll_runs (s : State) {o : Originator} (own : originatorPort o = none) (tag : Option Byte) (fast : Bool) :
    State.Runs may s (s.admitAll o tag fast).1 := by
  have expanded : State.Runs may s (s.expandAll o tag fast).1 := expandOne_runs own tag fast allSteps (s, [])
  simp only [State.admitAll]
  exact expanded.trans .examined

theorem State.setFlags_runs (s : State) : State.Runs may s s.setFlags :=
  .wrote (State.onlyIn_mono s.setFlags_onlyIn (by decide))

theorem State.setFlagsIf_runs (s : State) (c : Bool) : State.Runs may s (s.setFlagsIf c) := .ite _ s.setFlags_runs .refl

/-! ## The AVC's part (R95 to R112) -/

theorem State.avc_runs (s : State) (a : AvcState) : State.Runs may s { s with avc := a } :=
  .wrote (State.onlyIn_mono (s.onlyIn_avc a) (by decide))

theorem State.setDecision_runs (s : State) (d : Decision) : State.Runs may s (s.setDecision d) := s.avc_runs _
theorem State.setOv_runs (s : State) (n : Nat) : State.Runs may s (s.setOv n) := s.avc_runs _
theorem State.setRun_runs (s : State) (n : Nat) : State.Runs may s (s.setRun n) := s.avc_runs _
theorem State.setD_runs (s : State) (lo hi : Nat) : State.Runs may s (s.setD lo hi) := s.avc_runs _

theorem State.deadOpenAll_runs (s : State) : State.Runs may s s.deadOpenAll := by
  have admitted := s.admitAll_runs (may := may) (o := .avc) rfl none true
  unfold State.deadOpenAll
  generalize s.admitAll .avc none true = r at admitted
  exact admitted.trans ((r.1.avc_runs _).trans (State.setDecision_runs _ _))

theorem State.setLine_runs (s : State) (l : LineState) : State.Runs may s (s.setLine l) := by
  rw [State.setLine_eq]
  exact ((s.avc_runs _).trans (State.setFlags_runs _)).trans .examined

theorem State.lineStage_runs (s : State) : State.Runs may s s.lineStage := by
  unfold State.lineStage
  split
  · exact .ite _ (.ite _ ((s.setLine_runs .dead).trans (State.deadOpenAll_runs _)) (s.setRun_runs _)) (s.setRun_runs _)
  · exact .ite _ (.ite _ (s.setLine_runs .live) (s.setRun_runs _)) (s.setRun_runs _)

theorem State.avcPosting_fair (s : State) {kind : OpKind} (other : kind ≠ .tripOp) (k : StepId) (fast : Bool) :
    s.Fair (avcPosting kind k fast) := s.fair_of_not_trip other rfl

theorem State.fastStage_runs (s : State) : State.Runs may s s.fastStage := by
  unfold State.fastStage State.fastOpening
  refine .ite _ ?_ (s.setOv_runs _)
  split
  · exact (s.setOv_runs 0).trans (State.setDecision_runs _ _)
  · exact ((s.setOv_runs 0).trans (State.admitOne_runs (State.avcPosting_fair _ (by decide) _ _))).trans
      (State.setDecision_runs _ _)

theorem State.attemptPost_runs {s : State} {p : Posting} (fair : s.Fair p) (d : Decision) :
    State.Runs may s (s.attemptPost p d) :=
  ((State.admitOne_runs fair).trans (.ite _ (State.setD_runs _ 0 0) .refl)).trans (State.setDecision_runs _ d)

theorem State.closeAttempt_runs (s : State) : State.Runs may s s.closeAttempt := by
  unfold State.closeAttempt
  split
  · exact s.setDecision_runs _
  · refine .ite _ (s.setDecision_runs _) ?_
    split
    · exact s.setDecision_runs _
    · exact State.attemptPost_runs (s.avcPosting_fair (by decide) _ _) _

theorem State.openAttempt_runs (s : State) : State.Runs may s s.openAttempt := by
  unfold State.openAttempt
  split
  · exact s.setDecision_runs _
  · exact .ite _ (s.setDecision_runs _) (State.attemptPost_runs (s.avcPosting_fair (by decide) _ _) _)

theorem State.integratorStage_runs (s : State) (fast : Bool) : State.Runs may s (s.integratorStage fast) := by
  have written := fun lo hi => s.setD_runs (may := may) lo hi
  unfold State.integratorStage
  exact .ite _ (written 0 0) (.ite _ .refl (.ite _ ((written _ _).trans (State.closeAttempt_runs _))
    (.ite _ (.ite _ (written _ _) ((written _ _).trans (State.openAttempt_runs _))) (written _ _))))

theorem State.avcFrame_runs (s : State) : State.Runs may s s.avcFrame :=
  (s.lineStage_runs.trans (State.fastStage_runs _)).trans (State.integratorStage_runs _ _)

/-! ## The HMU's part (R121 to R131) -/

theorem State.setMonitor_runs (s : State) (m : MonitorId) (v : Monitor) : State.Runs may s (s.setMonitor m v) :=
  .wrote (State.onlyIn_mono (s.setMonitor_onlyIn m v) (by decide))

theorem State.examineIfBlockMoved_runs (s before : State) : State.Runs may s (s.examineIfBlockMoved before) :=
  .ite _ .refl .examined

theorem State.detune_runs (s : State) (m : MonitorId) : State.Runs may s (s.detune m) := by
  unfold State.detune
  split
  · exact s.setMonitor_runs m _
  · refine (s.setMonitor_runs m _).trans (State.admitOne_runs ?_)
    exact State.fair_of_not_trip _ nofun rfl

theorem State.activate_runs (s : State) (m : MonitorId) : State.Runs may s (s.activate m) := by
  have raised := (s.setMonitor_runs (may := may) m { s.monitor m with
    active := true, assertCount := min 65535 ((s.monitor m).assertCount + 1) }).trans (State.setFlags_runs _)
  unfold State.activate
  dsimp only
  split
  · exact raised
  · exact raised.trans (State.examineIfBlockMoved_runs _ s)
  · exact raised.trans (State.detune_runs _ m)

theorem State.monitorFrame_runs (s : State) (m : MonitorId) : State.Runs may s (s.monitorFrame m) := by
  have cleared : ∀ t : State, State.Runs may t (t.clearMonitor m) := fun t =>
    ((t.setMonitor_runs m _).trans (State.setFlags_runs _)).trans (State.examineIfBlockMoved_runs _ t)
  have counted : State.Runs may s (s.setAccumulator m (s.accumulatorAfter m)) := s.setMonitor_runs m _
  unfold State.monitorFrame State.monitorUpdate
  exact .ite _ .refl (.ite _ .refl (.ite _ (.ite _ (counted.trans (State.activate_runs _ m)) counted)
    (.ite _ (counted.trans (cleared _)) counted)))

theorem State.hmuFrame_runs (s : State) : State.Runs may s s.hmuFrame := by
  have counts : ∀ (t : State) (m : MonitorId), State.Runs may t (t.countActive m) := fun t m =>
    .ite _ (t.setMonitor_runs m _) .refl
  exact (State.Runs.foldl _ State.monitorFrame_runs allMonitors s).trans (.foldl _ counts allMonitors _)

/-! ## The UPU's part (R140 to R156) -/

theorem State.withUpu_runs (s : State) {u : UpuState} (capture : u.capture = s.upu.capture) :
    State.Runs may s { s with upu := u } :=
  .noted (fun b out => by cases b <;> simp_all [State.sameBlock]) capture

theorem State.enterTripRecord_runs (s : State) (cause : LockoutCause) (step : Option StepId) (u : Option Nat)
    (dre dim : Option Int) : State.Runs may s (s.enterTripRecord cause step u dre dim) := by
  unfold State.enterTripRecord
  split
  · exact ((s.withUpu_runs (by rfl)).trans (State.setFlags_runs _)).trans .examined
  · exact s.withUpu_runs rfl

theorem State.setTripCount_runs (s : State) (k : StepId) (licensed : may (.count k)) (n : Nat) :
    State.Runs may s (s.setTripCount k n) :=
  .staged k licensed (s.stepRec k).alarmCount n (s.stepRec k).alarmFlag

/-- A trip decision for a step in CLOSED or OPENING (R142). -/
theorem State.decideTrip_runs {s : State} {k : StepId} (licensed : may (.count k))
    (meets : (s.stepRec k).state = some .closed ∨ (s.stepRec k).state = some .opening) (u : Nat) (dre dim : Int) :
    State.Runs may s (s.decideTrip k u dre dim) := by
  have counted : ((s.setTripCount k 0).stepRec k).state = (s.stepRec k).state := by
    rw [State.setTripCount, State.stepRec_modStep_same]
  have fair : (s.setTripCount k 0).Fair (unbalanceTrip k) := ⟨fun _ => by
    show ((s.setTripCount k 0).stepRec k).state = _ ∨ ((s.setTripCount k 0).stepRec k).state = _
    rw [counted]
    exact meets, rfl⟩
  exact ((s.setTripCount_runs k licensed 0).trans (State.admitOne_runs fair)).trans (State.enterTripRecord_runs _ _ _ _ _ _)

theorem State.alarmStage_runs (s : State) (k : StepId) (licensed : may (.count k)) : State.Runs may s (s.alarmStage k) := by
  have written : ∀ n f, State.Runs may s (s.setStep k { s.stepRec k with alarmCount := n, alarmFlag := f }) := fun n f =>
    .staged k licensed n (s.stepRec k).tripCount f
  unfold State.alarmStage
  exact .ite _ ((written _ _).trans (State.setFlagsIf_runs _ _))
    (.ite _ .refl ((written 0 false).trans (State.setFlagsIf_runs _ _)))

/-- The alarm count and flag after a frame (R141). -/
def alarmTaken (level talm u n : Nat) (f : Bool) : Nat × Bool :=
  if level ≤ u then (min talm (n + 1), f || decide (talm ≤ n + 1))
  else if level * 9 / 10 ≤ u then (n, f)
  else (0, false)

theorem State.alarmStage_stepRec (s : State) (k : StepId) :
    (s.alarmStage k).stepRec k = { s.stepRec k with
      alarmCount := (alarmTaken (s.set.settings.s .ualm k) (s.set.settings.s .talm k) s.me.frame.neutrals[k].u
        (s.stepRec k).alarmCount (s.stepRec k).alarmFlag).1
      alarmFlag := (alarmTaken (s.set.settings.s .ualm k) (s.set.settings.s .talm k) s.me.frame.neutrals[k].u
        (s.stepRec k).alarmCount (s.stepRec k).alarmFlag).2 } := by
  have flagged : ∀ (t : State) (c : Bool), (t.setFlagsIf c).stepRec k = t.stepRec k := fun t c =>
    (t.setFlagsIf_onlyIn c).stepRec (by decide) k
  unfold State.alarmStage alarmTaken
  dsimp only
  split_ifs with high zone
  · rw [flagged, State.stepRec_setStep_same]
    congr 2
    rw [decide_eq_decide]
    omega
  · rfl
  · rw [flagged, State.stepRec_setStep_same]

theorem State.tripStage_runs {s : State} {k : StepId} (licensed : may (.count k))
    (closed : (s.stepRec k).state = some .closed) : State.Runs may s (s.tripStage k) := by
  unfold State.tripStage
  exact .ite _ (.ite _ (State.decideTrip_runs licensed (.inl closed) _ _ _) (s.setTripCount_runs k licensed _))
    (.ite _ .refl (s.setTripCount_runs k licensed 0))

theorem State.tripInFlight_opening {s : State} {k : StepId} (flies : s.tripInFlight k = true) :
    (s.stepRec k).state = some .opening := by
  simp only [State.tripInFlight, Bool.and_eq_true, decide_eq_true_eq] at flies
  exact flies.1

theorem State.furtherDue_opening {s : State} {k : StepId} (due : s.furtherDue k = true) :
    (s.stepRec k).state = some .opening := by
  unfold State.furtherDue at due
  split at due
  · cases due
  · simp only [Bool.and_eq_true] at due
    exact State.tripInFlight_opening due.1.1

theorem State.stepFrame_runs (s base : State) (k : StepId) (licensed : may (.count k)) :
    State.Runs may s (s.stepFrame base k) := by
  unfold State.stepFrame State.stages State.stagesOfOther
  split_ifs with due closed other
  · exact State.decideTrip_runs licensed (.inr (State.furtherDue_opening due)) _ _ _
  · have still : ((s.alarmStage k).stepRec k).state = some .closed := by
      rw [s.alarmStage_stepRec]
      exact closed
    exact (s.alarmStage_runs k licensed).trans (State.tripStage_runs licensed still)
  · simp only [Bool.and_eq_true, State.detunedSince, decide_eq_true_eq] at other
    exact State.decideTrip_runs licensed (.inr other.1.1.2) _ _ _
  · exact .refl

/-- The stages of all steps at a frame, before the capture engine takes it (R140). -/
def State.staged (s base : State) : State :=
  (if s.stagesHeld then s else allSteps.foldl (fun t k => t.stepFrame base k) s).setEdge none

theorem State.upuFrame_eq (s base : State) : s.upuFrame base = (s.staged base).captureFrame := rfl

theorem State.setEdge_runs (s : State) (g : Option TripEdge) : State.Runs may s (s.setEdge g) := s.withUpu_runs rfl

theorem State.staged_runs (s base : State) (counts : ∀ k, may (.count k)) : State.Runs may s (s.staged base) := by
  have taken : State.Runs may s (if s.stagesHeld then s else allSteps.foldl (fun t k => t.stepFrame base k) s) :=
    .ite _ .refl (.foldl _ (fun t k => t.stepFrame_runs base k (counts k)) allSteps s)
  exact taken.trans (State.setEdge_runs _ none)

theorem State.upuFrame_runs (s base : State) (counts : ∀ k, may (.count k)) (captures : may .capture) :
    State.Runs may s (s.upuFrame base) := by
  rw [s.upuFrame_eq]
  exact (s.staged_runs base counts).trans (.captures captures)

/-! ## The CU's part, and the learned rises (R81, R89, R113) -/

theorem State.cuFrame_runs (s : State) (cools : may .cool) : State.Runs may s s.cuFrame := by
  have written : ∀ (t : State) (c : CuState), State.Runs may t { t with cu := c } := fun t c =>
    .cooled cools fun b out => by cases b <;> simp_all [State.sameBlock]
  have measured : ∀ t : State, State.Runs may t t.takeMeasurement := fun t => by
    unfold State.takeMeasurement
    split
    · exact .refl
    · exact (written t _).trans (.risen _ _)
  unfold State.cuFrame
  exact .ite _ .refl (.ite _ ((written s _).trans (measured _)) (written s _))

theorem State.loadRises_runs (s : State) (rises : List (StepId × Nat)) : State.Runs may s (s.loadRises rises) := by
  have one : ∀ (t : State) (a : StepId × Nat), State.Runs may t (t.modStep a.1 fun r => { r with learnedRise := a.2 }) :=
    fun t a => .risen a.1 a.2
  exact .foldl _ one rises s

end

end Sys2Proof.Machine
end

section
/-!
SUPPORT. What a run of moves leaves of a step and of its pending entry (R44).
-/
namespace Sys2Proof.Machine

/-- The blocks that a run of moves writes. -/
abbrev runBlocks : List Block := [.ss, .oq, .cu, .avc, .hmu, .upu, .au, .pi, .os]

/-- A run of moves leaves the clock, the measurement and the settings. -/
theorem State.Runs.onlyIn {may : Licence → Prop} {s t : State} (h : State.Runs may s t) : s.onlyIn t runBlocks := by
  induction h with
  | refl => exact State.onlyIn_refl _ _
  | trans _ _ first second => exact State.onlyIn_trans first second
  | wrote only => exact State.onlyIn_mono only (by decide)
  | noted only => exact State.onlyIn_mono only (by decide)
  | posted => exact (State.post_keeps _ _).onlyIn
  | examined => exact (State.examine_keeps _).onlyIn
  | risen => exact (State.modStep_keeps _ _ _).onlyIn
  | staged => exact (State.modStep_keeps _ _ _).onlyIn
  | cooled _ only => exact State.onlyIn_mono only (by decide)
  | captures => exact (State.captureFrame_keeps _).onlyIn

/-- A step has an entry that no removal of WAITING CLOSEs takes. -/
def State.holds (s : State) (k : StepId) : Prop :=
  ∃ e, s.entryOf k = some e ∧ (e.kind ≠ .closeOp ∨ e.status = .inFlight)

/-- A READY step out of service with no entry. -/
def State.bare (s : State) (k : StepId) : Prop :=
  (s.stepRec k).state = some .ready ∧ s.entryOf k = none ∧ s.inService k = false

/-- What a run of moves leaves of a step. -/
structure State.StepRuns (may : Licence → Prop) (s t : State) (k : StepId) : Prop where
  /-- no step enters READY or CLOSED -/
  back : (t.stepRec k).state = some .ready ∨ (t.stepRec k).state = some .closed → (s.stepRec k).state = (t.stepRec k).state
  /-- the position -/
  position : (t.stepRec k).position = (s.stepRec k).position
  /-- the compensation -/
  compensation : ¬may .capture → (t.stepRec k).compensation = (s.stepRec k).compensation
  /-- the stages of a step that stays CLOSED -/
  stages : ¬may .capture → ¬may (.count k) → (t.stepRec k).state = some .closed →
    (t.stepRec k).alarmCount = (s.stepRec k).alarmCount ∧ (t.stepRec k).alarmFlag = (s.stepRec k).alarmFlag
      ∧ (t.stepRec k).tripCount = (s.stepRec k).tripCount
  /-- an entry that is not a WAITING CLOSE -/
  held : s.holds k → t.holds k
  /-- a READY step out of service with no entry -/
  bare : s.bare k → t.bare k

section
variable {may : Licence → Prop} {k : StepId}

theorem State.StepRuns.refl (s : State) : s.StepRuns may s k :=
  ⟨fun _ => rfl, rfl, fun _ => rfl, fun _ _ _ => ⟨rfl, rfl, rfl⟩, id, id⟩

theorem State.StepRuns.trans {s t u : State} (h : s.StepRuns may t k) (g : t.StepRuns may u k) : s.StepRuns may u k := by
  refine ⟨fun kept => ?_, g.position.trans h.position, fun n => (g.compensation n).trans (h.compensation n), fun n m closed => ?_,
    g.held ∘ h.held, g.bare ∘ h.bare⟩
  · exact (h.back (g.back kept ▸ kept)).trans (g.back kept)
  · obtain ⟨alarm, flag, trip⟩ := g.stages n m closed
    obtain ⟨alarm', flag', trip'⟩ := h.stages n m ((g.back (.inr closed)).trans closed)
    exact ⟨alarm.trans alarm', flag.trans flag', trip.trans trip'⟩

/-- A step whose record and entry are the same. -/
theorem State.StepRuns.of_spares {s t : State} (same : s.Spares t k) (set : t.set = s.set) : s.StepRuns may t k := by
  obtain ⟨record, entry⟩ := same
  refine ⟨fun _ => by rw [record], by rw [record], fun _ => by rw [record], fun _ _ _ => by simp [record], fun held => ?_,
    fun bare => ?_⟩
  · rwa [State.holds, entry]
  · rwa [State.bare, record, entry, State.inService, set]

theorem State.StepRuns.of_onlyIn {s t : State} {l : List Block} (only : s.onlyIn t l) (ss : Block.ss ∉ l) (oq : Block.oq ∉ l)
    (set : Block.set ∉ l) : s.StepRuns may t k := .of_spares (.of_onlyIn only ss oq k) (only .set set)

/-! ## Postings and examinations -/

theorem recordAfter_compensation (r : StepRecord) (n : StepState) (l : Option LockoutCause) (f : Option FailureCause) :
    (recordAfter r n l f).compensation = r.compensation := by
  unfold recordAfter
  split <;> rfl

/-- A step that enters a state other than READY and CLOSED. -/
theorem State.StepRuns.of_entered {s t : State} {n : StepState} {l : Option LockoutCause} {f : Option FailureCause}
    (record : t.stepRec k = recordAfter (s.stepRec k) n l f) (away : n ≠ .ready ∧ n ≠ .closed)
    (held : s.holds k → t.holds k) (bare : ¬s.bare k) : s.StepRuns may t k := by
  obtain ⟨state, position⟩ := recordAfter_state (s.stepRec k) n l f
  obtain ⟨notReady, notClosed⟩ := away
  have left : ¬((t.stepRec k).state = some .ready ∨ (t.stepRec k).state = some .closed) := by
    rw [record, state]
    simp [notReady, notClosed]
  exact ⟨fun kept => absurd kept left, by rw [record, position], fun _ => by rw [record, recordAfter_compensation],
    fun _ _ closed => absurd (.inr closed) left, held, fun is => absurd is bare⟩

/-- A step whose record is the same. -/
theorem State.StepRuns.of_record {s t : State} (record : t.stepRec k = s.stepRec k) (held : s.holds k → t.holds k)
    (bare : s.bare k → t.bare k) : s.StepRuns may t k :=
  ⟨fun _ => by rw [record], by rw [record], fun _ => by rw [record], fun _ _ _ => by simp [record], held, bare⟩

theorem State.not_bare_of_entry {s : State} {e : Entry} (entry : s.entryOf k = some e) : ¬s.bare k := fun bare => by
  obtain ⟨-, free, -⟩ := bare
  simp [free] at entry

theorem State.not_holds_of_free {s : State} (free : s.entryOf k = none) : ¬s.holds k := fun ⟨e, entry, _⟩ => by
  simp [free] at entry

theorem State.not_holds_of_waitingClose {s : State} {e : Entry} (entry : s.entryOf k = some e) (waits : e.status = .waiting)
    (close : e.kind = .closeOp) : ¬s.holds k := fun ⟨x, other, kept⟩ => by
  obtain rfl : e = x := Option.some.inj (entry.symm.trans other)
  simp [waits, close] at kept

theorem State.setMark_holds {s : State} {p : Posting} {e : Entry} (entry : s.entryOf p.step = some e)
    (flies : e.status = .inFlight) : (s.setMark p).holds p.step := by
  refine ⟨{ e with mark := some (markOf p) }, ?_, .inr flies⟩
  obtain ⟨-, step⟩ := State.mem_of_entryOf entry
  rw [State.setMark, State.modEntry_entryOf (f := fun e => { e with mark := some (markOf p) }) _ _ (fun _ => rfl), entry, Option.map_some, if_pos step]

/-- A posting touches the step that it names so (R50 to R58). -/
theorem State.post_stepRuns {s : State} {p : Posting} (fair : s.Fair p) (k : StepId) : s.StepRuns may (s.post p).1 k := by
  have set : (s.post p).1.set = s.set := (s.post_keeps p).set
  by_cases other : k ≠ p.step
  · exact .of_spares (s.post_spares other) set
  obtain rfl : k = p.step := not_not.mp other
  have posted := s.post_as p
  generalize (s.post p).1 = y at posted ⊢
  have told : ∀ (t : State) (e : Entry) (r : OutcomeResult), t.StepRuns may (t.entryResult e r) p.step := fun t e r =>
    .of_onlyIn (t.entryResult_onlyIn e r) (by decide) (by decide) (by decide)
  cases posted with
  | kept => exact .refl s
  | joined free fits service =>
    refine .of_record rfl (fun held => absurd held (State.not_holds_of_free free)) fun ⟨ready, _, out⟩ => ?_
    rw [ready] at fits
    have close : p.kind = .closeOp := by
      by_contra other
      simp [other] at fits
    simp [service close] at out
  | lockedOut trip free away =>
    rcases fair.trip trip with is | is <;> simp [is] at away
  | backedUp => exact .of_spares (s.assertBkt_spares _ _ _ _) (State.assertBkt_keeps _ _ _ _).set
  | withdrawn e entry waits close =>
    refine State.StepRuns.trans ?_ (told _ e _)
    exact .of_record ((s.dropEntry_table _).stepRec _)
      (fun held => absurd held (State.not_holds_of_waitingClose entry waits close))
      fun bare => absurd bare (State.not_bare_of_entry entry)
  | lockedOutOf _ e entry waits close =>
    refine State.StepRuns.trans ?_ (told _ e _)
    refine .of_entered (n := .lockout) (l := some (lockoutCauseOf p.originator)) (f := none) ?_ (by decide)
      (fun held => absurd held (State.not_holds_of_waitingClose entry waits close)) (State.not_bare_of_entry entry)
    rw [(State.enter_spec _ _ _ _ _).1, if_pos rfl, (s.dropEntry_table _).stepRec]
  | upgraded trip e entry waits opens =>
    refine State.StepRuns.trans ?_ (told _ e _)
    refine .of_record rfl (fun _ => ⟨e.upgraded p, ?_, .inl (by simp [Entry.upgraded])⟩)
      fun bare => absurd bare (State.not_bare_of_entry entry)
    obtain ⟨-, step⟩ := State.mem_of_entryOf entry
    rw [State.modEntry_entryOf (f := fun x => x.upgraded p) _ _ (fun _ => rfl), entry, Option.map_some, if_pos step]
  | marked e entry flies =>
    exact .of_record rfl (fun _ => State.setMark_holds entry flies) fun bare => absurd bare (State.not_bare_of_entry entry)
  | remarked _ e entry flies _ m =>
    have marked : s.StepRuns may (s.setMark p) p.step :=
      .of_record rfl (fun _ => State.setMark_holds entry flies) fun bare => absurd bare (State.not_bare_of_entry entry)
    exact marked.trans (.of_onlyIn (State.markResult_onlyIn _ _ _ _) (by decide) (by decide) (by decide))

/-- An examination leaves a step, or has it move (R61, R62). -/
theorem State.examine_stepRuns (s : State) (k : StepId) : s.StepRuns may s.examine k := by
  have held : s.holds k → s.examine.holds k := fun ⟨e, entry, kept⟩ => by
    rcases s.examine_cases with same | ⟨x, -, -, dispatch⟩
    · rw [same]
      exact ⟨e, entry, kept⟩
    · rw [dispatch, State.holds, State.dispatchEntry_entryOf, entry]
      refine ⟨_, rfl, ?_⟩
      dsimp only
      split
      · exact .inr rfl
      · exact kept
  have bare : s.bare k → s.examine.bare k := fun ⟨ready, free, out⟩ => by
    obtain ⟨record, entry⟩ := State.examine_of_entryOf_none free
    exact ⟨by rw [record, ready], entry, by rw [State.inService, s.examine_keeps.set]; exact out⟩
  rcases s.examine_record k with same | ⟨o, moved⟩
  · exact .of_record same held bare
  · refine .of_entered moved (by cases o <;> decide) held fun is => ?_
    obtain ⟨ready, -, -⟩ := bare is
    rw [moved, (recordAfter_state _ _ _ _).1] at ready
    cases o <;> simp [movingState] at ready

/-! ## The capture engine -/

theorem State.completeCapture_stepRec (s : State) (c : Capture) (k : StepId) :
    (s.completeCapture c).stepRec k = if k = c.step then { s.stepRec k with
      compensation := some (captured c.sumRe c.sumIm c.sumV), alarmCount := 0, tripCount := 0, alarmFlag := false }
      else s.stepRec k := by
  have record : (s.completeCapture c).stepRec k = (s.modStep c.step fun r => { r with
      compensation := some (captured c.sumRe c.sumIm c.sumV), alarmCount := 0, tripCount := 0, alarmFlag := false }).stepRec k := by
    rw [State.stepRec, s.completeCapture_ss c, State.stepRec]
  rw [record]
  split
  · next own => rw [own, State.stepRec_modStep_same]
  · next other => exact s.stepRec_modStep_ne k c.step _ other

/-- A write of a step's record that leaves its state and its position. -/
theorem State.StepRuns.of_written {s t : State} (state : (t.stepRec k).state = (s.stepRec k).state)
    (position : (t.stepRec k).position = (s.stepRec k).position)
    (compensation : ¬may .capture → (t.stepRec k).compensation = (s.stepRec k).compensation)
    (stages : ¬may .capture → ¬may (.count k) → (t.stepRec k).alarmCount = (s.stepRec k).alarmCount
      ∧ (t.stepRec k).alarmFlag = (s.stepRec k).alarmFlag ∧ (t.stepRec k).tripCount = (s.stepRec k).tripCount)
    (queue : t.oq = s.oq) (set : t.set = s.set) : s.StepRuns may t k := by
  have entry := State.entryOf_congr queue k
  refine ⟨fun _ => state.symm, position, compensation, fun n m _ => stages n m, fun held => ?_, fun bare => ?_⟩
  · rwa [State.holds, entry]
  · rwa [State.bare, state, entry, State.inService, set]

theorem State.completeCapture_onlyIn (s : State) (c : Capture) : s.onlyIn (s.completeCapture c) [.ss, .pi, .os, .upu] := by
  rw [s.completeCapture_eq]
  exact State.onlyIn_trans (State.onlyIn_mono (s.compensated_onlyIn c) (by decide))
    (State.onlyIn_trans (State.onlyIn_mono (State.insertOutcome_onlyIn _ .a _) (by decide))
      (State.onlyIn_mono (State.setCapture_onlyIn _ none) (by decide)))

/-- The capture engine writes of a step its compensation and its stages (R155). -/
theorem State.captureFrame_stepRuns (s : State) (licensed : may .capture) (k : StepId) : s.StepRuns may s.captureFrame k := by
  have aborted : s.StepRuns may s.abortCapture k :=
    .of_onlyIn s.abortCapture_onlyIn (by decide) (by decide) (by decide)
  unfold State.captureFrame
  split
  · exact .refl s
  · next c _ =>
    split_ifs
    · exact aborted
    · exact .refl s
    · have record := s.completeCapture_stepRec (s.captureAdd c) k
      refine .of_written ?_ ?_ (absurd licensed) (absurd licensed) (s.completeCapture_onlyIn _ .oq (by decide)) (s.completeCapture_keeps _).set
      · rw [record]
        split <;> rfl
      · rw [record]
        split <;> rfl
    · exact .of_onlyIn (s.setCapture_onlyIn _) (by decide) (by decide) (by decide)

/-! ## A run -/

/-- What a run of moves leaves of a step. -/
theorem State.Runs.stepRuns {s t : State} (h : State.Runs may s t) (k : StepId) : s.StepRuns may t k := by
  induction h with
  | refl => exact .refl _
  | trans _ _ first second => exact first.trans second
  | wrote only => exact .of_onlyIn only (by decide) (by decide) (by decide)
  | noted only => exact .of_onlyIn only (by decide) (by decide) (by decide)
  | posted fair => exact State.post_stepRuns fair k
  | examined => exact State.examine_stepRuns _ k
  | @risen s j n =>
    by_cases own : k = j
    · subst own
      have record := s.stepRec_modStep_same k fun r => { r with learnedRise := n }
      exact .of_written (by rw [record]) (by rw [record]) (fun _ => by rw [record]) (fun _ _ => by simp [record]) rfl rfl
    · exact .of_spares ⟨s.stepRec_modStep_ne k j _ own, rfl⟩ rfl
  | @staged s j licensed alarm trip flag =>
    by_cases own : k = j
    · subst own
      have record := s.stepRec_modStep_same k fun r => { r with alarmCount := alarm, alarmFlag := flag, tripCount := trip }
      exact .of_written (by rw [record]) (by rw [record]) (fun _ => by rw [record]) (fun _ n => absurd licensed n) rfl rfl
    · exact .of_spares ⟨s.stepRec_modStep_ne k j _ own, rfl⟩ rfl
  | cooled _ only => exact .of_onlyIn only (by decide) (by decide) (by decide)
  | captures licensed => exact State.captureFrame_stepRuns _ licensed k

end

end Sys2Proof.Machine
end

section
/-!
SUPPORT. What a run of moves leaves of the capture engine (R155, R156).
-/
namespace Sys2Proof.Machine

/-! ## A change of state -/

theorem State.giveResult_capture (s : State) (o : Originator) (tag : Option Byte) (k : StepId) (kind : OpKind) (fast : Bool)
    (r : OutcomeResult) : (s.giveResult o tag k kind fast r).upu.capture = s.upu.capture := by
  have inserted : ∀ p r, (s.insertOutcome p r).upu = s.upu := fun p r => s.insertOutcome_onlyIn p r .upu (by decide)
  cases o with
  | portA => exact congrArg UpuState.capture (inserted .a _)
  | portB => exact congrArg UpuState.capture (inserted .b _)
  | harmonic =>
    simp only [State.giveResult, State.detuneResult]
    split <;> rfl
  | avc => rfl
  | unbalance => rfl
  | external => rfl

theorem State.assertBkt_capture (s : State) (k : StepId) (b : BackupReason) (o : Originator) :
    (s.assertBkt k b o).upu.capture = s.upu.capture := by
  unfold State.assertBkt
  split
  · rfl
  · let t : State := { s with upu := { s.upu with
      backup := some { step := k, reason := b, originator := o, uptime := s.clock.uptime } } }
    have off : t.setFlags.closeCoilOff.upu = t.setFlags.upu := State.closeCoilOff_onlyIn _ .upu (by decide)
    exact (congrArg UpuState.capture off).trans rfl

theorem State.dropEntry_upu (s : State) (k : StepId) : (s.dropEntry k).upu = s.upu := s.dropEntry_onlyIn k .upu (by decide)

theorem State.fitEntry_capture (s : State) (k : StepId) : (s.fitEntry k).upu.capture = s.upu.capture := by
  have told : ∀ e r, ((s.dropEntry k).entryResult e r).upu.capture = s.upu.capture := fun e r => by
    rw [State.entryResult, State.giveResult_capture, State.dropEntry_upu]
  unfold State.fitEntry
  split
  · rfl
  · split
    · rfl
    · split
      · split
        · rfl
        · exact told _ _
      · split
        · rfl
        · exact told _ _
      · split
        · rfl
        · split
          · rw [State.assertBkt_capture, told]
          · exact told _ _

theorem State.abortCapture_capture (s : State) : s.abortCapture.upu.capture = none := by
  unfold State.abortCapture
  split
  · next idle => exact idle
  · exact congrArg UpuState.capture (State.insertOutcome_onlyIn _ _ _ .upu (by decide))

theorem State.leaveClosed_capture (s : State) (k : StepId) (old : Option StepState) :
    (s.leaveClosed k old).upu.capture
      = if (old = some .closed ∧ (s.stepRec k).state ≠ some .closed) ∧ s.upu.capture.map Capture.step = some k then none
        else s.upu.capture := by
  by_cases left : old = some .closed ∧ (s.stepRec k).state ≠ some .closed
  · let t := (s.setFlagsIf (s.stepRec k).alarmFlag).modStep k fun r => { r with alarmCount := 0, tripCount := 0, alarmFlag := false }
    have capture : t.upu.capture = s.upu.capture := congrArg UpuState.capture (s.setFlagsIf_onlyIn _ .upu (by decide))
    have cleared : s.leaveClosed k old = if t.upu.capture.map Capture.step = some k then t.abortCapture else t := by
      unfold State.leaveClosed
      rw [if_pos left]
    rw [cleared, capture]
    by_cases own : s.upu.capture.map Capture.step = some k
    · rw [if_pos own, if_pos ⟨left, own⟩, State.abortCapture_capture]
    · rw [if_neg own, if_neg fun all => own all.2, capture]
  · unfold State.leaveClosed
    rw [if_neg left, if_neg fun all => left all.1]

/-- A change of state aborts the capture of a step that leaves CLOSED, and no other (R156). -/
theorem State.enter_capture (s : State) (k : StepId) (n : StepState) (l : Option LockoutCause) (f : Option FailureCause) :
    (s.enter k n l f).upu.capture
      = if ((s.stepRec k).state = some .closed ∧ n ≠ .closed) ∧ s.upu.capture.map Capture.step = some k then none
        else s.upu.capture := by
  let u := (s.entered k n l f).fitEntry k
  let v := (u.leaveReady k).voidOther k
  have entered : (s.entered k n l f).upu = s.upu := s.entered_onlyIn k n l f .upu (by decide)
  have rest : u.onlyIn v [.au, .pi, .os, .cu] := State.onlyIn_trans (State.onlyIn_mono (State.leaveReady_onlyIn _ k) (by decide))
    (State.onlyIn_mono (State.voidOther_spec _ k).1 (by decide))
  have capture : v.upu.capture = s.upu.capture := by
    rw [congrArg UpuState.capture (rest .upu (by decide))]
    exact ((s.entered k n l f).fitEntry_capture k).trans (congrArg UpuState.capture entered)
  have state : (v.stepRec k).state = some n := by
    rw [rest.stepRec (by decide), (State.fitEntry_table _ k).stepRec]
    exact (s.entered_spec k n l f).2
  have is : s.enter k n l f = v.leaveClosed k (s.stepRec k).state := rfl
  rw [is, State.leaveClosed_capture, capture, state]
  simp

/-! ## Postings and examinations -/

/-- What a run of moves leaves of the capture engine. -/
structure State.CaptureRuns (may : Licence → Prop) (s t : State) : Prop where
  /-- it is aborted at most -/
  kept : ¬may .capture → t.upu.capture = none ∨ t.upu.capture = s.upu.capture
  /-- it stands while its step is CLOSED -/
  stays : ¬may .capture → ∀ c, s.upu.capture = some c → (t.stepRec c.step).state = some .closed → t.upu.capture = some c
  /-- it ends when its step leaves CLOSED -/
  ends : ∀ k, s.upu.capture.map Capture.step = some k → (s.stepRec k).state = some .closed → (t.stepRec k).state ≠ some .closed →
    t.upu.capture = none
  /-- no capture starts -/
  only : t.upu.capture = none ∨ t.upu.capture.map Capture.step = s.upu.capture.map Capture.step

section
variable {may : Licence → Prop}

theorem State.CaptureRuns.of_same {s t : State} (capture : t.upu.capture = s.upu.capture)
    (states : ∀ k, (t.stepRec k).state = (s.stepRec k).state) : s.CaptureRuns may t :=
  ⟨fun _ => .inr capture, fun _ c is _ => capture.trans is, fun k _ closed left => absurd ((states k).trans closed) left,
    .inr (by rw [capture])⟩

/-- A change of state of one step that is not CLOSED after it. -/
theorem State.CaptureRuns.of_entered {s t : State} {k : StepId} (capture : t.upu.capture
      = if (s.stepRec k).state = some .closed ∧ s.upu.capture.map Capture.step = some k then none else s.upu.capture)
    (others : ∀ j, j ≠ k → t.stepRec j = s.stepRec j) (left : (t.stepRec k).state ≠ some .closed) : s.CaptureRuns may t := by
  have kept : t.upu.capture = none ∨ t.upu.capture = s.upu.capture := by
    rw [capture]
    split
    · exact .inl rfl
    · exact .inr rfl
  refine ⟨fun _ => kept, fun _ c is closed => ?_, fun j own closed gone => ?_, kept.imp_right (congrArg (Option.map Capture.step))⟩
  · have away : c.step ≠ k := fun same => left (same ▸ closed)
    rw [capture, if_neg, is]
    rintro ⟨-, same⟩
    rw [is] at same
    exact away (Option.some.inj same)
  · have same : j = k := by
      by_contra other
      exact gone (by rw [others j other]; exact closed)
    rw [capture, if_pos ⟨same ▸ closed, same ▸ own⟩]

theorem State.CaptureRuns.trans {s t u : State} (h : s.CaptureRuns may t) (g : t.CaptureRuns may u)
    (back : ∀ k, t.StepRuns may u k) : s.CaptureRuns may u := by
  have none_ : t.upu.capture = none → u.upu.capture = none := fun idle => by
    rcases g.only with is | same
    · exact is
    · rw [idle] at same
      exact Option.map_eq_none_iff.mp same
  refine ⟨fun n => ?_, fun n c is closed => ?_, fun k own closed left => ?_, ?_⟩
  · rcases h.kept n with is | same
    · exact .inl (none_ is)
    · exact (g.kept n).imp_right (·.trans same)
  · exact g.stays n c (h.stays n c is (((back c.step).back (.inr closed)).trans closed)) closed
  · by_cases still : (t.stepRec k).state = some .closed
    · rcases h.only with is | same
      · exact none_ is
      · exact g.ends k (same.trans own) still left
    · exact none_ (h.ends k own closed still)
  · rcases h.only with is | same
    · exact .inl (none_ is)
    · exact g.only.imp_right (·.trans same)

theorem State.CaptureRuns.refl (s : State) : s.CaptureRuns may s := .of_same rfl fun _ => rfl

theorem State.CaptureRuns.of_onlyIn {s t : State} {l : List Block} (only : s.onlyIn t l) (ss : Block.ss ∉ l)
    (upu : Block.upu ∉ l) : s.CaptureRuns may t :=
  .of_same (congrArg UpuState.capture (only .upu upu)) fun k => congrArg StepRecord.state (only.stepRec ss k)

theorem State.post_captureRuns (s : State) (p : Posting) : s.CaptureRuns may (s.post p).1 := by
  have posted := s.post_as p
  generalize (s.post p).1 = y at posted ⊢
  have entered : ∀ t : State, t.upu.capture = s.upu.capture → (∀ k, t.stepRec k = s.stepRec k) →
      s.CaptureRuns may (t.enter p.step .lockout (some (lockoutCauseOf p.originator)) none) := fun t capture same => by
    refine .of_entered (k := p.step) ?_ (fun j other => ?_) ?_
    · rw [State.enter_capture, capture, same]
      simp
    · rw [State.enter_stepRec_ne _ _ _ _ _ _ other, same]
    · rw [State.enter_state]
      decide
  have told : ∀ (t : State) (e : Entry) (r : OutcomeResult), (t.entryResult e r).upu.capture = t.upu.capture
      ∧ ∀ k, (t.entryResult e r).stepRec k = t.stepRec k := fun t e r =>
    ⟨t.giveResult_capture _ _ _ _ _ _, (t.entryResult_onlyIn e r).stepRec (by decide)⟩
  have dropped : ∀ k, (s.dropEntry p.step).stepRec k = s.stepRec k := (s.dropEntry_table p.step).stepRec
  cases posted with
  | kept => exact .refl s
  | joined => exact .of_same rfl fun _ => rfl
  | lockedOut => exact entered s rfl fun _ => rfl
  | backedUp => exact .of_same (s.assertBkt_capture _ _ _) fun k => congrArg StepRecord.state ((s.assertBkt_table _ _ _).stepRec k)
  | withdrawn e =>
    obtain ⟨capture, same⟩ := told (s.dropEntry p.step) e (.cancelled .openedByRequest)
    exact .of_same (capture.trans (congrArg _ (s.dropEntry_upu _))) fun k => by rw [same, dropped]
  | lockedOutOf _ e =>
    obtain ⟨capture, same⟩ := told ((s.dropEntry p.step).enter p.step .lockout (some (lockoutCauseOf p.originator)) none) e
      (.cancelled .lockout)
    have locked := entered (s.dropEntry p.step) (congrArg _ (s.dropEntry_upu _)) dropped
    exact ⟨fun n => by rw [capture]; exact locked.kept n, fun n c is closed => by
      rw [capture]
      exact locked.stays n c is (by rwa [same] at closed), fun k own closed left => by
      rw [capture]
      exact locked.ends k own closed (by rwa [same] at left), by rw [capture]; exact locked.only⟩
  | upgraded _ e =>
    obtain ⟨capture, same⟩ := told (s.modEntry p.step fun x => x.upgraded p) e .superseded
    exact .of_same capture fun k => by rw [same]; rfl
  | marked => exact .of_same rfl fun _ => rfl
  | remarked _ _ _ _ _ m =>
    have record : ∀ k, ((s.setMark p).markResult p.step m .superseded).stepRec k = (s.setMark p).stepRec k :=
      (State.markResult_onlyIn _ _ _ _).stepRec (by decide)
    exact .of_same (State.giveResult_capture _ _ _ _ _ _ _) fun k => by rw [record]; rfl

theorem State.examine_captureRuns (s : State) : s.CaptureRuns may s.examine := by
  rcases s.examine_cases with same | ⟨e, -, -, dispatch⟩
  · rw [same]
    exact .refl s
  · rw [dispatch]
    refine .of_entered (k := e.step) ?_ (s.dispatchEntry_ne e).1 ?_
    · let u := (s.takeEntry e).enter e.step (movingState e.kind) none none
      have asked : (s.dispatchEntry e).upu.capture = u.upu.capture :=
        congrArg UpuState.capture (State.askPulse_onlyIn u.startFlight e.step e.kind .upu (by decide))
      rw [asked, State.enter_capture]
      have moving : movingState e.kind ≠ .closed := by cases e.kind <;> decide
      have record : (s.takeEntry e).stepRec e.step = s.stepRec e.step := rfl
      have same : (s.takeEntry e).upu = s.upu := rfl
      rw [record, same]
      simp [moving]
    · rw [s.dispatchEntry_state e]
      cases e.kind <;> decide

/-! ## The capture engine's own frame -/

theorem State.completeCapture_capture (s : State) (c : Capture) : (s.completeCapture c).upu.capture = none := by
  rw [s.completeCapture_eq]
  rfl

theorem State.captureFrame_state (s : State) (k : StepId) : (s.captureFrame.stepRec k).state = (s.stepRec k).state := by
  unfold State.captureFrame
  split
  · rfl
  · split_ifs
    · exact congrArg StepRecord.state (s.abortCapture_onlyIn.stepRec (by decide) k)
    · rfl
    · rw [State.completeCapture_stepRec]
      split <;> rfl
    · rfl

theorem State.captureFrame_captureRuns {s : State} (licensed : may .capture) : s.CaptureRuns may s.captureFrame := by
  refine ⟨absurd licensed, absurd licensed, fun k _ closed left => absurd ((s.captureFrame_state k).trans closed) left, ?_⟩
  unfold State.captureFrame
  split
  · exact .inr rfl
  · next c is =>
    split_ifs
    · exact .inl s.abortCapture_capture
    · exact .inr rfl
    · exact .inl (s.completeCapture_capture _)
    · exact .inr (by rw [is]; rfl)

/-- What a run of moves leaves of the capture engine. -/
theorem State.Runs.captureRuns {s t : State} (h : State.Runs may s t) : s.CaptureRuns may t := by
  induction h with
  | refl => exact .refl _
  | trans _ second g h => exact g.trans h second.stepRuns
  | wrote only => exact .of_onlyIn only (by decide) (by decide)
  | noted only capture => exact .of_same capture fun k => congrArg StepRecord.state (only.stepRec (by decide) k)
  | posted => exact State.post_captureRuns _ _
  | examined => exact State.examine_captureRuns _
  | @risen s j n =>
    refine .of_same rfl fun k => ?_
    by_cases own : k = j
    · subst own
      rw [State.stepRec_modStep_same]
    · rw [s.stepRec_modStep_ne k j _ own]
  | @staged s j _ alarm trip flag =>
    refine .of_same rfl fun k => ?_
    by_cases own : k = j
    · subst own
      rw [State.stepRec_modStep_same]
    · rw [s.stepRec_modStep_ne k j _ own]
  | cooled _ only => exact .of_onlyIn only (by decide) (by decide)
  | captures licensed => exact State.captureFrame_captureRuns licensed

end

end Sys2Proof.Machine
end

section
/-!
SUPPORT. An arrival as runs of moves: the application of the settings, the publication, and the parts of which one is a
block's own (R44, R197).
-/
namespace Sys2Proof.Machine

/-! ## The parts as runs -/

/-- The part whose licence it is. -/
def Licence.part : Licence → FramePart
  | .count _ => .upu
  | .cool => .cu
  | .capture => .upu

section
variable {may : Licence → Prop}

/-- After derivation a part of an arrival is a run of moves that it is licensed to make. -/
theorem State.framePart_runs {s : State} (derived : s.set.derived = true) (base : State) (p : FramePart)
    (covers : ∀ l : Licence, l.part = p → may l) : State.Runs may s (s.framePart base p) := by
  cases p with
  | avc => exact s.avcFrame_runs
  | hmu => exact s.hmuFrame_runs
  | upu => exact s.upuFrame_runs base (fun k => covers (.count k) rfl) (covers .capture rfl)
  | cu => exact s.cuFrame_runs (covers .cool rfl)
  | sx => exact .examined
  | derive first =>
    have still : s.derivation first = s := by
      unfold State.derivation
      split
      · rfl
      · rw [if_pos derived]
    have same : s.framePart base (.derive first) = s := by
      show (if s.positionsKnown then s.derivation first else s) = s
      rw [still, ite_self]
    rw [same]
    exact .refl

theorem State.Runs.set {s t : State} (h : State.Runs may s t) : t.set = s.set := h.onlyIn .set (by decide)
theorem State.Runs.me {s t : State} (h : State.Runs may s t) : t.me = s.me := h.onlyIn .me (by decide)
theorem State.Runs.clock {s t : State} (h : State.Runs may s t) : t.clock = s.clock := h.onlyIn .clock (by decide)

/-- After derivation what passes beside a block's own part is a run without its licences. -/
theorem State.Passes.runs {base s t : State} {p : FramePart} (passes : State.Passes base p s t)
    (derived : s.set.derived = true) : State.Runs (fun l => l.part ≠ p) s t := by
  induction passes with
  | refl => exact .refl
  | part _ q other ih =>
    exact ih.trans (State.framePart_runs (by rw [ih.set]; exact derived) base q fun l is => is ▸ other)
  | loads _ rises ih => exact ih.trans (State.loadRises_runs _ rises)
  | examined _ ih => exact ih.trans .examined

/-- After derivation the taking of a frame is a run. -/
theorem State.takeFrame_runs {s : State} (derived : s.set.derived = true) (i : FrameInput) (rises : List (StepId × Nat)) :
    State.Runs (fun _ => True) s (s.takeFrame i rises) := by
  obtain ⟨v, before, after⟩ := s.takeFrame_splits i rises (p := .upu) (by decide)
  have first := before.runs derived
  have known : v.set.derived = true := by rw [first.set]; exact derived
  have own := State.framePart_runs (may := fun _ => True) known s .upu fun _ _ => trivial
  have last := after.runs (by rw [own.set]; exact known)
  exact ((first.mono fun _ _ => trivial).trans own).trans (last.mono fun _ _ => trivial)

end

/-! ## What the applied settings do to running records (R73, R144, R174) -/

/-- The state in which the monitors have met the applied settings (R132, R133). -/
def State.monitored (s : State) : State :=
  allMonitors.foldl (fun t m => t.applyMonitor s.arriving.set.settings m) s.arriving.putSettings

/-- The state in which the alarm counts have met them too (R144). -/
def State.clamped (s : State) : State := allSteps.foldl (fun t k => t.clampAlarm k) s.monitored

/-- The state in which the settings have met all running records, before dispatch is examined. -/
def State.effected (s : State) : State :=
  allSteps.foldl (fun t k => t.applyInService s.arriving.set.settings k) s.clamped

theorem State.applied_eq (s : State) : s.applied = s.effected ∨ s.applied = s.effected.examine := by
  have is : s.applied = if s.effected.harmonicBlock = s.arriving.harmonicBlock
      ∧ s.effected.tripRecordBlock = s.arriving.tripRecordBlock then s.effected.examineIfLeft s.arriving
      else s.effected.examine := rfl
  rw [is]
  unfold State.examineIfLeft
  split_ifs
  · exact .inl rfl
  · exact .inr rfl
  · exact .inr rfl

theorem State.applied_runs (s : State) : State.Runs (fun _ => False) s.effected s.applied := by
  rcases s.applied_eq with is | is
  · rw [is]
    exact .refl
  · rw [is]
    exact .examined

theorem State.applyMonitor_onlyIn (s : State) (old : Settings) (m : MonitorId) : s.onlyIn (s.applyMonitor old m) [.hmu, .pi] := by
  have written := fun v => State.onlyIn_mono (s.setMonitor_onlyIn m v) (m := [.hmu, .pi]) (by decide)
  have restarted : s.onlyIn (s.restartMonitor m) [.hmu, .pi] :=
    State.onlyIn_trans (written _) (State.onlyIn_mono (State.setFlagsIf_onlyIn _ _) (by decide))
  exact State.onlyIn_ite _ (written _) (State.onlyIn_ite _ restarted (State.onlyIn_ite _ restarted (written _)))

theorem State.monitored_onlyIn (s : State) : s.arriving.putSettings.onlyIn s.monitored [.hmu, .pi] := by
  have one : ∀ (t : State) (m : MonitorId), t.onlyIn (t.applyMonitor s.arriving.set.settings m) [.hmu, .pi] :=
    fun t m => t.applyMonitor_onlyIn _ m
  exact State.onlyIn_foldl _ one allMonitors s.arriving.putSettings

theorem State.putSettings_onlyIn (s : State) : s.onlyIn s.putSettings [.set] := by
  intro b out
  cases b with
  | set => exact absurd out (by decide)
  | _ => rfl

theorem State.clampAll_onlyIn (s : State) : s.onlyIn (allSteps.foldl (fun t k => t.clampAlarm k) s) [.ss] := by
  have one : ∀ (t : State) (k : StepId), t.onlyIn (t.clampAlarm k) [.ss] := fun t k => t.modStep_onlyIn k _
  exact State.onlyIn_foldl _ one allSteps s

/-- The blocks that the clamps write beside the settings. -/
theorem State.clamped_onlyIn (s : State) : s.arriving.putSettings.onlyIn s.clamped [.hmu, .pi, .ss] :=
  State.onlyIn_trans (State.onlyIn_mono s.monitored_onlyIn (by decide)) (State.onlyIn_mono s.monitored.clampAll_onlyIn (by decide))

/-- The blocks in which the state of the clamped records differs from the one before the arrival. -/
theorem State.clamped_since (s : State) : s.onlyIn s.clamped [.clock, .me, .set, .hmu, .pi, .ss] :=
  State.onlyIn_trans (State.onlyIn_mono s.arriving_onlyIn (by decide)) (State.onlyIn_trans
    (State.onlyIn_mono s.arriving.putSettings_onlyIn (by decide)) (State.onlyIn_mono s.clamped_onlyIn (by decide)))

theorem State.clampAll_stepRec (s : State) (k : StepId) : (allSteps.foldl (fun t k => t.clampAlarm k) s).stepRec k
    = { s.stepRec k with alarmCount := min (s.stepRec k).alarmCount (s.set.settings.s .talm k) } := by
  refine foldl_once (f := fun t j => State.clampAlarm t j) (a := k)
    (before := fun v : State => v.stepRec k = s.stepRec k ∧ v.set = s.set)
    (after := fun v : State => v.stepRec k = { s.stepRec k with
      alarmCount := min (s.stepRec k).alarmCount (s.set.settings.s .talm k) })
    (fun v j other ⟨own, set⟩ => ⟨?_, set⟩) (fun v ⟨own, set⟩ => ?_) (fun v j other own => ?_) allSteps_nodup (mem_allSteps k)
    s ⟨rfl, rfl⟩
  · exact (v.stepRec_modStep_ne k j _ other.symm).trans own
  · rw [State.clampAlarm, State.stepRec_modStep_same, own, set]
  · exact (v.stepRec_modStep_ne k j _ other.symm).trans own

/-- A step's record with its alarm count clamped to the TALM applied (R144). -/
theorem State.clamped_stepRec (s : State) (k : StepId) : s.clamped.stepRec k
    = { s.stepRec k with alarmCount := min (s.stepRec k).alarmCount (s.arriving.putSettings.set.settings.s .talm k) } := by
  have arriving : s.arriving.stepRec k = s.stepRec k := s.arriving_onlyIn.stepRec (by decide) k
  have before : s.monitored.stepRec k = s.arriving.putSettings.stepRec k := s.monitored_onlyIn.stepRec (by decide) k
  have put : s.arriving.putSettings.stepRec k = s.arriving.stepRec k := s.arriving.putSettings_onlyIn.stepRec (by decide) k
  have settings : s.monitored.set = s.arriving.putSettings.set := s.monitored_onlyIn .set (by decide)
  rw [State.clamped, State.clampAll_stepRec, settings, before, put, arriving]

/-! ## What a step out of service loses leaves its record (R73, R174) -/

/-- A removal of WAITING CLOSEs and the end of a selection leave every record and the capture. -/
theorem State.applyInService_leaves (s : State) (old : Settings) (j : StepId) :
    (∀ k, (s.applyInService old j).stepRec k = s.stepRec k) ∧ (s.applyInService old j).upu.capture = s.upu.capture
      ∧ (s.applyInService old j).set = s.set ∧ (s.applyInService old j).cu = s.cu ∧ (s.applyInService old j).me = s.me
      ∧ (s.applyInService old j).clock = s.clock := by
  have one : ∀ (t : State) (e : Entry) (r : OutcomeResult),
      (∀ k, ((t.dropEntry e.step).entryResult e r).stepRec k = t.stepRec k)
        ∧ ((t.dropEntry e.step).entryResult e r).upu.capture = t.upu.capture := fun t e r =>
    ⟨fun k => ((State.entryResult_onlyIn _ e r).stepRec (by decide) k).trans ((t.dropEntry_table e.step).stepRec k),
      (State.giveResult_capture _ _ _ _ _ _ _).trans (congrArg _ (t.dropEntry_upu _))⟩
  have removed : ∀ (l : List Entry) (t : State) (r : OutcomeResult), (∀ k, (t.removeEach l r).stepRec k = t.stepRec k)
      ∧ (t.removeEach l r).upu.capture = t.upu.capture := fun l => by
    induction l with
    | nil => exact fun t r => ⟨fun _ => rfl, rfl⟩
    | cons e l ih =>
      intro t r
      obtain ⟨records, capture⟩ := one t e r
      obtain ⟨records', capture'⟩ := ih ((t.dropEntry e.step).entryResult e r) r
      exact ⟨fun k => (records' k).trans (records k), capture'.trans capture⟩
  unfold State.applyInService
  split
  · obtain ⟨records, capture⟩ := removed (s.oq.entries.filter fun e => e.status = .waiting ∧ e.kind = .closeOp ∧ e.step = j) s
      (.cancelled .stepChanged)
    have only := State.onlyIn_trans (State.onlyIn_mono (s.removeEach_onlyIn
        (s.oq.entries.filter fun e => e.status = .waiting ∧ e.kind = .closeOp ∧ e.step = j) (.cancelled .stepChanged))
      (m := [.oq, .ss, .pi, .os, .avc, .hmu, .upu, .au]) (by decide))
      (State.onlyIn_mono (State.endSelectionOf_onlyIn _ j (.cancelled .stepChanged)) (by decide))
    have ended := State.endSelectionOf_onlyIn (s.removeCloseOf j) j (.cancelled .stepChanged)
    exact ⟨fun k => (ended.stepRec (by decide) k).trans (records k),
      (congrArg UpuState.capture (ended .upu (by decide))).trans capture, only .set (by decide), only .cu (by decide),
      only .me (by decide), only .clock (by decide)⟩
  · exact ⟨fun _ => rfl, rfl, rfl, rfl, rfl, rfl⟩

/-- The steps that go out of service leave every record and the capture. -/
theorem State.effected_leaves (s : State) : (∀ k, s.effected.stepRec k = s.clamped.stepRec k)
    ∧ s.effected.upu.capture = s.upu.capture ∧ s.effected.set = s.arriving.putSettings.set ∧ s.effected.cu = s.cu
    ∧ s.effected.me = s.arriving.me ∧ s.effected.clock = s.arriving.clock := by
  have fold : ∀ (l : List StepId) (t : State),
      (∀ k, (l.foldl (fun t k => t.applyInService s.arriving.set.settings k) t).stepRec k = t.stepRec k)
      ∧ (l.foldl (fun t k => t.applyInService s.arriving.set.settings k) t).upu.capture = t.upu.capture
      ∧ (l.foldl (fun t k => t.applyInService s.arriving.set.settings k) t).set = t.set
      ∧ (l.foldl (fun t k => t.applyInService s.arriving.set.settings k) t).cu = t.cu
      ∧ (l.foldl (fun t k => t.applyInService s.arriving.set.settings k) t).me = t.me
      ∧ (l.foldl (fun t k => t.applyInService s.arriving.set.settings k) t).clock = t.clock := fun l => by
    induction l with
    | nil => exact fun t => ⟨fun _ => rfl, rfl, rfl, rfl, rfl, rfl⟩
    | cons j l ih =>
      intro t
      obtain ⟨records, capture, set, cu, me, clock⟩ := t.applyInService_leaves s.arriving.set.settings j
      obtain ⟨records', capture', set', cu', me', clock'⟩ := ih (t.applyInService s.arriving.set.settings j)
      exact ⟨fun k => (records' k).trans (records k), capture'.trans capture, set'.trans set, cu'.trans cu, me'.trans me,
        clock'.trans clock⟩
  obtain ⟨records, capture, set, cu, me, clock⟩ := fold allSteps s.clamped
  exact ⟨records, capture.trans (congrArg _ (s.clamped_since .upu (by decide))), set.trans (s.clamped_onlyIn .set (by decide)),
    cu.trans (s.clamped_since .cu (by decide)),
    me.trans ((s.clamped_onlyIn .me (by decide)).trans (s.arriving.putSettings_onlyIn .me (by decide))),
    clock.trans ((s.clamped_onlyIn .clock (by decide)).trans (s.arriving.putSettings_onlyIn .clock (by decide)))⟩

end Sys2Proof.Machine
end

section
/-!
SUPPORT. What the UPU's taking of a frame makes of the stages of a step that stays CLOSED (R140 to R144).
-/
namespace Sys2Proof.Machine

/-- The trip count after a frame (R142). -/
def tripTaken (level ttrip u n : Nat) : Nat :=
  if level ≤ u then if ttrip ≤ n + 1 then 0 else n + 1
  else if level * 9 / 10 ≤ u then n
  else 0

/-- A run without licences leaves the stages of a step that stays CLOSED. -/
theorem State.Runs.stages {s t : State} {k : StepId} {may : Licence → Prop} (h : State.Runs may s t) (engine : ¬may .capture)
    (counts : ¬may (.count k)) (closed : (t.stepRec k).state = some .closed) :
    (s.stepRec k).state = some .closed ∧ (t.stepRec k).alarmCount = (s.stepRec k).alarmCount
      ∧ (t.stepRec k).alarmFlag = (s.stepRec k).alarmFlag ∧ (t.stepRec k).tripCount = (s.stepRec k).tripCount :=
  ⟨((h.stepRuns k).back (.inr closed)).trans closed, (h.stepRuns k).stages engine counts closed⟩

/-! ## One step's stages (R141, R142) -/

/-- The trip stage of a step that is CLOSED after it (R142). -/
theorem State.tripStage_stages {s : State} {k : StepId} (before : (s.stepRec k).state = some .closed)
    (closed : ((s.tripStage k).stepRec k).state = some .closed) :
    ((s.tripStage k).stepRec k).alarmCount = (s.stepRec k).alarmCount
      ∧ ((s.tripStage k).stepRec k).alarmFlag = (s.stepRec k).alarmFlag
      ∧ ((s.tripStage k).stepRec k).tripCount = tripTaken (s.set.settings.s .utrip k) (s.set.settings.s .ttrip k)
        s.me.frame.neutrals[k].u (s.stepRec k).tripCount := by
  have counted : ∀ n, (s.setTripCount k n).stepRec k = { s.stepRec k with tripCount := n } := s.setTripCount_same k
  unfold State.tripStage at closed ⊢
  unfold tripTaken
  dsimp only at closed ⊢
  split_ifs at closed ⊢ with high last zone
  · have fair : (s.setTripCount k 0).Fair (unbalanceTrip k) := ⟨fun _ => .inl (by
      show ((s.setTripCount k 0).stepRec k).state = some .closed
      rw [counted]
      exact before), rfl⟩
    have run : State.Runs (fun _ => False) (s.setTripCount k 0) (s.tripDecision k) :=
      (State.admitOne_runs fair).trans (State.enterTripRecord_runs _ _ _ _ _ _)
    obtain ⟨-, alarm, flag, trip⟩ := run.stages id id closed
    rw [alarm, flag, trip, counted]
    exact ⟨rfl, rfl, rfl⟩
  · rw [counted]
    exact ⟨rfl, rfl, rfl⟩
  · exact ⟨rfl, rfl, rfl⟩
  · rw [counted]
    exact ⟨rfl, rfl, rfl⟩

/-- Both stages of a step that is CLOSED after them (R140 to R142). -/
theorem State.stepFrame_stages {s base : State} {k : StepId} (closed : ((s.stepFrame base k).stepRec k).state = some .closed) :
    (((s.stepFrame base k).stepRec k).alarmCount, ((s.stepFrame base k).stepRec k).alarmFlag)
        = alarmTaken (s.set.settings.s .ualm k) (s.set.settings.s .talm k) s.me.frame.neutrals[k].u
          (s.stepRec k).alarmCount (s.stepRec k).alarmFlag
      ∧ ((s.stepFrame base k).stepRec k).tripCount = tripTaken (s.set.settings.s .utrip k) (s.set.settings.s .ttrip k)
        s.me.frame.neutrals[k].u (s.stepRec k).tripCount := by
  have before : (s.stepRec k).state = some .closed :=
    (((s.stepFrame_runs (may := fun _ => True) base k trivial).stepRuns k).back (.inr closed)).trans closed
  have notDue : ¬s.furtherDue k = true := fun due => by
    have opening := State.furtherDue_opening due
    rw [before] at opening
    cases opening
  have taken : s.stepFrame base k = (s.alarmStage k).tripStage k := by
    unfold State.stepFrame State.stages
    rw [if_neg notDue, if_pos before]
  have still : ((s.alarmStage k).stepRec k).state = some .closed := by
    rw [s.alarmStage_stepRec]
    exact before
  have keeps := s.alarmStage_keeps k
  rw [taken] at closed ⊢
  obtain ⟨alarm, flag, trip⟩ := State.tripStage_stages still closed
  rw [alarm, flag, trip, s.alarmStage_stepRec, keeps.set, keeps.me]
  exact ⟨rfl, rfl⟩

/-! ## The stages of all steps (R140) -/

/-- The stages at a frame of a step that is CLOSED after it. -/
theorem State.staged_stages {s base : State} {k : StepId} (closed : ((s.staged base).stepRec k).state = some .closed) :
    (((s.staged base).stepRec k).alarmCount, ((s.staged base).stepRec k).alarmFlag)
        = (if s.stagesHeld then ((s.stepRec k).alarmCount, (s.stepRec k).alarmFlag)
            else alarmTaken (s.set.settings.s .ualm k) (s.set.settings.s .talm k) s.me.frame.neutrals[k].u
              (s.stepRec k).alarmCount (s.stepRec k).alarmFlag)
      ∧ ((s.staged base).stepRec k).tripCount
        = (if s.stagesHeld then (s.stepRec k).tripCount
            else tripTaken (s.set.settings.s .utrip k) (s.set.settings.s .ttrip k) s.me.frame.neutrals[k].u
              (s.stepRec k).tripCount) := by
  have edge : ∀ u : State, (u.setEdge none).stepRec k = u.stepRec k := fun _ => rfl
  unfold State.staged at closed ⊢
  rw [edge] at closed ⊢
  by_cases held : s.stagesHeld = true
  · rw [if_pos held, if_pos held, if_pos held]
    exact ⟨rfl, rfl⟩
  · rw [if_neg held] at closed
    simp only [if_neg held]
    let away : Licence → Prop := fun l => l ≠ .count k ∧ l ≠ .capture
    have other : ∀ (u : State) (j : StepId), j ≠ k → State.Runs away u (u.stepFrame base j) := fun u j apart =>
      u.stepFrame_runs base j ⟨fun same => apart (Licence.count.inj same), nofun⟩
    obtain ⟨u, first, last⟩ : ∃ u, State.Runs away s u ∧ State.Runs away (u.stepFrame base k)
        (allSteps.foldl (fun t k => t.stepFrame base k) s) :=
      foldl_once (f := fun t j => State.stepFrame t base j) (a := k) (before := State.Runs away s)
        (after := fun v => ∃ u, State.Runs away s u ∧ State.Runs away (u.stepFrame base k) v)
        (fun u j apart run => run.trans (other u j apart)) (fun u run => ⟨u, run, .refl⟩)
        (fun v j apart ⟨u, first, last⟩ => ⟨u, first, last.trans (other v j apart)⟩) allSteps_nodup (mem_allSteps k) s .refl
    obtain ⟨own, alarm, flag, trip⟩ := last.stages (fun l => l.2 rfl) (fun l => l.1 rfl) closed
    obtain ⟨taken, tripped⟩ := State.stepFrame_stages own
    have mid : (u.stepRec k).state = some .closed :=
      (((u.stepFrame_runs (may := fun _ => True) base k trivial).stepRuns k).back (.inr own)).trans own
    obtain ⟨-, alarm', flag', trip'⟩ := first.stages (fun l => l.2 rfl) (fun l => l.1 rfl) mid
    rw [alarm, flag, trip, taken, tripped, alarm', flag', trip', first.set, first.me]
    exact ⟨rfl, rfl⟩

/-- The capture engine writes no record but at its sixteenth frame (R155). -/
theorem State.captureFrame_stepRec {s : State} {k : StepId} (short : ∀ c, s.upu.capture = some c → c.step ≠ k ∨ c.count < 15) :
    s.captureFrame.stepRec k = s.stepRec k := by
  unfold State.captureFrame
  split
  · rfl
  · next c is =>
    split_ifs with abort held last
    · exact s.abortCapture_onlyIn.stepRec (by decide) k
    · rfl
    · rw [State.completeCapture_stepRec, if_neg]
      intro own
      rcases short c is with other | early
      · exact other own.symm
      · omega
    · rfl

/-! ## The state in which the frame is published -/

theorem State.published_stepRec (s : State) (i : FrameInput) (k : StepId) : (s.published i).stepRec k
    = keptRecord (s.applied.frameOf i s.samplingNow.freeStarted) k (s.applied.stepRec k) := State.publish_stepRec _ _ _ _

/-- What a publication leaves of a record (R139). -/
theorem keptRecord_leaves (f : Frame) (k : StepId) (r : StepRecord) :
    (keptRecord f k r).state = r.state ∧ (keptRecord f k r).position = r.position
      ∧ (keptRecord f k r).compensation = r.compensation ∧ (keptRecord f k r).alarmCount = r.alarmCount
      ∧ (keptRecord f k r).alarmFlag = r.alarmFlag ∧ (keptRecord f k r).tripCount = r.tripCount
      ∧ (keptRecord f k r).learnedRise = r.learnedRise := by
  unfold keptRecord
  split <;> exact ⟨rfl, rfl, rfl, rfl, rfl, rfl, rfl⟩

theorem State.published_latestU (s : State) (i : FrameInput) (k : StepId) :
    ((s.published i).stepRec k).latestU = (s.published i).me.frame.neutrals[k].u := by
  rw [s.published_me, s.published_stepRec]
  unfold keptRecord
  split <;> rfl

theorem State.published_derived {s : State} (i : FrameInput) (derived : s.set.derived = true) :
    (s.published i).set.derived = true := by
  rw [s.published_set]
  have before : s.arriving.set = s.set := s.arriving_onlyIn .set (by decide)
  exact (congrArg SetState.derived before :).trans derived

/-- The records before the arrival, of which the application has clamped the alarm counts (R144). -/
theorem State.effected_stepRec (s : State) (k : StepId) : s.effected.stepRec k
    = { s.stepRec k with alarmCount := min (s.stepRec k).alarmCount (s.arriving.putSettings.set.settings.s .talm k) } := by
  rw [s.effected_leaves.1, s.clamped_stepRec]

/-- A step that is CLOSED at the publication was so before the arrival, and has its stages with a clamped alarm count. -/
theorem State.published_stages {s : State} {i : FrameInput} {k : StepId}
    (closed : ((s.published i).stepRec k).state = some .closed) :
    (s.stepRec k).state = some .closed
      ∧ ((s.published i).stepRec k).alarmCount = min (s.stepRec k).alarmCount ((s.published i).set.settings.s .talm k)
      ∧ ((s.published i).stepRec k).alarmFlag = (s.stepRec k).alarmFlag
      ∧ ((s.published i).stepRec k).tripCount = (s.stepRec k).tripCount := by
  obtain ⟨state, -, -, alarm, flag, trip, -⟩ :=
    keptRecord_leaves (s.applied.frameOf i s.samplingNow.freeStarted) k (s.applied.stepRec k)
  rw [← s.published_stepRec i k] at state alarm flag trip
  obtain ⟨own, alarm', flag', trip'⟩ := s.applied_runs.stages id id (state.symm.trans closed)
  rw [s.effected_stepRec] at own alarm' flag' trip'
  rw [alarm, flag, trip, alarm', flag', trip', s.published_set]
  exact ⟨own, rfl, rfl, rfl⟩

theorem State.published_compensation (s : State) (i : FrameInput) (k : StepId) :
    ((s.published i).stepRec k).compensation = (s.stepRec k).compensation := by
  obtain ⟨-, -, compensation, -⟩ :=
    keptRecord_leaves (s.applied.frameOf i s.samplingNow.freeStarted) k (s.applied.stepRec k)
  rw [s.published_stepRec, compensation, (s.applied_runs.stepRuns k).compensation id, s.effected_stepRec]

/-- What the application leaves of the capture engine. -/
theorem State.published_captureRuns (s : State) (i : FrameInput) : s.CaptureRuns (fun _ => False) (s.published i) := by
  have effected : s.CaptureRuns (fun _ => False) s.effected :=
    .of_same s.effected_leaves.2.1 fun k => by rw [s.effected_stepRec]
  have applied : s.CaptureRuns (fun _ => False) s.applied := effected.trans s.applied_runs.captureRuns s.applied_runs.stepRuns
  have capture : (s.published i).upu.capture = s.applied.upu.capture :=
    congrArg UpuState.capture (State.publish_onlyIn _ i _ .upu (by decide))
  have states : ∀ k, ((s.published i).stepRec k).state = (s.applied.stepRec k).state := fun k => by
    rw [s.published_stepRec]
    exact (keptRecord_leaves _ k _).1
  exact ⟨fun n => by rw [capture]; exact applied.kept n,
    fun n c is closed => by rw [capture]; exact applied.stays n c is (by rwa [states] at closed),
    fun k own closed left => by rw [capture]; exact applied.ends k own closed (by rwa [states] at left),
    by rw [capture]; exact applied.only⟩

end Sys2Proof.Machine
end

section
/-!
PROOF. The UPU takes the frame that arrives: the stages of a step that stays CLOSED, and the capture engine (R140 to
R144, R155, R156).
-/
namespace Sys2Proof.Machine

/-- The UPU's own part of an arrival, between two runs that have none of its licences. -/
theorem State.frameArrives_upu (s : State) (i : FrameInput) (derived : s.set.derived = true) :
    ∃ v, State.Runs (fun l => l.part ≠ .upu) (s.published i) v
      ∧ State.Runs (fun l => l.part ≠ .upu) (v.upuFrame (s.published i)) (s.frameArrives i) := by
  obtain ⟨v, before, after⟩ := (s.published i).takeFrame_splits i (rinitLoads s.set.pendingValues) (p := .upu) (by decide)
  have known := s.published_derived i derived
  have first := before.runs known
  refine ⟨v, first, ?_⟩
  have set : (v.upuFrame (s.published i)).set.derived = true := by
    rw [(v.upuFrame_keeps (s.published i)).set, first.set]
    exact known
  rw [s.frameArrives_eq]
  exact after.runs set

theorem State.frameArrives_me_eq (s : State) (i : FrameInput) : (s.frameArrives i).me = (s.published i).me := by
  rw [s.frameArrives_eq, (State.takeFrame_keepsRest _ i _).me]

theorem State.published_settings (s : State) (i : FrameInput) :
    (s.published i).set.settings = (s.frameArrives i).set.settings := by
  rw [s.frameArrives_eq, (State.takeFrame_keepsRest _ i _).settings]

theorem State.frameArrives_latestU (s : State) (i : FrameInput) (k : StepId) :
    ((s.frameArrives i).stepRec k).latestU = (s.frameArrives i).me.frame.neutrals[k].u := by
  obtain ⟨v, before, after⟩ := (s.published i).takeFrame_splits i (rinitLoads s.set.pendingValues) (p := .upu) (by decide)
  rw [s.frameArrives_me_eq, ← s.published_latestU, s.frameArrives_eq, after.continues.latestU,
    (v.framePart_beside (s.published i) .upu).latestU, before.continues.latestU]

theorem State.stagesHeld_iff (s : State) : s.stagesHeld = true ↔ s.me.frame.settling = true ∨ s.me.frame.noRef = true := by
  simp [State.stagesHeld]

/-- The stages at an arrival of a step that stays CLOSED (R141, R142, R144). -/
theorem frameArrives_stagesTake {i : FrameInput} {s : State} {k : StepId} (queue : s.QueueSound)
    (closed : (s.stepRec k).state = some .closed) (still : ((s.frameArrives i).stepRec k).state = some .closed)
    (short : ∀ c, s.upu.capture = some c → c.step ≠ k ∨ c.count < 15) : stagesTake s (s.frameArrives i) k := by
  obtain ⟨v, first, last⟩ := s.frameArrives_upu i (queue.derived_of_state closed)
  obtain ⟨own, alarm, flag, trip⟩ := last.stages (fun n => n rfl) (fun n => n rfl) still
  have staged : State.Runs (fun l => l ≠ .capture) v (v.staged (s.published i)) := v.staged_runs _ fun _ => nofun
  have engine : ∀ c, (v.staged (s.published i)).upu.capture = some c → c.step ≠ k ∨ c.count < 15 := fun c is => by
    have one := (staged.captureRuns.kept fun n => n rfl).resolve_left (by simp [is])
    have two := (first.captureRuns.kept fun n => n rfl).resolve_left (by simp [← one, is])
    have three := ((s.published_captureRuns i).kept id).resolve_left (by simp [← two, ← one, is])
    exact short c (by rw [← three, ← two, ← one, is])
  rw [v.upuFrame_eq, State.captureFrame_stepRec engine] at own alarm flag trip
  obtain ⟨taken, tripped⟩ := State.staged_stages own
  have mid : (v.stepRec k).state = some .closed := ((staged.stepRuns k).back (.inr own)).trans own
  obtain ⟨began, alarm', flag', trip'⟩ := first.stages (fun n => n rfl) (fun n => n rfl) mid
  obtain ⟨-, alarm₀, flag₀, trip₀⟩ := State.published_stages began
  have me : v.me = (s.frameArrives i).me := first.me.trans (s.frameArrives_me_eq i).symm
  have settings : v.set.settings = (s.frameArrives i).set.settings := by rw [first.set, s.published_settings i]
  rw [alarm', flag', alarm₀, flag₀, s.published_settings i] at taken
  rw [trip', trip₀] at tripped
  simp only [v.stagesHeld_iff, me, settings] at taken tripped
  refine ⟨s.frameArrives_latestU i k, ?_, ?_⟩
  · rw [alarm, flag]
    exact taken
  · rw [trip]
    exact tripped

/-! ## The capture engine (R155, R156) -/

/-- What the capture engine makes of a running capture (R155, R156). -/
theorem State.captureFrame_takes {s : State} {c : Capture} (running : s.upu.capture = some c) :
    (s.me.frame.noRef = true ∨ s.me.frame.neutrals[c.step].clip = true → s.captureFrame = s.abortCapture)
      ∧ (¬(s.me.frame.noRef = true ∨ s.me.frame.neutrals[c.step].clip = true) →
        (s.me.frame.settling = true → s.captureFrame = s)
        ∧ (s.me.frame.settling ≠ true →
          (c.count + 1 < 16 → s.captureFrame = s.setCapture (some (s.captureAdd c)))
            ∧ (¬c.count + 1 < 16 → s.captureFrame = s.completeCapture (s.captureAdd c)))) := by
  unfold State.captureFrame
  rw [running]
  dsimp only
  refine ⟨fun abort => if_pos abort, fun goes => ⟨fun held => ?_, fun counts => ⟨fun early => ?_, fun last => ?_⟩⟩⟩
  · rw [if_neg goes, if_pos held]
  · rw [if_neg goes, if_neg counts, if_neg (by omega)]
  · rw [if_neg goes, if_neg counts, if_pos (by omega)]

/-- The capture engine at an arrival whose captured step stays CLOSED (R155, R156). -/
theorem frameArrives_captureTakes {i : FrameInput} {s : State} {c : Capture} (queue : s.QueueSound)
    (running : s.upu.capture = some c) (closed : (s.stepRec c.step).state = some .closed)
    (still : ((s.frameArrives i).stepRec c.step).state = some .closed) : captureTakes s (s.frameArrives i) c := by
  obtain ⟨v, first, last⟩ := s.frameArrives_upu i (queue.derived_of_state closed)
  rw [v.upuFrame_eq] at last
  have staged : State.Runs (fun l => l ≠ .capture) v (v.staged (s.published i)) := v.staged_runs _ fun _ => nofun
  have engine : State.Runs (fun _ => True) (v.staged (s.published i)) (v.staged (s.published i)).captureFrame := .captures trivial
  have me : (v.staged (s.published i)).me = (s.frameArrives i).me := (staged.me.trans first.me).trans (s.frameArrives_me_eq i).symm
  have compensation : ((v.staged (s.published i)).stepRec c.step).compensation = (s.stepRec c.step).compensation := by
    rw [(staged.stepRuns c.step).compensation fun n => n rfl, (first.stepRuns c.step).compensation fun n => n rfl,
      s.published_compensation]
  have after := last.captureRuns
  have kept := (last.stepRuns c.step).compensation fun n => n rfl
  have runs : (v.staged (s.published i)).upu.capture = some c := by
    have own : ((v.staged (s.published i)).captureFrame.stepRec c.step).state = some .closed :=
      ((last.stepRuns c.step).back (.inr still)).trans still
    have mid := ((engine.stepRuns c.step).back (.inr own)).trans own
    have start := ((staged.stepRuns c.step).back (.inr mid)).trans mid
    have began := ((first.stepRuns c.step).back (.inr start)).trans start
    exact staged.captureRuns.stays (fun n => n rfl) c (first.captureRuns.stays (fun n => n rfl) c
      ((s.published_captureRuns i).stays id c running began) start) mid
  generalize v.staged (s.published i) = w at *
  obtain ⟨aborts, goes⟩ := State.captureFrame_takes runs
  rw [me] at aborts goes
  have ended : w.captureFrame.upu.capture = none → (s.frameArrives i).upu.capture = none := fun idle =>
    (after.kept fun n => n rfl).elim id (·.trans idle)
  unfold captureTakes
  dsimp only
  split_ifs with abort held early
  · rw [aborts abort] at ended kept
    refine ⟨ended w.abortCapture_capture, kept.trans ?_⟩
    rw [w.abortCapture_onlyIn.stepRec (by decide), compensation]
  · rw [(goes abort).1 held] at after
    exact after.stays (fun n => n rfl) c runs still
  · rw [((goes abort).2 held).1 early] at after kept
    refine ⟨?_, kept.trans compensation⟩
    have added := after.stays (fun n => n rfl) (w.captureAdd c) rfl still
    rw [added, State.captureAdd, me]
  · rw [((goes abort).2 held).2 early] at ended kept
    refine ⟨ended (w.completeCapture_capture _), kept.trans ?_⟩
    rw [State.completeCapture_stepRec, if_pos (by rfl)]
    simp only [captured, State.captureAdd, me]

/-- A capture ends when its step leaves CLOSED at an arrival (R156). -/
theorem frameArrives_capture_ends {i : FrameInput} {s : State} {c : Capture} (queue : s.QueueSound)
    (running : s.upu.capture = some c) (closed : (s.stepRec c.step).state = some .closed)
    (left : ((s.frameArrives i).stepRec c.step).state ≠ some .closed) : (s.frameArrives i).upu.capture = none := by
  have taken := State.takeFrame_runs (s.published_derived i (queue.derived_of_state closed)) i (rinitLoads s.set.pendingValues)
  rw [← s.frameArrives_eq] at taken
  have before := s.published_captureRuns i
  have all : s.CaptureRuns (fun _ => True) (s.published i) :=
    ⟨fun _ => before.kept id, fun n => absurd trivial n, before.ends, before.only⟩
  exact (all.trans taken.captureRuns taken.stepRuns).ends c.step (by rw [running]; rfl) closed left

end Sys2Proof.Machine
end

section
/-!
PROOF. The frame that an arrival publishes (R27 to R45).
-/
namespace Sys2Proof.Machine

section
variable {s : State} {m : Sampling} {i : FrameInput}

theorem State.samplingNow_of (sampling : s.me.sampling = some m) : s.samplingNow = m := by
  rw [State.samplingNow, sampling, Option.getD_some]

theorem State.arriving_of (sampling : s.me.sampling = some m) : s.arriving = s.until m.arrival := by
  have started : s.startFrame = s := by
    unfold State.startFrame
    rw [sampling]
  rw [State.arriving, started, State.samplingNow_of sampling]

/-- The frame that arrives, by the settings applied (R44, R46). -/
theorem State.frameArrives_frame (sampling : s.me.sampling = some m) :
    (s.frameArrives i).me.frame = s.applied.frameOf i m.freeStarted ∧ s.applied.me = s.me := by
  refine ⟨?_, ?_⟩
  · rw [s.frameArrives_measures, State.samplingNow_of sampling]
    rfl
  · rw [s.applied_me, State.arriving_of sampling]
    rfl

theorem State.applied_y (s : State) (i : FrameInput) (x : YardSetting) : s.applied.y x = (s.frameArrives i).y x := by
  rw [State.y, State.y, s.applied_settings i]

theorem State.applied_settle (s : State) : s.applied.cu.settle = s.cu.settle := by
  have applied : s.arriving.SameCooldown s.applied := s.arriving.applySettings_beside.cooldown (by decide)
  have arriving : s.arriving.cu = s.cu := s.arriving_onlyIn .cu (by decide)
  rw [applied.settle, arriving]

/-! ## Number, reference and aggregates (R27, R41 to R45) -/

theorem frameArrives_aggregates (sampling : s.me.sampling = some m) :
    let t := s.frameArrives i
    let f := t.me.frame
    f.number = (s.me.counter + 1) % 4294967296 ∧ t.me.counter = f.number ∧ f.reference = s.me.reference
      ∧ f.noRef = (s.me.reference.isNone || m.freeStarted)
      ∧ f.vAvg = (f.a.v + f.b.v + f.c.v) / 3
      ∧ f.vMax = max f.a.v (max f.b.v f.c.v) ∧ f.vMin = min f.a.v (min f.b.v f.c.v)
      ∧ (f.a.clip, f.b.clip, f.c.clip) = (clipped i.va, clipped i.vb, clipped i.vc)
      ∧ f.a = phaseFrame (t.y .vnom) i.va ∧ f.b = phaseFrame (t.y .vnom) i.vb ∧ f.c = phaseFrame (t.y .vnom) i.vc
      ∧ f.vtLoss = decide (t.y .vdead ≤ f.vMax ∧ t.y .vspread < f.vMax - f.vMin)
      ∧ f.settling = decide (0 < s.cu.settle) := by
  obtain ⟨frame, me⟩ := State.frameArrives_frame (i := i) sampling
  have counter : (s.frameArrives i).me.counter = (s.frameArrives i).me.frame.number := by
    rw [s.frameArrives_measures]
    rfl
  have settle := s.applied_settle
  have settings := s.applied_y i
  generalize s.frameArrives i = t at *
  generalize s.applied = w at *
  dsimp only
  rw [counter, frame, ← settings, ← settings, ← settings]
  refine ⟨?_, rfl, ?_, ?_, rfl, rfl, rfl, rfl, rfl, rfl, rfl, ?_, ?_⟩
  · rw [← me]
    rfl
  · rw [← me]
    rfl
  · rw [← me]
    rfl
  · show vtLossAt _ _ _ _ = _
    rw [vtLossAt, ← Bool.decide_and, decide_eq_decide]
    dsimp only [State.frameOf]
    omega
  · rw [← settle]
    rfl

/-! ## The period (R30) -/

theorem clampPeriod_ne_iff (f : Fsel) (x : Nat) : clampPeriod f x ≠ x ↔ x < periodLow f ∨ periodHigh f < x := by
  have ordered : periodLow f ≤ periodHigh f := by cases f <;> decide
  unfold clampPeriod
  omega

theorem frameArrives_period (i : FrameInput) (s : State) :
    let t := s.frameArrives i
    (∀ p x, s.me.reference = some p → s.me.measurement = some x →
        t.me.period = max (periodLow s.me.fsel) (min (periodHigh s.me.fsel) x)
          ∧ t.me.frame.offFreq = decide (x < periodLow s.me.fsel ∨ periodHigh s.me.fsel < x))
      ∧ (s.me.reference = none ∨ s.me.measurement = none → t.me.period = s.me.period ∧ t.me.frame.offFreq = false) := by
  obtain ⟨period, -, off⟩ := s.frameArrives_me i
  dsimp only
  rw [period, off]
  unfold State.periodAfter State.offFreqNow
  refine ⟨fun p x reference measurement => ?_, fun absent => ?_⟩
  · rw [reference, measurement]
    exact ⟨rfl, decide_eq_decide.mpr (clampPeriod_ne_iff _ _)⟩
  · rcases absent with reference | measurement
    · rw [reference]
      exact ⟨rfl, rfl⟩
    · rw [measurement]
      cases s.me.reference <;> exact ⟨rfl, rfl⟩

/-! ## The neutral channels (R40, R138, R139) -/

theorem frameArrives_neutral (sampling : s.me.sampling = some m) (k : StepId) :
    (s.frameArrives i).me.frame.neutrals[k] = s.applied.neutralFrame k i.neutrals[k] (s.frameArrives i).me.frame.vAvg := by
  obtain ⟨frame, -⟩ := State.frameArrives_frame (i := i) sampling
  rw [frame]
  simp only [State.frameOf, Fin.getElem_fin, Vector.getElem_ofFn, Fin.eta]

theorem State.effected_state (s : State) (k : StepId) : (s.effected.stepRec k).state = (s.stepRec k).state := by
  rw [s.effected_stepRec]

theorem frameArrives_neutrals (sampling : s.me.sampling = some m) (k : StepId) :
    let t := s.frameArrives i
    let f := t.me.frame
    (f.neutrals[k].pre, f.neutrals[k].pim, f.neutrals[k].clip) =
        ((corrRe i.neutrals[k] 1).tdiv 4096, (corrIm i.neutrals[k] 1).tdiv 4096, clipped i.neutrals[k])
      ∧ ((s.stepRec k).state ≠ some .closed → f.neutrals[k].u = 0)
      ∧ (s.QueueSound → (s.stepRec k).state = some .closed → (t.stepRec k).state = some .closed →
          f.neutrals[k].u = (unbalanceAt { t with ss := s.ss } k).2.2) := by
  have neutral := frameArrives_neutral (i := i) sampling k
  refine ⟨by rw [neutral]; rfl, fun away => ?_, fun queue closed still => ?_⟩
  · rw [neutral]
    refine uOf_of_not_closed (fun closed => away ?_) _ _
    rw [← s.effected_state]
    exact ((s.applied_runs.stepRuns k).back (.inr closed)).trans closed
  · have taken := State.takeFrame_runs (s.published_derived i (queue.derived_of_state closed)) i (rinitLoads s.set.pendingValues)
    rw [← s.frameArrives_eq] at taken
    have began : ((s.published i).stepRec k).state = some .closed := ((taken.stepRuns k).back (.inr still)).trans still
    have state := (keptRecord_leaves (s.applied.frameOf i s.samplingNow.freeStarted) k (s.applied.stepRec k)).1
    rw [← s.published_stepRec i k] at state
    have compensation : (s.applied.stepRec k).compensation = (s.stepRec k).compensation := by
      rw [(s.applied_runs.stepRuns k).compensation id, s.effected_stepRec]
    have own : ∀ t : State, ({ t with ss := s.ss } : State).stepRec k = s.stepRec k := fun _ => rfl
    have settings := s.applied_settings i
    have closed' : (s.applied.stepRec k).state = some .closed := state.symm.trans began
    generalize s.frameArrives i = t at *
    generalize s.applied = w at *
    rw [unbalanceAt_eq]
    dsimp only [State.uNow, State.dreNow, State.dimNow]
    rw [own, neutral]
    dsimp only [State.neutralFrame]
    rw [uOf_of_closed closed', compensation, settings]

/-! ## What the ME keeps (R27, R43, R44) -/

theorem frameArrives_keeps (sampling : s.me.sampling = some m) :
    let t := s.frameArrives i
    let f := t.me.frame
    t.me.reference = (if 200 ≤ f.a.v then some .a else if 200 ≤ f.b.v then some .b else if 200 ≤ f.c.v then some .c else none)
      ∧ t.me.lastValidAvg = (if f.noRef = true ∨ f.vtLoss = true then s.me.lastValidAvg else some f.vAvg)
      ∧ t.me.sampling = none ∧ t.me.measurement = none ∧ t.me.lastArrival = m.start + 31 * m.period / 32
      ∧ t.clock = { s.clock with now := max s.clock.now (m.start + 31 * m.period / 32) } := by
  obtain ⟨-, before⟩ := State.frameArrives_frame (i := i) sampling
  have clock := s.frameArrives_clock i
  rw [State.arriving_of sampling] at clock
  have me := s.frameArrives_measures i
  rw [State.samplingNow_of sampling] at me
  generalize s.frameArrives i = t at *
  dsimp only
  refine ⟨by rw [me]; rfl, ?_, by rw [me]; rfl, by rw [me]; rfl, by rw [me]; rfl, clock⟩
  rw [me]
  simp only [State.meAfter, before, Bool.or_eq_true]

end

/-- The frame part of O47. -/
theorem arrivalPublishesFrame (i : FrameInput) (s : State) (m : Sampling) (running : s.clock.held = none)
    (sampling : s.me.sampling = some m) :
    ∃ t f, exec (.frameArrival i) s = .next t ∧ t.me.frame = f
      ∧ f.number = (s.me.counter + 1) % 4294967296 ∧ t.me.counter = f.number
      ∧ f.reference = s.me.reference
      ∧ f.noRef = (s.me.reference.isNone || m.freeStarted)
      ∧ (∀ p x, s.me.reference = some p → s.me.measurement = some x →
          t.me.period = max (periodLow s.me.fsel) (min (periodHigh s.me.fsel) x)
            ∧ f.offFreq = decide (x < periodLow s.me.fsel ∨ periodHigh s.me.fsel < x))
      ∧ (s.me.reference = none ∨ s.me.measurement = none → t.me.period = s.me.period ∧ f.offFreq = false)
      ∧ f.vAvg = (f.a.v + f.b.v + f.c.v) / 3
      ∧ f.vMax = max f.a.v (max f.b.v f.c.v) ∧ f.vMin = min f.a.v (min f.b.v f.c.v)
      ∧ (f.a.clip, f.b.clip, f.c.clip) = (clipped i.va, clipped i.vb, clipped i.vc)
      ∧ f.a = phaseFrame (t.y .vnom) i.va ∧ f.b = phaseFrame (t.y .vnom) i.vb
      ∧ f.c = phaseFrame (t.y .vnom) i.vc
      ∧ (∀ k : StepId,
          (f.neutrals[k].pre, f.neutrals[k].pim, f.neutrals[k].clip) =
              ((corrRe i.neutrals[k] 1).tdiv 4096, (corrIm i.neutrals[k] 1).tdiv 4096, clipped i.neutrals[k])
            ∧ ((s.stepRec k).state ≠ some .closed → f.neutrals[k].u = 0)
            ∧ (s.QueueSound → (s.stepRec k).state = some .closed → (t.stepRec k).state = some .closed →
                f.neutrals[k].u = (unbalanceAt { t with ss := s.ss } k).2.2))
      ∧ f.vtLoss = decide (t.y .vdead ≤ f.vMax ∧ t.y .vspread < f.vMax - f.vMin)
      ∧ f.settling = decide (0 < s.cu.settle)
      ∧ t.me.reference =
          (if 200 ≤ f.a.v then some .a else if 200 ≤ f.b.v then some .b
           else if 200 ≤ f.c.v then some .c else none)
      ∧ t.me.lastValidAvg = (if f.noRef = true ∨ f.vtLoss = true then s.me.lastValidAvg else some f.vAvg)
      ∧ t.me.sampling = none ∧ t.me.measurement = none
      ∧ t.me.lastArrival = m.start + 31 * m.period / 32
      ∧ t.clock = { s.clock with now := max s.clock.now (m.start + 31 * m.period / 32) } := by
  obtain ⟨number, counter, reference, noRef, vAvg, vMax, vMin, clips, a, b, c, vtLoss, settling⟩ :=
    frameArrives_aggregates (i := i) sampling
  obtain ⟨period, absent⟩ := frameArrives_period i s
  exact ⟨_, _, exec_frameArrival running i, rfl, number, counter, reference, noRef, period, absent, vAvg, vMax, vMin, clips, a, b,
    c, frameArrives_neutrals sampling, vtLoss, settling, frameArrives_keeps sampling⟩

end Sys2Proof.Machine
end

section
/-!
SUPPORT. What a run of moves leaves while an operation is in flight: every state, and with no port's entry waiting every
record (R60, R75).
-/
namespace Sys2Proof.Machine

/-- An operation is in flight, and every entry fits its step's state (R48). -/
structure State.Busy (s : State) : Prop where
  /-- the operation in flight -/
  flies : ∃ f ∈ s.oq.entries, f.status = .inFlight
  /-- what the entries fit -/
  fits : ∀ e ∈ s.oq.entries, (s.stepRec e.step).state = some e.stepState

/-- No entry that waits is a port's. -/
def State.Mute (s : State) : Prop := ∀ e ∈ s.oq.entries, e.status = .waiting → originatorPort e.originator = none

/-- What a run of moves leaves while an operation is in flight. -/
structure State.Idles (may : Licence → Prop) (s t : State) : Prop where
  /-- the states -/
  states : ∀ k, (t.stepRec k).state = (s.stepRec k).state
  /-- the Cooldown Unit -/
  cu : ¬may .cool → t.cu = s.cu
  /-- the operation stays in flight -/
  busy : t.Busy
  /-- the Outcome Store -/
  silent : ¬may .capture ∨ s.upu.capture = none → s.Mute → t.os = s.os ∧ t.Mute

section
variable {may : Licence → Prop}

theorem State.Busy.inFlight {s : State} (busy : s.Busy) : s.inFlight ≠ none := by
  obtain ⟨f, mem, flies⟩ := busy.flies
  intro absent
  have away := List.find?_eq_none.mp absent f mem
  simp [flies] at away

theorem State.QueueSound.busy {s : State} (queue : s.QueueSound) (flies : s.inFlight ≠ none) : s.Busy := by
  obtain ⟨f, found⟩ := Option.ne_none_iff_exists'.mp flies
  have status := List.find?_some found
  obtain ⟨-, -, fits, -⟩ := queue
  exact ⟨⟨f, List.mem_of_find?_eq_some found, by simpa using status⟩, fun e mem => (fits e mem).1⟩

/-- A write that leaves the states and the queue. -/
theorem State.Idles.of_same {s t : State} (busy : s.Busy) (states : ∀ k, (t.stepRec k).state = (s.stepRec k).state)
    (oq : t.oq = s.oq) (cu : ¬may .cool → t.cu = s.cu) (os : ¬may .capture ∨ s.upu.capture = none → t.os = s.os) :
    s.Idles may t := by
  obtain ⟨flies, fits⟩ := busy
  refine ⟨states, cu, ⟨by rwa [oq], fun e mem => ?_⟩, fun still mute => ⟨os still, fun e mem => ?_⟩⟩
  · rw [oq] at mem
    rw [states, fits e mem]
  · rw [oq] at mem
    exact mute e mem

theorem State.Idles.of_onlyIn {s t : State} {l : List Block} (busy : s.Busy) (only : s.onlyIn t l) (ss : Block.ss ∉ l)
    (oq : Block.oq ∉ l) (cu : Block.cu ∉ l ∨ may .cool) (os : Block.os ∉ l) : s.Idles may t :=
  .of_same busy (fun k => congrArg StepRecord.state (only.stepRec ss k)) (only .oq oq)
    (fun n => only .cu (cu.resolve_right n)) fun _ => only .os os

theorem State.Idles.trans {s t u : State} (h : s.Idles may t) (g : t.Idles may u)
    (capture : s.upu.capture = none → t.upu.capture = none) : s.Idles may u := by
  refine ⟨fun k => (g.states k).trans (h.states k), fun n => (g.cu n).trans (h.cu n), g.busy, fun still mute => ?_⟩
  obtain ⟨os, quiet⟩ := h.silent still mute
  obtain ⟨os', quiet'⟩ := g.silent (still.imp_right capture) quiet
  exact ⟨os'.trans os, quiet'⟩

/-! ## Postings (R50 to R58) -/

theorem State.giveResult_os {s : State} {o : Originator} (own : originatorPort o = none) (tag : Option Byte) (k : StepId)
    (kind : OpKind) (fast : Bool) (r : OutcomeResult) : (s.giveResult o tag k kind fast r).os = s.os := by
  cases o with
  | portA => cases own
  | portB => cases own
  | harmonic =>
    simp only [State.giveResult, State.detuneResult]
    split <;> rfl
  | avc => rfl
  | unbalance => rfl
  | external => rfl

/-- An entry's result leaves the yard, and tells no port when it is no port's (R75). -/
theorem State.Idles.told {s u : State} (h : s.Idles may u) {e : Entry} (r : OutcomeResult)
    (own : s.Mute → originatorPort e.originator = none) : s.Idles may (u.entryResult e r) := by
  have only := u.entryResult_onlyIn e r
  have oq : (u.entryResult e r).oq = u.oq := only .oq (by decide)
  have states : ∀ k, (u.entryResult e r).stepRec k = u.stepRec k := only.stepRec (by decide)
  obtain ⟨flies, fits⟩ := h.busy
  refine ⟨fun k => by rw [states, h.states], fun n => (only .cu (by decide)).trans (h.cu n), ⟨by rwa [oq], fun x mem => ?_⟩,
    fun still mute => ?_⟩
  · rw [oq] at mem
    rw [states]
    exact fits x mem
  · obtain ⟨os, quiet⟩ := h.silent still mute
    exact ⟨(State.giveResult_os (own mute) _ _ _ _ _).trans os, fun x mem => quiet x (by rwa [oq] at mem)⟩

/-- A step in READY has no entry in flight. -/
theorem State.Busy.not_flies_ready {s : State} (busy : s.Busy) {f : Entry} (mem : f ∈ s.oq.entries) (flies : f.status = .inFlight) :
    (s.stepRec f.step).state ≠ some .ready := by
  rw [busy.fits f mem, Entry.stepState, flies]
  cases f.kind <;> decide

/-- The removal of a READY step's entry leaves the operation in flight. -/
theorem State.dropEntry_idles {s : State} (busy : s.Busy) {k : StepId} (ready : (s.stepRec k).state = some .ready) :
    s.Idles may (s.dropEntry k) := by
  have records := (s.dropEntry_table k).stepRec
  have left : ∀ e, e ∈ (s.dropEntry k).oq.entries → e ∈ s.oq.entries := fun e mem => by
    rw [s.dropEntry_oq] at mem
    exact (List.mem_filter.mp mem).1
  refine ⟨fun j => by rw [records], fun _ => s.dropEntry_onlyIn k .cu (by decide), ⟨?_, fun e mem => ?_⟩,
    fun _ mute => ⟨s.dropEntry_onlyIn k .os (by decide), fun e mem => mute e (left e mem)⟩⟩
  · obtain ⟨f, mem, flies⟩ := busy.flies
    refine ⟨f, ?_, flies⟩
    rw [s.dropEntry_oq]
    refine List.mem_filter.mpr ⟨mem, ?_⟩
    have away : f.step ≠ k := fun same => busy.not_flies_ready mem flies (same ▸ ready)
    simpa using away
  · rw [records]
    exact busy.fits e (left e mem)

/-- A change of an entry that leaves its step, its status and the state it fits. -/
theorem State.modEntry_idles {s : State} (busy : s.Busy) {k : StepId} {f : Entry → Entry} (steps : ∀ e, (f e).step = e.step)
    (status : ∀ e, (f e).status = e.status) (fits : ∀ e ∈ s.oq.entries, e.step = k → (f e).stepState = e.stepState)
    (own : ∀ e, originatorPort e.originator = none → originatorPort (f e).originator = none) : s.Idles may (s.modEntry k f) := by
  have entries : (s.modEntry k f).oq.entries = s.oq.entries.map (fun e => if e.step = k then f e else e) := rfl
  refine ⟨fun _ => rfl, fun _ => rfl, ⟨?_, fun e mem => ?_⟩, fun _ mute => ⟨rfl, fun e mem waits => ?_⟩⟩
  · obtain ⟨x, mem, flies⟩ := busy.flies
    refine ⟨_, by rw [entries]; exact List.mem_map_of_mem mem, ?_⟩
    split
    · rw [status, flies]
    · exact flies
  · rw [entries] at mem
    obtain ⟨x, listed, rfl⟩ := List.mem_map.mp mem
    have fit := busy.fits x listed
    split
    · next named =>
      rw [steps, fits x listed named]
      exact fit
    · exact fit
  · rw [entries] at mem
    obtain ⟨x, listed, rfl⟩ := List.mem_map.mp mem
    split at waits
    · next named =>
      rw [if_pos named]
      exact own x (mute x listed (by rw [← status]; exact waits))
    · next other =>
      rw [if_neg other]
      exact mute x listed waits

theorem State.setMark_idles {s : State} (busy : s.Busy) (p : Posting) : s.Idles may (s.setMark p) :=
  State.modEntry_idles (f := fun e => { e with mark := some (markOf p) }) busy (fun _ => rfl) (fun _ => rfl)
    (fun _ _ _ => rfl) fun _ => id

theorem Entry.stepState_closed_iff {e : Entry} : e.stepState = .closed ↔ e.status = .waiting ∧ e.kind ≠ .closeOp := by
  unfold Entry.stepState
  split <;> simp_all

/-- A posting while an operation is in flight changes no state (R50 to R58). -/
theorem State.post_idles {s : State} (busy : s.Busy) {p : Posting} (fair : s.Fair p) : s.Idles may (s.post p).1 := by
  have posted := s.post_as p
  generalize (s.post p).1 = y at posted ⊢
  have fit : ∀ e, s.entryOf p.step = some e → (s.stepRec p.step).state = some e.stepState ∧ e ∈ s.oq.entries := fun e entry => by
    obtain ⟨mem, step⟩ := State.mem_of_entryOf entry
    exact ⟨step ▸ busy.fits e mem, mem⟩
  cases posted with
  | kept => exact .of_same busy (fun _ => rfl) rfl (fun _ => rfl) fun _ => rfl
  | joined free fits service =>
    refine ⟨fun _ => rfl, fun _ => rfl, ⟨?_, fun e mem => ?_⟩, fun _ mute => ⟨rfl, fun e mem waits => ?_⟩⟩
    · obtain ⟨f, mem, flies⟩ := busy.flies
      exact ⟨f, List.mem_append_left _ mem, flies⟩
    · rcases List.mem_append.mp mem with mem | mem
      · exact busy.fits e mem
      · obtain rfl := List.mem_singleton.mp mem
        refine Eq.trans fits (congrArg some ?_)
        unfold Entry.stepState
        cases kind : p.kind <;> simp
    · rcases List.mem_append.mp mem with mem | mem
      · exact mute e mem waits
      · obtain rfl := List.mem_singleton.mp mem
        exact fair.own
  | lockedOut trip free away =>
    rcases fair.trip trip with is | is <;> simp [is] at away
  | backedUp trip failed =>
    rcases fair.trip trip with is | is <;> simp [is] at failed
  | withdrawn e entry waits close =>
    obtain ⟨ready, mem⟩ := fit e entry
    have dropped : s.Idles may (s.dropEntry p.step) :=
      State.dropEntry_idles busy (by simpa [Entry.stepState, waits, close] using ready)
    exact dropped.told _ fun mute => mute e mem waits
  | lockedOutOf trip e entry waits close =>
    obtain ⟨ready, -⟩ := fit e entry
    rcases fair.trip trip with is | is <;> simp [is, Entry.stepState, waits, close] at ready
  | upgraded trip e entry waits opens =>
    obtain ⟨closed, mem⟩ := fit e entry
    have is : e.stepState = .closed := Entry.stepState_closed_iff.mpr ⟨waits, by simp [opens]⟩
    have upgrades : s.Idles may (s.modEntry p.step fun x => x.upgraded p) := by
      refine State.modEntry_idles (f := fun x => x.upgraded p) busy (fun _ => rfl) (fun _ => rfl) (fun x mem named => ?_)
        fun _ _ => fair.own
      have same : x.stepState = .closed := by
        rw [← is]
        exact Option.some.inj ((busy.fits x mem).symm.trans (named ▸ closed))
      obtain ⟨waits, -⟩ := Entry.stepState_closed_iff.mp same
      exact ((Entry.stepState_closed_iff (e := x.upgraded p)).mpr ⟨waits, by simp [Entry.upgraded]⟩).trans same.symm
    exact upgrades.told _ fun mute => mute e mem waits
  | marked => exact State.setMark_idles busy p
  | remarked trip e entry flies close m =>
    obtain ⟨closing, -⟩ := fit e entry
    rcases fair.trip trip with is | is <;> simp [is, Entry.stepState, flies, close] at closing

/-! ## A run -/

/-- The capture engine's frame leaves the states, and with no capture everything (R155). -/
theorem State.captureFrame_idles {s : State} (busy : s.Busy) (licensed : may .capture) : s.Idles may s.captureFrame := by
  have only : s.onlyIn s.captureFrame [.ss, .pi, .os, .upu] := by
    unfold State.captureFrame
    split
    · exact s.onlyIn_refl _
    · exact State.onlyIn_ite _ (State.onlyIn_mono s.abortCapture_onlyIn (by decide)) (State.onlyIn_ite _ (s.onlyIn_refl _)
        (State.onlyIn_ite _ (s.completeCapture_onlyIn _) (State.onlyIn_mono (s.setCapture_onlyIn _) (by decide))))
  refine .of_same busy (fun k => ?_) (only .oq (by decide)) (fun _ => only .cu (by decide)) fun still => ?_
  · exact (s.captureFrame_state k)
  · have idle := still.resolve_left fun n => n licensed
    unfold State.captureFrame
    rw [idle]

/-- What a run of moves leaves while an operation is in flight. -/
theorem State.Runs.idles {s t : State} (h : State.Runs may s t) (busy : s.Busy) : s.Idles may t := by
  induction h with
  | refl => exact .of_same busy (fun _ => rfl) rfl (fun _ => rfl) fun _ => rfl
  | trans first _ g h =>
    refine (g busy).trans (h (g busy).busy) fun idle => ?_
    rcases first.captureRuns.only with is | same
    · exact is
    · rw [idle] at same
      exact Option.map_eq_none_iff.mp same
  | wrote only => exact .of_onlyIn busy only (by decide) (by decide) (.inl (by decide)) (by decide)
  | noted only => exact .of_onlyIn busy only (by decide) (by decide) (.inl (by decide)) (by decide)
  | posted fair => exact State.post_idles busy fair
  | examined =>
    rw [State.examine_inFlight _ busy.inFlight]
    exact .of_same busy (fun _ => rfl) rfl (fun _ => rfl) fun _ => rfl
  | @risen s j n =>
    refine .of_same busy (fun k => ?_) rfl (fun _ => rfl) fun _ => rfl
    by_cases own : k = j
    · subst own
      rw [State.stepRec_modStep_same]
    · rw [s.stepRec_modStep_ne k j _ own]
  | @staged s j _ alarm trip flag =>
    refine .of_same busy (fun k => ?_) rfl (fun _ => rfl) fun _ => rfl
    by_cases own : k = j
    · subst own
      rw [State.stepRec_modStep_same]
    · rw [s.stepRec_modStep_ne k j _ own]
  | cooled licensed only => exact .of_onlyIn busy only (by decide) (by decide) (.inr licensed) (by decide)
  | captures licensed => exact State.captureFrame_idles busy licensed

end

end Sys2Proof.Machine
end

section
/-!
PROOF. An arrival with an operation in flight: no step changes its state, and the settle end measures on the states as
they stand (R60, R89, R90).
-/
namespace Sys2Proof.Machine

/-! ## The application of the settings -/

theorem State.Busy.of_same {s t : State} (busy : s.Busy) (states : ∀ k, (t.stepRec k).state = (s.stepRec k).state)
    (oq : t.oq = s.oq) : t.Busy := by
  obtain ⟨flies, fits⟩ := busy
  exact ⟨by rwa [oq], fun e mem => (states e.step).trans (fits e (oq ▸ mem))⟩

/-- The removal of the WAITING CLOSEs of a READY step leaves the operation in flight. -/
theorem State.removeEach_busy {s : State} (busy : s.Busy) {l : List Entry} (ready : ∀ e ∈ l, (s.stepRec e.step).state = some .ready)
    (r : OutcomeResult) : (s.removeEach l r).Busy := by
  induction l generalizing s with
  | nil => exact busy
  | cons e l ih =>
    have dropped : s.Idles (fun _ => False) (s.dropEntry e.step) := State.dropEntry_idles busy (ready e List.mem_cons_self)
    have only := (s.dropEntry e.step).entryResult_onlyIn e r
    have states : ∀ k, (((s.dropEntry e.step).entryResult e r).stepRec k).state = (s.stepRec k).state := fun k => by
      rw [only.stepRec (by decide), dropped.states]
    have told : ((s.dropEntry e.step).entryResult e r).Busy :=
      dropped.busy.of_same (fun k => congrArg StepRecord.state (only.stepRec (by decide) k)) (only .oq (by decide))
    exact ih told fun x mem => (states x.step).trans (ready x (List.mem_cons_of_mem _ mem))

theorem State.Busy.waitingClose_ready {s : State} (busy : s.Busy) {e : Entry} (mem : e ∈ s.oq.entries) (waits : e.status = .waiting)
    (close : e.kind = .closeOp) : (s.stepRec e.step).state = some .ready := by
  rw [busy.fits e mem, Entry.stepState, waits, close]

theorem State.applyInService_busy {s : State} (busy : s.Busy) (old : Settings) (k : StepId) : (s.applyInService old k).Busy := by
  unfold State.applyInService
  split
  · have removed : (s.removeCloseOf k).Busy := State.removeEach_busy busy (fun e mem => by
      obtain ⟨listed, is⟩ := List.mem_filter.mp mem
      obtain ⟨waits, close, -⟩ := of_decide_eq_true is
      exact busy.waitingClose_ready listed waits close) _
    have ended := (s.removeCloseOf k).endSelectionOf_onlyIn k (.cancelled .stepChanged)
    exact removed.of_same (fun j => congrArg StepRecord.state (ended.stepRec (by decide) j)) (ended .oq (by decide))
  · exact busy

theorem State.clamped_busy {s : State} (busy : s.Busy) : s.clamped.Busy :=
  busy.of_same (fun k => by rw [s.clamped_stepRec]) (s.clamped_since .oq (by decide))

theorem State.effected_busy {s : State} (busy : s.Busy) : s.effected.Busy := by
  have fold : ∀ (l : List StepId) (t : State), t.Busy →
      (l.foldl (fun t k => t.applyInService s.arriving.set.settings k) t).Busy := fun l => by
    induction l with
    | nil => exact fun _ => id
    | cons j l ih => exact fun t is => ih _ (State.applyInService_busy is _ j)
  exact fold allSteps s.clamped (State.clamped_busy busy)

/-- With an operation in flight no dispatch follows the application. -/
theorem State.applied_of_busy {s : State} (busy : s.Busy) : s.applied = s.effected := by
  rcases s.applied_eq with is | is
  · exact is
  · rw [is, State.examine_inFlight _ (State.effected_busy busy).inFlight]

theorem State.published_state (s : State) (i : FrameInput) (k : StepId) :
    ((s.published i).stepRec k).state = (s.applied.stepRec k).state := by
  rw [s.published_stepRec]
  exact (keptRecord_leaves _ k _).1

/-- The state of the publication with an operation in flight: the operation stays, and the states with it. -/
theorem State.published_busy {s : State} (busy : s.Busy) (i : FrameInput) :
    (s.published i).Busy ∧ (∀ k, ((s.published i).stepRec k).state = (s.stepRec k).state) ∧ (s.published i).cu = s.cu := by
  have applied := State.applied_of_busy busy
  have only := State.publish_onlyIn s.applied i s.samplingNow
  have states : ∀ k, ((s.published i).stepRec k).state = (s.effected.stepRec k).state := fun k => by
    rw [s.published_state, applied]
  have oq : (s.published i).oq = s.effected.oq := (only .oq (by decide)).trans (congrArg State.oq applied)
  have cu : (s.published i).cu = s.effected.cu := (only .cu (by decide)).trans (congrArg State.cu applied)
  exact ⟨(State.effected_busy busy).of_same states oq, fun k => (states k).trans (s.effected_state k),
    cu.trans s.effected_leaves.2.2.2.1⟩

theorem State.QueueSound.derived_of_busy {s : State} (queue : s.QueueSound) (flies : s.inFlight ≠ none) : s.set.derived = true := by
  obtain ⟨f, mem, -⟩ := (queue.busy flies).flies
  exact queue.derived_of_state ((queue.busy flies).fits f mem)

/-- With an operation in flight no step changes its state at an arrival (R60). -/
theorem frameArrives_states {i : FrameInput} {s : State} (queue : s.QueueSound) (flies : s.inFlight ≠ none) (k : StepId) :
    ((s.frameArrives i).stepRec k).state = (s.stepRec k).state := by
  obtain ⟨busy, states, -⟩ := State.published_busy (queue.busy flies) i
  have taken := State.takeFrame_runs (s.published_derived i (queue.derived_of_busy flies)) i (rinitLoads s.set.pendingValues)
  rw [s.frameArrives_eq, (taken.idles busy).states, states]

/-! ## The learned rise (R89, R90, R113) -/

theorem riseTaken_congr {s t : State} {a : Armed} (frame : t.me.frame = s.me.frame)
    (state : (t.stepRec a.step).state = (s.stepRec a.step).state)
    (position : (t.stepRec a.step).position = (s.stepRec a.step).position)
    (rise : (t.stepRec a.step).learnedRise = (s.stepRec a.step).learnedRise) : riseTaken t a = riseTaken s a := by
  unfold riseTaken
  rw [frame, state, position, rise]

theorem State.published_rise (s : State) (i : FrameInput) (k : StepId) :
    ((s.published i).stepRec k).learnedRise = (s.stepRec k).learnedRise := by
  have applied := s.arriving.applySettings_beside.rises (by decide) k
  have arriving : s.arriving.stepRec k = s.stepRec k := s.arriving_onlyIn.stepRec (by decide) k
  rw [s.published_stepRec, (keptRecord_leaves _ k _).2.2.2.2.2.2, ← arriving]
  exact applied

/-- The measurement at an arrival with an operation in flight (R89, R90, R113). -/
theorem frameArrives_rise_taken {i : FrameInput} {s : State} {a : Armed} {r : Nat} (queue : s.QueueSound)
    (flies : s.inFlight ≠ none) (one : s.cu.settle = 1) (armed : s.cu.armed = some a)
    (order : i.riseFirst = false ∨ setRinit s a.step = none)
    (start : r = (setRinit s a.step).getD (s.stepRec a.step).learnedRise) (bound : r ≤ 200) :
    ((s.frameArrives i).stepRec a.step).learnedRise
      = riseTaken ((({ s.frameArrives i with ss := s.ss } : State)).modStep a.step fun x => { x with learnedRise := r }) a := by
  obtain ⟨busy, states, cu⟩ := State.published_busy (queue.busy flies) i
  obtain ⟨v, passes, taken⟩ := (s.published i).takeFrame_rise i s.set.pendingValues a.step (n := setRinit s a.step)
    (fun u => loadRises_rise _ u a.step)
  have run := passes.runs (s.published_derived i (queue.derived_of_busy flies))
  have idles := run.idles busy
  have same : v.cu = s.cu := (idles.cu fun n => n rfl).trans cu
  have risen : (v.cuFrame.stepRec a.step).learnedRise = v.settled.riseAfter a :=
    State.cuFrame_rise_taken (by rw [same, one]) (by rw [same, armed])
  have both : (v.stepRec a.step).learnedRise = r
      ∧ ((s.frameArrives i).stepRec a.step).learnedRise = (v.cuFrame.stepRec a.step).learnedRise := by
    rw [s.frameArrives_eq, start]
    rcases taken with ⟨first, before, after⟩ | ⟨-, before, after⟩
    · have none_ := order.resolve_left (by simp [first])
      rw [none_] at after ⊢
      exact ⟨before.trans (s.published_rise i _), after⟩
    · exact ⟨by rw [before, s.published_rise], after⟩
  obtain ⟨before, after⟩ := both
  have position : (v.stepRec a.step).position = (s.stepRec a.step).position := by
    rw [(run.stepRuns a.step).position, s.published_stepRec, (keptRecord_leaves _ _ _).2.1, (s.applied_runs.stepRuns a.step).position,
      s.effected_stepRec]
  have state : (v.stepRec a.step).state = (s.stepRec a.step).state := by rw [idles.states, states]
  have own : v.settled.stepRec a.step = v.stepRec a.step := rfl
  have frame : v.settled.me.frame = (s.frameArrives i).me.frame := by
    rw [s.frameArrives_me_eq]
    exact congrArg MeState.frame run.me
  rw [after, risen, State.riseAfter_eq (by rw [own, before]; exact bound)]
  generalize s.frameArrives i = t at *
  have record : (({ t with ss := s.ss } : State).modStep a.step fun x => { x with learnedRise := r }).stepRec a.step
      = { s.stepRec a.step with learnedRise := r } := State.stepRec_modStep_same _ _ _
  exact riseTaken_congr frame (by rw [own, record, state]) (by rw [own, record, position]) (by rw [own, record, before])

end Sys2Proof.Machine
end

section
/-!
PROOF. What a step that goes out of service loses at an arrival, and what it keeps (R73, R174).
-/
namespace Sys2Proof.Machine

/-! ## No arrival puts a step in READY, derivation or not (R203, R204) -/

/-- No step enters READY from `s` to `t`. -/
def State.NoNewReady (s t : State) : Prop := ∀ k, (t.stepRec k).state = some .ready → (s.stepRec k).state = some .ready

theorem State.NoNewReady.refl (s : State) : s.NoNewReady s := fun _ => id

theorem State.NoNewReady.trans {s t u : State} (h : s.NoNewReady t) (g : t.NoNewReady u) : s.NoNewReady u := fun k => h k ∘ g k

theorem State.NoNewReady.ite {s t u : State} (c : Prop) [Decidable c] (h : s.NoNewReady t) (g : s.NoNewReady u) :
    s.NoNewReady (if c then t else u) := by
  split
  · exact h
  · exact g

theorem State.NoNewReady.foldl {α : Type} (f : State → α → State) (h : ∀ (s : State) a, s.NoNewReady (f s a)) (l : List α)
    (s : State) : s.NoNewReady (l.foldl f s) := by
  induction l generalizing s with
  | nil => exact .refl s
  | cons a l ih => exact (h s a).trans (ih (f s a))

theorem State.Runs.noNewReady {may : Licence → Prop} {s t : State} (h : State.Runs may s t) : s.NoNewReady t := fun k ready =>
  ((h.stepRuns k).back (.inl ready)).trans ready

theorem State.examine_noNewReady (s : State) : s.NoNewReady s.examine :=
  (State.Runs.examined (may := fun _ => False)).noNewReady

theorem State.enter_noNewReady (s : State) (k : StepId) {n : StepState} (other : n ≠ .ready) (l : Option LockoutCause)
    (f : Option FailureCause) : s.NoNewReady (s.enter k n l f) := fun j ready => by
  by_cases own : j = k
  · subst own
    rw [State.enter_state] at ready
    exact absurd (Option.some.inj ready) other
  · rwa [State.enter_stepRec_ne _ _ _ _ _ _ own] at ready

theorem State.NoNewReady.of_same {s t : State} (same : ∀ k, t.stepRec k = s.stepRec k) : s.NoNewReady t := fun k ready => by
  rwa [same] at ready

theorem State.post_noNewReady (s : State) (p : Posting) : s.NoNewReady (s.post p).1 := by
  have posted := s.post_as p
  generalize (s.post p).1 = y at posted ⊢
  have told : ∀ (t : State) (e : Entry) (r : OutcomeResult), t.NoNewReady (t.entryResult e r) := fun t e r =>
    .of_same ((t.entryResult_onlyIn e r).stepRec (by decide))
  have dropped : s.NoNewReady (s.dropEntry p.step) := .of_same (s.dropEntry_table p.step).stepRec
  cases posted with
  | kept => exact .refl s
  | joined => exact .of_same fun _ => rfl
  | lockedOut => exact s.enter_noNewReady _ (by decide) _ _
  | backedUp => exact .of_same (s.assertBkt_table _ _ _).stepRec
  | withdrawn e => exact dropped.trans (told _ e _)
  | lockedOutOf _ e => exact (dropped.trans (State.enter_noNewReady _ _ (by decide) _ _)).trans (told _ e _)
  | upgraded _ e =>
    have modified : s.NoNewReady (s.modEntry p.step fun x => x.upgraded p) := .of_same fun _ => rfl
    exact modified.trans (told _ e _)
  | marked => exact .of_same fun _ => rfl
  | remarked _ _ _ _ _ m =>
    have modified : s.NoNewReady (s.setMark p) := .of_same fun _ => rfl
    exact modified.trans (.of_same ((State.markResult_onlyIn _ _ _ _).stepRec (by decide)))

theorem State.admitOne_noNewReady (s : State) (p : Posting) : s.NoNewReady (s.admitOne p).1 :=
  (s.post_noNewReady p).trans (State.examine_noNewReady _)

theorem State.examineIfLeft_noNewReady (s before : State) : s.NoNewReady (s.examineIfLeft before) :=
  .ite _ (.refl s) s.examine_noNewReady

theorem State.externalParts_noNewReady (s : State) : s.NoNewReady s.externalParts := by
  have posted : s.NoNewReady s.externalPosts :=
    .foldl _ (fun t k => .ite _ (t.admitOne_noNewReady (externalTrip k)) (.refl t)) allSteps s
  have locked : s.externalPosts.NoNewReady s.externalPosts.lockOutOpen :=
    .foldl _ (fun t k => .ite _ (t.enter_noNewReady k (by decide) _ _) (.refl t)) allSteps _
  exact (posted.trans locked).trans (State.examineIfLeft_noNewReady _ _)

theorem State.deriveStep_noNewReady (s : State) (k : StepId) : s.NoNewReady (s.deriveStep k) := by
  have loaded : s.NoNewReady (s.loadDischarge k) := fun j ready => by
    by_cases own : j = k
    · subst own
      rwa [State.loadDischarge, State.stepRec_modStep_same] at ready
    · rwa [State.loadDischarge, s.stepRec_modStep_ne j k _ own] at ready
  obtain ⟨n, f, ⟨-, -, other⟩, is | is⟩ := s.deriveStep_eq k
  · rw [is]
    exact s.enter_noNewReady k other _ _
  · rw [is]
    exact loaded.trans (State.enter_noNewReady _ k other _ _)

theorem State.deriveAll_noNewReady (s : State) (first : Bool) : s.NoNewReady (s.deriveAll first) := by
  have begun : s.NoNewReady { s with set := { s.set with derived := true } } := .of_same fun _ => rfl
  have opened : ∀ t : State, t.NoNewReady t.derivedOpenAll := fun t =>
    .ite _ (t.deadOpenAll_runs (may := fun _ => False)).noNewReady (.refl t)
  have tripped : ∀ t : State, t.NoNewReady t.derivedTrip := fun t => .ite _ t.externalParts_noNewReady (.refl t)
  have states := (begun.trans (.foldl _ State.deriveStep_noNewReady allSteps _)).trans (State.examine_noNewReady _)
  unfold State.deriveAll
  exact states.trans (.ite _ ((opened _).trans (tripped _)) ((tripped _).trans (opened _)))

theorem State.framePart_noNewReady (s base : State) (p : FramePart) : s.NoNewReady (s.framePart base p) := by
  cases p with
  | avc => exact (s.avcFrame_runs (may := fun _ => True)).noNewReady
  | hmu => exact (s.hmuFrame_runs (may := fun _ => True)).noNewReady
  | upu => exact (s.upuFrame_runs base (may := fun _ => True) (fun _ => trivial) trivial).noNewReady
  | cu => exact (s.cuFrame_runs (may := fun _ => True) trivial).noNewReady
  | sx => exact s.examine_noNewReady
  | derive first =>
    simp only [State.framePart]
    split
    · next known =>
      unfold State.derivation
      split
      · exact .refl s
      · refine .ite _ (.refl s) ?_
        rw [if_pos known]
        exact s.deriveAll_noNewReady first
    · exact .refl s

theorem State.Passes.noNewReady {base s t : State} {p : FramePart} (passes : State.Passes base p s t) : s.NoNewReady t := by
  induction passes with
  | refl => exact .refl s
  | part _ q _ ih => exact ih.trans (State.framePart_noNewReady _ base q)
  | loads _ rises ih => exact ih.trans (State.loadRises_runs (may := fun _ => False) _ rises).noNewReady
  | examined _ ih => exact ih.trans (State.examine_noNewReady _)

/-- No arrival puts a step in READY. -/
theorem State.frameArrives_noNewReady (s : State) (i : FrameInput) : s.NoNewReady (s.frameArrives i) := by
  obtain ⟨v, before, after⟩ := (s.published i).takeFrame_splits i (rinitLoads s.set.pendingValues) (p := .upu) (by decide)
  have effected : s.NoNewReady s.effected := fun k ready => by rwa [s.effected_state] at ready
  have published : s.applied.NoNewReady (s.published i) := fun k ready => by rwa [s.published_state] at ready
  have taken := (before.noNewReady.trans (v.framePart_noNewReady (s.published i) .upu)).trans after.noNewReady
  rw [s.frameArrives_eq]
  exact ((effected.trans s.applied_runs.noNewReady).trans published).trans taken

end Sys2Proof.Machine
end

section
/-!
PROOF. A step that goes out of service at an arrival loses its WAITING CLOSE and its selection, and keeps any other entry
(R73, R174).
-/
namespace Sys2Proof.Machine

/-! ## Removals of WAITING CLOSEs -/

theorem State.removeEach_mem {s : State} {l : List Entry} {r : OutcomeResult} {e : Entry}
    (mem : e ∈ (s.removeEach l r).oq.entries) : ∀ x ∈ l, e.step ≠ x.step := by
  induction l generalizing s with
  | nil => simp
  | cons y l ih =>
    have kept : ∀ (l : List Entry) (t : State), e ∈ (t.removeEach l r).oq.entries → e ∈ t.oq.entries := fun l => by
      induction l with
      | nil => exact fun _ => id
      | cons z l ih =>
        intro t mem
        have before := ih _ mem
        rw [State.entryResult_oq, State.dropEntry_oq] at before
        exact (List.mem_filter.mp before).1
    have before := kept l _ mem
    rw [State.entryResult_oq, State.dropEntry_oq] at before
    have away := (List.mem_filter.mp before).2
    exact List.forall_mem_cons.mpr ⟨by simpa using away, ih mem⟩

theorem State.removeEach_sublist (s : State) (l : List Entry) (r : OutcomeResult) :
    (s.removeEach l r).oq.entries.Sublist s.oq.entries := by
  induction l generalizing s with
  | nil => exact List.Sublist.refl _
  | cons e l ih =>
    refine (ih ((s.dropEntry e.step).entryResult e r)).trans ?_
    rw [State.entryResult_oq, State.dropEntry_oq]
    exact List.filter_sublist

theorem State.removeEach_spares {s : State} {l : List Entry} {k : StepId} (others : ∀ x ∈ l, k ≠ x.step) (r : OutcomeResult) :
    s.Spares (s.removeEach l r) k := by
  induction l generalizing s with
  | nil => exact .refl s k
  | cons e l ih =>
    obtain ⟨own, rest⟩ := List.forall_mem_cons.mp others
    exact ((s.dropEntry_spares own).trans (State.entryResult_spares _ e r k)).trans (ih rest)

/-! ## Selections -/

/-- At most one port has a selection. -/
def State.OneSelects (s : State) : Prop := ∀ p q, s.slot p ≠ none → s.slot q ≠ none → p = q

theorem State.SelectionsSound.oneSelects {s : State} (sound : s.SelectionsSound) : s.OneSelects := by
  have holds : ∀ p, s.slot p ≠ none → s.holder = some p := fun p filled => by
    obtain ⟨x, is⟩ := Option.ne_none_iff_exists'.mp filled
    cases p with
    | a => exact (sound.1 x is).1
    | b => exact (sound.2 x is).1
  exact fun p q first second => Option.some.inj ((holds p first).symm.trans (holds q second))

/-- A selection that is none or as before selects no more than before. -/
theorem State.OneSelects.of_slots {s t : State} (one : s.OneSelects) (slots : ∀ p, t.slot p = none ∨ t.slot p = s.slot p) :
    t.OneSelects := fun p q first second =>
  one p q (by rw [← (slots p).resolve_left first]; exact first) (by rw [← (slots q).resolve_left second]; exact second)

theorem State.selectedBy_none_of_slots {s t : State} {k : StepId} (free : s.selectedBy k = none)
    (slots : ∀ p, t.slot p = none ∨ t.slot p = s.slot p) : t.selectedBy k = none := by
  rw [State.selectedBy_eq_none_iff] at free ⊢
  intro p
  rcases slots p with empty | same
  · rw [empty]
    nofun
  · rw [same]
    exact free p

theorem State.selectedBy_some {s : State} {k : StepId} {p : Port} (by_ : s.selectedBy k = some p) :
    ∃ x, s.slot p = some x ∧ x.step = k := by
  unfold State.selectedBy at by_
  split_ifs at by_ with a b
  · obtain rfl := Option.some.inj by_
    exact Option.map_eq_some_iff.mp a
  · obtain rfl := Option.some.inj by_
    exact Option.map_eq_some_iff.mp b

/-- The end of a step's selection leaves it unselected (R174). -/
theorem State.endSelectionOf_selectedBy {s : State} (one : s.OneSelects) (k : StepId) (r : OutcomeResult) :
    (s.endSelectionOf k r).selectedBy k = none := by
  unfold State.endSelectionOf
  split
  · next free => exact free
  · next p by_ =>
    obtain ⟨x, filled, -⟩ := State.selectedBy_some by_
    rw [State.selectedBy_eq_none_iff]
    intro q
    rw [s.endSelection_slot]
    split
    · nofun
    · next other =>
      have empty : s.slot q = none := by
        by_contra second
        exact other (one p q (by simp [filled]) second).symm
      rw [empty]
      nofun

/-! ## One step that goes out of service (R73, R174) -/

theorem State.applyInService_sublist (s : State) (old : Settings) (k : StepId) :
    (s.applyInService old k).oq.entries.Sublist s.oq.entries := by
  unfold State.applyInService
  split
  · rw [State.endSelectionOf_oq]
    exact s.removeEach_sublist _ _
  · exact List.Sublist.refl _

/-- A step that goes out of service has no WAITING CLOSE left. -/
theorem State.applyInService_noClose {s : State} {old : Settings} {k : StepId} (out : s.goesOut old k = true) :
    ∀ e ∈ (s.applyInService old k).oq.entries, ¬(e.step = k ∧ e.kind = .closeOp ∧ e.status = .waiting) := by
  rintro e mem ⟨step, close, waits⟩
  have listed := (s.applyInService_sublist old k).subset mem
  unfold State.applyInService at mem
  rw [if_pos out, State.endSelectionOf_oq] at mem
  exact State.removeEach_mem mem e (List.mem_filter.mpr ⟨listed, decide_eq_true ⟨waits, close, step⟩⟩) rfl

theorem State.applyInService_holds {s : State} (nodup : (s.oq.entries.map (·.step)).Nodup) (old : Settings) (j : StepId)
    {k : StepId} (holds : s.holds k) : (s.applyInService old j).holds k := by
  unfold State.applyInService
  split
  · rw [State.holds, State.entryOf_congr (State.endSelectionOf_oq _ _ _)]
    suffices spares : s.Spares (s.removeCloseOf j) k by
      rw [spares.2]
      exact holds
    refine State.removeEach_spares (fun x mem same => ?_) _
    obtain ⟨listed, is⟩ := List.mem_filter.mp mem
    obtain ⟨waits, close, -⟩ := of_decide_eq_true is
    exact State.not_holds_of_waitingClose (same ▸ State.entryOf_eq nodup listed) waits close holds
  · exact holds

/-! ## All steps -/

section
variable {s : State} {i : FrameInput} {k : StepId}

/-- A step goes out of service at the arrival. -/
theorem State.goesOut_of (before : s.inService k = true) (after : (s.frameArrives i).inService k = false) {u : State}
    (set : u.set = s.arriving.putSettings.set) : u.goesOut s.arriving.set.settings k = true := by
  have old : s.arriving.set = s.set := s.arriving_onlyIn .set (by decide)
  have new : s.arriving.putSettings.set.settings = (s.frameArrives i).set.settings := by
    rw [← s.applied_settings i]
    exact (congrArg SetState.settings s.arriving.applySettings_set).symm
  rw [State.inService, ← new, ← set] at after
  rw [State.goesOut, old, Bool.and_eq_true, Bool.not_eq_true']
  exact ⟨before, after⟩

theorem State.clamped_oq (s : State) : s.clamped.oq = s.oq := s.clamped_since .oq (by decide)
theorem State.clamped_slot (s : State) (p : Port) : s.clamped.slot p = s.slot p :=
  State.slot_congr (s.clamped_since .au (by decide)) p

/-- What the application of the settings leaves a step that goes out of service. -/
theorem State.effected_outOfService (sound : s.SelectionsSound) (before : s.inService k = true)
    (after : (s.frameArrives i).inService k = false) : s.effected.oq.entries.Sublist s.oq.entries
      ∧ (∀ e ∈ s.effected.oq.entries, ¬(e.step = k ∧ e.kind = .closeOp ∧ e.status = .waiting))
      ∧ s.effected.selectedBy k = none := by
  have slots : ∀ (u : State) (j : StepId) (p : Port), (u.applyInService s.arriving.set.settings j).slot p = none
      ∨ (u.applyInService s.arriving.set.settings j).slot p = u.slot p := fun u j => (u.applyInService_beside (x := .oq) _ j).slots
  have sublist := fun (u : State) (j : StepId) => u.applyInService_sublist s.arriving.set.settings j
  refine foldl_once (f := fun t j => State.applyInService t s.arriving.set.settings j) (a := k)
    (before := fun u : State => u.set = s.arriving.putSettings.set ∧ u.oq.entries.Sublist s.oq.entries ∧ u.OneSelects)
    (after := fun u : State => u.oq.entries.Sublist s.oq.entries
      ∧ (∀ e ∈ u.oq.entries, ¬(e.step = k ∧ e.kind = .closeOp ∧ e.status = .waiting)) ∧ u.selectedBy k = none)
    (fun u j _ ⟨set, sub, one⟩ => ⟨?_, (sublist u j).trans sub, one.of_slots (slots u j)⟩)
    (fun u ⟨set, sub, one⟩ => ⟨(sublist u k).trans sub, State.applyInService_noClose (State.goesOut_of before after set), ?_⟩)
    (fun u j _ ⟨sub, noClose, free⟩ => ⟨(sublist u j).trans sub, fun e mem => noClose e ((sublist u j).subset mem),
      State.selectedBy_none_of_slots free (slots u j)⟩) allSteps_nodup (mem_allSteps k) s.clamped
    ⟨s.clamped_onlyIn .set (by decide), by rw [s.clamped_oq], ?_⟩
  · exact (u.applyInService_leaves s.arriving.set.settings j).2.2.1.trans set
  · unfold State.applyInService
    rw [if_pos (State.goesOut_of before after set)]
    have same : (u.removeCloseOf k).au = u.au := State.removeEach_onlyIn _ _ _ .au (by decide)
    exact State.endSelectionOf_selectedBy (one.of_slots fun p => .inr (State.slot_congr same p)) k _
  · exact sound.oneSelects.of_slots fun p => .inr (s.clamped_slot p)

/-- The application of the settings leaves every entry that is not a WAITING CLOSE (R73). -/
theorem State.effected_holds (queue : s.QueueSound) (holds : s.holds k) : s.effected.holds k := by
  have fold : ∀ (l : List StepId) (u : State), (u.oq.entries.map (·.step)).Nodup → u.holds k →
      (l.foldl (fun t j => t.applyInService s.arriving.set.settings j) u).holds k := fun l => by
    induction l with
    | nil => exact fun _ _ => id
    | cons j l ih =>
      exact fun u nodup is => ih _ (nodup.sublist ((u.applyInService_sublist _ j).map _)) (State.applyInService_holds nodup _ j is)
  obtain ⟨nodup, -⟩ := queue
  refine fold allSteps s.clamped (by rwa [s.clamped_oq]) ?_
  rw [State.holds, State.entryOf_congr s.clamped_oq]
  exact holds

/-- From the application to the end of the arrival, where derivation has taken place. -/
theorem frameArrives_stepRuns (i : FrameInput) (derived : s.set.derived = true) (k : StepId) :
    s.effected.StepRuns (fun _ => True) (s.frameArrives i) k := by
  have taken := State.takeFrame_runs (s.published_derived i derived) i (rinitLoads s.set.pendingValues)
  rw [← s.frameArrives_eq] at taken
  obtain ⟨state, position, compensation, -⟩ :=
    keptRecord_leaves (s.applied.frameOf i s.samplingNow.freeStarted) k (s.applied.stepRec k)
  rw [← s.published_stepRec i k] at state position compensation
  have published : s.applied.StepRuns (fun _ => True) (s.published i) k :=
    .of_written state position (fun n => absurd trivial n) (fun n => absurd trivial n) (State.publish_onlyIn _ i _ .oq (by decide))
      (State.publish_onlyIn _ i _ .set (by decide))
  exact (((s.applied_runs.mono fun _ => False.elim).stepRuns k).trans published).trans (taken.stepRuns k)

theorem frameArrives_slots (i : FrameInput) (s : State) (p : Port) :
    (s.frameArrives i).slot p = none ∨ (s.frameArrives i).slot p = s.effected.slot p := by
  obtain ⟨v, before, after⟩ := (s.published i).takeFrame_splits i (rinitLoads s.set.pendingValues) (p := .upu) (by decide)
  have taken := (before.continues.trans (v.framePart_beside (s.published i) .upu).continues).trans after.continues
  rw [← s.frameArrives_eq] at taken
  have published : (s.published i).slot p = s.applied.slot p := State.slot_congr (State.publish_onlyIn _ i _ .au (by decide)) p
  have applied : s.applied.slot p = none ∨ s.applied.slot p = s.effected.slot p := by
    rcases s.applied_eq with is | is
    · exact .inr (by rw [is])
    · rw [is]
      exact (State.examine_beside (x := .oq) s.effected).slots p
  rcases taken.slots p with empty | same
  · exact .inl empty
  · rw [same, published]
    exact applied

/-- A step that goes out of service loses its WAITING CLOSE and its selection, stays READY, and keeps any other entry. -/
theorem frameArrives_outOfService (running : s.clock.held = none) (sound : s.YardSound) (before : s.inService k = true)
    (after : (s.frameArrives i).inService k = false) :
    (∀ e ∈ (s.frameArrives i).oq.entries, ¬(e.step = k ∧ e.kind = .closeOp ∧ e.status = .waiting))
      ∧ ((s.stepRec k).state = some .ready → ((s.frameArrives i).stepRec k).state = some .ready)
      ∧ (s.frameArrives i).selectedBy k = none
      ∧ (∀ e, s.entryOf k = some e → e.kind ≠ .closeOp ∨ e.status = .inFlight →
          ((s.frameArrives i).entryOf k).isSome = true) := by
  have yard : (s.frameArrives i).YardSound := exec_yardSound (exec_frameArrival running i) sound
  obtain ⟨-, queue, -, selections⟩ := sound
  obtain ⟨sub, noClose, free⟩ := State.effected_outOfService selections before after
  have bare : (s.stepRec k).state = some .ready → (s.frameArrives i).bare k := fun ready => by
    have start : s.effected.bare k := by
      refine ⟨(s.effected_state k).trans ready, State.entryOf_none_iff.mpr fun e mem step => ?_, ?_⟩
      · have listed := sub.subset mem
        obtain ⟨-, -, fits, -⟩ := queue
        have fit := (fits e listed).1
        rw [step, ready] at fit
        have is := (Option.some.inj fit).symm
        unfold Entry.stepState at is
        split at is
        · next waits close => exact noClose e mem ⟨step, close, waits⟩
        all_goals cases is
      · have set : s.effected.set.settings = (s.frameArrives i).set.settings := by
          rw [← s.applied_settings i, s.applied_runs.set]
        rw [State.inService, set]
        exact after
    exact (frameArrives_stepRuns i (queue.derived_of_state ready) k).bare start
  refine ⟨?_, fun ready => (bare ready).1, State.selectedBy_none_of_slots free (frameArrives_slots i s), fun e entry kept => ?_⟩
  · rintro e mem ⟨step, close, waits⟩
    obtain ⟨-, ⟨-, -, fits, -⟩, -⟩ := yard
    have ready := (fits e mem).1
    rw [step, Entry.stepState, waits, close] at ready
    obtain ⟨-, empty, -⟩ := bare (s.frameArrives_noNewReady i k ready)
    exact State.entryOf_none_iff.mp empty e mem step
  · have fit : (s.stepRec e.step).state = some e.stepState := by
      obtain ⟨-, -, fits, -⟩ := queue
      exact (fits e (State.mem_of_entryOf entry).1).1
    have derived := queue.derived_of_state fit
    obtain ⟨x, is, -⟩ := (frameArrives_stepRuns i derived k).held (State.effected_holds queue ⟨e, entry, kept⟩)
    rw [is]
    rfl

end

end Sys2Proof.Machine
end

section
/-!
PROOF. The records that an arrival leaves last, and the arrival as a whole (R44, R73, R156, R174, R197).
-/
namespace Sys2Proof.Machine

/-! ## From the application to the end of the arrival -/

theorem State.outcomes_congr {s t : State} (os : t.os = s.os) (p : Port) : t.outcomes p = s.outcomes p := by
  cases p <;> simp [State.outcomes, os]

section
variable {s : State} {i : FrameInput} {k : StepId}

theorem State.effected_sublist (s : State) : s.effected.oq.entries.Sublist s.oq.entries := by
  have fold : ∀ (l : List StepId) (u : State),
      (l.foldl (fun t j => t.applyInService s.arriving.set.settings j) u).oq.entries.Sublist u.oq.entries := fun l => by
    induction l with
    | nil => exact fun _ => List.Sublist.refl _
    | cons j l ih => exact fun u => (ih _).trans (u.applyInService_sublist _ j)
  have folded := fold allSteps s.clamped
  rw [s.clamped_oq] at folded
  exact folded

/-- With an operation in flight the publication has the queue and the store that the application leaves. -/
theorem State.published_kept (flies : s.Busy) (i : FrameInput) :
    (s.published i).oq = s.effected.oq ∧ (s.published i).os = s.effected.os := by
  have only := State.publish_onlyIn s.applied i s.samplingNow
  have applied := State.applied_of_busy flies
  exact ⟨(only .oq (by decide)).trans (congrArg State.oq applied), (only .os (by decide)).trans (congrArg State.os applied)⟩

/-- With an operation in flight, no capture and no port's entry waiting, no block adds a record. -/
theorem frameArrives_os (queue : s.QueueSound) (flies : s.inFlight ≠ none) (idle : s.upu.capture = none)
    (mute : s.effected.Mute) : (s.frameArrives i).os = s.effected.os := by
  obtain ⟨busy, -, -⟩ := State.published_busy (queue.busy flies) i
  obtain ⟨oq, os⟩ := State.published_kept (queue.busy flies) i
  have quiet : (s.published i).Mute := fun e mem => mute e (oq ▸ mem)
  have none_ : (s.published i).upu.capture = none := by
    rcases (s.published_captureRuns i).only with is | same
    · exact is
    · rw [idle] at same
      exact Option.map_eq_none_iff.mp same
  have taken := State.takeFrame_runs (s.published_derived i (queue.derived_of_busy flies)) i (rinitLoads s.set.pendingValues)
  rw [← s.frameArrives_eq] at taken
  exact (((taken.idles busy).silent (.inr none_) quiet).1).trans os

/-! ## What a step out of service tells (R73, R174) -/

theorem State.removeCloseOf_none {u : State} {j : StepId}
    (free : ∀ e ∈ u.oq.entries, ¬(e.status = .waiting ∧ e.kind = .closeOp ∧ e.step = j)) : u.removeCloseOf j = u := by
  unfold State.removeCloseOf
  rw [List.filter_eq_nil_iff.mpr fun e mem is => free e mem (of_decide_eq_true is)]
  rfl

theorem State.endSelectionOf_none {u : State} {j : StepId} (free : u.selectedBy j = none) (r : OutcomeResult) :
    u.endSelectionOf j r = u := by
  unfold State.endSelectionOf
  rw [free]

/-- A step without WAITING CLOSE and selection loses nothing. -/
theorem State.applyInService_none {u : State} {j : StepId} (old : Settings)
    (noClose : ∀ e ∈ u.oq.entries, ¬(e.status = .waiting ∧ e.kind = .closeOp ∧ e.step = j))
    (free : u.selectedBy j = none) : u.applyInService old j = u := by
  unfold State.applyInService
  rw [State.removeCloseOf_none noClose, State.endSelectionOf_none free, ite_self]

/-- A result for a port is the last record of its list (R75, R185). -/
theorem State.entryResult_getLast (u : State) {e : Entry} {p : Port} (own : e.originator = portOriginator p) (r : OutcomeResult) :
    ((u.entryResult e r).outcomes p).getLast?.map (·.2)
      = some (u.outcomeOf (e.tag.getD 0) e.step (whatOf e.kind) r) := by
  have is : u.entryResult e r = u.insertOutcome p (u.outcomeOf (e.tag.getD 0) e.step (whatOf e.kind) r) := by
    unfold State.entryResult
    rw [own]
    cases p <;> rfl
  rw [is]
  exact u.insertOutcome_getLast p _

theorem State.selectedBy_none_of_empty {u : State} (empty : ∀ q, u.slot q = none) (j : StepId) : u.selectedBy j = none := by
  rw [State.selectedBy_eq_none_iff]
  intro q
  rw [empty q]
  nofun

/-- What the steps that go out of service before a step `k` leave for it. -/
structure State.Untold (s u : State) : Prop where
  /-- the entries -/
  entries : u.oq.entries = s.oq.entries
  /-- the selections -/
  slots : ∀ q, u.slot q = s.slot q
  /-- the settings applied -/
  set : u.set = s.arriving.putSettings.set
  /-- the states -/
  states : ∀ j, (u.stepRec j).state = (s.stepRec j).state
  /-- the uptime -/
  uptime : u.clock.uptime = s.clock.uptime

/-- One operation is in flight, no other entry stands, nothing is selected, and a record is the last of a port's list. -/
structure State.Told (f : Entry) (p : Port) (r : OutcomeRecord) (u : State) : Prop where
  /-- the entries -/
  entries : u.oq.entries = [f]
  /-- the selections -/
  slots : ∀ q, u.slot q = none
  /-- the record -/
  last : (u.outcomes p).getLast?.map (·.2) = some r

theorem State.clamped_untold (s : State) : s.Untold s.clamped := by
  obtain ⟨n, clock⟩ := s.arriving_clock
  have clamped : s.clamped.clock = s.arriving.clock :=
    (s.clamped_onlyIn .clock (by decide)).trans (s.arriving.putSettings_onlyIn .clock (by decide))
  exact ⟨congrArg OqState.entries s.clamped_oq, s.clamped_slot, s.clamped_onlyIn .set (by decide),
    fun j => by rw [s.clamped_stepRec], by rw [clamped, clock]⟩

/-- Only the step `k` has something to lose. -/
theorem State.effected_told {f : Entry} {p : Port} {r : OutcomeRecord} (flies : f.status = .inFlight)
    (closes : ∀ e ∈ s.oq.entries, e.status = .waiting ∧ e.kind = .closeOp → e.step = k)
    (selects : ∀ q x, s.slot q = some x → x.step = k)
    (own : ∀ u : State, s.Untold u → State.Told f p r (u.applyInService s.arriving.set.settings k)) :
    State.Told f p r s.effected := by
  refine foldl_once (f := fun t j => State.applyInService t s.arriving.set.settings j) (a := k) (before := s.Untold)
    (after := State.Told f p r) (fun u j other untold => ?_) own (fun u j _ told => ?_) allSteps_nodup (mem_allSteps k) s.clamped
    s.clamped_untold
  · rw [State.applyInService_none]
    · exact untold
    · rintro e mem ⟨waits, close, step⟩
      rw [untold.entries] at mem
      exact other (step.symm.trans (closes e mem ⟨waits, close⟩))
    · rw [State.selectedBy_eq_none_iff]
      intro q is
      rw [untold.slots] at is
      obtain ⟨x, filled, step⟩ := Option.map_eq_some_iff.mp is
      exact other (step.symm.trans (selects q x filled))
  · rw [State.applyInService_none]
    · exact told
    · rintro e mem ⟨waits, -⟩
      rw [told.entries] at mem
      obtain rfl := List.mem_singleton.mp mem
      rw [flies] at waits
      cases waits
    · exact State.selectedBy_none_of_empty told.slots j

/-- What the application tells stands at the end of the arrival. -/
theorem frameArrives_told {f : Entry} {p : Port} {r : OutcomeRecord} (queue : s.QueueSound) (flying : s.inFlight ≠ none)
    (flies : f.status = .inFlight) (idle : s.upu.capture = none) (told : State.Told f p r s.effected) :
    (∀ q, (s.frameArrives i).slot q = none) ∧ ((s.frameArrives i).outcomes p).getLast?.map (·.2) = some r := by
  have mute : s.effected.Mute := fun e mem waits => by
    rw [told.entries] at mem
    obtain rfl := List.mem_singleton.mp mem
    rw [flies] at waits
    cases waits
  refine ⟨fun q => (frameArrives_slots i s q).elim id (·.trans (told.slots q)), ?_⟩
  rw [State.outcomes_congr (frameArrives_os queue flying idle mute) p]
  exact told.last

/-- The record of a WAITING CLOSE whose step goes out of service beside the operation in flight (R73). -/
theorem frameArrives_closeRecord {f e : Entry} {p : Port} (queue : s.QueueSound) (before : s.inService k = true)
    (after : (s.frameArrives i).inService k = false) (entries : s.oq.entries = [f, e] ∨ s.oq.entries = [e, f])
    (flies : f.status = .inFlight) (waits : e.status = .waiting) (close : e.kind = .closeOp) (step : e.step = k)
    (idle : s.upu.capture = none) (empty : ∀ q, s.slot q = none) (own : e.originator = portOriginator p) :
    (((s.frameArrives i).outcomes p).getLast?.map (·.2)) = some
      { tag := e.tag.getD 0, step := some k, what := .closeOp, result := .cancelled .stepChanged, state := some .ready
        uptime := s.clock.uptime } := by
  have flying : s.inFlight ≠ none := by
    rcases entries with is | is <;> simp [State.inFlight, is, flies, waits]
  have busy := queue.busy flying
  have listed : f ∈ s.oq.entries ∧ e ∈ s.oq.entries := by
    rcases entries with is | is <;> simp [is]
  have only : ∀ x ∈ s.oq.entries, x = f ∨ x = e := fun x mem => by
    rcases entries with is | is <;> simpa [is, or_comm] using mem
  have ready : (s.stepRec k).state = some .ready := step ▸ busy.waitingClose_ready listed.2 waits close
  have apart : f.step ≠ k := fun same => busy.not_flies_ready listed.1 flies (same ▸ ready)
  have closes : s.oq.entries.filter (fun x => x.status = .waiting ∧ x.kind = .closeOp ∧ x.step = k) = [e] := by
    rcases entries with is | is <;> simp [is, flies, waits, close, step]
  have rest : s.oq.entries.filter (fun x => x.step ≠ k) = [f] := by
    rcases entries with is | is <;> simp [is, apart, step]
  refine (frameArrives_told queue flying flies idle (State.effected_told flies (k := k) (fun x mem ⟨still, _⟩ => ?_)
    (fun q x filled => absurd filled (by simp [empty q])) fun u untold => ?_)).2
  · rcases only x mem with rfl | rfl
    · rw [flies] at still
      cases still
    · exact step
  · have removed : u.removeCloseOf k = (u.dropEntry k).entryResult e (.cancelled .stepChanged) := by
      rw [State.removeCloseOf, untold.entries, closes, ← step]
      rfl
    have slots : ∀ q, ((u.dropEntry k).entryResult e (.cancelled .stepChanged)).slot q = none := fun q => by
      rw [← removed, ← empty q, ← untold.slots q]
      exact State.slot_congr (State.removeEach_onlyIn _ _ _ .au (by decide)) q
    have lost : u.applyInService s.arriving.set.settings k = (u.dropEntry k).entryResult e (.cancelled .stepChanged) := by
      unfold State.applyInService
      rw [if_pos (State.goesOut_of before after untold.set), removed,
        State.endSelectionOf_none (State.selectedBy_none_of_empty slots k)]
    rw [lost]
    refine ⟨?_, slots, ?_⟩
    · rw [State.entryResult_oq, State.dropEntry_oq, untold.entries, rest]
    · rw [State.entryResult_getLast _ own, State.outcomeOf, step, (u.dropEntry_table k).stepRec, untold.states, ready,
        (u.dropEntry_keeps k).clock, untold.uptime, close]
      rfl

/-- The record of a selection whose step goes out of service beside the operation in flight (R174). -/
theorem frameArrives_selectionRecord {f : Entry} {x : Selection} {p : Port} (queue : s.QueueSound) (sound : s.SelectionsSound)
    (before : s.inService k = true) (after : (s.frameArrives i).inService k = false) (entries : s.oq.entries = [f])
    (flies : f.status = .inFlight) (idle : s.upu.capture = none) (filled : s.slot p = some x) (step : x.step = k) :
    (s.frameArrives i).slot p = none
      ∧ (((s.frameArrives i).outcomes p).getLast?.map (·.2)) = some
        { tag := x.tag, step := some k, what := .select, result := .cancelled .stepChanged, state := some .ready
          uptime := s.clock.uptime } := by
  have flying : s.inFlight ≠ none := by simp [State.inFlight, entries, flies]
  have alone : ∀ q y, s.slot q = some y → q = p := fun q y is => sound.oneSelects q p (by simp [is]) (by simp [filled])
  have ready : (s.stepRec k).state = some .ready := by
    rw [← step]
    cases p with
    | a =>
      obtain ⟨-, -, ready, -⟩ := sound.1 x filled
      exact ready
    | b =>
      obtain ⟨-, -, ready, -⟩ := sound.2 x filled
      exact ready
  have told : State.Told f p { tag := x.tag, step := some k, what := .select, result := .cancelled .stepChanged
                               state := some .ready, uptime := s.clock.uptime } s.effected := by
    refine State.effected_told flies (k := k) (fun e mem ⟨waits, _⟩ => ?_) (fun q y is => ?_) fun u untold => ?_
    · rw [entries] at mem
      obtain rfl := List.mem_singleton.mp mem
      rw [flies] at waits
      cases waits
    · obtain rfl := alone q y is
      obtain rfl := Option.some.inj (filled.symm.trans is)
      exact step
    · have held : u.removeCloseOf k = u := State.removeCloseOf_none fun e mem ⟨waits, _⟩ => by
        rw [untold.entries, entries] at mem
        obtain rfl := List.mem_singleton.mp mem
        rw [flies] at waits
        cases waits
      have filled' : u.slot p = some x := (untold.slots p).trans filled
      have by_ : u.selectedBy k = some p := by
        cases found : u.selectedBy k with
        | none =>
          have away := (State.selectedBy_eq_none_iff u k).mp found p
          simp [filled', step] at away
        | some q =>
          obtain ⟨y, is, -⟩ := State.selectedBy_some found
          rw [untold.slots] at is
          rw [alone q y is]
      have ended : u.applyInService s.arriving.set.settings k = u.endSelection p (.cancelled .stepChanged) := by
        unfold State.applyInService State.endSelectionOf
        rw [if_pos (State.goesOut_of before after untold.set), held, by_]
      rw [ended]
      refine ⟨?_, fun q => ?_, ?_⟩
      · rw [State.endSelection_oq, untold.entries, entries]
      · rw [u.endSelection_slot]
        split
        · rfl
        · next other =>
          rw [untold.slots]
          exact Option.eq_none_iff_forall_ne_some.mpr fun y is => other (alone q y is)
      · rw [State.endSelection_getLast filled', State.outcomeOf, step, untold.states, ready, untold.uptime]
  obtain ⟨slots, last⟩ := frameArrives_told queue flying flies idle told
  exact ⟨slots p, last⟩

/-! ## The abort of a capture (R156) -/

/-- The record of a capture that the arrival aborts, with one operation in flight and no other entry (R156). -/
theorem frameArrives_abortRecord {c : Capture} {e : Entry} (queue : s.QueueSound) (runs : s.upu.capture = some c)
    (closed : (s.stepRec c.step).state = some .closed) (entries : s.oq.entries = [e]) (flies : e.status = .inFlight)
    (abort : (s.frameArrives i).me.frame.noRef = true ∨ (s.frameArrives i).me.frame.neutrals[c.step].clip = true) :
    (((s.frameArrives i).outcomes .a).getLast?.map (·.2)) = some
      { tag := c.tag, step := some c.step, what := .capture, result := .captureAborted, state := some .closed
        uptime := s.clock.uptime } := by
  have flying : s.inFlight ≠ none := by simp [State.inFlight, entries, flies]
  have derived := queue.derived_of_busy flying
  obtain ⟨v, first, last⟩ := s.frameArrives_upu i derived
  obtain ⟨busy, states, -⟩ := State.published_busy (queue.busy flying) i
  have mute : (s.published i).Mute := fun x mem waits => by
    rw [(State.published_kept (queue.busy flying) i).1] at mem
    have listed := s.effected_sublist.subset mem
    rw [entries] at listed
    obtain rfl := List.mem_singleton.mp listed
    rw [flies] at waits
    cases waits
  have staged : State.Runs (fun l => l ≠ .capture) v (v.staged (s.published i)) := v.staged_runs _ fun _ => nofun
  have one := first.idles busy
  have two := staged.idles one.busy
  have quiet := (two.silent (.inl fun n => n rfl) (one.silent (.inl fun n => n rfl) mute).2).2
  have state : ((v.staged (s.published i)).stepRec c.step).state = some .closed := by
    rw [two.states, one.states, states, closed]
  have began : ((s.published i).stepRec c.step).state = some .closed := (states _).trans closed
  have start : (v.stepRec c.step).state = some .closed := (one.states _).trans began
  have capture := staged.captureRuns.stays (fun n => n rfl) c (first.captureRuns.stays (fun n => n rfl) c
    ((s.published_captureRuns i).stays id c runs began) start) state
  have me : (v.staged (s.published i)).me = (s.frameArrives i).me := (staged.me.trans first.me).trans (s.frameArrives_me_eq i).symm
  have uptime : (v.staged (s.published i)).clock.uptime = s.clock.uptime := by
    obtain ⟨n, clock⟩ := s.arriving_clock
    have published : (s.published i).clock = s.arriving.clock := by
      rw [← s.frameArrives_clock i, s.frameArrives_eq, (State.takeFrame_keepsRest _ i _).clock]
    rw [staged.clock, first.clock, published, clock]
  rw [v.upuFrame_eq] at last
  have busy' := two.busy
  generalize v.staged (s.published i) = w at *
  rw [(State.captureFrame_takes capture).1 (by rw [me]; exact abort)] at last
  have aborted : w.abortCapture.Busy :=
    busy'.of_same (fun k => congrArg StepRecord.state (w.abortCapture_onlyIn.stepRec (by decide) k)) w.abortCapture_oq
  have os := ((last.idles aborted).silent (.inl fun n => n rfl) fun x mem => quiet x (by rwa [State.abortCapture_oq] at mem)).1
  have is : w.abortCapture = ({ w with upu := { w.upu with capture := none } } : State).insertOutcome .a
      (w.outcomeOf c.tag c.step .capture .captureAborted) := by
    unfold State.abortCapture
    rw [capture]
  rw [State.outcomes_congr os, is, State.insertOutcome_getLast, State.outcomeOf, state, uptime]

end

/-! ## The arrival as a whole -/

/-- Every block takes the frame (R44). -/
theorem blocksTake : blocksTakeTheFrame := fun i s running =>
  ⟨_, exec_frameArrival running i, frameArrives_settle i s, frameArrives_avcTakes i s, frameArrives_monitorTakes i s,
    fun queue _ closed still short => frameArrives_stagesTake queue closed still short,
    fun queue _ runs closed => ⟨frameArrives_captureTakes queue runs closed, frameArrives_capture_ends queue runs closed⟩,
    fun queue flies k => frameArrives_states queue flies k,
    fun _ _ queue runs closed entries flies abort => frameArrives_abortRecord queue runs closed entries flies abort⟩

/-- The applied settings take effect on the running records (R73, R113, R132, R174). -/
theorem settingsTake : settingsTakeEffect := fun i s running => by
  refine ⟨_, exec_frameArrival running i, fun k sound before after => ?_, fun k => ⟨frameArrives_rise_kept i s k, ?_⟩,
    frameArrives_monitor_flags i s⟩
  · obtain ⟨noClose, ready, free, kept⟩ := frameArrives_outOfService running sound before after
    obtain ⟨-, queue, -, selections⟩ := sound
    exact ⟨noClose, ready, free, kept,
      fun f e entries flies waits close step idle empty p own =>
        frameArrives_closeRecord queue before after entries flies waits close step idle empty own,
      fun f x p entries flies idle filled step =>
        frameArrives_selectionRecord queue selections before after entries flies idle filled step⟩
  · rintro a r queue flies one armed rfl order start bound
    exact frameArrives_rise_taken queue flies one armed order start bound

/-- Settles O47: the application of the settings and the publication by their equations, and each block's taking of the
frame by the run of moves that every order of the parts is. -/
theorem arrivalAppliesAndPublishes : Obligations.ArrivalAppliesAndPublishes :=
  ⟨blocksTake, settingsTake, arrivalAppliesSettings, arrivalPublishesFrame⟩

end Sys2Proof.Machine
end
